-- ==== Sys2Proof/Word.lean ====
section
/-!
DEFINITION. Sys2Proof/Word.lean: the word types of the model and their plainest arithmetic.
A byte and a 32-bit word are bit vectors; counts, sizes, addresses, times and object values are natural numbers, and
signed quantities are integers. Multi-byte values are little-endian (R3).
-/
namespace Sys2Proof

/-- One byte of a frame, a record or an object value. -/
abbrev Byte := BitVec 8

/-- One 32-bit register, event word or binary32 value. -/
abbrev Word := BitVec 32

/-- A binary32 value, held as its bits (R44). -/
abbrev F32 := BitVec 32

/-- The little-endian bytes of `v` in `n` bytes (R3). -/
def leBytes : Nat → Nat → List Byte
  | 0, _ => []
  | n + 1, v => BitVec.ofNat 8 v :: leBytes n (v / 256)

/-- The number spelled by little-endian bytes (R3). -/
def leNat : List Byte → Nat
  | [] => 0
  | b :: bs => b.toNat + 256 * leNat bs

/-- Saturating addition at `2^w - 1`, the rule of every counter marked saturating. -/
def satAdd (w a b : Nat) : Nat := min (a + b) (2 ^ w - 1)

/-- Read one element of a fixed array, `d` outside it. -/
def vget {α : Type} {n : Nat} (v : Vector α n) (i : Nat) (d : α) : α := v[i]?.getD d

/-- Write one element of a fixed array; outside it nothing changes. -/
def vset {α : Type} {n : Nat} (v : Vector α n) (i : Nat) (x : α) : Vector α n := v.setIfInBounds i x

/-- A number read as two's complement of width `w`. -/
def toSigned (w v : Nat) : Int := if v % 2 ^ w < 2 ^ (w - 1) then (v % 2 ^ w : Nat) else (v % 2 ^ w : Nat) - (2 ^ w : Nat)

/-- The two's complement encoding of an integer in `w` bits. -/
def ofSigned (w : Nat) (i : Int) : Nat := (i % (2 ^ w : Nat)).toNat

/-- Bits `hi..lo` of a number. -/
def bitsOf (v hi lo : Nat) : Nat := v / 2 ^ lo % 2 ^ (hi + 1 - lo)

/-- One bit of a number. -/
def bitOf (v i : Nat) : Bool := v / 2 ^ i % 2 == 1

/-- A Bool as the number of one bit. -/
def b2n (b : Bool) : Nat := if b then 1 else 0

/-- Clamp an integer between two bounds. -/
def clampI (x lo hi : Int) : Int := max lo (min x hi)

end Sys2Proof
end

