-- ==== Sys2Proof/Types.lean ====
section
/-!
DEFINITION. Sys2Proof/Types.lean: the named sets and the message layouts of the KRM-6208 that both the commands
(Sys2Proof/Syntax.lean) and the state (Sys2Proof/Machine/State.lean) use. Each type names the rule it follows.
-/
namespace Sys2Proof

/-- The role a device takes from its straps (R2). -/
inductive Role where
  | cell | arm | station | relay
  deriving DecidableEq, Repr

/-- The eight node states (R7). -/
inductive NodeState where
  | off | boot | join | ready | service | hold | block | bypass
  deriving DecidableEq, Repr

/-- The primary parent (R40 PRIMARY). -/
inductive Parent where
  | a | b | none
  deriving DecidableEq, Repr

/-- The kind of orphan (R36, R40 ORPHAN). -/
inductive OrphanKind where
  | none | localOrphan | inherited
  deriving DecidableEq, Repr

/-- The fault classes of R14. -/
inductive FClass where
  | f0 | f1 | f2 | f3 | f4
  deriving DecidableEq, Repr

/-- The class of a cell for one Weft cycle (R80). -/
inductive CellClass where
  | notContributor | out | eligible | held
  deriving DecidableEq, Repr

/-- One half-bridge leg (R142). -/
inductive LegState where
  | top | bot | openLeg
  deriving DecidableEq, Repr

/-- The insertion state of a cell (R95, R142). -/
inductive Insertion where
  | pos | neg | zero | safeOpen
  deriving DecidableEq, Repr

/-- What a cell does with a cycle's decision at its edge instant (R93, R95, R147). -/
inductive OwnAction where
  | insert (negative : Bool)
  | goZero
  | keep
  deriving DecidableEq, Repr

/-- The state of a window comparator (R190). -/
inductive WcState where
  | inside | below | above
  deriving DecidableEq, Repr

/-- The time state of a node (R252). -/
inductive TimeState where
  | free | acquire | locked | holdover
  deriving DecidableEq, Repr

/-- The state of a Floen port (R221). -/
inductive LinkState where
  | down | lock | hello | measure | up | disabled
  deriving DecidableEq, Repr

/-- The pair states of R329. -/
inductive PairState where
  | none | init | active | standby | resync | unhealthy | yielded
  deriving DecidableEq, Repr

/-- The run modes of Treadle (R124, R137 TRDL.CTRL.MODE). -/
inductive RunMode where
  | stop | track | run | shadow
  deriving DecidableEq, Repr

/-- The modes of the Gate unit (R167 GATE.CFG.MODE). -/
inductive GateMode where
  | level | carrier | direct
  deriving DecidableEq, Repr

/-- The session roles, in rising order (R45). -/
inductive SessRole where
  | observer | operator | engineer | safetyEngineer
  deriving DecidableEq, Repr

/-- The STATUS codes of R68. -/
inductive Status where
  | ok | noObject | noSubindex | access | role | length | range | state | busy | sealed | sequence | tooLarge
  | unreachable | timeout | snapshotLost | aborted | digest | media | sessionLimit | notBroadcast | pending
  | notActive | mapping | refused
  deriving DecidableEq, Repr

/-- The eight Floen classes, in priority order (R208). -/
inductive FloenClass where
  | weft | safety | journal | mirror | time | telemetry | event | service
  deriving DecidableEq, Repr

/-- The DIR field of a Floen header (R205). -/
inductive FloenDir where
  | up | down | cross | localDir
  deriving DecidableEq, Repr

/-- Where a service request or an object write comes from. -/
inductive Via where
  | session (id : Nat)
  | port (p : Nat)
  deriving DecidableEq, Repr

/-- Every fault and non-fault record name of the manual, in the order of the fault tables that give them their TYPE
(R390): chapters 01 to 13, then the record types of R391. -/
inductive FaultName where
  -- 01: R390
  | roleMismatch | twillWiring | placeUnexpected | singleParentJoin | parentLost | childLost | orphan | armOrphan
  -- 02: R76
  | pdTimeout
  -- 03: R106
  | weftCount | countAdopted | weftAdjLimit | weftStall | weftLate | weftShort | weftSat | sensorLost
  | sensorDisagree | sensorConflict | bridgeMismatch | weftConfig
  -- 04: R136
  | trdlOverrun | trdlSlowSkip | trdlNoCurrent | trdlProgramDiffers | nLimit | refFallback | refRestored
  | transferClamped | rampDone
  -- 05: R166
  | fltAlarm | fltTrip | gateCal | goReadback | gateModeMismatch
  -- 06: R194
  | adcRef | adcCal | adcCalStarved | adcConfig | adcTrigLost | adcOverrun | sensorRange
  -- 07: R237
  | linkDown | linkFlap | linkDelay | linkErrors | linkCongestion | xcvrDiag | xcvrAbsent | cuCheck | lanLost
  | gooseConfig | gooseTimeout | svLost
  -- 08: R271
  | refclkLost | timeAlign | timeHoldover | timeQuantum | ptpLost | timeStep | tsiOverflow
  -- 09: R304
  | memUe | memUeLatent | memScrubLate | hdlOpFault | hdlBudget | hdlOpQuarantine | hdlArcFull | hdlDlyRefused
  | hdlGraphDiffers
  -- 10: R342
  | jrnGap | jrnSingle | jrnSwitch | jrnMirror | jrnTransfer | jrnUnclean | jrnFull | jrnResyncAbort | jrnDeposed
  | jrnDiverged | jrnPulse | jrnNoStandby
  -- 11: R382
  | safeTrip | safeInDiscrepancy | spbRemote | spbClearRefused | safetyConnLost | safetyFramesLost | safetyParam
  | safetyDnmDisagree | safeFbFault | wcTrip | sbyFired | wcFault | sdiIndicated | safetyDegraded | safetyDeg50
  | safetyDeg90 | safetyDegExpired | safetyDiscrepancy | safetyDualFail | safetySupply | safetyFw | scvMismatch
  -- 12: R413
  | mediaFault | bobWorn | bobScrubLate | bobFlushSlow | recDrop | recWrap
  -- 13: R441
  | bootImage | fwReverted | fwSlotInvalid | opCertInvalid | peerCert | supplyPfail | vcoreHeadroom | sysWdog
  | debugUnlocked
  -- R391
  | cleared | startup | fence | refusal | mediaCleared
  deriving DecidableEq, Repr

/-- A place of the Twill: level and index within the level (R21, R24). -/
structure Place where
  level : Nat
  index : Nat
  deriving DecidableEq, Repr

/-- One sensor slot of a Warp aggregate (R84, R98). -/
structure SensSlot where
  i : Int := 0
  valid : Bool := false
  overRange : Bool := false
  deriving DecidableEq, Repr

/-- The content of a Warp frame (R84). `cycle` is the low 16 bits of the cycle number. -/
structure Warp where
  priB : Bool := false
  fo : Bool := false
  late : Bool := false
  resent : Bool := false
  cycle : Nat := 0
  nbin : Nat := 0
  nhpos : Nat := 0
  nhneg : Nat := 0
  nhoff : Nat := 0
  nout : Nat := 0
  abs : Nat := 0
  short : Nat := 0
  miss : Nat := 0
  vsum : Nat := 0
  vmin : Nat := 0xFFFF
  vmax : Nat := 0
  sens0 : SensSlot := {}
  sens1 : SensSlot := {}
  hist : Vector Nat 64 := Vector.replicate 64 0
  deriving DecidableEq, Repr

/-- The content of a Shuttle frame (R91). `cycle` is the low 16 bits of the cycle number. -/
structure Shuttle where
  dirHigh : Bool := false
  polNeg : Bool := false
  keep : Bool := false
  repeatFlag : Bool := false
  cmiss : Bool := false
  bridge : Bool := false
  copy2 : Bool := false
  cycle : Nat := 0
  bbin : Nat := 64
  alloc : Nat := 0
  texecS : Nat := 0
  texecNs : Nat := 0
  wb : Nat := 0
  ws : Nat := 0
  dirHint : Bool := false
  polHint : Bool := false
  wvalid : Bool := false
  rb : Nat := 0
  deriving DecidableEq, Repr

/-- The content of an LS block (R202). -/
structure LsBlock where
  blk : Bool := false
  uplost : Bool := false
  lstate : Nat := 0
  port : Nat := 0
  role : Nat := 0
  nstate : Nat := 0
  addr : Nat := 0x7FFFF
  avalid : Bool := false
  deriving DecidableEq, Repr

/-- A Floen frame: the header fields of R205 and the payload. HOPS and HSEQ are those of the hop. -/
structure Frame where
  cls : FloenClass
  blk : Bool := false
  dir : FloenDir
  dst : Nat
  anym : Bool := false
  src : Nat
  hops : Nat := 32
  hseq : Nat := 0
  twin : Bool := false
  eseq : Nat := 0
  payload : List Byte := []
  deriving DecidableEq, Repr

/-- A safety frame without its SCRC (R359), SDATA as its fields (R360). -/
structure SafetyFrame where
  init : Bool := false
  connId : Nat := 0
  seq : Nat := 0
  texp : Nat := 0
  spbDem : Bool := false
  tripUp : Bool := false
  spb : Bool := false
  sby : Bool := false
  sdi : Bool := false
  deg : Bool := false
  dnm : Bool := false
  nstate : Nat := 0
  demandId : Nat := 0
  deriving DecidableEq, Repr

/-- A SYNC (R254): T_TX as an NT_f count of 1/65,536 ns, STEP_AT in nanoseconds of network time; `rxTap` is
the tap of its arrival within the period of REFCLK (R225, R256). -/
structure SyncMsg where
  locked : Bool := false
  holdover : Bool := false
  ret : Bool := false
  stepv : Bool := false
  rootptp : Bool := false
  seq : Nat := 0
  tTx : Int := 0
  depth : Nat := 0
  stepId : Nat := 0
  stepAt : Nat := 0
  stepDelta : Int := 0
  stepQuantum : Nat := 0
  rxTap : Nat := 0
  deriving DecidableEq, Repr

/-- The kinds of a journal entry (R313 ETYPE). -/
inductive EType where
  | write | fence | switch
  deriving DecidableEq, Repr

/-- A complete journal ENTRY (R311, R313), reassembled. For a WRITE the command bytes are the object, the session role
and the value; for a FENCE the identifier; for a SWITCH the new epoch, the new active member and the cause. -/
structure JEntry where
  lane : Nat := 0xFFFF
  jsn : Nat := 0
  pjsn : Nat := 0
  applyAt : Nat := 0
  target : Nat := 0
  anym : Bool := false
  system : Bool := false
  confirm : Bool := false
  accepted : Bool := false
  etype : EType := .write
  index : Nat := 0
  sub : Nat := 0
  role : SessRole := .observer
  len : Nat := 0
  value : Nat := 0
  swEpoch : Nat := 0
  swAddr : Nat := 0
  swCause : Nat := 0
  deriving DecidableEq, Repr

/-- A service request as the SDU of R51 carries it: the value as the little-endian number of its `len` bytes. -/
structure Request where
  via : Via
  tid : Nat := 0
  target : Nat := 0
  index : Nat := 0
  sub : Nat := 0
  role : SessRole := .observer
  confirm : Bool := false
  lastSeg : Bool := false
  param : Nat := 0
  len : Nat := 0
  value : Nat := 0
  joined : Bool := true
  deriving DecidableEq, Repr

/-- A PAIR frame (R311, R312 KIND 0x09). -/
structure PairMsg where
  epoch : Nat := 0
  pstate : PairState := .none
  health : Nat := 0
  fwDigest : Nat := 0
  progDigest : Nat := 0
  graphDigest : Nat := 0
  committed : Nat := 0
  deriving DecidableEq, Repr

/-- The window carried by a Shuttle or an epoch: WB, WS, hints, WVALID and RB (R91, R333). -/
structure WinVal where
  wb : Nat := 0
  ws : Nat := 0
  dirHint : Bool := false
  polHint : Bool := false
  wvalid : Bool := false
  rb : Nat := 0
  deriving DecidableEq, Repr

/-- The state of one PI block (R120, R333). -/
structure PiState where
  i : F32 := 0
  u : F32 := 0
  manual : F32 := 0
  auto : Bool := false
  deriving DecidableEq, Repr

/-- The state of one RAMP block (R122, R333). -/
structure RampState where
  r : F32 := 0
  target : F32 := 0
  run : Bool := false
  deriving DecidableEq, Repr

/-- The engine state a MIRROR epoch carries (R333). -/
structure Epoch where
  cycle : Nat := 0
  appliedJsn : Nat := 0
  pairEpoch : Nat := 0
  h : Int := 0
  nEff : Int := 0
  n : Int := 0
  adj : Int := 0
  bbin : Nat := 64
  flags : Nat := 0
  alloc : Nat := 0
  win1 : WinVal := {}
  win2 : WinVal := {}
  pi : Vector PiState 8 := Vector.replicate 8 {}
  ramp : Vector RampState 8 := Vector.replicate 8 {}
  stNum : Vector Nat 8 := Vector.replicate 8 0
  vars : List F32 := []
  deriving DecidableEq, Repr

/-- A record of the recorder, its 48 bytes as fields (R385, R387). CHECK is computed from them. `copyFlags` is the FLAGS byte of another node's
record that sets the reserved bit or a reserved CLASS, so that the copy stays unchanged. -/
structure Record where
  typ : Nat
  source : Nat
  cls : FClass
  gap : Bool := false
  xfer : Bool := false
  noBase : Bool := false
  pfail : Bool := false
  rsn : Nat
  opt : Nat
  pcc : Nat
  repeatCount : Nat := 0
  ntS : Nat
  ntNs : Nat
  payload : Nat := 0
  copyFlags : Option Nat := none
  deriving DecidableEq, Repr

/-- One record of an IMAGE transfer (R314), whole. -/
structure ImageRec where
  isFence : Bool := false
  index : Nat := 0
  sub : Nat := 0
  jsn : Nat := 0
  total : Nat := 0
  offset : Nat := 0
  bytes : List Byte := []
  deriving DecidableEq, Repr

/-- A GOOSE frame as received (R235): the members as object values. -/
structure GooseMsg where
  appid : Nat := 0
  gocbRef : Nat := 0
  srcMac : Nat := 0
  confRev : Nat := 0
  stNum : Nat := 0
  sqNum : Nat := 0
  ttlMs : Nat := 0
  members : List Nat := []
  deriving DecidableEq, Repr

/-- One ASDU of a Sampled Values frame (R236): eight values with their quality words. -/
structure SvAsdu where
  smpCnt : Nat := 0
  smpSynch : Bool := false
  values : List (Nat × Nat) := []
  deriving DecidableEq, Repr

/-- A PTP data set as compared by the BMCA (R261); the identity is its octets as one number, the first the most significant. -/
structure PtpMaster where
  identity : Nat := 0
  priority1 : Nat := 128
  priority2 : Nat := 128
  clockClass : Nat := 248
  clockAccuracy : Nat := 0xFE
  variance : Nat := 0xFFFF
  stepsRemoved : Nat := 0
  utcOffset : Int := 0
  domain : Nat := 0
  deriving DecidableEq, Repr

/-- A PTP Sync as the STATION takes it (R261): its domain, the clock identity of its sender, and the offset θ found with it, in 1/65,536 ns. -/
structure PtpSyncMsg where
  domain : Nat := 0
  sender : Nat := 0
  theta : Int
  deriving DecidableEq, Repr

/-- What a station-port frame carries (R230 to R236, R261). A UDP datagram comes with what DTLS has found in it: one SDU of a session, or
the close of the session (R57, R60). -/
inductive EthBody where
  | arp (request : Bool) (targetIp : Nat)
  | icmpEcho (dstIp : Nat)
  | udp (dstIp dstPort : Nat) (fragment : Bool) (session : Nat) (sdu : List Byte)
  | dtlsClose (dstIp dstPort session : Nat)
  | otherIp
  | ptpSync (m : PtpSyncMsg)
  | ptpPdelayReq (domain requester : Nat)
  | ptpAnnounce (m : PtpMaster)
  | ptpPdelay (ps : Int)
  | goose (g : GooseMsg)
  | sv (appid svid : Nat) (asdus : List SvAsdu)
  | pause
  | other
  deriving DecidableEq, Repr

/-- A frame at a station port: its size in bytes (R230) and what it carries. -/
structure EthKind where
  size : Nat := 64
  body : EthBody
  deriving DecidableEq, Repr

/-- A certificate's facts as the verifier finds them (R418, R420): the results of parsing and of the signature checks,
and the validity bounds in UTC seconds. -/
structure CertFacts where
  parses : Bool := false
  keyIsDevice : Bool := false
  chainOk : Bool := false
  notBefore : Nat := 0
  notAfter : Nat := 0
  pubKey : Nat := 0
  deriving DecidableEq, Repr, Inhabited

/-- A firmware slot as its header and body check out (R422). -/
structure FwSlot where
  headerOk : Bool := false
  keyOk : Bool := false
  sigOk : Bool := false
  sizeOk : Bool := false
  digestOk : Bool := false
  safetyDigestOk : Bool := false
  size : Nat := 0
  version : Nat := 0
  svn : Nat := 0
  digest : Nat := 0
  safetyDigest : Nat := 0
  deriving DecidableEq, Repr

/-- A physical block of a flash device (R391, R405): its chip select and its number. -/
structure PhysBlock where
  cs : Nat := 0
  block : Nat := 0
  deriving DecidableEq, Repr

/-- A sector of a partition (R406): its copy, its logical number and the block it stands in. -/
structure SectorRef where
  copy : Nat := 0
  lsn : Nat := 0
  place : PhysBlock := {}
  deriving DecidableEq, Repr

/-- A written sector (R406): what it carries and where it stands. -/
structure SectorAt where
  part : Nat
  copy : Nat
  lsn : Nat
  wseq : Nat
  place : PhysBlock
  deriving DecidableEq, Repr

/-- The work a flash operation did (R399, R406, R409 to R411): a page of sectors of a partition was programmed, a block erased, or a sector read.
`data` is what the flash gave of the sector's 1,088 bytes and `other` of the other copy's; `unread` says that the on-die ECC failed, `refresh`
that it recommends a refresh. -/
inductive FlashOp where
  | program (partition : Nat) (place : PhysBlock) (sectors : List (Nat × Nat))
  | erase (place : PhysBlock)
  | read (partition : Nat) (sector : SectorRef) (data : List Byte) (refresh unread : Bool) (other : List Byte)
  deriving DecidableEq, Repr

/-- The execution-fault class of an operation (R281 FCLASS), the producer of an arc and its FULL mode (R282). -/
inductive Producer where
  | op (n out : Nat)
  | event (code : Nat)
  | cycle (div phase : Nat)
  | station (div phase : Nat)
  | delay
  | init (count value : Nat)
  deriving DecidableEq, Repr

/-- An operation of a compiled graph (R281), with the arcs of its inputs. -/
structure GOp where
  entry : Nat
  prio : Nat
  affinity : Nat
  inArcs : List Nat
  nout : Nat
  budget : Nat
  fclass : FClass
  objects : List Nat
  sys : Bool
  deriving DecidableEq, Repr

/-- An arc of a compiled graph (R282): consumer operation and input, producer, depth and FULL mode. -/
structure GArc where
  consumer : Nat
  input : Nat
  producer : Producer
  depth : Nat
  overwrite : Bool
  deriving DecidableEq, Repr

/-- A graph image (R281 to R284): its operations and arcs, the bytes of its memory sections, the firmware digest it was
linked against, and its own digest. -/
structure GraphImage where
  ops : List GOp := []
  arcs : List GArc := []
  sections : List (Nat × Byte) := []
  fwDigest : Nat := 0
  digest : Nat := 0
  deriving DecidableEq, Repr, Inhabited

/-- A Treadle instruction of a loaded program (R110). Destinations and sources are variable numbers V0 to V511. -/
inductive TInstr where
  | fma (d a b c : Nat)
  | add (d a b : Nat)
  | sub (d a b : Nat)
  | mul (d a b : Nat)
  | div (d a b : Nat)
  | tmin (d a b : Nat)
  | tmax (d a b : Nat)
  | tabs (d a : Nat)
  | tneg (d a : Nat)
  | cmp (a b cond : Nat)
  | sel (d a b : Nat)
  | br (target : Nat)
  | cvti (d a : Nat)
  | cvtf (d a : Nat)
  | lds (d code : Nat)
  | stx (n a : Nat)
  | lim (d a lo hi : Nat)
  | pi (n : Nat)
  | ramp (n : Nat)
  | hyst
  | tend
  deriving DecidableEq, Repr, Inhabited

/-- A loaded microprogram (R109): its two segments and the digest of its image. -/
structure TProgram where
  fast : List TInstr := []
  slow : List TInstr := []
  digest : Nat := 0
  deriving DecidableEq, Repr, Inhabited

end Sys2Proof
end

