-- ==== Sys2Proof/Syntax.lean ====
section
/-!
DEFINITION. Sys2Proof/Syntax.lean: the commands of the KRM-6208, one constructor for each row of spec/opcode_table.json and
in its order. A command is a step of the part: an event at a ball, a received frame, an instant of time that comes, or an
access by a worker core. Its operands are what the world outside supplies with it; what the device itself knows is in State.
-/
namespace Sys2Proof

/-- The commands (spec/opcode_table.json). Each constructor's comment names its rule. -/
inductive Instr where
  /-- SUPPLIES_VALID (R426). -/
  | suppliesValid (vinMv vddaMv : Nat)
  /-- BROWNOUT (R426). -/
  | brownout
  /-- VIN_LOSS (R29). -/
  | vinLoss
  /-- RST_N_ASSERT (R461). -/
  | rstNAssert
  /-- RESET_REQUEST (R77). -/
  | resetRequest (value : Nat)
  /-- JTAG_RESET (R431). -/
  | jtagReset
  /-- WATCHDOG_EXPIRY (R434). -/
  | watchdogExpiry
  /-- WATCHDOG_WARNING (R434). -/
  | watchdogWarning
  /-- WATCHDOG_KICK (R434). -/
  | watchdogKick (key : Nat)
  /-- BOOT_COMPLETE (R425). -/
  | bootComplete (slots : Vector (Option FwSlot) 2) (safetyOk : Bool) (selfTestOk : Bool) (calOk : Bool) (flushUs : Nat)
  /-- JOIN_COMPLETE (R29). -/
  | joinComplete
  /-- HIBERNATE (R436). -/
  | hibernate (value : Nat)
  /-- WAKE (R437). -/
  | wake
  /-- PFAIL_FALL (R429). -/
  | pfailFall
  /-- PFAIL_FLUSH_DONE (R410). -/
  | pfailFlushDone
  /-- PFAIL_RECOVER (R430). -/
  | pfailRecover
  /-- VCORE_WRITE (R427). -/
  | vcoreWrite (value vinMv : Nat)
  /-- VCORE_RAMP_DONE (R427). -/
  | vcoreRampDone
  /-- VCORE_HEADROOM (R427). -/
  | vcoreHeadroom (vinMv : Nat)
  /-- OP_CERT_WRITE (R418). -/
  | opCertWrite (root : Bool) (value : Nat) (facts : CertFacts)
  /-- OP_CERT_PERIODIC_CHECK (R418). -/
  | opCertPeriodicCheck
  /-- CERT_RECEIVE (R420). -/
  | certReceive (port : Nat) (op : Bool) (facts : CertFacts)
  /-- JTAG_LOCK (R440). -/
  | jtagLock (value : Nat)
  /-- JTAG_UNLOCK (R440). -/
  | jtagUnlock (sigOk : Bool)
  /-- IMAGE_ACTIVATE (R423). -/
  | imageActivate (value : Nat)
  /-- RESTORE_DEFAULTS (R49). -/
  | restoreDefaults (value : Nat) (role : SessRole)
  /-- ENABLE (R41). -/
  | enable
  /-- BLOCK (R41). -/
  | block
  /-- DEBLOCK (R41). -/
  | deblock
  /-- TRIP_RESET (R41). -/
  | tripReset
  /-- BYPASS_COMMAND (R41). -/
  | bypassCommand (value : Nat)
  /-- MAINT_RELEASE (R12). -/
  | maintRelease (value : Nat)
  /-- HANDOVER_RECEIVE (R78). -/
  | handoverReceive (tw lead fibreExtra depth population : Nat) (carrier : Bool)
  /-- EXEC_DEADLINE (R94). -/
  | execDeadline (k : Nat)
  /-- HOLD_LIMIT (R8). -/
  | holdLimit
  /-- ORPHAN_BYPASS (R37). -/
  | orphanBypass
  /-- PRIMARY_REVERT (R34). -/
  | primaryRevert
  /-- READ (R52). -/
  | read (r : Request)
  /-- WRITE (R52). -/
  | write (r : Request)
  /-- SEG_READ (R54). -/
  | segRead (r : Request)
  /-- SEG_WRITE (R55). -/
  | segWrite (r : Request)
  /-- BLOCK_INIT (R56). -/
  | blockInit (r : Request)
  /-- BLOCK_DATA (R56). -/
  | blockData (r : Request)
  /-- BLOCK_END (R56). -/
  | blockEnd (r : Request)
  /-- ABORT (R52). -/
  | abort (r : Request)
  /-- SEG_SNAPSHOT_TIMEOUT (R54). -/
  | segSnapshotTimeout (via : Via) (tid : Nat)
  /-- SEG_WRITE_TIMEOUT (R55). -/
  | segWriteTimeout (via : Via) (tid : Nat)
  /-- TRANSFER_TIMEOUT (R62). -/
  | transferTimeout (via : Via) (tid : Nat)
  /-- SESSION_OPEN (R57). -/
  | sessionOpen (id ski : Nat) (authOk : Bool)
  /-- SESSION_IDLE_TIMEOUT (R60). -/
  | sessionIdleTimeout (id : Nat)
  /-- OBJECT_WRITE_APPLY (R50). -/
  | objectWriteApply (key value jsn : Nat) (role : SessRole)
  /-- REGISTER_WRITE (R277). -/
  | registerWrite (core addr value size : Nat)
  /-- PD_ENABLE (R71). -/
  | pdEnable (tx : Bool) (ch value : Nat)
  /-- TPD_SEND (R72). -/
  | tpdSend (ch : Nat)
  /-- RPD_RECEIVE (R73). -/
  | rpdReceive (src : Nat) (payload : List Byte)
  /-- RPD_APPLY (R73). -/
  | rpdApply
  /-- RPD_TIMEOUT (R74). -/
  | rpdTimeout (ch : Nat)
  /-- CYCLE_START (R80). -/
  | cycleStart (k : Nat)
  /-- WARP_RECEIVE (R85). -/
  | warpReceive (port : Nat) (w : Warp)
  /-- TALLY_DEADLINE (R86). -/
  | tallyDeadline (k : Nat)
  /-- TREADLE_FAST_START (R115). -/
  | treadleFastStart (k : Nat)
  /-- TREADLE_FAST_END (R111). -/
  | treadleFastEnd (ns : Nat)
  /-- TREADLE_SLOW_END (R111). -/
  | treadleSlowEnd (ns : Nat)
  /-- TREADLE_DEADLINE (R129). -/
  | treadleDeadline (slow : Bool)
  /-- OVERRUN_ESCALATION (R131). -/
  | overrunEscalation
  /-- NO_CURRENT_LIMIT (R119). -/
  | noCurrentLimit
  /-- REF_HOLD_EXPIRY (R123). -/
  | refHoldExpiry (n : Nat)
  /-- PROGRAM_ACTIVATE (R113). -/
  | programActivate (value : Nat)
  /-- STATION_CYCLE_BOUNDARY (R115). -/
  | stationCycleBoundary (j : Nat)
  /-- SHUTTLE_RECEIVE (R93). -/
  | shuttleReceive (port : Nat) (sh : Shuttle)
  /-- COUNT_ADOPT (R101). -/
  | countAdopt
  /-- WEFT_STALL (R102). -/
  | weftStall
  /-- REBASE (R101). -/
  | rebase (value : Nat)
  /-- COUNTER_CLEAR (R107). -/
  | counterClear (key value : Nat)
  /-- LEVEL_EDGE_INSTANT (R147). -/
  | levelEdgeInstant (k : Nat)
  /-- DEADTIME_EXPIRY (R143). -/
  | deadtimeExpiry (out : Nat)
  /-- SCHEDULED_EDGE (R144). -/
  | scheduledEdge (out : Nat)
  /-- CARRIER_BOUNDARY (R150). -/
  | carrierBoundary
  /-- DELAY_LINE_CAL (R145). -/
  | delayLineCal (span : Nat)
  /-- GO_READBACK (R146). -/
  | goReadback (out : Nat) (level : Bool)
  /-- DIRECT_ARM (R154). -/
  | directArm (value : Nat)
  /-- AUX_WRITE (R155). -/
  | auxWrite (object : Bool) (value : Nat)
  /-- CMPT_TRIGGER (R159). -/
  | cmptTrigger (n : Nat)
  /-- BYPASS_PULSE (R141). -/
  | bypassPulse (level : Bool)
  /-- FLT_FILTER_EXPIRY (R160). -/
  | fltFilterExpiry (n : Nat) (active : Bool)
  /-- FLT_CLEAR (R164). -/
  | fltClear (mask : Nat)
  /-- REF_READY (R172). -/
  | refReady
  /-- REF_FAULT (R173). -/
  | refFault
  /-- FULL_CAL_DONE (R174). -/
  | fullCalDone (ok0 ok1 : Bool)
  /-- CAL_START (R174). -/
  | calStart (value : Nat)
  /-- OFS_CAL_SLOT_DONE (R175). -/
  | ofsCalSlotDone (core gain : Nat)
  /-- OFS_CAL_STARVED (R175). -/
  | ofsCalStarved (core gain : Nat)
  /-- TB_SAMPLE_START (R179). -/
  | tbSampleStart (core : Nat)
  /-- ADC_WORK_START (R181). -/
  | adcWorkStart (core : Nat)
  /-- CONVERSION_DONE (R184). -/
  | conversionDone (core raw : Nat)
  /-- SW_TRIGGER (R180). -/
  | swTrigger (core value : Nat)
  /-- URGENT_REQUEST (R183). -/
  | urgentRequest (core value : Nat)
  /-- RESULT_READ (R184). -/
  | resultRead (core : Nat)
  /-- ADC_ENABLE (R177). -/
  | adcEnable (core value : Nat)
  /-- WC_STATE_CHANGE (R190). -/
  | wcStateChange (n microvolts : Nat)
  /-- WC_FILTER_EXPIRY (R356). -/
  | wcFilterExpiry (n : Nat)
  /-- LINK_PORT_ENABLE (R221). -/
  | linkPortEnable (port : Nat)
  /-- LINK_LOCK (R221). -/
  | linkLock (port : Nat)
  /-- LINK_HELLO (R221). -/
  | linkHello (port : Nat)
  /-- LINK_MEASURE (R221). -/
  | linkMeasure (port : Nat)
  /-- LINK_UP (R221). -/
  | linkUp (port : Nat)
  /-- LINK_DOWN (R222). -/
  | linkDown (port : Nat) (los : Bool)
  /-- LINK_FLAP (R223). -/
  | linkFlap (port : Nat)
  /-- FLAP_HOLDOFF_RESTORE (R223). -/
  | flapHoldoffRestore (port : Nat)
  /-- LS_RECEIVE (R202). -/
  | lsReceive (port : Nat) (ls : LsBlock)
  /-- FRAME_RECEIVE (R207). -/
  | frameReceive (port : Nat) (bytes : List Byte)
  /-- FRAME_TRANSMIT (R209). -/
  | frameTransmit (port : Nat)
  /-- FRAME_STALL_ABORT (R204). -/
  | frameStallAbort (port : Nat)
  /-- DELAY_REQUEST_SEND (R225). -/
  | delayRequestSend (port : Nat)
  /-- DELAY_REQUEST_RECEIVE (R225). -/
  | delayRequestReceive (port xid : Nat)
  /-- DELAY_RESPONSE_RECEIVE (R226). -/
  | delayResponseReceive (port xid t2 t3 : Nat)
  /-- DELAY_EXCHANGE_VOID (R225). -/
  | delayExchangeVoid (port : Nat)
  /-- XCVR_DIAG_POLL (R199). -/
  | xcvrDiagPoll (port : Nat)
  /-- XCVR_DIAG_DONE (R199). -/
  | xcvrDiagDone (port : Nat) (temp : Int) (vcc bias txpwr rxpwr flags : Nat)
  /-- I2C_STRETCH_TIMEOUT (R460). -/
  | i2cStretchTimeout (port : Nat)
  /-- CU_START (R229). -/
  | cuStart (u value : Nat)
  /-- CU_DATA (R229). -/
  | cuData (u value : Nat)
  /-- CU_MODE_WRITE (R228). -/
  | cuModeWrite (u value : Nat)
  /-- LAN_LINK_CHANGE (R230). -/
  | lanLinkChange (lan : Nat) (linkUp : Bool)
  /-- ETH_FRAME_RECEIVE (R231). -/
  | ethFrameReceive (lan srcMac : Nat) (prp : Option (Nat × Nat)) (kind : EthKind)
  /-- PRP_SUPERVISION (R231). -/
  | prpSupervision
  /-- GOOSE_PUBLISH (R233). -/
  | goosePublish (n : Nat)
  /-- GOOSE_RETRANSMIT (R233). -/
  | gooseRetransmit (n : Nat)
  /-- GOOSE_RECEIVE (R235). -/
  | gooseReceive (m : Nat) (g : GooseMsg)
  /-- GOOSE_APPLY (R235). -/
  | gooseApply
  /-- GOOSE_TIMEOUT (R235). -/
  | gooseTimeout (m : Nat)
  /-- SV_RECEIVE (R236). -/
  | svReceive (n appid svid srcMac : Nat) (asdus : List SvAsdu)
  /-- SV_TIMEOUT (R236). -/
  | svTimeout (n : Nat)
  /-- BLK_MIN_HOLD_END (R219). -/
  | blkMinHoldEnd
  /-- REFCLK_LOST (R243). -/
  | refclkLost
  /-- REFCLK_RETURN (R243). -/
  | refclkReturn
  /-- REFCLK_STABLE (R369). -/
  | refclkStable
  /-- RATE_WRITE (R247). -/
  | rateWrite (value : Nat)
  /-- STEP_WRITE (R248). -/
  | stepWrite (value : Nat)
  /-- SCHEDULED_STEP_ARM (R249). -/
  | scheduledStepArm (value : Nat)
  /-- SCHEDULED_STEP_APPLY (R249). -/
  | scheduledStepApply
  /-- NT_READ_LATCH (R246). -/
  | ntReadLatch (tap : Nat)
  /-- SYNC_SEND (R253). -/
  | syncSend
  /-- SYNC_RECEIVE (R255). -/
  | syncReceive (port : Nat) (m : SyncMsg)
  /-- TIME_LOCK (R252). -/
  | timeLock
  /-- TIME_ALIGN (R258). -/
  | timeAlign
  /-- TIME_HOLDOVER_TIMEOUT (R252). -/
  | timeHoldoverTimeout
  /-- PTP_SYNC_RECEIVE (R261). -/
  | ptpSyncReceive (lan : Nat) (m : PtpSyncMsg)
  /-- PTP_ANNOUNCE_RECEIVE (R261). -/
  | ptpAnnounceReceive (lan : Nat) (m : PtpMaster)
  /-- PTP_ANNOUNCE_TIMEOUT (R261). -/
  | ptpAnnounceTimeout (lan : Nat)
  /-- PTP_PDELAY (R261). -/
  | ptpPdelay (lan : Nat) (ps : Int)
  /-- STEP_SCHEDULE (R263). -/
  | stepSchedule
  /-- TIME_SET (R262). -/
  | timeSet (value : Nat)
  /-- TPO_PULSE_START (R269). -/
  | tpoPulseStart (n : Nat)
  /-- TPO_PULSE_END (R269). -/
  | tpoPulseEnd (n : Nat)
  /-- TSI_CAPTURE (R270). -/
  | tsiCapture (n : Nat) (falling : Bool)
  /-- TSI_FIFO_POP (R270). -/
  | tsiFifoPop (n : Nat)
  /-- HDL_NEXT (R288). -/
  | hdlNext (core : Nat)
  /-- DISPATCH (R287). -/
  | dispatch (core : Nat)
  /-- HDL_DONE (R288). -/
  | hdlDone (core value : Nat)
  /-- HDL_POST (R288). -/
  | hdlPost (core out : Nat)
  /-- HDL_CANCEL (R298). -/
  | hdlCancel (core op : Nat)
  /-- HDL_DLY (R295). -/
  | hdlDly (core ticks : Nat)
  /-- HDL_DLYCAN (R297). -/
  | hdlDlycan (core handle : Nat)
  /-- DELAY_TICK (R296). -/
  | delayTick (list : Nat)
  /-- OPERATION_FAULT (R289). -/
  | operationFault (core : Nat) (ue : Option Nat)
  /-- BUDGET_EXPIRY (R290). -/
  | budgetExpiry (core : Nat)
  /-- GRAPH_ACTIVATE (R284). -/
  | graphActivate (value : Nat)
  /-- GRAPH_LOAD (R284). -/
  | graphLoad
  /-- EVENT_TOKEN (R293). -/
  | eventToken (code : Nat)
  /-- USER_OBJECT_APPLY (R292). -/
  | userObjectApply
  /-- SCRUB_READ (R279). -/
  | scrubRead (addr bits : Nat)
  /-- SCRUB_LATE (R279). -/
  | scrubLate
  /-- LOAD_WINDOW_END (R299). -/
  | loadWindowEnd
  /-- EC_WINDOW_START (R302). -/
  | ecWindowStart (n : Nat)
  /-- EC_WINDOW_END (R302). -/
  | ecWindowEnd (n : Nat)
  /-- EC_LO_READ (R300). -/
  | ecLoRead (n : Nat)
  /-- EC_CONFIG_WRITE (R300). -/
  | ecConfigWrite (n : Nat) (mode : Bool) (value : Nat)
  /-- ENTRY_RECEIVE (R320). -/
  | entryReceive (port : Nat) (e : JEntry)
  /-- FENCE (R325). -/
  | fence (id : Nat) (role : SessRole)
  /-- COMMIT_ACK_RECEIVE (R317). -/
  | commitAckReceive (lane jsn : Nat)
  /-- ACCEPT_RECEIVE (R319). -/
  | acceptReceive (lane jsn applyAt : Nat)
  /-- ACCEPTED_RECEIVE (R317). -/
  | acceptedReceive (src : Nat) (lane : Nat) (epoch : Nat) (jsn : Nat)
  /-- APPLIED_RECEIVE (R64). -/
  | appliedReceive (src jsn confirmJsn status : Nat)
  /-- HEAD_SEND (R322). -/
  | headSend (lane : Nat)
  /-- HEAD_RECEIVE (R322). -/
  | headReceive (lane head trim : Nat)
  /-- CATCHUP_RECEIVE (R322). -/
  | catchupReceive (src lane applied : Nat) (unclean : Bool)
  /-- IMAGE_RECEIVE (R323). -/
  | imageReceive (base : Nat) (records : List ImageRec) (last : Bool)
  /-- PAIR_SEND (R312). -/
  | pairSend
  /-- PAIR_RECEIVE (R330). -/
  | pairReceive (m : PairMsg)
  /-- PARTNER_SILENT (R316). -/
  | partnerSilent
  /-- COMMIT_ACK_TIMEOUT (R316). -/
  | commitAckTimeout
  /-- PAIR_WAIT_TIMEOUT (R329). -/
  | pairWaitTimeout
  /-- APPLY_AT_REACHED (R319). -/
  | applyAtReached (k : Nat)
  /-- TAKEOVER (R332). -/
  | takeover
  /-- YIELD_RECEIVE (R332). -/
  | yieldReceive (cause : Nat)
  /-- PRIMARY_RECEIVE (R332). -/
  | primaryReceive (port member : Nat)
  /-- PULSE_WATCHDOG (R335). -/
  | pulseWatchdog
  /-- SWITCHOVER (R344). -/
  | switchover (value : Nat)
  /-- RESYNC_START (R344). -/
  | resyncStart (value : Nat)
  /-- MIRROR_RECEIVE (R334). -/
  | mirrorReceive (payload : List Byte)
  /-- SNAP_REQ_RECEIVE (R339). -/
  | snapReqReceive (offset : Nat)
  /-- SNAP_RECEIVE (R339). -/
  | snapReceive (offset total : Nat) (data : List Byte) (last : Bool)
  /-- SNAP_REQ_RETRY (R339). -/
  | snapReqRetry
  /-- RESYNC_VERIFIED (R339). -/
  | resyncVerified
  /-- RESYNC_TIMEOUT (R341). -/
  | resyncTimeout
  /-- RESYNC_RETRY (R341). -/
  | resyncRetry
  /-- TRIM_ADVANCE (R323). -/
  | trimAdvance (lane : Nat)
  /-- SNAPSHOT_WRITE (R321). -/
  | snapshotWrite
  /-- SAFE_IN_FILTER (R352). -/
  | safeInFilter (n : Nat) (level : Bool)
  /-- SAFETY_CORE_SAMPLE (R352). -/
  | safetyCoreSample (level0 level1 : Bool)
  /-- SIN_DISCREPANCY (R352). -/
  | sinDiscrepancy
  /-- OFFPULSE (R354). -/
  | offpulse (n : Nat) (active : Bool)
  /-- OFFPULSE_CHECK (R354). -/
  | offpulseCheck (n : Nat) (level : Bool)
  /-- PERMIT_WITHDRAW (R353). -/
  | permitWithdraw (core : Bool)
  /-- SAFETY_FRAME_SEND (R363). -/
  | safetyFrameSend
  /-- SAFETY_FRAME_CHANGE_SEND (R363). -/
  | safetyFrameChangeSend
  /-- SAFETY_FRAME_RECEIVE (R364). -/
  | safetyFrameReceive (port : Nat) (payload : List Byte)
  /-- SAFETY_CONN_EXPIRY (R364). -/
  | safetyConnExpiry (port : Nat)
  /-- SAFETY_PARAM_PERSIST (R364). -/
  | safetyParamPersist (port : Nat)
  /-- DNM_DISAGREE (R367). -/
  | dnmDisagree
  /-- SDI_TIMER (R350). -/
  | sdiTimer (n : Nat)
  /-- SUPPLY_MONITOR (R370). -/
  | supplyMonitor
  /-- HEARTBEAT_MISS (R371). -/
  | heartbeatMiss
  /-- INJECTION_TEST (R371). -/
  | injectionTest (ok : Bool)
  /-- DECISION_DISCREPANCY (R371). -/
  | decisionDiscrepancy
  /-- WC_STAGE_DISAGREE (R371). -/
  | wcStageDisagree (n : Nat)
  /-- IOSC_CHECK (R371). -/
  | ioscCheck (ok : Bool)
  /-- CORE_LOCKSTEP_ERROR (R371). -/
  | coreLockstepError
  /-- DEG_MINUTE (R372). -/
  | degMinute
  /-- DEG_CLEAR (R373). -/
  | degClear (value : Nat)
  /-- SCV_CONFIRM (R376). -/
  | scvConfirm (value : Nat)
  /-- SPS_WRITE (R375). -/
  | spsWrite (key value : Nat)
  /-- FOLD_WINDOW_END (R393). -/
  | foldWindowEnd
  /-- EVENT_FRAME_SEND (R397). -/
  | eventFrameSend
  /-- EVENT_FRAME_RECEIVE (R398). -/
  | eventFrameReceive (src : Nat) (payload : List Byte)
  /-- MEDIA_REPEAT (R399). -/
  | mediaRepeat
  /-- MEDIA_FLAG_EXPIRY (R399). -/
  | mediaFlagExpiry (src : Nat)
  /-- MEDIA_SERVICE (R400). -/
  | mediaService (value : Nat) (testOk blank : Bool)
  /-- REC_CLEAR (R404). -/
  | recClear (value : Nat) (role : SessRole)
  /-- BOB_FORMAT (R408). -/
  | bobFormat (value : Nat)
  /-- USER_RECORD (R396). -/
  | userRecord (value : Nat)
  /-- DEN_STORE (R401). -/
  | denStore
  /-- FLASH_OP_DONE (R409). -/
  | flashOpDone (work : FlashOp) (ok : Bool)
  /-- CHIP_TIMEOUT (R399). -/
  | chipTimeout (cs : Nat)
  /-- BOB_SCRUB_READ (R411). -/
  | bobScrubRead (partition : Nat) (sector : SectorRef) (data : List Byte) (refresh unread : Bool) (other : List Byte)
  /-- BOB_SCRUB_LATE (R409). -/
  | bobScrubLate
  /-- WEAR_LEVEL_MOVE (R412). -/
  | wearLevelMove (place : PhysBlock)
  /-- OPT_SAVE (R389). -/
  | optSave
  /-- MODULE_ABSENT (R199). -/
  | moduleAbsent (port : Nat) (gone : Bool)
  /-- HEALTH_JOURNAL_LOST (R330). -/
  | healthJournalLost
  /-- SUPPLY_RETURN (R370). -/
  | supplyReturn
  /-- VIN_RECOVERS (R427). -/
  | vinRecovers (vinMv : Nat)
  deriving DecidableEq, Repr

end Sys2Proof
end

