-- ==== Sys2Proof/Decode.lean ====
section
/-!
DEFINITION. Sys2Proof/Decode.lean: the command a word of the opcode table spells. spec/opcode_table.json gives bits to none of
its rows (a command is an event or an access, not a word), so every word is rejected.
-/
namespace Sys2Proof

/-- The reason a word spells no command. -/
inductive DecodeError where
  /-- No row of the table gives the word a meaning. Safe: nothing is executed. -/
  | noRowHasBits (nbits w : Nat)
  deriving DecidableEq, Repr

/-- Decoding with the reason of a rejection: no row of the table has bits. -/
def decodeWord (nbits w : Nat) : Except DecodeError Instr := .error (.noRowHasBits nbits w)

/-- The command that the word `w` of `nbits` bits spells, where one does. -/
def decodeTableWord (nbits w : Nat) : Option Instr :=
  match decodeWord nbits w with
  | .ok i => some i
  | .error _ => none

end Sys2Proof
end

