-- ==== Sys2Proof/Machine/Crc.lean ====
section
/-!
DEFINITION. Sys2Proof/Machine/Crc.lean: the checks of the manual: a CRC of any width (R206, R227), the CRC-8 and CRC-32C of
Floen (R206), the safety CRC (R361), and SHA-256 (R56, R362). PRESUMED(6): SHA-256 is FIPS 180-4.
-/
namespace Sys2Proof.Crc

/-- The low `w` bits of `v` in reverse order. -/
def reflect : Nat → Nat → Nat
  | 0, _ => 0
  | w + 1, v => (v % 2) * 2 ^ w + reflect w (v / 2)

/-- One bit of a CRC of width `w`, most significant bit first. -/
def shift1 (w poly crc : Nat) : Nat :=
  if crc / 2 ^ (w - 1) % 2 == 1 then (crc * 2 % 2 ^ w) ^^^ poly else crc * 2 % 2 ^ w

/-- `n` bits of a CRC without input. -/
def shiftN (w poly : Nat) : Nat → Nat → Nat
  | 0, crc => crc
  | n + 1, crc => shiftN w poly n (shift1 w poly crc)

/-- One byte into a CRC of width `w ≥ 8`. -/
def byteIn (w poly : Nat) (refIn : Bool) (crc : Nat) (b : Byte) : Nat :=
  let v := if refIn then reflect 8 b.toNat else b.toNat
  shiftN w poly 8 (crc ^^^ (v * 2 ^ (w - 8)))

/-- The register after the bytes. -/
def run (w poly : Nat) (refIn : Bool) (init : Nat) (bs : List Byte) : Nat :=
  bs.foldl (byteIn w poly refIn) init

/-- The result from the register: REFOUT, then XOROUT (R227). -/
def finish (w : Nat) (refOut : Bool) (xorOut crc : Nat) : Nat := (if refOut then reflect w crc else crc) ^^^ xorOut

/-- HCS, LS CHK and RESUME (R206). -/
def crc8 (bs : List Byte) : Nat := finish 8 false 0xFF (run 8 0x2F false 0xFF bs)

/-- The hop CRC, CRC-32C (R206). -/
def crc32c (bs : List Byte) : Nat := finish 32 true 0xFFFFFFFF (run 32 0x1EDC6F41 true 0xFFFFFFFF bs)

/-- The safety CRC, and the SCV (R361, R375). -/
def scrc (bs : List Byte) : Nat := finish 32 false 0xFFFFFFFF (run 32 0x741B8CD7 false 0xFFFFFFFF bs)

/-- The largest `r` of `b` bits above `r` whose power `e` does not exceed `n`, bit by bit from the highest. -/
def rootFrom (e n : Nat) : Nat → Nat → Nat
  | 0, r => r
  | b + 1, r => rootFrom e n b (if (r + 2 ^ b) ^ e ≤ n then r + 2 ^ b else r)

/-- The first 32 bits of the fraction of the root of degree `e` of a number below 512: the root of `p` × 2 to the power 32 × `e`, without
its whole part. -/
def rootFraction (e p : Nat) : Nat := rootFrom e (p * 2 ^ (32 * e)) 37 0 % 2 ^ 32

/-- The primes below 312, of which there are 64: no number from 2 to 17 other than itself divides one. -/
def firstPrimes : List Nat :=
  (List.range 312).filter fun p => 2 ≤ p && (List.range 18).all fun d => d < 2 || p ≤ d || p % d != 0

/-- The SHA-256 round constants: from the cube roots of the first 64 primes. -/
def shaK : List Nat := firstPrimes.map (rootFraction 3)

/-- The SHA-256 initial hash value: from the square roots of the first eight primes. -/
def shaH : List Nat := (firstPrimes.take 8).map (rootFraction 2)

/-- Rotate a 32-bit word right. -/
def rotr (n x : Nat) : Nat := x / 2 ^ n + x % 2 ^ n * 2 ^ (32 - n)

/-- Extend the message schedule, newest word first. -/
def shaExtend : Nat → List Nat → List Nat
  | 0, ws => ws
  | n + 1, ws =>
    let w15 := ws.getD 14 0
    let w2 := ws.getD 1 0
    let s0 := rotr 7 w15 ^^^ rotr 18 w15 ^^^ (w15 / 2 ^ 3)
    let s1 := rotr 17 w2 ^^^ rotr 19 w2 ^^^ (w2 / 2 ^ 10)
    shaExtend n (((ws.getD 15 0 + s0 + ws.getD 6 0 + s1) % 2 ^ 32) :: ws)

/-- One round on the eight working variables. -/
def shaRound (v : List Nat) (kw : Nat × Nat) : List Nat :=
  match v with
  | [a, b, c, d, e, f, g, h] =>
    let s1 := rotr 6 e ^^^ rotr 11 e ^^^ rotr 25 e
    let ch := (e &&& f) ^^^ ((2 ^ 32 - 1 - e) &&& g)
    let t1 := (h + s1 + ch + kw.1 + kw.2) % 2 ^ 32
    let s0 := rotr 2 a ^^^ rotr 13 a ^^^ rotr 22 a
    let mj := (a &&& b) ^^^ (a &&& c) ^^^ (b &&& c)
    [(t1 + s0 + mj) % 2 ^ 32, a, b, c, (d + t1) % 2 ^ 32, e, f, g]
  | v => v

/-- A big-endian 32-bit word of four bytes. -/
def beWord : List Byte → Nat
  | bs => bs.foldl (fun a b => a * 256 + b.toNat) 0

/-- The 16 words of a 64-byte block. -/
def blockWords : Nat → List Byte → List Nat
  | 0, _ => []
  | n + 1, bs => beWord (bs.take 4) :: blockWords n (bs.drop 4)

/-- One block into the hash value. -/
def shaBlock (hv : List Nat) (bs : List Byte) : List Nat :=
  let ws := (shaExtend 48 (blockWords 16 bs).reverse).reverse
  let v := (shaK.zip ws).foldl shaRound hv
  (hv.zip v).map fun p => (p.1 + p.2) % 2 ^ 32

/-- The blocks of a padded message, by a count of blocks. -/
def shaBlocks : Nat → List Nat → List Byte → List Nat
  | 0, hv, _ => hv
  | n + 1, hv, bs => shaBlocks n (shaBlock hv (bs.take 64)) (bs.drop 64)

/-- Big-endian bytes of `v` in `n` bytes. -/
def beBytes (n v : Nat) : List Byte := (leBytes n v).reverse

/-- The SHA-256 digest, 32 bytes. -/
def sha256 (bs : List Byte) : List Byte :=
  let pad := (55 - (bs.length : Int)) % 64
  let m := bs ++ [0x80#8] ++ List.replicate pad.toNat 0#8 ++ beBytes 8 (bs.length * 8)
  (shaBlocks (m.length / 64) shaH m).flatMap (beBytes 4)

end Sys2Proof.Crc
end

