-- ==== Sys2Proof/Machine/F32.lean ====
section
/-!
DEFINITION. Sys2Proof/Machine/F32.lean: binary32 arithmetic as Treadle does it (R44, R110, R111): round to nearest, ties to
even, subnormal operands and results flushed to zero; an overflow, a division by zero or an operand that is no finite number
is a floating-point exception, answered as none. DEDUCED(5) for the sign of zero results.
-/
namespace Sys2Proof.F32

/-- The sign bit. -/
def neg (x : F32) : Bool := x.toNat / 2 ^ 31 == 1

/-- The exponent field. -/
def expo (x : F32) : Nat := x.toNat / 2 ^ 23 % 256

/-- The fraction field. -/
def frac (x : F32) : Nat := x.toNat % 2 ^ 23

/-- The value is a finite number (R44: neither infinity nor NaN). -/
def finite (x : F32) : Bool := expo x != 255

/-- A value taken as it stands by an operation (R111): subnormals are flushed to zero, and a NaN or an infinity is no result. -/
def settled (x : F32) : Option F32 :=
  if !finite x then none else if expo x == 0 then some (if 2 ^ 31 ≤ x.toNat then 0x80000000#32 else 0#32) else some x

/-- A zero of the given sign. -/
def zero (n : Bool) : F32 := if n then 0x80000000#32 else 0#32

/-- The value as `m × 2^e`; a subnormal counts as zero, and infinity and NaN have no value. -/
def toDy (x : F32) : Option (Int × Int) :=
  if expo x == 255 then none
  else if expo x == 0 then some (0, 0)
  else
    let m : Int := (2 ^ 23 + frac x : Nat)
    some (if neg x then -m else m, (expo x : Int) - 150)

/-- The mantissa rounded to 24 bits, ties to even, and the bits shifted out: from `n ≠ 0`. -/
def round24 (n : Nat) : Nat × Int :=
  let l := n.log2 + 1
  if l ≤ 24 then (n * 2 ^ (24 - l), (l : Int) - 24)
  else
    let sh := l - 24
    let q := n / 2 ^ sh
    let r := n % 2 ^ sh
    let half := 2 ^ (sh - 1)
    let q' := if half < r || (r == half && q % 2 == 1) then q + 1 else q
    if q' == 2 ^ 24 then (2 ^ 23, (sh : Int) + 1) else (q', (sh : Int))

/-- Pack `±n × 2^e`, rounded; none on overflow. `n = 0` gives the zero of the sign. -/
def pack (sgn : Bool) (n : Nat) (e : Int) : Option F32 :=
  if n == 0 then some (zero sgn)
  else
    let (m, sh) := round24 n
    let ex := e + sh + 150
    if 255 ≤ ex then none
    else if ex ≤ 0 then some (zero sgn)
    else some (BitVec.ofNat 32 ((if sgn then 2 ^ 31 else 0) + ex.toNat * 2 ^ 23 + (m - 2 ^ 23)))

/-- Pack an exact value `m × 2^e`; an exact zero is +0. -/
def ofDy (m e : Int) : Option F32 := pack (m < 0) m.natAbs e

/-- The sum of two values `m × 2^e`. -/
def dyAdd (a b : Int × Int) : Int × Int :=
  let e := min a.2 b.2
  (a.1 * 2 ^ (a.2 - e).toNat + b.1 * 2 ^ (b.2 - e).toNat, e)

/-- The product of two values `m × 2^e`. -/
def dyMul (a b : Int × Int) : Int × Int := (a.1 * b.1, a.2 + b.2)

/-- Sum of two zeros: negative only when both are. -/
def zeroSum (x y : F32) (r : Option F32) : Option F32 :=
  if r == some (zero false) && neg x && neg y then some (zero true) else r

/-- x + y. -/
def add (x y : F32) : Option F32 := do
  let a ← toDy x
  let b ← toDy y
  let s := dyAdd a b
  if s.1 == 0 then (if a.1 == 0 && b.1 == 0 && neg x && neg y then some (zero true) else some (zero false))
  else ofDy s.1 s.2

/-- −x: the sign bit inverted. -/
def negate (x : F32) : F32 := x ^^^ 0x80000000#32

/-- |x|: the sign bit cleared. -/
def abs (x : F32) : F32 := x &&& 0x7FFFFFFF#32

/-- x − y. -/
def sub (x y : F32) : Option F32 := add x (negate y)

/-- x × y. -/
def mul (x y : F32) : Option F32 := do
  let a ← toDy x
  let b ← toDy y
  let p := dyMul a b
  pack (neg x != neg y) p.1.natAbs p.2

/-- x × y + z with one rounding. -/
def fma (x y z : F32) : Option F32 := do
  let a ← toDy x
  let b ← toDy y
  let c ← toDy z
  let p := dyMul a b
  let s := dyAdd p c
  if s.1 == 0 then
    (if p.1 == 0 && c.1 == 0 && (neg x != neg y) && neg z then some (zero true) else some (zero false))
  else ofDy s.1 s.2

/-- x ÷ y; a division by zero is an exception. -/
def div (x y : F32) : Option F32 := do
  let a ← toDy x
  let b ← toDy y
  if b.1 == 0 then none
  else
    let num := a.1.natAbs * 2 ^ 50
    let q := num / b.1.natAbs
    let r := num % b.1.natAbs
    pack (neg x != neg y) (2 * q + (if r == 0 then 0 else 1)) (a.2 - b.2 - 51)

/-- The sign of x − y: −1, 0 or 1. -/
def cmp (x y : F32) : Option Int := do
  let a ← toDy x
  let b ← toDy y
  let s := dyAdd a (-b.1, b.2)
  pure (if s.1 < 0 then -1 else if s.1 == 0 then 0 else 1)

/-- x < y; false where a value is no finite number. -/
def lt (x y : F32) : Bool := cmp x y == some (-1)

/-- x ≤ y; false where a value is no finite number. -/
def le (x y : F32) : Bool := cmp x y == some (-1) || cmp x y == some 0

/-- The smaller of two values. -/
def min (x y : F32) : F32 := if lt y x then y else x

/-- The larger of two values. -/
def max (x y : F32) : F32 := if lt x y then y else x

/-- An integer as binary32. -/
def ofInt (i : Int) : Option F32 := ofDy i 0

/-- An integer as binary32 where it cannot overflow. -/
def ofInt! (i : Int) : F32 := (ofInt i).getD 0

/-- The quotient of two integers as binary32, rounded once. -/
def ofRat (n : Int) (d : Nat) : F32 :=
  if d == 0 then 0
  else
    let num := n.natAbs * 2 ^ 80
    ((pack (n < 0) (2 * (num / d) + (if num % d == 0 then 0 else 1)) (-81)).getD 0)

/-- `⌊m × 2^e⌋`. -/
def dyFloor (a : Int × Int) : Int := if 0 ≤ a.2 then a.1 * 2 ^ a.2.toNat else a.1.fdiv (2 ^ (-a.2).toNat)

/-- The nearest integer, ties away from zero. -/
def roundAway (x : F32) : Option Int := do
  let a ← toDy x
  let r := dyFloor (dyAdd (a.1.natAbs, a.2) (1, -1))
  pure (if a.1 < 0 then -r else r)

/-- The integer part, toward zero. -/
def trunc (x : F32) : Option Int := do
  let a ← toDy x
  let r := dyFloor (a.1.natAbs, a.2)
  pure (if a.1 < 0 then -r else r)

/-- The nearest integer, ties to even. -/
def roundEven (x : F32) : Option Int := do
  let a ← toDy x
  let f := dyFloor a
  let d := dyAdd a (-f, 0)
  let twice := dyAdd (2 * d.1, d.2) (-1, 0)
  pure (if twice.1 < 0 then f else if 0 < twice.1 then f + 1 else if f % 2 == 0 then f else f + 1)

end Sys2Proof.F32
end

