-- ==== Sys2Proof/Machine/ObjKeys.lean ====
section
/-!
DEFINITION. Sys2Proof/Machine/ObjKeys.lean: a name for each object of the dictionary, as its key: index × 256 + sub-index.
An object that repeats over channels or sub-indices has the key of its first one.
-/
namespace Sys2Proof.Machine.Obj

abbrev STRAP_ROLE : Nat := 0x200001
abbrev EXPECTED_ROLE : Nat := 0x200002
abbrev STATION_MEMBER : Nat := 0x200003
abbrev LEVEL : Nat := 0x200101
abbrev INDEX : Nat := 0x200102
abbrev ADDRESS : Nat := 0x200103
abbrev A_PARENT : Nat := 0x200201
abbrev B_PARENT : Nat := 0x200202
abbrev PRIMARY : Nat := 0x200203
abbrev PARENT_STATUS : Nat := 0x200204
abbrev REVERT_TIME : Nat := 0x200205
abbrev CHILD_DN0 : Nat := 0x200301
abbrev ARM_DEPTH : Nat := 0x201001
abbrev LAST_LEVEL_COUNT : Nat := 0x201002
abbrev POPULATION : Nat := 0x201003
abbrev ARM_LEVEL : Nat := 0x201101
abbrev ARM_COUNT : Nat := 0x201102
abbrev NODE_STATE : Nat := 0x202001
abbrev HOLD_COUNT : Nat := 0x202002
abbrev ORPHAN : Nat := 0x202003
abbrev MAINT_RELEASE : Nat := 0x202004
abbrev NODE_COMMAND : Nat := 0x202101
abbrev BYPASS_COMMAND : Nat := 0x202102
abbrev RPD_ENABLE : Nat := 0x600001
abbrev RPD_SOURCE : Nat := 0x600002
abbrev RPD_EXPECT : Nat := 0x600003
abbrev RPD_STATUS : Nat := 0x600004
abbrev RPD_MAP_COUNT : Nat := 0x620000
abbrev RPD_MAP : Nat := 0x620001
abbrev TPD_ENABLE : Nat := 0x640001
abbrev TPD_DEST : Nat := 0x640002
abbrev TPD_PERIOD : Nat := 0x640003
abbrev TPD_PHASE : Nat := 0x640004
abbrev TPD_MAP_COUNT : Nat := 0x660000
abbrev TPD_MAP : Nat := 0x660001
abbrev DEVICE_TYPE : Nat := 0x100001
abbrev PART_NUMBER : Nat := 0x100101
abbrev PRODUCT_NAME : Nat := 0x100102
abbrev SILICON_REV : Nat := 0x100103
abbrev SERIAL : Nat := 0x100104
abbrev FW_VERSION : Nat := 0x100201
abbrev FW_SLOT : Nat := 0x100202
abbrev FW_DIGEST : Nat := 0x100203
abbrev DICT_VERSION : Nat := 0x100301
abbrev RESET_PENDING : Nat := 0x101001
abbrev RESTORE_DEFAULTS : Nat := 0x101101
abbrev RESET_REQUEST : Nat := 0x101201
abbrev IMAGE_STAGE : Nat := 0x102001
abbrev IMAGE_ACTIVATE : Nat := 0x102002
abbrev DEVICE_PUBKEY : Nat := 0x110001
abbrev DEVICE_CERT : Nat := 0x110002
abbrev OP_CERT : Nat := 0x110101
abbrev OP_CERT_STATUS : Nat := 0x110102
abbrev SERVICE_PORT : Nat := 0x120001
abbrev IPV4_ADDRESS : Nat := 0x120002
abbrev IPV4_NETMASK : Nat := 0x120003
abbrev IPV4_GATEWAY : Nat := 0x120004
abbrev MAX_SESSIONS : Nat := 0x120101
abbrev IDLE_TIMEOUT : Nat := 0x120102
abbrev SESSIONS_OPEN : Nat := 0x120103
abbrev ROLE_MAP : Nat := 0x130001
abbrev REFUSED_COUNT : Nat := 0x140001
abbrev LAST_REFUSAL : Nat := 0x140002
abbrev TID_REPLAYS : Nat := 0x140003
abbrev TRANSFER_TIMEOUT : Nat := 0x140101
abbrev WEFT_PERIOD : Nat := 0x300001
abbrev LEAD : Nat := 0x300002
abbrev FIBRE_EXTRA : Nat := 0x300003
abbrev BRIDGE : Nat := 0x300101
abbrev SENSOR_SLOT : Nat := 0x300102
abbrev WIN_MODE : Nat := 0x300201
abbrev WIN_BASE : Nat := 0x300202
abbrev WIN_SHIFT : Nat := 0x300203
abbrev WIN_MARGIN : Nat := 0x300204
abbrev RET_BIAS : Nat := 0x300205
abbrev DIR_DEADBAND : Nat := 0x300301
abbrev ADOPT_CYCLES : Nat := 0x300302
abbrev ADJ_LIMIT : Nat := 0x300303
abbrev ADJ : Nat := 0x300304
abbrev REBASE : Nat := 0x300305
abbrev STALL_LIMIT : Nat := 0x300306
abbrev SENS_DIFF : Nat := 0x300307
abbrev CYCLE : Nat := 0x301001
abbrev LAST_C : Nat := 0x301002
abbrev LAST_E : Nat := 0x301003
abbrev LAST_N : Nat := 0x301004
abbrev LAST_BBIN : Nat := 0x301005
abbrev LAST_ALLOC : Nat := 0x301006
abbrev LAST_FLAGS : Nat := 0x301007
abbrev LAST_VMIN : Nat := 0x301008
abbrev LAST_VMAX : Nat := 0x301009
abbrev LAST_CURRENT : Nat := 0x30100A
abbrev WINDOW : Nat := 0x30100B
abbrev KEEPS : Nat := 0x302001
abbrev WEFT_COUNTER_CLEAR : Nat := 0x302009
abbrev RUN_MODE : Nat := 0x340001
abbrev PROGRAM : Nat := 0x340002
abbrev PROGRAM_ACTIVATE : Nat := 0x340003
abbrev PROGRAM_DIGEST : Nat := 0x340004
abbrev FAST_PATH : Nat := 0x340005
abbrev SLOW_PATH : Nat := 0x340006
abbrev VCORE_MIN : Nat := 0x340007
abbrev STATION_CYCLE : Nat := 0x340102
abbrev CUR_SIGN : Nat := 0x341001
abbrev HYST_H : Nat := 0x341002
abbrev DELTA_I : Nat := 0x341003
abbrev STEP_MAX : Nat := 0x341004
abbrev H_LIMIT : Nat := 0x341005
abbrev N_MIN : Nat := 0x341006
abbrev N_MAX : Nat := 0x341007
abbrev N_SLEW : Nat := 0x341008
abbrev IREF_SRC0 : Nat := 0x341009
abbrev UFF_SRC0 : Nat := 0x34100D
abbrev N_OUT : Nat := 0x341011
abbrev H_INDEX : Nat := 0x341012
abbrev I_REF : Nat := 0x341013
abbrev U_FF : Nat := 0x341014
abbrev CUR_LOST_LIMIT : Nat := 0x341015
abbrev REFIN0 : Nat := 0x343001
abbrev REFIN_FALLBACK0 : Nat := 0x343101
abbrev REFIN_FB_RATE0 : Nat := 0x343201
abbrev PI_MODE : Nat := 0x344001
abbrev KP : Nat := 0x344002
abbrev KI : Nat := 0x344003
abbrev UMIN : Nat := 0x344004
abbrev UMAX : Nat := 0x344005
abbrev IMIN : Nat := 0x344006
abbrev IMAX : Nat := 0x344007
abbrev REF_SRC : Nat := 0x344008
abbrev PI_MEAS_SRC : Nat := 0x344009
abbrev FF_SRC : Nat := 0x34400A
abbrev DIV : Nat := 0x34400B
abbrev MANUAL_VALUE : Nat := 0x34400C
abbrev MAN_TRACK : Nat := 0x34400D
abbrev PI_OUTPUT : Nat := 0x34400E
abbrev INTEGRATOR : Nat := 0x34400F
abbrev TARGET : Nat := 0x346001
abbrev TARGET_SRC : Nat := 0x346002
abbrev RATE : Nat := 0x346003
abbrev RAMP_MEAS_SRC : Nat := 0x346004
abbrev START_MODE : Nat := 0x346005
abbrev RAMP_OUTPUT : Nat := 0x346006
abbrev STATE : Nat := 0x346007
abbrev FILT_TAU : Nat := 0x348001
abbrev M_REF : Nat := 0x348002
abbrev V_NOM : Nat := 0x348003
abbrev V_AVG : Nat := 0x348004
abbrev I_ARM : Nat := 0x348005
abbrev BAL_GAIN : Nat := 0x348006
abbrev D_MIN : Nat := 0x348007
abbrev D_MAX : Nat := 0x348008
abbrev V_FILT : Nat := 0x348009
abbrev DUTY : Nat := 0x34800A
abbrev TRDL_OVERRUNS : Nat := 0x34A001
abbrev REF_HOLD : Nat := 0x34A004
abbrev TRDL_COUNTER_CLEAR : Nat := 0x34A005
abbrev XOUT_SRC0 : Nat := 0x34B001
abbrev GATE_MODE : Nat := 0x380001
abbrev COUPLED : Nat := 0x380002
abbrev DEADTIME : Nat := 0x380101
abbrev EDGE_OFS : Nat := 0x380102
abbrev ZERO_LEGS : Nat := 0x380103
abbrev MIN_PULSE : Nat := 0x380104
abbrev GATE_PERIOD : Nat := 0x380201
abbrev PHASE : Nat := 0x380202
abbrev PHASE_AUTO : Nat := 0x380203
abbrev ALIGN : Nat := 0x380204
abbrev CMPT0 : Nat := 0x380301
abbrev FLT_CFG0 : Nat := 0x380401
abbrev FLT_FILT0 : Nat := 0x380501
abbrev FLT_CLEAR : Nat := 0x380601
abbrev FLT_LATCHED : Nat := 0x380602
abbrev GO_POL : Nat := 0x380701
abbrev GO4_MODE : Nat := 0x380702
abbrev BYP_PULSE_W : Nat := 0x380703
abbrev BYP_PULSE_P : Nat := 0x380704
abbrev AUX_SRC : Nat := 0x380705
abbrev AUX_LEVEL : Nat := 0x380706
abbrev CAL_PERIOD : Nat := 0x380801
abbrev CAL_SPAN : Nat := 0x380802
abbrev OUT_STATE : Nat := 0x381101
abbrev MISMATCHES : Nat := 0x381001
abbrev GATE_COUNTER_CLEAR : Nat := 0x381008
abbrev REF_EN : Nat := 0x3C0001
abbrev REF_READY : Nat := 0x3C0002
abbrev CAL_STATUS : Nat := 0x3C0003
abbrev CAL_START : Nat := 0x3C0004
abbrev OFS_CAL_PERIOD : Nat := 0x3C0005
abbrev ENABLE : Nat := 0x3C1001
abbrev LEN : Nat := 0x3C1002
abbrev CONS : Nat := 0x3C1003
abbrev ENTRY0 : Nat := 0x3C2001
abbrev VCAP_FS : Nat := 0x3C3001
abbrev VCAP_OFS : Nat := 0x3C3002
abbrev VCAP_CODE : Nat := 0x3C3003
abbrev ISENS_FS : Nat := 0x3C3101
abbrev ISENS_OFS : Nat := 0x3C3102
abbrev ISENS_CODE : Nat := 0x3C3103
abbrev ISENS_STATUS : Nat := 0x3C3104
abbrev RESULT0 : Nat := 0x3C4001
abbrev ADC_OVERRUNS : Nat := 0x3C5001
abbrev ADC_COUNTER_CLEAR : Nat := 0x3C5005
abbrev WC_STATE : Nat := 0x3C6001
abbrev PORT_ENABLE : Nat := 0x400001
abbrev HOLDOFF : Nat := 0x400002
abbrev ERR_LIMIT : Nat := 0x400003
abbrev DELAY_INTERVAL : Nat := 0x400004
abbrev AGING : Nat := 0x400005
abbrev DIAG_INTERVAL : Nat := 0x400006
abbrev LINK_STATE : Nat := 0x401001
abbrev PEER_ADDRESS : Nat := 0x401002
abbrev PEER_PORT : Nat := 0x401003
abbrev DELAY : Nat := 0x401004
abbrev ASYM : Nat := 0x401005
abbrev CRCERR : Nat := 0x401006
abbrev OUTLIERS : Nat := 0x40100E
abbrev UTIL : Nat := 0x40100F
abbrev XCVR_PRESENT : Nat := 0x402001
abbrev XCVR_TEMP : Nat := 0x402002
abbrev XCVR_VCC : Nat := 0x402003
abbrev XCVR_BIAS : Nat := 0x402004
abbrev XCVR_TXPWR : Nat := 0x402005
abbrev XCVR_RXPWR : Nat := 0x402006
abbrev XCVR_FLAGS : Nat := 0x402007
abbrev XCVR_VENDOR : Nat := 0x402008
abbrev BLK_STATE : Nat := 0x403001
abbrev BLK_COUNT : Nat := 0x403002
abbrev MAC_ADDRESS : Nat := 0x410001
abbrev LAN_STATE : Nat := 0x410002
abbrev PRP_SUP_INTERVAL : Nat := 0x410003
abbrev VLAN_ID : Nat := 0x410004
abbrev VLAN_PRIO : Nat := 0x410005
abbrev PRP_DUPLICATES : Nat := 0x410006
abbrev GP_ENABLE : Nat := 0x420001
abbrev GP_DST_MAC : Nat := 0x420002
abbrev GP_APPID : Nat := 0x420003
abbrev GP_GOCB_REF : Nat := 0x420004
abbrev GP_DATSET : Nat := 0x420005
abbrev GP_GO_ID : Nat := 0x420006
abbrev GP_MIN_T : Nat := 0x420007
abbrev GP_MAX_T : Nat := 0x420008
abbrev GP_CONF_REV : Nat := 0x420009
abbrev GP_COUNT : Nat := 0x42000A
abbrev GP_MEMBER : Nat := 0x42000B
abbrev GS_ENABLE : Nat := 0x422001
abbrev GS_SRC_MAC : Nat := 0x422002
abbrev GS_APPID : Nat := 0x422003
abbrev GS_GOCB_REF : Nat := 0x422004
abbrev GS_CONF_REV : Nat := 0x422005
abbrev GS_COUNT : Nat := 0x422006
abbrev GS_TARGET : Nat := 0x422007
abbrev GS_STATUS : Nat := 0x422027
abbrev SV_ENABLE : Nat := 0x424001
abbrev SV_SRC_MAC : Nat := 0x424002
abbrev SV_APPID : Nat := 0x424003
abbrev SV_ID : Nat := 0x424004
abbrev SV_SPC : Nat := 0x424005
abbrev SV_FNOM : Nat := 0x424006
abbrev SV_STATUS : Nat := 0x424007
abbrev SV_MISSED : Nat := 0x424008
abbrev RING_ADDR : Nat := 0x424009
abbrev NOROUTE : Nat := 0x430001
abbrev LINK_COUNTER_CLEAR : Nat := 0x430005
abbrev CU_MODE : Nat := 0x5C0001
abbrev CU_WIDTH : Nat := 0x5C0002
abbrev CU_POLY : Nat := 0x5C0003
abbrev CU_INIT : Nat := 0x5C0004
abbrev CU_XOROUT : Nat := 0x5C0005
abbrev CU_REFLECT : Nat := 0x5C0006
abbrev CU_BIND : Nat := 0x5C0007
abbrev CU_FAILS : Nat := 0x5C0008
abbrev CU_COUNTER_CLEAR : Nat := 0x5C0401
abbrev TIME_STATE : Nat := 0x440001
abbrev NETWORK_TIME : Nat := 0x440002
abbrev THETA : Nat := 0x440003
abbrev RATE_PPB : Nat := 0x440004
abbrev SOURCE : Nat := 0x440005
abbrev TIME_DEPTH : Nat := 0x440006
abbrev SYNC_INTERVAL : Nat := 0x440101
abbrev LOCK_LIMIT : Nat := 0x440102
abbrev ALIGN_LIMIT : Nat := 0x440103
abbrev STEP_THRESHOLD : Nat := 0x440104
abbrev SERVO_KP : Nat := 0x440105
abbrev SERVO_KI : Nat := 0x440106
abbrev STEP_QUANTUM : Nat := 0x440201
abbrev STEP_NOTICE : Nat := 0x440202
abbrev SLEW_MAX : Nat := 0x440203
abbrev TIME_SET : Nat := 0x440205
abbrev LAST_STEP : Nat := 0x440206
abbrev PENDING_STEP : Nat := 0x440207
abbrev PTP_ENABLE : Nat := 0x441001
abbrev DOMAIN : Nat := 0x441002
abbrev PRIORITY1 : Nat := 0x441003
abbrev PRIORITY2 : Nat := 0x441004
abbrev SLAVE_ONLY : Nat := 0x441005
abbrev TWO_STEP : Nat := 0x441006
abbrev CLOCK_IDENTITY : Nat := 0x441007
abbrev PTP_LOCK : Nat := 0x441008
abbrev GM_IDENTITY : Nat := 0x441009
abbrev PTP_PORT : Nat := 0x44100A
abbrev UTC_OFFSET : Nat := 0x44100B
abbrev PTP_OFFSET : Nat := 0x44100C
abbrev PDELAY_A : Nat := 0x44100D
abbrev TPO_MODE : Nat := 0x442001
abbrev TPO_START : Nat := 0x442002
abbrev TPO_PERIOD : Nat := 0x442003
abbrev TPO_WIDTH : Nat := 0x442004
abbrev TPO_POL : Nat := 0x442005
abbrev TPO_FREE : Nat := 0x442006
abbrev TSI_EDGE : Nat := 0x443001
abbrev TSI_LAST : Nat := 0x443002
abbrev TSI_CAPTURES : Nat := 0x443003
abbrev TSI_OVERFLOWS : Nat := 0x443004
abbrev STEPS : Nat := 0x444001
abbrev TB_COUNTER_CLEAR : Nat := 0x444005
abbrev GRAPH : Nat := 0x480001
abbrev GRAPH_ACTIVATE : Nat := 0x480002
abbrev GRAPH_DIGEST : Nat := 0x480003
abbrev GRAPH_OPS : Nat := 0x480004
abbrev GRAPH_ARCS : Nat := 0x480005
abbrev SYS_OPS : Nat := 0x480006
abbrev GRAPH_STATE : Nat := 0x480007
abbrev DLY_TICK0 : Nat := 0x480101
abbrev LOAD_WINDOW : Nat := 0x480201
abbrev HDL_SCRUB_PERIOD : Nat := 0x480202
abbrev QDEPTH0 : Nat := 0x480301
abbrev CORE_LOAD0 : Nat := 0x480401
abbrev OPWAIT_CURSOR : Nat := 0x480501
abbrev OPWAIT : Nat := 0x480502
abbrev DLY_FILL0 : Nat := 0x480601
abbrev MEM_CE : Nat := 0x481001
abbrev MEM_UE : Nat := 0x481002
abbrev MEM_UE_ADDR : Nat := 0x481003
abbrev MEM_SCRUB_LAST : Nat := 0x481004
abbrev DISPATCHES : Nat := 0x482001
abbrev HDL_COUNTER_CLEAR : Nat := 0x482009
abbrev EC_SOURCE : Nat := 0x580001
abbrev EC_MODE : Nat := 0x580002
abbrev EC_WSTART : Nat := 0x580003
abbrev EC_WPERIOD : Nat := 0x580004
abbrev EC_WLENGTH : Nat := 0x580005
abbrev EC_VALUE : Nat := 0x580006
abbrev EC_CAPTURE : Nat := 0x580007
abbrev EC_FENCE_VALUE : Nat := 0x580008
abbrev EC_FENCE_ID : Nat := 0x580009
abbrev EC_CLEAR : Nat := 0x581001
abbrev PAIR_STATE : Nat := 0x4C0001
abbrev HEALTH : Nat := 0x4C0002
abbrev PARTNER_STATE : Nat := 0x4C0003
abbrev PAIR_EPOCH : Nat := 0x4C0004
abbrev APPLIED_JSN : Nat := 0x4C0101
abbrev HEAD_JSN : Nat := 0x4C0102
abbrev TRIM_JSN : Nat := 0x4C0103
abbrev JOURNAL_BYTES : Nat := 0x4C0104
abbrev FENCE : Nat := 0x4C0201
abbrev LAST_FENCE : Nat := 0x4C0202
abbrev LAST_FENCE_JSN : Nat := 0x4C0203
abbrev SWITCHOVER : Nat := 0x4C0301
abbrev RESYNC_START : Nat := 0x4C0302
abbrev AUTO_RESYNC : Nat := 0x4C0401
abbrev PAIR_WAIT : Nat := 0x4C0402
abbrev HEAD_INTERVAL : Nat := 0x4C0403
abbrev RETAIN_TIME : Nat := 0x4C0404
abbrev MIRROR_VARS : Nat := 0x4C0405
abbrev VERIFY_CYCLES : Nat := 0x4C0406
abbrev RESYNC_SHARE : Nat := 0x4C0407
abbrev APPLY_MARGIN : Nat := 0x4C0408
abbrev SWITCHES : Nat := 0x4C1001
abbrev JRN_COUNTER_CLEAR : Nat := 0x4C1009
abbrev LAST_SWITCH_CAUSE : Nat := 0x4C2001
abbrev LAST_SWITCH_TIME : Nat := 0x4C2002
abbrev LAST_RESYNC_MS : Nat := 0x4C2003
abbrev SNAPSHOT_BYTES : Nat := 0x4C2004
abbrev TARGET_CURSOR : Nat := 0x4C3001
abbrev TARGET_TABLE : Nat := 0x4C3002
abbrev SAFE_STATE : Nat := 0x500001
abbrev CHANNELS : Nat := 0x500002
abbrev SPB_CAUSES : Nat := 0x500003
abbrev SBY_CAUSE : Nat := 0x500004
abbrev DEG_ELAPSED : Nat := 0x500005
abbrev SAFETY_FW_DIGEST : Nat := 0x500006
abbrev SEAL_SET : Nat := 0x500007
abbrev SCV : Nat := 0x500101
abbrev SCV_CONFIRM : Nat := 0x500102
abbrev SCV_STATE : Nat := 0x500103
abbrev SCV_CONFIRMED : Nat := 0x500104
abbrev SCV_CONFIRM_TIME : Nat := 0x500105
abbrev SPS_IMAGE : Nat := 0x500106
abbrev SIN_MODE : Nat := 0x501001
abbrev SIN_FILT_B : Nat := 0x501002
abbrev SIN_DISC : Nat := 0x501003
abbrev SIN_FWD : Nat := 0x501004
abbrev WC_LOW : Nat := 0x501501
abbrev WC_HIGH : Nat := 0x501502
abbrev WC_USE : Nat := 0x501503
abbrev WC_FILT : Nat := 0x501504
abbrev TEXP : Nat := 0x501201
abbrev SF_PERIOD : Nat := 0x501202
abbrev OFFPULSE_EN : Nat := 0x501301
abbrev SDI_TIME : Nat := 0x501401
abbrev DEG_HOURS : Nat := 0x502001
abbrev DEG_CLEAR : Nat := 0x502002
abbrev SAFETY_TEST : Nat := 0x503001
abbrev DNM_WAIVE : Nat := 0x503002
abbrev CONN_STATE : Nat := 0x503101
abbrev CONN_ID_EXP : Nat := 0x503102
abbrev REFUSED : Nat := 0x504001
abbrev SEL_COUNTER_CLEAR : Nat := 0x504005
abbrev REC_NEXT_RSN : Nat := 0x540001
abbrev REC_FIRST_RSN : Nat := 0x540002
abbrev OPT : Nat := 0x540003
abbrev PCC : Nat := 0x540004
abbrev MEDIA_FAULT : Nat := 0x540005
abbrev REC_STREAM : Nat := 0x540101
abbrev REC_CURSOR : Nat := 0x540102
abbrev REC_WINDOW : Nat := 0x540103
abbrev REC_CLEAR : Nat := 0x540104
abbrev REC_NEXT_ARN : Nat := 0x540105
abbrev DEN_IMAGE : Nat := 0x540201
abbrev DEN_CLOSED : Nat := 0x540202
abbrev MEDIA_SERVICE : Nat := 0x541001
abbrev BOB_FORMAT : Nat := 0x541002
abbrev BOB_STATE : Nat := 0x541003
abbrev PART_SIZE_FW_A : Nat := 0x541101
abbrev PART_USED_FW_A : Nat := 0x541201
abbrev BOB_SCRUB_PERIOD : Nat := 0x541301
abbrev REFRESH_THRESHOLD : Nat := 0x541302
abbrev WL_DELTA : Nat := 0x541303
abbrev XSPI_FREQ : Nat := 0x541304
abbrev SPARE_LEFT : Nat := 0x541401
abbrev ERASE_MAX : Nat := 0x541402
abbrev ERASE_AVG : Nat := 0x541403
abbrev REC_SCRUB_LAST : Nat := 0x541404
abbrev FLUSH_US : Nat := 0x541405
abbrev USER_FILE : Nat := 0x541501
abbrev DICT_IMAGE : Nat := 0x541502
abbrev RECORDS : Nat := 0x542001
abbrev REC_COUNTER_CLEAR : Nat := 0x542009
abbrev CORRSECT : Nat := 0x542101
abbrev BOB_COUNTER_CLEAR : Nat := 0x542109
abbrev IMAGE_STATUS : Nat := 0x102003
abbrev SLOT_A_VERSION : Nat := 0x102004
abbrev BOOT_TRIALS : Nat := 0x102006
abbrev MIN_SVN : Nat := 0x102007
abbrev OP_ROOT : Nat := 0x110103
abbrev OP_CERT_REASON : Nat := 0x110104
abbrev CSR : Nat := 0x110201
abbrev PEER_POLICY : Nat := 0x110301
abbrev PEER_REJECTS : Nat := 0x110302
abbrev VCORE : Nat := 0x150001
abbrev VCORE_NOW : Nat := 0x150002
abbrev VIN_NOW : Nat := 0x150003
abbrev VDDA_NOW : Nat := 0x150004
abbrev TJ : Nat := 0x150005
abbrev PFAIL_USED : Nat := 0x150101
abbrev PFAIL_COUNT : Nat := 0x150102
abbrev RESET_CAUSE : Nat := 0x150201
abbrev WDOG_TIMEOUT : Nat := 0x150202
abbrev WARM_RESETS : Nat := 0x150203
abbrev SYS_COUNTER_CLEAR : Nat := 0x150204
abbrev HIBERNATE : Nat := 0x150301
abbrev JTAG_STATE : Nat := 0x150401
abbrev JTAG_LOCK : Nat := 0x150402
abbrev JTAG_IDCODE : Nat := 0x150403
abbrev KEEP_IMAGE : Nat := 0x150501

end Sys2Proof.Machine.Obj
end

