-- ==== Sys2Proof/Machine/ObjTable.lean ====
section
/-!
DEFINITION. Sys2Proof/Machine/ObjTable.lean: the object dictionary's table (R40, R75 to R77, R108, R138, R168, R195, R243,
R244, R272, R305, R306, R343, R383, R414, R442 and the object tables of chapters 01 to 13), row by row as the manual prints
it: index, sub-index, type, access class, default, persistence, the roles the Description names, and the value range.
-/
namespace Sys2Proof.Machine

/-- The value types of R44; a size in bytes follows `u`, `i`, `octets` and `string`. -/
inductive OType where
  | bool | u (n : Nat) | i (n : Nat) | f32 | nt96 | octets (n : Nat) | string (n : Nat)
  deriving DecidableEq, Repr

/-- The access classes of R45. -/
inductive OAccess where
  | ro | rw | wo | rwc | rws | rx
  deriving DecidableEq, Repr

/-- The Persist column of R48; `fixed` is the column's "—", a value the device holds or derives. -/
inductive OPersist where
  | vol | imm | nextReset | fixed
  deriving DecidableEq, Repr

/-- The range a Description states: none beyond the type, an integer range with a step, a binary32 range by its bit
patterns, a set of values, the target's own address, or a rule of another chapter. -/
inductive ORange where
  | any | int (lo hi : Int) (step : Nat) | f32 (lo hi : Nat) | oneOf (l : List Nat) | own | rule (n : Nat)
  deriving DecidableEq, Repr

/-- One row of an object table: `nIdx` consecutive indices and `nSub` consecutive sub-indices of one kind. `roles` has bit 0
for CELL, 1 for ARM, 2 for STATION and 3 for RELAY. -/
structure ObjRow where
  index : Nat
  nIdx : Nat
  sub : Nat
  nSub : Nat
  ty : OType
  acc : OAccess
  dflt : Nat
  persist : OPersist
  roles : Nat
  range : ORange
  deriving DecidableEq, Repr

/-- Object rows of chapter 01: role and topology. -/
def objRows01a : List ObjRow := [
  ⟨0x2000, 1, 0x01, 1, .u 1, .ro, 0, .vol, 15, .any⟩,
  ⟨0x2000, 1, 0x02, 1, .u 1, .rwc, 0xFF, .nextReset, 15, .oneOf [0, 1, 2, 3, 0xFF]⟩,
  ⟨0x2000, 1, 0x03, 1, .u 1, .rwc, 0, .nextReset, 4, .int 0 1 1⟩,
  ⟨0x2001, 1, 0x01, 1, .u 1, .ro, 0, .vol, 15, .any⟩,
  ⟨0x2001, 1, 0x02, 1, .u 2, .ro, 0, .vol, 15, .any⟩,
  ⟨0x2001, 1, 0x03, 1, .u 4, .ro, 0x7FFFF, .vol, 15, .any⟩,
  ⟨0x2002, 1, 0x01, 1, .u 4, .ro, 0x7FFFF, .vol, 15, .any⟩,
  ⟨0x2002, 1, 0x02, 1, .u 4, .ro, 0x7FFFF, .vol, 15, .any⟩,
  ⟨0x2002, 1, 0x03, 1, .u 1, .ro, 0, .vol, 15, .any⟩,
  ⟨0x2002, 1, 0x04, 1, .u 1, .ro, 0, .vol, 15, .any⟩,
  ⟨0x2002, 1, 0x05, 1, .u 2, .rwc, 1000, .imm, 15, .int 100 10000 1⟩,
  ⟨0x2003, 1, 0x01, 4, .u 4, .ro, 0x7FFFF, .vol, 15, .any⟩,
  ⟨0x2010, 1, 0x01, 1, .u 1, .rwc, 0, .nextReset, 2, .int 0 12 1⟩,
  ⟨0x2010, 1, 0x02, 1, .u 2, .rwc, 0, .nextReset, 2, .int 0 8192 1⟩,
  ⟨0x2010, 1, 0x03, 1, .u 2, .ro, 0, .vol, 15, .any⟩,
  ⟨0x2011, 1, 0x01, 1, .u 1, .rwc, 0, .nextReset, 14, .int 0 12 1⟩,
  ⟨0x2011, 1, 0x02, 1, .u 1, .rwc, 0, .nextReset, 15, .int 0 16 1⟩,
  ⟨0x2020, 1, 0x01, 1, .u 1, .ro, 1, .vol, 15, .any⟩,
  ⟨0x2020, 1, 0x02, 1, .u 1, .ro, 0, .vol, 15, .any⟩,
  ⟨0x2020, 1, 0x03, 1, .u 1, .ro, 0, .vol, 15, .any⟩,
  ⟨0x2020, 1, 0x04, 1, .u 4, .rwc, 0, .vol, 15, .own⟩,
  ⟨0x2021, 1, 0x01, 1, .u 1, .rw, 0, .vol, 15, .int 1 4 1⟩,
  ⟨0x2021, 1, 0x02, 1, .u 4, .rwc, 0, .vol, 15, .own⟩]

/-- Object rows of chapter 02: identity, communication, process data. -/
def objRows02a : List ObjRow := [
  ⟨0x6000, 8, 0x01, 1, .bool, .rwc, 0, .imm, 15, .any⟩,
  ⟨0x6000, 8, 0x02, 1, .u 4, .rwc, 0x7FFFF, .imm, 15, .any⟩,
  ⟨0x6000, 8, 0x03, 1, .u 2, .rwc, 4, .imm, 15, .int 1 1000 1⟩,
  ⟨0x6000, 8, 0x04, 1, .u 1, .ro, 0, .vol, 15, .any⟩,
  ⟨0x6200, 8, 0x00, 1, .u 1, .rwc, 0, .imm, 15, .int 0 32 1⟩,
  ⟨0x6200, 8, 0x01, 32, .u 4, .rwc, 0, .imm, 15, .any⟩,
  ⟨0x6400, 8, 0x01, 1, .bool, .rwc, 0, .imm, 15, .any⟩,
  ⟨0x6400, 8, 0x02, 1, .u 4, .rwc, 0x7FFFF, .imm, 15, .any⟩,
  ⟨0x6400, 8, 0x03, 1, .u 2, .rwc, 100, .imm, 15, .rule 75⟩,
  ⟨0x6400, 8, 0x04, 1, .u 2, .rwc, 0, .imm, 15, .any⟩,
  ⟨0x6600, 8, 0x00, 1, .u 1, .rwc, 0, .imm, 15, .int 0 32 1⟩,
  ⟨0x6600, 8, 0x01, 32, .u 4, .rwc, 0, .imm, 15, .any⟩,
  ⟨0x1000, 1, 0x01, 1, .u 4, .ro, 0x4B526208, .fixed, 15, .any⟩,
  ⟨0x1001, 1, 0x01, 1, .string 16, .ro, 0x383032362d4d524b, .fixed, 15, .any⟩,
  ⟨0x1001, 1, 0x02, 1, .string 16, .ro, 0x6c61726f4a, .fixed, 15, .any⟩,
  ⟨0x1001, 1, 0x03, 1, .u 1, .ro, 0, .fixed, 15, .any⟩,
  ⟨0x1001, 1, 0x04, 1, .u 8, .ro, 0, .fixed, 15, .any⟩,
  ⟨0x1002, 1, 0x01, 1, .u 4, .ro, 0, .fixed, 15, .any⟩,
  ⟨0x1002, 1, 0x02, 1, .u 1, .ro, 0, .fixed, 15, .any⟩,
  ⟨0x1002, 1, 0x03, 1, .octets 32, .ro, 0, .fixed, 15, .any⟩,
  ⟨0x1003, 1, 0x01, 1, .u 2, .ro, 0, .fixed, 15, .any⟩,
  ⟨0x1010, 1, 0x01, 1, .bool, .ro, 0, .vol, 15, .any⟩,
  ⟨0x1011, 1, 0x01, 1, .u 4, .rwc, 0, .vol, 15, .own⟩,
  ⟨0x1012, 1, 0x01, 1, .u 4, .rwc, 0, .vol, 15, .own⟩,
  ⟨0x1020, 1, 0x01, 1, .octets 67108864, .wo, 0, .imm, 15, .any⟩,
  ⟨0x1020, 1, 0x02, 1, .u 1, .rwc, 0, .nextReset, 15, .int 0 1 1⟩,
  ⟨0x1100, 1, 0x01, 1, .octets 32, .ro, 0, .fixed, 15, .any⟩,
  ⟨0x1100, 1, 0x02, 1, .octets 1024, .ro, 0, .fixed, 15, .any⟩,
  ⟨0x1101, 1, 0x01, 1, .octets 2048, .rwc, 0, .imm, 15, .any⟩,
  ⟨0x1101, 1, 0x02, 1, .u 1, .ro, 0, .vol, 15, .any⟩,
  ⟨0x1200, 1, 0x01, 1, .u 2, .ro, 34208, .fixed, 4, .any⟩,
  ⟨0x1200, 1, 0x02, 1, .u 4, .rwc, 0, .nextReset, 4, .any⟩,
  ⟨0x1200, 1, 0x03, 1, .u 4, .rwc, 0, .nextReset, 4, .any⟩,
  ⟨0x1200, 1, 0x04, 1, .u 4, .rwc, 0, .nextReset, 4, .any⟩,
  ⟨0x1201, 1, 0x01, 1, .u 1, .rwc, 8, .imm, 4, .int 1 8 1⟩,
  ⟨0x1201, 1, 0x02, 1, .u 2, .rwc, 600, .imm, 4, .int 60 3600 1⟩,
  ⟨0x1201, 1, 0x03, 1, .u 1, .ro, 0, .vol, 4, .any⟩,
  ⟨0x1300, 1, 0x01, 32, .octets 24, .rwc, 0, .imm, 4, .rule 58⟩,
  ⟨0x1400, 1, 0x01, 1, .u 4, .ro, 0, .vol, 15, .any⟩,
  ⟨0x1400, 1, 0x02, 1, .u 4, .ro, 0, .vol, 15, .any⟩]

/-- Object rows of chapter 02: identity, communication, process data. -/
def objRows02b : List ObjRow := [
  ⟨0x1400, 1, 0x03, 1, .u 4, .ro, 0, .vol, 4, .any⟩,
  ⟨0x1401, 1, 0x01, 1, .u 2, .rwc, 2000, .imm, 4, .int 500 30000 1⟩]

/-- Object rows of chapter 03: Weft. -/
def objRows03a : List ObjRow := [
  ⟨0x3000, 1, 0x01, 1, .u 4, .rwc, 10000, .nextReset, 2, .int 5000 100000 10⟩,
  ⟨0x3000, 1, 0x01, 1, .u 4, .ro, 0, .vol, 1, .any⟩,
  ⟨0x3000, 1, 0x02, 1, .u 4, .rwc, 0, .nextReset, 2, .int 0 4294967290 10⟩,
  ⟨0x3000, 1, 0x02, 1, .u 4, .ro, 0, .vol, 1, .any⟩,
  ⟨0x3000, 1, 0x03, 1, .u 2, .rwc, 0, .nextReset, 2, .int 0 1000 5⟩,
  ⟨0x3001, 1, 0x01, 1, .u 1, .rwc, 0, .nextReset, 3, .int 0 1 1⟩,
  ⟨0x3001, 1, 0x02, 1, .u 1, .rwc, 0, .imm, 1, .int 0 2 1⟩,
  ⟨0x3002, 1, 0x01, 1, .u 1, .rwc, 0, .imm, 2, .int 0 1 1⟩,
  ⟨0x3002, 1, 0x02, 1, .u 2, .rwc, 11000, .imm, 2, .any⟩,
  ⟨0x3002, 1, 0x03, 1, .u 1, .rwc, 5, .imm, 2, .int 0 9 1⟩,
  ⟨0x3002, 1, 0x04, 1, .u 2, .rwc, 200, .imm, 2, .int 0 4000 1⟩,
  ⟨0x3002, 1, 0x05, 1, .u 2, .rwc, 40, .imm, 2, .int 0 2000 1⟩,
  ⟨0x3003, 1, 0x01, 1, .u 2, .rwc, 40, .imm, 2, .int 0 4000 1⟩,
  ⟨0x3003, 1, 0x02, 1, .u 1, .rwc, 8, .imm, 2, .int 2 64 1⟩,
  ⟨0x3003, 1, 0x03, 1, .u 1, .rwc, 16, .imm, 2, .int 0 255 1⟩,
  ⟨0x3003, 1, 0x04, 1, .i 2, .ro, 0, .vol, 2, .any⟩,
  ⟨0x3003, 1, 0x05, 1, .u 4, .rwc, 0, .vol, 2, .own⟩,
  ⟨0x3003, 1, 0x06, 1, .u 2, .rwc, 64, .imm, 2, .int 8 1000 1⟩,
  ⟨0x3003, 1, 0x07, 1, .u 2, .rwc, 400, .imm, 2, .int 1 32767 1⟩,
  ⟨0x3010, 1, 0x01, 1, .u 8, .ro, 0, .vol, 15, .any⟩,
  ⟨0x3010, 1, 0x02, 1, .u 2, .ro, 0, .vol, 2, .any⟩,
  ⟨0x3010, 1, 0x03, 1, .u 2, .ro, 0, .vol, 2, .any⟩,
  ⟨0x3010, 1, 0x04, 1, .i 2, .ro, 0, .vol, 2, .any⟩,
  ⟨0x3010, 1, 0x05, 1, .u 1, .ro, 0, .vol, 15, .any⟩,
  ⟨0x3010, 1, 0x06, 1, .u 2, .ro, 0, .vol, 15, .any⟩,
  ⟨0x3010, 1, 0x07, 1, .u 1, .ro, 0, .vol, 15, .any⟩,
  ⟨0x3010, 1, 0x08, 1, .u 2, .ro, 0, .vol, 2, .any⟩,
  ⟨0x3010, 1, 0x09, 1, .u 2, .ro, 0, .vol, 2, .any⟩,
  ⟨0x3010, 1, 0x0A, 1, .i 2, .ro, 0, .vol, 2, .any⟩,
  ⟨0x3010, 1, 0x0B, 1, .u 4, .ro, 0, .vol, 15, .any⟩,
  ⟨0x3020, 1, 0x01, 8, .u 4, .ro, 0, .vol, 15, .any⟩,
  ⟨0x3020, 1, 0x09, 1, .u 4, .rwc, 0, .vol, 15, .own⟩]

/-- Object rows of chapter 04: Treadle. -/
def objRows04a : List ObjRow := [
  ⟨0x3400, 1, 0x01, 1, .u 1, .ro, 0, .vol, 7, .any⟩,
  ⟨0x3400, 1, 0x02, 1, .octets 32768, .wo, 0, .imm, 7, .any⟩,
  ⟨0x3400, 1, 0x03, 1, .u 1, .rwc, 0, .imm, 7, .int 0 1 1⟩,
  ⟨0x3400, 1, 0x04, 1, .octets 32, .ro, 0, .vol, 7, .any⟩,
  ⟨0x3400, 1, 0x05, 1, .u 2, .ro, 0, .vol, 7, .any⟩,
  ⟨0x3400, 1, 0x06, 1, .u 2, .ro, 0, .vol, 7, .any⟩,
  ⟨0x3400, 1, 0x07, 1, .u 2, .ro, 0, .vol, 7, .any⟩,
  ⟨0x3401, 1, 0x02, 1, .u 4, .rwc, 100000, .nextReset, 4, .int 50000 1000000 1000⟩,
  ⟨0x3410, 1, 0x01, 1, .u 1, .rwc, 0, .imm, 2, .int 0 1 1⟩,
  ⟨0x3410, 1, 0x02, 1, .f32, .rwc, 0x40000000, .imm, 2, .f32 0x3E800000 0x447A0000⟩,
  ⟨0x3410, 1, 0x03, 1, .f32, .rwc, 0x40000000, .imm, 2, .f32 0x3E800000 0x447A0000⟩,
  ⟨0x3410, 1, 0x04, 1, .u 2, .rwc, 4, .imm, 2, .int 1 256 1⟩,
  ⟨0x3410, 1, 0x05, 1, .u 2, .rwc, 64, .imm, 2, .int 0 4096 1⟩,
  ⟨0x3410, 1, 0x06, 1, .i 2, .rwc, 0, .imm, 2, .int (-16380) 16380 1⟩,
  ⟨0x3410, 1, 0x07, 1, .i 2, .rwc, 0, .imm, 2, .int (-16380) 16380 1⟩,
  ⟨0x3410, 1, 0x08, 1, .u 2, .rwc, 64, .imm, 2, .int 1 16380 1⟩,
  ⟨0x3410, 1, 0x09, 4, .u 2, .rwc, 0, .imm, 2, .rule 114⟩,
  ⟨0x3410, 1, 0x0D, 4, .u 2, .rwc, 0, .imm, 2, .rule 114⟩,
  ⟨0x3410, 1, 0x11, 1, .i 2, .ro, 0, .vol, 2, .any⟩,
  ⟨0x3410, 1, 0x12, 1, .i 2, .ro, 0, .vol, 2, .any⟩,
  ⟨0x3410, 1, 0x13, 1, .f32, .ro, 0x00000000, .vol, 2, .any⟩,
  ⟨0x3410, 1, 0x14, 1, .f32, .ro, 0x00000000, .vol, 2, .any⟩,
  ⟨0x3410, 1, 0x15, 1, .u 2, .rwc, 50, .imm, 2, .int 2 10000 1⟩,
  ⟨0x3430, 1, 0x01, 8, .f32, .rw, 0x00000000, .vol, 7, .any⟩,
  ⟨0x3431, 1, 0x01, 8, .f32, .rwc, 0x00000000, .imm, 7, .any⟩,
  ⟨0x3432, 1, 0x01, 8, .f32, .rwc, 0x00000000, .imm, 7, .any⟩,
  ⟨0x3440, 8, 0x01, 1, .u 1, .rw, 0, .imm, 7, .int 0 1 1⟩,
  ⟨0x3440, 8, 0x02, 1, .f32, .rwc, 0x00000000, .imm, 7, .f32 0xC9742400 0x49742400⟩,
  ⟨0x3440, 8, 0x03, 1, .f32, .rwc, 0x00000000, .imm, 7, .f32 0xCE6E6B28 0x4E6E6B28⟩,
  ⟨0x3440, 8, 0x04, 1, .f32, .rwc, 0xBF800000, .imm, 7, .any⟩,
  ⟨0x3440, 8, 0x05, 1, .f32, .rwc, 0x3F800000, .imm, 7, .any⟩,
  ⟨0x3440, 8, 0x06, 1, .f32, .rwc, 0xBF800000, .imm, 7, .any⟩,
  ⟨0x3440, 8, 0x07, 1, .f32, .rwc, 0x3F800000, .imm, 7, .any⟩,
  ⟨0x3440, 8, 0x08, 1, .u 2, .rwc, 0, .imm, 7, .rule 114⟩,
  ⟨0x3440, 8, 0x09, 1, .u 2, .rwc, 0, .imm, 7, .rule 114⟩,
  ⟨0x3440, 8, 0x0A, 1, .u 2, .rwc, 0, .imm, 7, .rule 114⟩,
  ⟨0x3440, 8, 0x0B, 1, .u 2, .rwc, 1, .imm, 7, .int 1 1000 1⟩,
  ⟨0x3440, 8, 0x0C, 1, .f32, .rw, 0x00000000, .vol, 7, .any⟩,
  ⟨0x3440, 8, 0x0D, 1, .bool, .rwc, 1, .imm, 7, .any⟩,
  ⟨0x3440, 8, 0x0E, 1, .f32, .ro, 0x00000000, .vol, 7, .any⟩]

/-- Object rows of chapter 04: Treadle. -/
def objRows04b : List ObjRow := [
  ⟨0x3440, 8, 0x0F, 1, .f32, .ro, 0x00000000, .vol, 7, .any⟩,
  ⟨0x3460, 8, 0x01, 1, .f32, .rw, 0x00000000, .vol, 7, .any⟩,
  ⟨0x3460, 8, 0x02, 1, .u 2, .rwc, 0, .imm, 7, .rule 114⟩,
  ⟨0x3460, 8, 0x03, 1, .f32, .rwc, 0x00000000, .imm, 7, .f32 0 0x4E6E6B28⟩,
  ⟨0x3460, 8, 0x04, 1, .u 2, .rwc, 0, .imm, 7, .rule 114⟩,
  ⟨0x3460, 8, 0x05, 1, .u 1, .rwc, 0, .imm, 7, .int 0 1 1⟩,
  ⟨0x3460, 8, 0x06, 1, .f32, .ro, 0x00000000, .vol, 7, .any⟩,
  ⟨0x3460, 8, 0x07, 1, .u 1, .ro, 0, .vol, 7, .any⟩,
  ⟨0x3480, 1, 0x01, 1, .f32, .rwc, 0x42C80000, .imm, 1, .f32 0x00000000 0x47C35000⟩,
  ⟨0x3480, 1, 0x02, 1, .f32, .rw, 0x00000000, .vol, 1, .f32 0xBF800000 0x3F800000⟩,
  ⟨0x3480, 1, 0x03, 1, .f32, .rwc, 0x441B0000, .imm, 1, .f32 0x41200000 0x453B8000⟩,
  ⟨0x3480, 1, 0x04, 1, .f32, .rw, 0x00000000, .vol, 1, .any⟩,
  ⟨0x3480, 1, 0x05, 1, .f32, .rw, 0x00000000, .vol, 1, .any⟩,
  ⟨0x3480, 1, 0x06, 1, .f32, .rwc, 0x00000000, .imm, 1, .f32 0x00000000 0x3F800000⟩,
  ⟨0x3480, 1, 0x07, 1, .f32, .rwc, 0x00000000, .imm, 1, .f32 0xBF800000 0x3F800000⟩,
  ⟨0x3480, 1, 0x08, 1, .f32, .rwc, 0x3F800000, .imm, 1, .f32 0xBF800000 0x3F800000⟩,
  ⟨0x3480, 1, 0x09, 1, .f32, .ro, 0x00000000, .vol, 1, .any⟩,
  ⟨0x3480, 1, 0x0A, 1, .f32, .ro, 0x00000000, .vol, 1, .any⟩,
  ⟨0x34A0, 1, 0x01, 3, .u 4, .ro, 0, .vol, 7, .any⟩,
  ⟨0x34A0, 1, 0x04, 1, .u 2, .rwc, 20, .imm, 7, .int 1 10000 1⟩,
  ⟨0x34A0, 1, 0x05, 1, .u 4, .rwc, 0, .vol, 7, .own⟩,
  ⟨0x34B0, 1, 0x01, 16, .u 2, .rwc, 0, .imm, 7, .rule 114⟩]

/-- Object rows of chapter 05: Gate. -/
def objRows05a : List ObjRow := [
  ⟨0x3800, 1, 0x01, 1, .u 1, .rwc, 0, .imm, 15, .rule 153⟩,
  ⟨0x3800, 1, 0x02, 1, .bool, .rwc, 1, .imm, 15, .any⟩,
  ⟨0x3801, 1, 0x01, 1, .u 4, .rwc, 25600, .imm, 15, .int 0 128000 1⟩,
  ⟨0x3801, 1, 0x02, 1, .i 4, .rwc, 0, .imm, 15, .int (-12800) 12800 1⟩,
  ⟨0x3801, 1, 0x03, 1, .u 1, .rwc, 0, .imm, 15, .int 0 2 1⟩,
  ⟨0x3801, 1, 0x04, 1, .u 4, .rwc, 12800, .imm, 15, .int 0 128000 1⟩,
  ⟨0x3802, 1, 0x01, 1, .u 4, .rwc, 12800000, .imm, 15, .int 256000 256000000 1⟩,
  ⟨0x3802, 1, 0x02, 1, .u 4, .rwc, 0, .imm, 15, .any⟩,
  ⟨0x3802, 1, 0x03, 1, .bool, .rwc, 0, .imm, 15, .any⟩,
  ⟨0x3802, 1, 0x04, 1, .u 1, .rwc, 0, .imm, 15, .int 0 1 1⟩,
  ⟨0x3803, 1, 0x01, 4, .u 4, .rwc, 0xFFFFFFFF, .imm, 15, .any⟩,
  ⟨0x3804, 1, 0x01, 6, .u 2, .rwc, 0, .imm, 15, .rule 160⟩,
  ⟨0x3805, 1, 0x01, 6, .u 2, .rwc, 100, .imm, 15, .int 0 10000 10⟩,
  ⟨0x3806, 1, 0x01, 1, .u 1, .rw, 0, .vol, 15, .int 0 63 1⟩,
  ⟨0x3806, 1, 0x02, 1, .u 1, .ro, 0, .vol, 15, .any⟩,
  ⟨0x3807, 1, 0x01, 1, .u 1, .rws, 0, .nextReset, 15, .any⟩,
  ⟨0x3807, 1, 0x02, 1, .u 1, .rws, 1, .imm, 15, .int 0 1 1⟩,
  ⟨0x3807, 1, 0x03, 1, .u 2, .rws, 20, .imm, 15, .int 1 100 1⟩,
  ⟨0x3807, 1, 0x04, 1, .u 2, .rws, 100, .imm, 15, .int 10 10000 1⟩,
  ⟨0x3807, 1, 0x05, 1, .u 1, .rwc, 0, .imm, 15, .rule 155⟩,
  ⟨0x3807, 1, 0x06, 1, .u 1, .rw, 0, .vol, 15, .int 0 3 1⟩,
  ⟨0x3808, 1, 0x01, 1, .u 2, .rwc, 10, .imm, 15, .int 1 1000 1⟩,
  ⟨0x3808, 1, 0x02, 1, .u 2, .ro, 0, .vol, 15, .any⟩,
  ⟨0x3811, 1, 0x01, 1, .u 4, .ro, 0, .vol, 15, .any⟩,
  ⟨0x3810, 1, 0x01, 7, .u 4, .ro, 0, .vol, 15, .any⟩,
  ⟨0x3810, 1, 0x08, 1, .u 4, .rwc, 0, .vol, 15, .own⟩]

/-- Object rows of chapter 06: measurement. -/
def objRows06a : List ObjRow := [
  ⟨0x3C00, 1, 0x01, 1, .bool, .rwc, 1, .imm, 15, .any⟩,
  ⟨0x3C00, 1, 0x02, 1, .bool, .ro, 0, .vol, 15, .any⟩,
  ⟨0x3C00, 1, 0x03, 1, .u 1, .ro, 0, .vol, 15, .any⟩,
  ⟨0x3C00, 1, 0x04, 1, .u 4, .rwc, 0, .vol, 15, .own⟩,
  ⟨0x3C00, 1, 0x05, 1, .u 2, .rwc, 10, .imm, 15, .int 1 3600 1⟩,
  ⟨0x3C10, 2, 0x01, 1, .bool, .rwc, 0, .imm, 15, .any⟩,
  ⟨0x3C10, 2, 0x02, 1, .u 1, .rwc, 0, .imm, 15, .int 0 16 1⟩,
  ⟨0x3C10, 2, 0x03, 1, .u 1, .rwc, 0, .imm, 15, .int 0 1 1⟩,
  ⟨0x3C20, 2, 0x01, 16, .u 4, .rwc, 0x80000, .imm, 15, .rule 176⟩,
  ⟨0x3C30, 1, 0x01, 1, .f32, .rwc, 0x44960000, .imm, 1, .f32 0x41200000 0x454CC000⟩,
  ⟨0x3C30, 1, 0x02, 1, .i 2, .rwc, 0, .imm, 1, .int (-1000) 1000 1⟩,
  ⟨0x3C30, 1, 0x03, 1, .u 2, .ro, 0, .vol, 1, .any⟩,
  ⟨0x3C31, 1, 0x01, 1, .f32, .rwc, 0x457A0000, .imm, 1, .f32 0x3F800000 0x45FA0000⟩,
  ⟨0x3C31, 1, 0x02, 1, .i 2, .rwc, 0, .imm, 1, .int (-4000) 4000 1⟩,
  ⟨0x3C31, 1, 0x03, 1, .i 2, .ro, 0, .vol, 1, .any⟩,
  ⟨0x3C31, 1, 0x04, 1, .u 1, .ro, 0, .vol, 1, .any⟩,
  ⟨0x3C40, 1, 0x01, 2, .u 4, .ro, 0, .vol, 15, .any⟩,
  ⟨0x3C50, 1, 0x01, 4, .u 4, .ro, 0, .vol, 15, .any⟩,
  ⟨0x3C50, 1, 0x05, 1, .u 4, .rwc, 0, .vol, 15, .own⟩,
  ⟨0x3C60, 1, 0x01, 1, .u 1, .ro, 0, .vol, 15, .any⟩]

/-- Object rows of chapter 07: links, station ports, check units. -/
def objRows07a : List ObjRow := [
  ⟨0x4000, 1, 0x01, 1, .u 1, .rwc, 0x3F, .imm, 15, .int 0 63 1⟩,
  ⟨0x4000, 1, 0x02, 1, .u 2, .rwc, 10, .imm, 15, .int 1 10000 1⟩,
  ⟨0x4000, 1, 0x03, 1, .u 2, .rwc, 10, .imm, 15, .int 1 65535 1⟩,
  ⟨0x4000, 1, 0x04, 1, .u 4, .rwc, 1000, .imm, 15, .int 100 1000000 1⟩,
  ⟨0x4000, 1, 0x05, 1, .u 2, .rwc, 200, .imm, 15, .int 50 10000 1⟩,
  ⟨0x4000, 1, 0x06, 1, .u 2, .rwc, 1000, .imm, 15, .int 100 60000 1⟩,
  ⟨0x4010, 6, 0x01, 1, .u 1, .ro, 5, .vol, 15, .any⟩,
  ⟨0x4010, 6, 0x02, 1, .u 4, .ro, 0x7FFFF, .vol, 15, .any⟩,
  ⟨0x4010, 6, 0x03, 1, .u 1, .ro, 0, .vol, 15, .any⟩,
  ⟨0x4010, 6, 0x04, 1, .u 4, .ro, 0, .vol, 15, .any⟩,
  ⟨0x4010, 6, 0x05, 1, .i 4, .rwc, 0, .imm, 15, .int (-50000) 50000 1⟩,
  ⟨0x4010, 6, 0x06, 8, .u 4, .ro, 0, .vol, 15, .any⟩,
  ⟨0x4010, 6, 0x0E, 1, .u 4, .ro, 0, .vol, 15, .any⟩,
  ⟨0x4010, 6, 0x0F, 1, .u 4, .ro, 0, .vol, 15, .any⟩,
  ⟨0x4020, 6, 0x01, 1, .bool, .ro, 0, .vol, 15, .any⟩,
  ⟨0x4020, 6, 0x02, 1, .i 2, .ro, 0, .vol, 15, .any⟩,
  ⟨0x4020, 6, 0x03, 1, .u 2, .ro, 0, .vol, 15, .any⟩,
  ⟨0x4020, 6, 0x04, 1, .u 2, .ro, 0, .vol, 15, .any⟩,
  ⟨0x4020, 6, 0x05, 1, .u 2, .ro, 0, .vol, 15, .any⟩,
  ⟨0x4020, 6, 0x06, 1, .u 2, .ro, 0, .vol, 15, .any⟩,
  ⟨0x4020, 6, 0x07, 1, .u 4, .ro, 0, .vol, 15, .any⟩,
  ⟨0x4020, 6, 0x08, 1, .string 16, .ro, 0, .vol, 15, .any⟩,
  ⟨0x4030, 1, 0x01, 1, .u 1, .ro, 0, .vol, 15, .any⟩,
  ⟨0x4030, 1, 0x02, 1, .u 4, .ro, 0, .vol, 15, .any⟩,
  ⟨0x4100, 1, 0x01, 1, .octets 6, .ro, 0, .fixed, 4, .any⟩,
  ⟨0x4100, 1, 0x02, 1, .u 1, .ro, 0, .vol, 4, .any⟩,
  ⟨0x4100, 1, 0x03, 1, .u 2, .rwc, 2000, .imm, 4, .int 100 10000 1⟩,
  ⟨0x4100, 1, 0x04, 1, .u 2, .rwc, 0, .imm, 4, .int 0 4094 1⟩,
  ⟨0x4100, 1, 0x05, 1, .u 1, .rwc, 4, .imm, 4, .int 0 7 1⟩,
  ⟨0x4100, 1, 0x06, 2, .u 4, .ro, 0, .vol, 4, .any⟩,
  ⟨0x4200, 8, 0x01, 1, .bool, .rwc, 0, .imm, 4, .any⟩,
  ⟨0x4200, 8, 0x02, 1, .octets 6, .rwc, 0, .imm, 4, .any⟩,
  ⟨0x4200, 8, 0x03, 1, .u 2, .rwc, 0, .imm, 4, .any⟩,
  ⟨0x4200, 8, 0x04, 3, .string 64, .rwc, 0, .imm, 4, .any⟩,
  ⟨0x4200, 8, 0x07, 1, .u 2, .rwc, 2, .imm, 4, .int 1 1000 1⟩,
  ⟨0x4200, 8, 0x08, 1, .u 2, .rwc, 1000, .imm, 4, .int 1 60000 1⟩,
  ⟨0x4200, 8, 0x09, 1, .u 4, .rwc, 1, .imm, 4, .any⟩,
  ⟨0x4200, 8, 0x0A, 1, .u 1, .rwc, 0, .imm, 4, .int 0 32 1⟩,
  ⟨0x4200, 8, 0x0B, 32, .u 4, .rwc, 0, .imm, 4, .any⟩,
  ⟨0x4220, 32, 0x01, 1, .bool, .rwc, 0, .imm, 4, .any⟩]

/-- Object rows of chapter 07: links, station ports, check units. -/
def objRows07b : List ObjRow := [
  ⟨0x4220, 32, 0x02, 1, .octets 6, .rwc, 0, .imm, 4, .any⟩,
  ⟨0x4220, 32, 0x03, 1, .u 2, .rwc, 0, .imm, 4, .any⟩,
  ⟨0x4220, 32, 0x04, 1, .string 64, .rwc, 0, .imm, 4, .any⟩,
  ⟨0x4220, 32, 0x05, 1, .u 4, .rwc, 1, .imm, 4, .any⟩,
  ⟨0x4220, 32, 0x06, 1, .u 1, .rwc, 0, .imm, 4, .int 0 32 1⟩,
  ⟨0x4220, 32, 0x07, 32, .u 4, .rwc, 0, .imm, 4, .any⟩,
  ⟨0x4220, 32, 0x27, 1, .u 1, .ro, 0, .vol, 4, .any⟩,
  ⟨0x4240, 4, 0x01, 1, .bool, .rwc, 0, .imm, 4, .any⟩,
  ⟨0x4240, 4, 0x02, 1, .octets 6, .rwc, 0, .imm, 4, .any⟩,
  ⟨0x4240, 4, 0x03, 1, .u 2, .rwc, 0x4000, .imm, 4, .any⟩,
  ⟨0x4240, 4, 0x04, 1, .string 64, .rwc, 0, .imm, 4, .any⟩,
  ⟨0x4240, 4, 0x05, 1, .u 2, .rwc, 80, .imm, 4, .oneOf [80, 256]⟩,
  ⟨0x4240, 4, 0x06, 1, .u 1, .rwc, 50, .imm, 4, .oneOf [50, 60]⟩,
  ⟨0x4240, 4, 0x07, 1, .u 1, .ro, 0, .vol, 4, .any⟩,
  ⟨0x4240, 4, 0x08, 1, .u 4, .ro, 0, .vol, 4, .any⟩,
  ⟨0x4240, 4, 0x09, 1, .u 4, .rwc, 0, .imm, 4, .any⟩,
  ⟨0x4300, 1, 0x01, 4, .u 4, .ro, 0, .vol, 15, .any⟩,
  ⟨0x4300, 1, 0x05, 1, .u 4, .rwc, 0, .vol, 15, .own⟩,
  ⟨0x5C00, 4, 0x01, 1, .u 1, .rwc, 0, .imm, 15, .int 0 3 1⟩,
  ⟨0x5C00, 4, 0x02, 1, .u 1, .rwc, 32, .imm, 15, .int 8 64 1⟩,
  ⟨0x5C00, 4, 0x03, 1, .u 8, .rwc, 0x1EDC6F41, .imm, 15, .any⟩,
  ⟨0x5C00, 4, 0x04, 1, .u 8, .rwc, 0xFFFFFFFF, .imm, 15, .any⟩,
  ⟨0x5C00, 4, 0x05, 1, .u 8, .rwc, 0xFFFFFFFF, .imm, 15, .any⟩,
  ⟨0x5C00, 4, 0x06, 1, .u 1, .rwc, 3, .imm, 15, .int 0 3 1⟩,
  ⟨0x5C00, 4, 0x07, 1, .u 4, .rwc, 0, .imm, 15, .rule 228⟩,
  ⟨0x5C00, 4, 0x08, 1, .u 4, .ro, 0, .vol, 15, .any⟩,
  ⟨0x5C04, 1, 0x01, 1, .u 4, .rwc, 0, .vol, 15, .own⟩]

/-- Object rows of chapter 08: time. -/
def objRows08a : List ObjRow := [
  ⟨0x4400, 1, 0x01, 1, .u 1, .ro, 0, .vol, 15, .any⟩,
  ⟨0x4400, 1, 0x02, 1, .nt96, .ro, 0, .vol, 15, .any⟩,
  ⟨0x4400, 1, 0x03, 1, .i 4, .ro, 0, .vol, 15, .any⟩,
  ⟨0x4400, 1, 0x04, 1, .i 4, .ro, 0, .vol, 15, .any⟩,
  ⟨0x4400, 1, 0x05, 1, .u 1, .ro, 0, .vol, 15, .any⟩,
  ⟨0x4400, 1, 0x06, 1, .u 1, .ro, 0, .vol, 15, .any⟩,
  ⟨0x4401, 1, 0x01, 1, .u 2, .rwc, 250, .imm, 15, .int 100 10000 1⟩,
  ⟨0x4401, 1, 0x02, 1, .u 2, .rwc, 50, .imm, 15, .int 5 10000 1⟩,
  ⟨0x4401, 1, 0x03, 1, .u 2, .rwc, 50, .imm, 15, .int 10 1000 1⟩,
  ⟨0x4401, 1, 0x04, 1, .u 4, .rwc, 1000, .imm, 15, .int 100 1000000000 1⟩,
  ⟨0x4401, 1, 0x05, 1, .f32, .rwc, 0x3F000000, .imm, 15, .f32 0x00000000 0x40000000⟩,
  ⟨0x4401, 1, 0x06, 1, .f32, .rwc, 0x3D4CCCCD, .imm, 15, .f32 0x00000000 0x3F800000⟩,
  ⟨0x4402, 1, 0x01, 1, .u 4, .rwc, 1000000, .nextReset, 4, .int 10000 1000000000 1000⟩,
  ⟨0x4402, 1, 0x02, 1, .u 2, .rwc, 20, .imm, 4, .int 5 1000 1⟩,
  ⟨0x4402, 1, 0x03, 1, .u 2, .rwc, 20, .imm, 4, .int 1 200 1⟩,
  ⟨0x4402, 1, 0x05, 1, .nt96, .rwc, 0, .vol, 4, .any⟩,
  ⟨0x4402, 1, 0x06, 1, .i 8, .ro, 0, .vol, 15, .any⟩,
  ⟨0x4402, 1, 0x07, 1, .u 2, .ro, 0, .vol, 15, .any⟩,
  ⟨0x4410, 1, 0x01, 1, .bool, .rwc, 1, .nextReset, 4, .any⟩,
  ⟨0x4410, 1, 0x02, 1, .u 1, .rwc, 0, .nextReset, 4, .int 0 255 1⟩,
  ⟨0x4410, 1, 0x03, 1, .u 1, .rwc, 128, .imm, 4, .any⟩,
  ⟨0x4410, 1, 0x04, 1, .u 1, .rwc, 128, .imm, 4, .any⟩,
  ⟨0x4410, 1, 0x05, 1, .bool, .rwc, 1, .imm, 4, .any⟩,
  ⟨0x4410, 1, 0x06, 1, .bool, .rwc, 1, .imm, 4, .any⟩,
  ⟨0x4410, 1, 0x07, 1, .octets 8, .ro, 0, .fixed, 4, .any⟩,
  ⟨0x4410, 1, 0x08, 1, .u 2, .rwc, 250, .imm, 4, .int 20 100000 1⟩,
  ⟨0x4410, 1, 0x09, 1, .octets 8, .ro, 0, .vol, 4, .any⟩,
  ⟨0x4410, 1, 0x0A, 1, .u 1, .ro, 0, .vol, 4, .any⟩,
  ⟨0x4410, 1, 0x0B, 1, .i 2, .ro, 0, .vol, 15, .any⟩,
  ⟨0x4410, 1, 0x0C, 1, .i 4, .ro, 0, .vol, 4, .any⟩,
  ⟨0x4410, 1, 0x0D, 2, .i 4, .ro, 0, .vol, 4, .any⟩,
  ⟨0x4420, 4, 0x01, 1, .u 1, .rwc, 0, .imm, 15, .int 0 2 1⟩,
  ⟨0x4420, 4, 0x02, 1, .nt96, .rwc, 0, .imm, 15, .any⟩,
  ⟨0x4420, 4, 0x03, 1, .u 4, .rwc, 1000000000, .imm, 15, .int 1000 4000000000 1⟩,
  ⟨0x4420, 4, 0x04, 1, .u 4, .rwc, 1000, .imm, 15, .int 10 3999999990 1⟩,
  ⟨0x4420, 4, 0x05, 1, .u 1, .rwc, 0, .imm, 15, .int 0 1 1⟩,
  ⟨0x4420, 4, 0x06, 1, .bool, .rwc, 0, .imm, 15, .any⟩,
  ⟨0x4430, 4, 0x01, 1, .u 1, .rwc, 0, .imm, 15, .int 0 3 1⟩,
  ⟨0x4430, 4, 0x02, 1, .nt96, .ro, 0, .vol, 15, .any⟩,
  ⟨0x4430, 4, 0x03, 1, .u 4, .ro, 0, .vol, 15, .any⟩]

/-- Object rows of chapter 08: time. -/
def objRows08b : List ObjRow := [
  ⟨0x4430, 4, 0x04, 1, .u 4, .ro, 0, .vol, 15, .any⟩,
  ⟨0x4440, 1, 0x01, 3, .u 4, .ro, 0, .vol, 15, .any⟩,
  ⟨0x4440, 1, 0x05, 1, .u 4, .rwc, 0, .vol, 15, .own⟩]

/-- Object rows of chapter 09: scheduler, memory, event counters. -/
def objRows09a : List ObjRow := [
  ⟨0x4800, 1, 0x01, 1, .octets 1048576, .wo, 0, .imm, 15, .any⟩,
  ⟨0x4800, 1, 0x02, 1, .u 1, .rwc, 0, .imm, 15, .int 1 1 1⟩,
  ⟨0x4800, 1, 0x03, 1, .octets 32, .ro, 0, .vol, 15, .any⟩,
  ⟨0x4800, 1, 0x04, 1, .u 2, .ro, 0, .vol, 15, .any⟩,
  ⟨0x4800, 1, 0x05, 1, .u 2, .ro, 0, .vol, 15, .any⟩,
  ⟨0x4800, 1, 0x06, 1, .u 2, .ro, 0, .vol, 15, .any⟩,
  ⟨0x4800, 1, 0x07, 1, .u 1, .ro, 0, .vol, 15, .any⟩,
  ⟨0x4801, 1, 0x01, 4, .u 4, .rwc, 1000, .nextReset, 15, .int 100 1000000 100⟩,
  ⟨0x4802, 1, 0x01, 1, .u 2, .rwc, 100, .imm, 15, .int 1 10000 1⟩,
  ⟨0x4802, 1, 0x02, 1, .u 2, .rwc, 1000, .imm, 15, .int 100 60000 1⟩,
  ⟨0x4803, 1, 0x01, 8, .u 4, .ro, 0, .vol, 15, .any⟩,
  ⟨0x4804, 1, 0x01, 8, .u 2, .ro, 0, .vol, 15, .any⟩,
  ⟨0x4805, 1, 0x01, 1, .u 2, .rw, 0, .vol, 15, .any⟩,
  ⟨0x4805, 1, 0x02, 1, .octets 128, .rx, 0, .vol, 15, .any⟩,
  ⟨0x4806, 1, 0x01, 4, .u 4, .ro, 0, .vol, 15, .any⟩,
  ⟨0x4810, 1, 0x01, 1, .u 4, .ro, 0, .vol, 15, .any⟩,
  ⟨0x4810, 1, 0x02, 1, .u 4, .ro, 0, .vol, 15, .any⟩,
  ⟨0x4810, 1, 0x03, 1, .u 4, .ro, 0, .vol, 15, .any⟩,
  ⟨0x4810, 1, 0x04, 1, .u 4, .ro, 0, .vol, 15, .any⟩,
  ⟨0x4820, 1, 0x01, 8, .u 4, .ro, 0, .vol, 15, .any⟩,
  ⟨0x4820, 1, 0x09, 1, .u 4, .rwc, 0, .vol, 15, .own⟩,
  ⟨0x5800, 16, 0x01, 1, .u 1, .rwc, 0x5E, .imm, 15, .rule 301⟩,
  ⟨0x5800, 16, 0x02, 1, .u 1, .rwc, 0, .imm, 15, .int 0 2 1⟩,
  ⟨0x5800, 16, 0x03, 1, .nt96, .rwc, 0, .imm, 15, .any⟩,
  ⟨0x5800, 16, 0x04, 1, .u 4, .rwc, 1000000, .imm, 15, .int 1 4000000000 1⟩,
  ⟨0x5800, 16, 0x05, 1, .u 4, .rwc, 1000000, .imm, 15, .int 1 4000000000 1⟩,
  ⟨0x5800, 16, 0x06, 1, .u 8, .ro, 0, .vol, 15, .any⟩,
  ⟨0x5800, 16, 0x07, 1, .u 8, .ro, 0, .vol, 15, .any⟩,
  ⟨0x5800, 16, 0x08, 1, .u 8, .ro, 0, .vol, 15, .any⟩,
  ⟨0x5800, 16, 0x09, 1, .u 4, .ro, 0, .vol, 15, .any⟩,
  ⟨0x5810, 1, 0x01, 1, .u 4, .rwc, 0, .vol, 15, .own⟩]

/-- Object rows of chapter 10: journal and redundancy. -/
def objRows10a : List ObjRow := [
  ⟨0x4C00, 1, 0x01, 1, .u 1, .ro, 0, .vol, 15, .any⟩,
  ⟨0x4C00, 1, 0x02, 1, .u 1, .ro, 0, .vol, 6, .any⟩,
  ⟨0x4C00, 1, 0x03, 1, .u 1, .ro, 0, .vol, 6, .any⟩,
  ⟨0x4C00, 1, 0x04, 1, .u 4, .ro, 0, .vol, 6, .any⟩,
  ⟨0x4C01, 1, 0x01, 1, .u 8, .ro, 0, .vol, 15, .any⟩,
  ⟨0x4C01, 1, 0x02, 1, .u 8, .ro, 0, .vol, 15, .any⟩,
  ⟨0x4C01, 1, 0x03, 1, .u 8, .ro, 0, .vol, 15, .any⟩,
  ⟨0x4C01, 1, 0x04, 1, .u 4, .ro, 0, .vol, 6, .any⟩,
  ⟨0x4C02, 1, 0x01, 1, .u 8, .rw, 0, .vol, 4, .any⟩,
  ⟨0x4C02, 1, 0x02, 1, .u 8, .ro, 0, .vol, 15, .any⟩,
  ⟨0x4C02, 1, 0x03, 1, .u 8, .ro, 0, .vol, 15, .any⟩,
  ⟨0x4C03, 1, 0x01, 1, .u 4, .rwc, 0, .vol, 6, .own⟩,
  ⟨0x4C03, 1, 0x02, 1, .u 4, .rwc, 0, .vol, 6, .own⟩,
  ⟨0x4C04, 1, 0x01, 1, .bool, .rwc, 1, .imm, 6, .any⟩,
  ⟨0x4C04, 1, 0x02, 1, .u 2, .rwc, 10, .imm, 6, .int 1 600 1⟩,
  ⟨0x4C04, 1, 0x03, 1, .u 2, .rwc, 100, .imm, 6, .int 10 10000 1⟩,
  ⟨0x4C04, 1, 0x04, 1, .u 2, .rwc, 168, .imm, 6, .int 1 8760 1⟩,
  ⟨0x4C04, 1, 0x05, 1, .u 2, .rwc, 32, .nextReset, 6, .int 0 256 1⟩,
  ⟨0x4C04, 1, 0x06, 1, .u 2, .rwc, 16, .imm, 6, .int 4 1000 1⟩,
  ⟨0x4C04, 1, 0x07, 1, .u 1, .rwc, 25, .imm, 6, .int 5 50 1⟩,
  ⟨0x4C04, 1, 0x08, 1, .u 2, .rwc, 50, .imm, 6, .int 20 10000 1⟩,
  ⟨0x4C10, 1, 0x01, 8, .u 4, .ro, 0, .vol, 15, .any⟩,
  ⟨0x4C10, 1, 0x09, 1, .u 4, .rwc, 0, .vol, 15, .own⟩,
  ⟨0x4C20, 1, 0x01, 1, .u 1, .ro, 0, .vol, 15, .any⟩,
  ⟨0x4C20, 1, 0x02, 1, .nt96, .ro, 0, .vol, 15, .any⟩,
  ⟨0x4C20, 1, 0x03, 1, .u 4, .ro, 0, .vol, 15, .any⟩,
  ⟨0x4C20, 1, 0x04, 1, .u 4, .ro, 0, .vol, 15, .any⟩,
  ⟨0x4C30, 1, 0x01, 1, .u 2, .rw, 0, .vol, 6, .any⟩,
  ⟨0x4C30, 1, 0x02, 1, .octets 512, .rx, 0, .vol, 6, .any⟩]

/-- Object rows of chapter 11: safety. -/
def objRows11a : List ObjRow := [
  ⟨0x5000, 1, 0x01, 1, .u 2, .ro, 0x1, .vol, 15, .any⟩,
  ⟨0x5000, 1, 0x02, 1, .u 1, .ro, 0, .vol, 15, .any⟩,
  ⟨0x5000, 1, 0x03, 1, .u 4, .ro, 0x1000, .vol, 15, .any⟩,
  ⟨0x5000, 1, 0x04, 1, .u 1, .ro, 0, .vol, 15, .any⟩,
  ⟨0x5000, 1, 0x05, 1, .u 4, .ro, 0, .fixed, 15, .any⟩,
  ⟨0x5000, 1, 0x06, 1, .octets 32, .ro, 0, .fixed, 15, .any⟩,
  ⟨0x5000, 1, 0x07, 1, .u 2, .ro, 0, .fixed, 15, .any⟩,
  ⟨0x5001, 1, 0x01, 1, .u 4, .ro, 0, .vol, 15, .any⟩,
  ⟨0x5001, 1, 0x02, 1, .u 4, .rws, 0, .vol, 15, .any⟩,
  ⟨0x5001, 1, 0x03, 1, .u 1, .ro, 0, .vol, 15, .any⟩,
  ⟨0x5001, 1, 0x04, 1, .u 4, .ro, 0, .imm, 15, .any⟩,
  ⟨0x5001, 1, 0x05, 1, .nt96, .ro, 0, .imm, 15, .any⟩,
  ⟨0x5001, 1, 0x06, 1, .octets 64, .ro, 0, .vol, 15, .any⟩,
  ⟨0x5010, 1, 0x01, 1, .u 1, .rws, 1, .imm, 15, .int 0 2 1⟩,
  ⟨0x5010, 1, 0x02, 1, .u 2, .rws, 300, .imm, 15, .int 100 500 50⟩,
  ⟨0x5010, 1, 0x03, 1, .u 2, .rws, 100, .imm, 15, .int 10 1000 1⟩,
  ⟨0x5010, 1, 0x04, 1, .bool, .rws, 0, .imm, 15, .rule 365⟩,
  ⟨0x5015, 4, 0x01, 1, .u 2, .rws, 0, .imm, 15, .int 0 1022 1⟩,
  ⟨0x5015, 4, 0x02, 1, .u 2, .rws, 1023, .imm, 15, .int 1 1023 1⟩,
  ⟨0x5015, 4, 0x03, 1, .u 1, .rws, 0, .imm, 15, .rule 356⟩,
  ⟨0x5015, 4, 0x04, 1, .u 2, .rws, 200, .imm, 15, .int 100 1000 50⟩,
  ⟨0x5012, 1, 0x01, 1, .u 2, .rws, 100, .imm, 15, .int 10 10000 1⟩,
  ⟨0x5012, 1, 0x02, 1, .u 2, .rws, 25, .imm, 15, .int 5 5000 1⟩,
  ⟨0x5013, 1, 0x01, 1, .bool, .rws, 1, .imm, 15, .any⟩,
  ⟨0x5014, 1, 0x01, 1, .u 2, .rws, 1000, .imm, 15, .int 100 60000 1⟩,
  ⟨0x5020, 1, 0x01, 1, .u 1, .rws, 24, .imm, 15, .int 1 72 1⟩,
  ⟨0x5020, 1, 0x02, 1, .u 4, .rws, 0, .vol, 15, .own⟩,
  ⟨0x5030, 1, 0x01, 1, .bool, .rwc, 0, .vol, 15, .any⟩,
  ⟨0x5030, 1, 0x02, 1, .bool, .rws, 0, .imm, 15, .any⟩,
  ⟨0x5031, 6, 0x01, 1, .u 4, .ro, 0, .vol, 15, .any⟩,
  ⟨0x5031, 6, 0x02, 1, .u 4, .ro, 0, .vol, 15, .any⟩,
  ⟨0x5040, 1, 0x01, 4, .u 4, .ro, 0, .vol, 15, .any⟩,
  ⟨0x5040, 1, 0x05, 1, .u 4, .rwc, 0, .vol, 15, .own⟩]

/-- Object rows of chapter 12: recorder and store. -/
def objRows12a : List ObjRow := [
  ⟨0x5400, 1, 0x01, 1, .u 4, .ro, 0, .vol, 15, .any⟩,
  ⟨0x5400, 1, 0x02, 1, .u 4, .ro, 0, .vol, 15, .any⟩,
  ⟨0x5400, 1, 0x03, 1, .u 8, .ro, 0, .vol, 15, .any⟩,
  ⟨0x5400, 1, 0x04, 1, .u 4, .ro, 0, .vol, 15, .any⟩,
  ⟨0x5400, 1, 0x05, 1, .bool, .ro, 0, .vol, 15, .any⟩,
  ⟨0x5401, 1, 0x01, 1, .u 1, .rw, 0, .vol, 15, .int 0 1 1⟩,
  ⟨0x5401, 1, 0x02, 1, .u 4, .rw, 0, .vol, 15, .any⟩,
  ⟨0x5401, 1, 0x03, 1, .octets 384, .rx, 0, .vol, 15, .any⟩,
  ⟨0x5401, 1, 0x04, 1, .u 4, .rwc, 0, .vol, 15, .own⟩,
  ⟨0x5401, 1, 0x05, 1, .u 4, .ro, 0, .vol, 15, .any⟩,
  ⟨0x5402, 1, 0x01, 1, .octets 3328, .ro, 0, .vol, 15, .any⟩,
  ⟨0x5402, 1, 0x02, 1, .u 1, .ro, 0, .vol, 15, .any⟩,
  ⟨0x5410, 1, 0x01, 1, .u 4, .rwc, 0, .vol, 15, .own⟩,
  ⟨0x5410, 1, 0x02, 1, .u 4, .rwc, 0, .vol, 15, .own⟩,
  ⟨0x5410, 1, 0x03, 1, .u 4, .ro, 0, .vol, 15, .any⟩,
  ⟨0x5411, 1, 0x01, 7, .u 4, .rwc, 0, .imm, 15, .rule 407⟩,
  ⟨0x5412, 1, 0x01, 7, .u 4, .ro, 0, .vol, 15, .any⟩,
  ⟨0x5413, 1, 0x01, 1, .u 2, .rwc, 24, .imm, 15, .int 24 168 1⟩,
  ⟨0x5413, 1, 0x02, 1, .u 1, .rwc, 12, .imm, 15, .int 4 24 1⟩,
  ⟨0x5413, 1, 0x03, 1, .u 2, .rwc, 1000, .imm, 15, .int 100 10000 1⟩,
  ⟨0x5413, 1, 0x04, 1, .u 2, .rwc, 200, .nextReset, 15, .int 25 200 1⟩,
  ⟨0x5414, 1, 0x01, 1, .u 4, .ro, 0, .vol, 15, .any⟩,
  ⟨0x5414, 1, 0x02, 1, .u 4, .ro, 0, .vol, 15, .any⟩,
  ⟨0x5414, 1, 0x03, 1, .u 4, .ro, 0, .vol, 15, .any⟩,
  ⟨0x5414, 1, 0x04, 1, .u 4, .ro, 0, .vol, 15, .any⟩,
  ⟨0x5414, 1, 0x05, 1, .u 2, .ro, 0, .vol, 15, .any⟩,
  ⟨0x5415, 1, 0x01, 1, .octets 65536, .rwc, 0, .imm, 15, .any⟩,
  ⟨0x5415, 1, 0x02, 1, .octets 65536, .ro, 0, .vol, 15, .any⟩,
  ⟨0x5420, 1, 0x01, 8, .u 4, .ro, 0, .vol, 15, .any⟩,
  ⟨0x5420, 1, 0x09, 1, .u 4, .rwc, 0, .vol, 15, .own⟩,
  ⟨0x5421, 1, 0x01, 8, .u 4, .ro, 0, .vol, 15, .any⟩,
  ⟨0x5421, 1, 0x09, 1, .u 4, .rwc, 0, .vol, 15, .own⟩]

/-- Object rows of chapter 13: identity, power, reset. -/
def objRows13a : List ObjRow := [
  ⟨0x1020, 1, 0x03, 1, .u 1, .ro, 0, .vol, 15, .any⟩,
  ⟨0x1020, 1, 0x04, 2, .u 4, .ro, 0, .vol, 15, .any⟩,
  ⟨0x1020, 1, 0x06, 1, .u 1, .rwc, 2, .imm, 15, .int 1 5 1⟩,
  ⟨0x1020, 1, 0x07, 1, .u 4, .ro, 0, .fixed, 15, .any⟩,
  ⟨0x1101, 1, 0x03, 1, .octets 1024, .rwc, 0, .imm, 15, .any⟩,
  ⟨0x1101, 1, 0x04, 1, .u 1, .ro, 0, .vol, 15, .any⟩,
  ⟨0x1102, 1, 0x01, 1, .octets 512, .ro, 0, .vol, 15, .any⟩,
  ⟨0x1103, 1, 0x01, 1, .u 1, .rwc, 0, .imm, 15, .int 0 1 1⟩,
  ⟨0x1103, 1, 0x02, 1, .u 4, .ro, 0, .vol, 15, .any⟩,
  ⟨0x1500, 1, 0x01, 1, .u 2, .rwc, 800, .imm, 15, .int 600 1000 10⟩,
  ⟨0x1500, 1, 0x02, 1, .u 2, .ro, 0, .vol, 15, .any⟩,
  ⟨0x1500, 1, 0x03, 1, .u 2, .ro, 0, .vol, 15, .any⟩,
  ⟨0x1500, 1, 0x04, 1, .u 2, .ro, 0, .vol, 15, .any⟩,
  ⟨0x1500, 1, 0x05, 1, .i 2, .ro, 0, .vol, 15, .any⟩,
  ⟨0x1501, 1, 0x01, 1, .bool, .rwc, 1, .nextReset, 15, .any⟩,
  ⟨0x1501, 1, 0x02, 1, .u 4, .ro, 0, .vol, 15, .any⟩,
  ⟨0x1502, 1, 0x01, 1, .u 1, .ro, 0, .vol, 15, .any⟩,
  ⟨0x1502, 1, 0x02, 1, .u 2, .rwc, 100, .nextReset, 15, .int 1 1000 1⟩,
  ⟨0x1502, 1, 0x03, 1, .u 4, .ro, 0, .vol, 15, .any⟩,
  ⟨0x1502, 1, 0x04, 1, .u 4, .rwc, 0, .vol, 15, .own⟩,
  ⟨0x1503, 1, 0x01, 1, .u 4, .rwc, 0, .vol, 15, .own⟩,
  ⟨0x1504, 1, 0x01, 1, .u 1, .ro, 0, .fixed, 15, .any⟩,
  ⟨0x1504, 1, 0x02, 1, .u 4, .rwc, 0, .vol, 15, .own⟩,
  ⟨0x1504, 1, 0x03, 1, .u 4, .ro, 0, .fixed, 15, .any⟩,
  ⟨0x1505, 1, 0x01, 1, .octets 256, .ro, 0, .vol, 15, .any⟩]

/-- The whole dictionary of the device (R42 to R44). -/
def objTable : List ObjRow :=
  objRows01a ++ objRows02a ++ objRows02b ++ objRows03a ++ objRows04a ++ objRows04b ++ objRows05a ++ objRows06a ++ objRows07a ++ objRows07b ++ objRows08a ++ objRows08b ++ objRows09a ++ objRows10a ++ objRows11a ++ objRows12a ++ objRows13a

end Sys2Proof.Machine
end

