-- ==== Sys2Proof/Config.lean ====
section
/-!
DEFINITION. Sys2Proof/Config.lean: what the manual leaves to an implementation or leaves open. Every constant here is opaque:
no proof can see its value, so a statement holds whatever it is.
-/
namespace Sys2Proof.Config

/-- The `n`-th free value: an order or a choice the manual does not specify (R209, R280, R409). -/
opaque freeValue : Nat → Nat

/-- The role a floating strap gives (R19). -/
opaque floatingRole : Nat → Nat

/-- The 16 payload bytes of a fault record whose layout the manual leaves to the record dictionary of the firmware (R390), by
the record's TYPE and by the number that tells two faults of one name apart. -/
opaque faultPayload : Nat → Nat → Nat

/-- The value of an object that the manufacturer programs and the manual gives no value for (R417, R443), by its key. -/
opaque factoryValue : Nat → Nat

/-- The record dictionary of the firmware image with a digest (R390, R407): the manual gives no content. -/
opaque recordDict : Nat → Nat

/-- The program that a Treadle image of `size` bytes spells (R109 to R111): the manual lays out no encoding. -/
opaque programOf (size value : Nat) : TProgram

/-- The graph that a graph image of `size` bytes spells (R281 to R284): the manual lays out no encoding. -/
opaque graphOf (size value : Nat) : GraphImage

/-- The KEY_INDEX of a firmware image of `size` bytes names an unrevoked Graister key, its SIGNATURE verifies under that key, and its
safety section matches SAFETY_DIGEST (R347, R422): keys and section layout are the manufacturer's. -/
opaque imageKeyOk (size value : Nat) : Bool
opaque imageSigOk (size value : Nat) : Bool
opaque imageSafetyOk (size value : Nat) : Bool

/-- What the verifier finds in an operator root and an operator certificate that a command writes (R418), by their bytes. -/
opaque certFacts : Nat → Nat → CertFacts

end Sys2Proof.Config
end

