-- ==== Sys2Proof/Machine/State.lean ====
section
/-!
DEFINITION. Sys2Proof/Machine/State.lean: everything the manual gives a KRM-6208 to hold, as plain data, in one structure for
each unit; the reasons a command can stop; and the machine right after reset. A field's default is its reset value, and the
comment after a field gives its width, the rule that names it, and whether the reset value is the manual's or the model's
(the log entry in brackets).
-/
namespace Sys2Proof.Machine

/-- The reasons a command ends in a fault. Nothing of the manual stops the device: a fault of the manual is a record and an
action of R14, which is a next state. -/
inductive Fault where
  /-- Raised by no command: a store or a fetch outside the address map of R276 is an operation fault of R289, which is a next state.
  Safe: nothing stops by it. -/
  | outsideMemory
  deriving DecidableEq, Repr

/-- The reasons a command is refused by the model. -/
inductive Refusal where
  /-- Answered by a row of the table whose meaning has not been written yet. Safe: the machine stops. -/
  | notModelled (mnemonic : String)
  deriving DecidableEq, Repr

/-- A fault that is active at the node (R10, R14, R17): its name, the class with which it acted, and a number that tells
apart two of the same name (a port, a core). -/
structure ActiveFault where
  name : FaultName
  cls : FClass
  arg : Nat := 0
  deriving DecidableEq, Repr

/-- An answer to a service request (R51, R52). -/
structure Response where
  via : Via
  tid : Nat
  op : Nat
  status : Status
  param : Nat := 0
  target : Nat := 0
  key : Nat := 0
  data : List Byte := []
  deriving DecidableEq, Repr

/-- What the board fixes: the levels of the strap balls and TESTEN (R1, R19, R447) and the xSPI devices fitted (R405). No command
changes them. -/
structure Pins where
  role : Nat := 0  -- 2 | 00_scope R1, R2 | DESIGN CHOICE(1)
  roleTied : Bool := true  -- 1 | 01_twill_roles R19 | DESIGN CHOICE(1)
  sealEn : Bool := false  -- 1 | 11_selvedge_safety R378 | DESIGN CHOICE(1)
  sealSel : Nat := 0  -- 8 | 11_selvedge_safety R378 | DESIGN CHOICE(1)
  testen : Bool := false  -- 1 | 14_pins_electrical R447 | DESIGN CHOICE(1)
  flashType : Vector Nat 2 := #v[1, 0]  -- 2 x 2 | 12_recorder_storage R405, R408 (what discovery finds: 0 none, 1 NAND, 2 NOR) | DESIGN CHOICE(1)
  flashCap : Vector Nat 2 := #v[1024, 0]  -- 2 x U32 MiB | 12_recorder_storage R405, R408 | DESIGN CHOICE(1)
  flashInner : Vector Bool 2 := #v[true, false]  -- 2 | 12_recorder_storage R405 (on-die ECC) | DESIGN CHOICE(1)
  deriving DecidableEq, Repr

/-- Role, place, node state, parents, children and orphan state (R1 to R41). -/
structure Node where
  role : Role := .cell  -- 2 | 00_scope R1, R2; 01_twill_roles R40 STRAP_ROLE | DESIGN CHOICE(1)
  nodeState : NodeState := .boot  -- 8 values | 00_scope R7; 01_twill_roles R40 NODE_STATE | spec
  bypassMark : Bool := false  -- 1 | 00_scope R12; 01_twill_roles R30 | DESIGN CHOICE(1)
  holdCount : Nat := 0  -- U8 | 00_scope R8; 01_twill_roles R40 HOLD_COUNT | spec
  orphan : OrphanKind := .none  -- U8 | 01_twill_roles R36, R40 ORPHAN | spec
  place : Place := ⟨0, 0⟩  -- U8, U16 | 01_twill_roles R24, R40 LEVEL, INDEX | spec
  arm : Nat := 0  -- 4 | 01_twill_roles R24, R28 | DESIGN CHOICE(1)
  address : Nat := 0x7FFFF  -- 19 | 01_twill_roles R40 ADDRESS | spec
  joined : Bool := false  -- 1 | 01_twill_roles R24, R29 | DESIGN CHOICE(1)
  aParent : Nat := 0x7FFFF  -- 19 | 01_twill_roles R40 A_PARENT | spec
  bParent : Nat := 0x7FFFF  -- 19 | 01_twill_roles R40 B_PARENT | spec
  aPort : Nat := 0  -- 3 | 01_twill_roles R24 | DESIGN CHOICE(1)
  bPort : Nat := 0  -- 3 | 01_twill_roles R24 | DESIGN CHOICE(1)
  aDerived : Option Place := none  -- place | 01_twill_roles R24, R26 | DESIGN CHOICE(1)
  bDerived : Option Place := none  -- place | 01_twill_roles R24, R26 | DESIGN CHOICE(1)
  primary : Parent := .a  -- U8 | 01_twill_roles R40 PRIMARY | spec
  children : Vector Nat 4 := Vector.replicate 4 0x7FFFF  -- 4 x 19 | 01_twill_roles R40 CHILD_DN0-3 | spec
  uplostSent : Bool := false  -- 1 | 01_twill_roles R36 | DESIGN CHOICE(1)
  lastCommand : Nat := 0  -- U8 | 01_twill_roles R40 NODE_COMMAND | spec
  orphanBypassDue : Bool := false  -- 1 | 01_twill_roles R37 | DESIGN CHOICE(1)
  orphanDueK : Nat := 0  -- U64 | 01_twill_roles R37 (the cycle at whose T_exec a local orphan fires its bypass) | DESIGN CHOICE(1)
  armBlocked : Bool := false  -- 1 | 00_scope R14 | DESIGN CHOICE(1)
  home : Parent := .a  -- 2 values | 03_weft_selection R87; 01_twill_roles R34 (at level 1, the parent known as the active member) | DESIGN CHOICE(1)
  faults : List ActiveFault := []  -- list | 00_scope R10, R14, R17 | DESIGN CHOICE(1)
  runs : List (FaultName × Nat) := []  -- list | 03_weft_selection R106 (once per run) | DESIGN CHOICE(1)
  tripRefusals : Nat := 0  -- count | 00_scope R17 | DESIGN CHOICE(1)
  deriving DecidableEq, Repr

/-- One stored object value with the JSN of its write (R48, R321). The key is index × 256 + sub-index. -/
structure ObjCell where
  key : Nat
  value : Nat
  jsn : Nat
  deriving DecidableEq, Repr

/-- One service session of a STATION member (R57 to R62): the tap of its last request (R60), and the responses of its last 64 TIDs
(R62). -/
structure Session where
  id : Nat
  role : SessRole
  last : Nat := 0
  done : List Response := []
  deriving DecidableEq, Repr

/-- A segmented read in progress: its snapshot, and the tap of its last request (R54). -/
structure SegRead where
  via : Via
  tid : Nat
  key : Nat
  snapshot : Nat
  size : Nat
  last : Nat := 0
  deriving DecidableEq, Repr

/-- A segmented write in progress, with the tap of its last segment (R55). -/
structure SegWrite where
  via : Via
  tid : Nat
  target : Nat
  key : Nat
  received : List Byte
  last : Nat := 0
  deriving DecidableEq, Repr

/-- A block transfer in progress (R56): the segments received by number. -/
structure BlockXfer where
  via : Via
  tid : Nat
  key : Nat
  size : Nat
  segs : List (Nat × List Byte)
  deriving DecidableEq, Repr

/-- A request that awaits its result: the tap since which it waits (R62), and whether its target is joined (R64). -/
structure Waiting where
  via : Via
  tid : Nat
  op : Nat
  target : Nat
  jsn : Nat
  confirm : Bool
  key : Nat := 0
  since : Nat := 0
  joined : Bool := true
  deriving DecidableEq, Repr

/-- One receive process-data channel (R73, R74): the payload received and not yet applied, and the tap of the last valid one; `fresh` while
none has come since the channel was enabled. -/
structure RpdChan where
  lastCycle : Option Nat := none
  pendingVals : Option (List Byte) := none
  timedOut : Bool := false
  since : Nat := 0
  mapBad : Bool := false
  fresh : Bool := false
  deriving DecidableEq, Repr

/-- What a restore of defaults will do at the next reset (R49). -/
inductive RestoreMark where
  | none | keepRws | all
  deriving DecidableEq, Repr

/-- The object dictionary's stored values, sessions, transfers and process data (R42 to R77). -/
structure Dict where
  objs : List ObjCell := []  -- sparse, R44 sizes | 02_object_dictionary R48 (stored values; a key not listed has its Default) | spec
  inEffect : List (Nat × Nat) := []  -- sparse | 02_object_dictionary R48 (next-reset values in effect) | spec
  restore : RestoreMark := .none  -- 3 values | 02_object_dictionary R49 | DESIGN CHOICE(1)
  refusedCount : Nat := 0  -- U32 | 02_object_dictionary R69, R77 REFUSED_COUNT | spec
  lastRefusal : Nat := 0  -- U32 | 02_object_dictionary R69, R77 LAST_REFUSAL | spec
  tidReplays : Nat := 0  -- U32 | 02_object_dictionary R62, R77 TID_REPLAYS | spec
  sessions : List Session := []  -- list | 02_object_dictionary R57-R62, R77 SESSIONS_OPEN | spec
  cursors : List (Via × Nat × Nat) := []  -- list of requester, key, value | 02_object_dictionary R47 | spec
  segReads : List SegRead := []  -- list | 02_object_dictionary R54 | DESIGN CHOICE(1)
  segWrites : List SegWrite := []  -- list | 02_object_dictionary R55 | DESIGN CHOICE(1)
  blocks : List BlockXfer := []  -- list | 02_object_dictionary R56 | DESIGN CHOICE(1)
  waiting : List Waiting := []  -- list | 02_object_dictionary R62, R64 | DESIGN CHOICE(1)
  responses : List Response := []  -- list, newest first | 02_object_dictionary R52, R64 (answers sent) | DESIGN CHOICE(1)
  rpd : Vector RpdChan 8 := Vector.replicate 8 {}  -- 8 channels | 02_object_dictionary R73-R75 | spec
  userPending : List JEntry := []  -- list | 09_cores_heddle R292 | DESIGN CHOICE(1)
  deriving DecidableEq, Repr

/-- A window held for one cycle (R81, R91). -/
structure WinEntry where
  k : Nat
  win : WinVal
  deriving DecidableEq, Repr

/-- A Warp aggregate received for a cycle (R85): `primary` when it names this node primary. -/
structure WarpIn where
  k : Nat
  port : Nat
  primary : Bool
  warp : Warp
  deriving DecidableEq, Repr

/-- rec[k] (R87): the counts of each primary child counted, the own class and bin, the parent the aggregate went to,
what was sent, which a failover re-sends (R103), the SHORT and MISS units of
the node itself in it, and the sensor conflicts of its merge. -/
structure WeftRec where
  k : Nat
  cnt : Vector (Option (Vector Nat 64)) 4 := Vector.replicate 4 none
  cls : CellClass := .notContributor
  bin : Nat := 0
  sentTo : Parent := .none
  sent : Option Warp := none
  short : Nat := 0
  miss : Nat := 0
  conf : Nat := 0
  deriving DecidableEq, Repr

/-- A valid decision of a cycle at this node (R94, R95): `late` when it cannot place its own edges (R148). -/
structure Decision where
  k : Nat
  action : OwnAction
  late : Bool := false
  deriving DecidableEq, Repr

/-- What a cell holds of a cycle that began before the present one (R79, R80, R98): its class its own values, and the tap of its
t₀. -/
structure OwnCycle where
  k : Nat
  cls : CellClass
  insAt0 : Insertion
  vcode : Nat
  bin : Nat
  codeReady : Bool
  sens : SensSlot
  sensReady : Bool
  t0At : Nat := 0
  deriving DecidableEq, Repr

/-- The values that an ARM master hands to every cell of its arm (R78). -/
structure Handover where
  tw : Nat
  lead : Nat
  fibreExtra : Nat
  depth : Nat
  population : Nat
  carrier : Bool
  deriving DecidableEq, Repr

/-- The Weft of a cell or an ARM master (R78 to R108). -/
structure Weft where
  handed : Bool := false  -- 1 | 03_weft_selection R78, R108 | spec
  tw : Nat := 0  -- ns | 03_weft_selection R78, R108 PERIOD | spec
  lead : Nat := 0  -- ns | 03_weft_selection R78, R108 LEAD | spec
  fibreExtra : Nat := 0  -- ns | 03_weft_selection R78, R99 | spec
  depth : Nat := 0  -- 4 | 03_weft_selection R107 WEFT.CFG.DEPTH | spec
  population : Nat := 0  -- U16 | 03_weft_selection R78; 01_twill_roles R40 POPULATION | spec
  armCarrier : Bool := false  -- 1 | 05_gate_outputs R153 | spec
  handOut : Option Handover := none  -- values | 03_weft_selection R78; 01_twill_roles R23 (what an ARM master hands to the cells of its arm) | DESIGN CHOICE(125)
  k : Nat := 0  -- U64 | 03_weft_selection R107 WEFT.CYCLE, R108 CYCLE | spec
  cls : CellClass := .notContributor  -- 4 values | 03_weft_selection R80, R107 WEFT.STAT.ELIG, HELD | spec
  vcode : Nat := 0  -- U16 | 03_weft_selection R107 WEFT.OWN.VCODE | spec
  bin : Nat := 0  -- 6 | 03_weft_selection R107 WEFT.OWN.BIN | spec
  codeReady : Bool := false  -- 1 | 03_weft_selection R79 | DESIGN CHOICE(1)
  insAt0 : Insertion := .safeOpen  -- insertion state | 03_weft_selection R80 (output state at t0) | DESIGN CHOICE(1)
  insHist : List (Nat × Insertion) := []  -- per cycle | 03_weft_selection R82 (insertion at T_exec of recent cycles) | DESIGN CHOICE(1)
  wins : List WinEntry := []  -- at most 4 | 03_weft_selection R81, R91, R107 WEFT.WIN | spec
  ins : List WarpIn := []  -- per cycle and port | 03_weft_selection R85 | DESIGN CHOICE(1)
  recs : List WeftRec := []  -- at most 4 | 03_weft_selection R87 | DESIGN CHOICE(1)
  childNamed : Vector Bool 4 := Vector.replicate 4 false  -- 4 | 03_weft_selection R85 | DESIGN CHOICE(1)
  darkSince : Vector (Option Nat) 4 := Vector.replicate 4 none  -- ns of NT | 03_weft_selection R86 | DESIGN CHOICE(1)
  foFor : List Nat := []  -- cycles | 03_weft_selection R84, R103 (cycles whose aggregate, not out yet, carries FO) | DESIGN CHOICE(1)
  lag : List (Nat × Nat) := []  -- per cycle, ns | 08_time_base R265 (how much later than on the grid the instants of a sampled cycle lie) | DESIGN CHOICE(1)
  prev : List OwnCycle := []  -- at most 3 | 03_weft_selection R79, R80, R86 (own values of the cycles before) | DESIGN CHOICE(1)
  begun : Bool := false  -- 1 | 03_weft_selection R78, R80 (a t0 has come) | DESIGN CHOICE(1)
  t0At : Nat := 0  -- taps | 03_weft_selection R80, R96 (of the latest t0) | DESIGN CHOICE(1)
  lateK : Vector (Option Nat) 4 := Vector.replicate 4 none  -- 4 x U64 | 03_weft_selection R106 (the cycle of each down port's latest late aggregate) | DESIGN CHOICE(1)
  short : Nat := 0  -- U16 | 03_weft_selection R84, R93 SHORT | DESIGN CHOICE(1)
  miss : Nat := 0  -- U16 | 03_weft_selection R84, R94 MISS | DESIGN CHOICE(1)
  decisions : List Decision := []  -- per cycle | 03_weft_selection R94, R95 | DESIGN CHOICE(1)
  lastDec : Shuttle := { bbin := 0 }  -- 24 bytes | 03_weft_selection R107 WEFT.DEC, R108 LAST_BBIN, LAST_ALLOC, LAST_FLAGS | spec
  sens : SensSlot := {}  -- slot | 03_weft_selection R98 | DESIGN CHOICE(1)
  sensReady : Bool := false  -- 1 | 06_measurement R187 | DESIGN CHOICE(1)
  stat : Word := 0  -- 32 | 03_weft_selection R107 WEFT.STAT (W1C bits 16-22) | spec
  inten : Word := 0  -- 32 | 03_weft_selection R107 WEFT.INTEN | spec
  keeps : Nat := 0  -- U32 | 03_weft_selection R107 KEEPS | spec
  cmisses : Nat := 0  -- U32 | 03_weft_selection R107 CMISSES | spec
  lates : Nat := 0  -- U32 | 03_weft_selection R107 LATES | spec
  shorts : Nat := 0  -- U32 | 03_weft_selection R107 SHORTS | spec
  misses : Nat := 0  -- U32 | 03_weft_selection R107 MISSES | spec
  sats : Nat := 0  -- U32 | 03_weft_selection R107 SATS | spec
  adopts : Nat := 0  -- U32 | 03_weft_selection R107 ADOPTS | spec
  sensConflicts : Nat := 0  -- U32 | 03_weft_selection R107 SENS_CONFLICTS | spec
  deriving DecidableEq, Repr

/-- The ARM master's part of the Weft: boundary finder, adopted offset, window derivation (R83, R88 to R90, R101). -/
structure WeftArm where
  dirHigh : Bool := false  -- 1 | 03_weft_selection R89 | spec
  polNeg : Bool := false  -- 1 | 03_weft_selection R89 | spec
  adj : Int := 0  -- I16 | 03_weft_selection R101, R108 ADJ | spec
  mmRun : Nat := 0  -- count | 03_weft_selection R101 | DESIGN CHOICE(1)
  mmDiff : Int := 0  -- I16 | 03_weft_selection R101 | DESIGN CHOICE(1)
  adjOver : Bool := false  -- 1 | 03_weft_selection R101 (an adoption would have exceeded ADJ_LIMIT, and the mismatch lasts) | DESIGN CHOICE(1)
  stallRun : Nat := 0  -- count | 03_weft_selection R102 | DESIGN CHOICE(1)
  merged : Option Warp := none  -- aggregate | 03_weft_selection R86, R88 | DESIGN CHOICE(1)
  mergedK : Nat := 0  -- U64 | 03_weft_selection R86 | DESIGN CHOICE(1)
  shuttleSentK : Option Nat := none  -- U64 | 03_weft_selection R88; 10_journal_redundancy R335 | DESIGN CHOICE(1)
  straddleK : List Nat := []  -- cycles | 08_time_base R266 (those that straddled the last step) | DESIGN CHOICE(1)
  sawNbin : Bool := false  -- 1 | 03_weft_selection R83 | spec
  winNext : WinVal := {}  -- window of cycle k + 1 | 03_weft_selection R83 | DESIGN CHOICE(1)
  winAfter : WinVal := {}  -- window of cycle k + 2 | 03_weft_selection R83; 10_journal_redundancy R333 | DESIGN CHOICE(1)
  lastC : Nat := 0  -- U16 | 03_weft_selection R107 WEFT.COUNT, R108 LAST_C | spec
  lastE : Int := 0  -- U16 | 03_weft_selection R107 WEFT.COUNT, R108 LAST_E | spec
  lastN : Int := 0  -- I16 | 03_weft_selection R107 WEFT.TARGET, R108 LAST_N | spec
  lastM : Nat := 0  -- U16 | 03_weft_selection R107 WEFT.TARGET | spec
  lastVmin : Nat := 0  -- U16 | 03_weft_selection R108 LAST_VMIN | spec
  lastVmax : Nat := 0  -- U16 | 03_weft_selection R108 LAST_VMAX | spec
  lastI : Int := 0  -- I16 | 03_weft_selection R108 LAST_CURRENT | spec
  curBbin : Nat := 64  -- U8 | 10_journal_redundancy R333 BBIN of cycle k | spec
  curFlags : Nat := 0  -- U8 | 10_journal_redundancy R333 Shuttle FLAGS of cycle k | spec
  curAlloc : Nat := 0  -- U16 | 10_journal_redundancy R333 ALLOC of cycle k | spec
  deriving DecidableEq, Repr

/-- One REFIN and its fallback, with the tap of the timeout that holds it (R123). -/
structure RefinState where
  held : Bool := false
  falling : Bool := false
  since : Nat := 0
  deriving DecidableEq, Repr

/-- What an execution has staged, to be committed at its END (R111): the variable file, the blocks, HYST, the mailboxes, the values
for the Weft or the Gate unit, and what the commit will record. -/
structure Stage where
  vars : Vector F32 512 := Vector.replicate 512 0
  pi : Vector PiState 8 := Vector.replicate 8 {}
  ramp : Vector RampState 8 := Vector.replicate 8 {}
  xout : Vector F32 16 := Vector.replicate 16 0
  h : Int := 0
  nOut : Int := 0
  nFf : Int := 0
  iRef : F32 := 0
  uFf : F32 := 0
  vFilt : F32 := 0
  filtRun : Bool := false
  duty : F32 := 0
  dutyNew : Bool := false
  fpe : Bool := false
  pred : Bool := false
  hystRan : Bool := false
  nLim : Bool := false
  xfer : Bool := false
  clamped : List Nat := []
  rampsDone : List Nat := []
  tracked : List Nat := []
  mode : RunMode := .stop
  deriving DecidableEq, Repr

/-- The Treadle engine (R109 to R138). -/
structure Treadle where
  std : Bool := true  -- 1 | 04_treadle_control R137 TRDL.CTRL.STD | spec
  bank : Nat := 0  -- 1 | 04_treadle_control R137 TRDL.CTRL.BANK | spec
  banks : Vector TProgram 2 := Vector.replicate 2 {}  -- 2 x 4096 x 64 | 04_treadle_control R109 microprogram store | DESIGN CHOICE(1)
  staged : Bool := false  -- 1 | 04_treadle_control R113 (an image has been loaded into the inactive bank) | DESIGN CHOICE(1)
  lastMode : RunMode := .stop  -- 2 | 04_treadle_control R125 (mode of the last FAST commit) | DESIGN CHOICE(1)
  slowMode : RunMode := .stop  -- 2 | 04_treadle_control R125 (mode of the last SLOW commit) | DESIGN CHOICE(1)
  vars : Vector F32 512 := Vector.replicate 512 0  -- 512 x F32 | 04_treadle_control R109 variable file; 13 R432 | spec
  pi : Vector PiState 8 := Vector.replicate 8 {}  -- 8 blocks | 04_treadle_control R109, R138 OUTPUT, INTEGRATOR | spec
  ramp : Vector RampState 8 := Vector.replicate 8 {}  -- 8 blocks | 04_treadle_control R109, R138 OUTPUT, STATE | spec
  h : Int := 0  -- I16 | 04_treadle_control R117, R137 TRDL.NCUR.H | spec
  nEff : Int := 0  -- I16 | 04_treadle_control R118 | DESIGN CHOICE(1)
  nOut : Int := 0  -- I16 | 04_treadle_control R117, R137 TRDL.NCUR.N | spec
  nFf : Int := 0  -- integer | 04_treadle_control R116 | DESIGN CHOICE(1)
  xin : Vector F32 16 := Vector.replicate 16 0  -- 16 x F32 | 04_treadle_control R137 XIN | spec
  xout : Vector F32 16 := Vector.replicate 16 0  -- 16 x F32 | 04_treadle_control R137 XOUT | spec
  refin : Vector RefinState 8 := Vector.replicate 8 {}  -- 8 x F32 | 04_treadle_control R123, R138 REFIN | spec
  iRef : F32 := 0  -- F32 | 04_treadle_control R137 TRDL.IREF | spec
  iMeas : F32 := 0  -- F32 | 04_treadle_control R114 code 0x0600, R137 TRDL.IMEAS | spec
  uFf : F32 := 0  -- F32 | 04_treadle_control R137 TRDL.UFF | spec
  vMean : F32 := 0  -- F32 | 04_treadle_control R114 code 0x0601, R137 TRDL.VMEAN | spec
  vSum : F32 := 0  -- F32 | 04_treadle_control R114 code 0x0602 | DESIGN CHOICE(1)
  nbin : Nat := 0  -- U16 | 04_treadle_control R114 code 0x0604 | DESIGN CHOICE(1)
  slot0 : F32 := 0  -- F32 | 04_treadle_control R114 code 0x0605 | spec
  slot1 : F32 := 0  -- F32 | 04_treadle_control R114 code 0x0606 | spec
  curValid : Bool := false  -- 1 | 04_treadle_control R137 TRDL.STAT.NOCUR | spec
  noCurRun : Nat := 0  -- count | 04_treadle_control R119 | DESIGN CHOICE(1)
  vOwn : Nat := 0  -- U16 code | 04_treadle_control R114 code 0x0607, R134 | DESIGN CHOICE(1)
  vFilt : F32 := 0  -- F32 | 04_treadle_control R134, R138 V_FILT | spec
  filtRun : Bool := false  -- 1 | 04_treadle_control R134 | DESIGN CHOICE(1)
  duty : F32 := 0  -- F32 | 04_treadle_control R135, R138 DUTY | spec
  vHave : Bool := false  -- 1 | 04_treadle_control R134 (a capacitor code has been obtained) | DESIGN CHOICE(1)
  fastK : Option Nat := none  -- cycle | 04_treadle_control R115, R129 (of the latest FAST that started or overran) | DESIGN CHOICE(1)
  boundJ : Option Nat := none  -- station cycle | 04_treadle_control R115 (of the latest boundary s_j) | DESIGN CHOICE(1)
  slowK : Option Nat := none  -- station cycle | 04_treadle_control R115, R129 (of the latest SLOW that started or overran) | DESIGN CHOICE(1)
  fastBusy : Option Nat := none  -- cycle | 04_treadle_control R115 (FAST execution in progress) | DESIGN CHOICE(1)
  slowBusy : Option Nat := none  -- cycle | 04_treadle_control R115 (SLOW execution in progress) | DESIGN CHOICE(1)
  fastStage : Stage := {}  -- staged writes | 04_treadle_control R111 | DESIGN CHOICE(1)
  slowStage : Stage := {}  -- staged writes | 04_treadle_control R111 | DESIGN CHOICE(1)
  cycle : Nat := 0  -- U64 | 04_treadle_control R137 TRDL.CYCLE | spec
  fastNs : Nat := 0  -- U16 | 04_treadle_control R137 TRDL.FASTNS.LAST | spec
  fastMax : Nat := 0  -- U16 | 04_treadle_control R137 TRDL.FASTNS.MAX | spec
  slowNs : Nat := 0  -- U16 | 04_treadle_control R137 TRDL.SLOWNS.LAST | spec
  slowMax : Nat := 0  -- U16 | 04_treadle_control R137 TRDL.SLOWNS.MAX | spec
  fastOk : Bool := false  -- 1 | 04_treadle_control R137 TRDL.STAT.FASTOK | spec
  slowOk : Bool := false  -- 1 | 04_treadle_control R137 TRDL.STAT.SLOWOK | spec
  stat : Word := 0  -- 32 | 04_treadle_control R137 TRDL.STAT (W1C bits 16-20) | spec
  inten : Word := 0  -- 32 | 04_treadle_control R137 TRDL.INTEN | spec
  overruns : Nat := 0  -- U32 | 04_treadle_control R137 OVERRUN | spec
  fpes : Nat := 0  -- U32 | 04_treadle_control R137 FPE | spec
  slowSkips : Nat := 0  -- U32 | 04_treadle_control R137 SLOWSKIP | spec
  ovrCycles : List Nat := []  -- cycles | 04_treadle_control R131, R137 TRDL.OVRWIN.INWIN | spec
  ovrConsec : Nat := 0  -- U8 | 04_treadle_control R131, R137 TRDL.OVRWIN.CONSEC | spec
  deriving DecidableEq, Repr

/-- One switch of a leg: on or off, the tap since which it has been off, the tap at which it turned on, and a pending switch-on with its
scheduled tap (R143). All are taps of TRAW: a dead time is a duration (R267), and a step of network time moves none of them (R265). -/
structure Switch where
  on : Bool := false
  offSince : Nat := 0
  onAt : Nat := 0
  pendingOn : Option Nat := none
  deriving DecidableEq, Repr

/-- An edge scheduled on an output at a tap of network time (R144, R154); on GO6 and GO7 EDGE_OFS is still to be added. -/
structure SchedEdge where
  out : Nat
  tap : Int
  level : Bool
  deriving DecidableEq, Repr

/-- One fault input (R160 to R164): the level at its ball, the filtered state and the latch. -/
structure FltInput where
  raw : Bool := false
  act : Bool := false
  latched : Bool := false
  deriving DecidableEq, Repr

/-- The loadable Gate registers: loaded values, or pending shadows (R156, R167). -/
structure GateRegs where
  period : Nat := 0
  phase : Nat := 0
  deadtime : Nat := 0
  edgeOfs : Int := 0
  duty : F32 := 0
  cmpt : Vector Nat 4 := Vector.replicate 4 0xFFFFFFFF
  deriving DecidableEq, Repr

/-- The shadow registers that are pending (R156, R157). `dutyPartner` when the DUTY was written at or after PERIOD; `since` holds the
taps of the writes of PERIOD, PHASE, DEADTIME, EDGE_OFS, DUTY and CMPT0 to CMPT3 (R158). -/
structure GateShadow where
  period : Option Nat := none
  phase : Option Nat := none
  deadtime : Option Nat := none
  edgeOfs : Option Int := none
  duty : Option F32 := none
  dutyPartner : Bool := false
  cmpt : Vector (Option Nat) 4 := Vector.replicate 4 none
  wait : Nat := 0
  since : Vector Nat 9 := Vector.replicate 9 0
  deriving DecidableEq, Repr

/-- The Gate unit (R139 to R168). -/
structure Gate where
  goPol : Nat := 0  -- 8 | 05_gate_outputs R140, R167 GATE.CFG.POL | spec
  hiz : Bool := true  -- 1 | 05_gate_outputs R140, R167 GATE.OUT.HIZ | spec
  act : GateRegs := {}  -- loaded PERIOD, PHASE, DEADTIME, EDGE_OFS, DUTY, CMPT | 05_gate_outputs R156, R167 | spec
  sh : GateShadow := {}  -- pending shadows | 05_gate_outputs R156, R157, R167 GATE.SHADOW | spec
  leg1 : LegState := .openLeg  -- 3 values | 05_gate_outputs R142 | DESIGN CHOICE(1)
  leg2 : LegState := .openLeg  -- 3 values | 05_gate_outputs R142 | DESIGN CHOICE(1)
  sw : Vector Switch 4 := Vector.replicate 4 {}  -- GO0-GO3 | 05_gate_outputs R139, R143 | DESIGN CHOICE(1)
  safeAt : Option Nat := none  -- taps | 03_weft_selection R96; 05_gate_outputs R163 (the bridge last went to the safe pattern) | DESIGN CHOICE(1)
  ins : Insertion := .safeOpen  -- insertion state | 05_gate_outputs R142, R167 GATE.OUT.INS, NEG | spec
  zeroTop : Bool := false  -- 1 | 05_gate_outputs R142 ZERO_LEGS 2 | DESIGN CHOICE(1)
  bypPulse : Bool := false  -- 1 | 05_gate_outputs R141 GO4 pulse level | DESIGN CHOICE(1)
  bypAt : Nat := 0  -- taps | 05_gate_outputs R141 (the bypass command, from which the pulse train runs) | DESIGN CHOICE(1)
  go6 : Bool := false  -- 1 | 05_gate_outputs R155, R162 (own drive of GO6) | DESIGN CHOICE(1)
  go7 : Bool := false  -- 1 | 05_gate_outputs R155, R162 (own drive of GO7) | DESIGN CHOICE(1)
  aux : Nat := 0  -- 2 | 05_gate_outputs R155, R167 GATE.AUX | spec
  dctrl : Nat := 0  -- 3 | 05_gate_outputs R154, R167 GATE.DCTRL | spec
  dofs : Nat := 0  -- 32 | 05_gate_outputs R154, R167 GATE.DOFS | spec
  sched : List SchedEdge := []  -- scheduled edges | 05_gate_outputs R144, R154 | DESIGN CHOICE(1)
  carStart : Int := 0  -- tap of NT | 05_gate_outputs R150 (boundary of the period in progress) | DESIGN CHOICE(1)
  carLen : Nat := 0  -- taps | 05_gate_outputs R150, R151 | DESIGN CHOICE(1)
  carRun : Bool := false  -- 1 | 05_gate_outputs R149, R152 (legs follow the carrier) | DESIGN CHOICE(1)
  carPrev : Int × Nat := (0, 0)  -- tap of NT, taps | 05_gate_outputs R159 (the period before the one in progress) | DESIGN CHOICE(1)
  carAdj : Bool := false  -- 1 | 05_gate_outputs R151 (the period in progress is counted in REALIGN) | DESIGN CHOICE(1)
  carMin : Bool := false  -- 1 | 05_gate_outputs R150 (the period in progress is counted in MINPULSE) | DESIGN CHOICE(1)
  stepRef : Option Int := none  -- tap of NT | 08_time_base R265 (the reference of the period in progress at the latest step, moved by it) | DESIGN CHOICE(1)
  flt : Vector FltInput 6 := Vector.replicate 6 {}  -- FLT0-FLT5 | 05_gate_outputs R160, R167 GATE.FLT | spec
  rb : Vector (Option (Bool × Nat)) 8 := Vector.replicate 8 none  -- 8 x level, tap | 05_gate_outputs R146, R167 GATE.OUT.LEVEL (the latest readback) | DESIGN CHOICE(1)
  goSeen : Vector (Bool × Nat) 8 := Vector.replicate 8 (false, 0)  -- 8 x level, tap | 05_gate_outputs R146 (the commanded state at the last period of REFCLK, and its latest edge) | DESIGN CHOICE(1)
  edgeK : Option Nat := none  -- cycle | 05_gate_outputs R147, R156 (of the latest t_e) | DESIGN CHOICE(1)
  gridK : Option Nat := none  -- cycle | 05_gate_outputs R156 (of the latest t₀ at a node without a Weft) | DESIGN CHOICE(143)
  cmptAt : Vector (Option Int) 4 := Vector.replicate 4 none  -- 4 x tap of NT | 05_gate_outputs R159 (the reference of the period in which trigger n last fired) | DESIGN CHOICE(1)
  calAt : Nat := 0  -- taps | 05_gate_outputs R145 (of the latest calibration) | DESIGN CHOICE(1)
  calSpan : Nat := 0  -- 8 | 05_gate_outputs R145, R167 GATE.CAL.SPAN | spec
  calOk : Bool := false  -- 1 | 05_gate_outputs R145, R167 GATE.CAL.OK | spec
  mismatch : Nat := 0  -- U32 | 05_gate_outputs R167 MISMATCH | spec
  realign : Nat := 0  -- U32 | 05_gate_outputs R167 REALIGN | spec
  clearRefused : Nat := 0  -- U32 | 05_gate_outputs R167 CLEAR_REFUSED | spec
  forces : Nat := 0  -- U32 | 05_gate_outputs R165, R167 FORCES | spec
  minpulse : Nat := 0  -- U32 | 05_gate_outputs R167 MINPULSE | spec
  readback : Nat := 0  -- U32 | 05_gate_outputs R167 READBACK | spec
  cals : Nat := 0  -- U32 | 05_gate_outputs R167 CALS | spec
  evt : Word := 0  -- 32 | 05_gate_outputs R167 GATE.EVT | spec
  inten : Word := 0  -- 32 | 05_gate_outputs R167 GATE.INTEN | spec
  deriving DecidableEq, Repr

/-- What a converter core is doing (R171, R180). -/
inductive AdcWork where
  | none
  | tb (entry : Nat)
  | urgent (entry : Nat)
  | tbRest (entry : Nat)
  | cmpt (n entry : Nat)
  | sw (entry : Nat)
  | slot (gain : Nat)
  deriving DecidableEq, Repr

/-- One converter core ADCn (R169 to R185, R195). A pending run is held as its next entry; `resvEnd` is the tap at which the TB reservation
in progress ends (R179), and `ofsAt` the tap since which each gain waits for its next offset refresh (R175). -/
structure AdcCore where
  enabled : Bool := false
  cur : AdcWork := .none
  startTap : Nat := 0
  resvEnd : Nat := 0
  urgPend : Option Nat := none
  tbRest : Option Nat := none
  cmptPend : Vector (Option Nat) 4 := Vector.replicate 4 none
  swPend : Option Nat := none
  urgEntry : Nat := 0
  resVal : Nat := 0
  resCh : Nat := 0
  resEntry : Nat := 0
  resUrg : Bool := false
  resOvr : Bool := false
  resValid : Bool := false
  holdNs : Nat := 0
  x : F32 := 0
  stat : Word := 0
  ofsAt : Vector Nat 5 := Vector.replicate 5 0
  deriving DecidableEq, Repr

/-- The measurement unit (R169 to R195). The comparators stand in the island. -/
structure Adc where
  cores : Vector AdcCore 2 := Vector.replicate 2 {}  -- 2 cores | 06_measurement R195 ADCn.CFG, STAT, RES, HOLDT, URG | spec
  refReady : Bool := false  -- 1 | 06_measurement R172, R195 ADC.CTRL.REFRDY | spec
  refBad : Bool := false  -- 1 | 06_measurement R173 | DESIGN CHOICE(1)
  refSince : Nat := 0  -- taps | 06_measurement R172, R173 (the buffer has been enabled since, or a fault has been declared) | DESIGN CHOICE(1)
  calBusy : Bool := false  -- 1 | 06_measurement R195 ADC.CTRL.CALBUSY | spec
  cal0Ok : Bool := false  -- 1 | 06_measurement R195 ADC.CTRL.CAL0OK | spec
  cal1Ok : Bool := false  -- 1 | 06_measurement R195 ADC.CTRL.CAL1OK | spec
  firstCal : Bool := false  -- 1 | 06_measurement R174 (first full calibration since reset done) | DESIGN CHOICE(1)
  calPending : Bool := false  -- 1 | 06_measurement R174 (CAL_START while not ready) | DESIGN CHOICE(1)
  tbPend : Option Nat := none  -- ns of NT | 08_time_base R265 (the TB instant that was pending at a step, where it lies off the new grid) | DESIGN CHOICE(1)
  vcapCode : Nat := 0  -- 16 | 06_measurement R195 ADC.VCAP.CODE, VCAP_CODE | spec
  vcapRaw : Nat := 0  -- 16 | 06_measurement R195 ADC.VCAP.RAW | spec
  isensCode : Int := 0  -- 16 | 06_measurement R195 ADC.ISENS.CODE, ISENS_CODE | spec
  isensValid : Bool := false  -- 1 | 06_measurement R195 ADC.ISENS.VALID, ISENS_STATUS | spec
  isensOver : Bool := false  -- 1 | 06_measurement R195 ADC.ISENS.OVRANGE, ISENS_STATUS | spec
  overruns : Nat := 0  -- U32 | 06_measurement R195 OVERRUNS | spec
  trigLosts : Nat := 0  -- U32 | 06_measurement R195 TRIGLOSTS | spec
  aborts : Nat := 0  -- U32 | 06_measurement R195 ABORTS | spec
  refWaits : Nat := 0  -- U32 | 06_measurement R195 REFWAITS | spec
  evt : Word := 0  -- 32 | 06_measurement R195 ADC.EVT | spec
  inten : Word := 0  -- 32 | 06_measurement R195 ADC.INTEN | spec
  deriving DecidableEq, Repr

/-- One direction of a lane (R203, R238): the blocks of the last 1 ms other than idle LS, by the tap of their end; the tap at which the latest
frame ends, and the latest normal frame; the start and the end of each unbroken row of express frames, the latest first; and the blocks since the
latest LS block. -/
structure LaneUse where
  blocks : List (Nat × Nat) := []
  endAt : Nat := 0
  normalEnd : Nat := 0
  express : List (Nat × Nat) := []
  run : Nat := 0
  deriving DecidableEq, Repr

/-- A frame queued on a transmit port, with the tap at which it queued (R209). -/
structure QEntry where
  frame : Frame
  since : Nat
  deriving DecidableEq, Repr

/-- One Floen port p (R197 to R226, R238). -/
structure Port where
  state : LinkState := .disabled  -- 3 | 07_floen_links R221, R238 LINKp.STAT.LSTATE, LINK_STATE | spec
  peer : LsBlock := {}  -- 7 bytes | 07_floen_links R202, R238 LINKp.STAT.PPORT, PROLE, UPLOST, PADDR | spec
  blk : Bool := false  -- 1 | 07_floen_links R218, R238 LINKp.STAT.BLK | spec
  txDark : Bool := true  -- 1 | 07_floen_links R198, R238 LINKp.STAT.TXDARK | spec
  los : Bool := false  -- 1 | 07_floen_links R238 LINKp.STAT.LOS | spec
  modAbs : Bool := false  -- 1 | 07_floen_links R199, R238 LINKp.STAT.ABS, XCVR_PRESENT | spec
  portOk : Bool := false  -- 1 | 07_floen_links R221 (port check) | DESIGN CHOICE(1)
  flapHold : Bool := false  -- 1 | 07_floen_links R223 | DESIGN CHOICE(1)
  lossTaps : List Nat := []  -- taps, newest first | 07_floen_links R221, R223 | DESIGN CHOICE(1)
  goodSince : Nat := 0  -- taps | 01_twill_roles R34 (lit and free of UPLOST since) | DESIGN CHOICE(1)
  delays : List Int := []  -- at most 8, 78.125 ps/2 | 07_floen_links R226 | DESIGN CHOICE(1)
  outRun : Nat := 0  -- count | 07_floen_links R226 | DESIGN CHOICE(1)
  outliers : Nat := 0  -- U32 | 07_floen_links R226 OUTLIERS | spec
  delay : Nat := 0  -- U32 ps | 07_floen_links R226, R238 LINKp.DELAY | spec
  exchanges : Nat := 0  -- count | 07_floen_links R221 (valid exchanges in MEASURE) | DESIGN CHOICE(1)
  reqXid : Option Nat := none  -- U16 | 07_floen_links R225 (exchange in progress) | DESIGN CHOICE(1)
  reqT1 : Nat := 0  -- taps | 07_floen_links R225 t1 | DESIGN CHOICE(1)
  reqAt : Option Nat := none  -- taps | 07_floen_links R225 (the latest exchange began) | DESIGN CHOICE(1)
  nextXid : Nat := 0  -- U16 | 07_floen_links R225 XID | DESIGN CHOICE(1)
  hseqRx : Option Nat := none  -- U16 | 07_floen_links R207 | DESIGN CHOICE(1)
  hseqTx : Nat := 0  -- U16 | 07_floen_links R205, R207 | spec
  queue : List QEntry := []  -- class queues of R208 | 07_floen_links R208, R209 | DESIGN CHOICE(1)
  tx : LaneUse := {}  -- blocks of the last 1 ms | 07_floen_links R203, R238 LINKp.UTIL.TX | spec
  rx : LaneUse := {}  -- blocks of the last 1 ms | 07_floen_links R203, R238 LINKp.UTIL.RX | spec
  lsSent : Bool × Bool := (false, false)  -- BLK, UPLOST | 07_floen_links R203 (what the latest LS block sent says) | DESIGN CHOICE(1)
  lastTx : Option Frame := none  -- frame | 07_floen_links R203, R209 (the latest frame sent on the lane) | DESIGN CHOICE(1)
  crcErr : Nat := 0  -- U32 | 07_floen_links R238 CRCERR | spec
  hcsErr : Nat := 0  -- U32 | 07_floen_links R238 HCSERR | spec
  hseqGap : Nat := 0  -- U32 | 07_floen_links R238 HSEQGAP | spec
  aborts : Nat := 0  -- U32 | 07_floen_links R238 ABORTS | spec
  drops : Nat := 0  -- U32 | 07_floen_links R238 DROPS | spec
  losses : Nat := 0  -- U32 | 07_floen_links R238 LOSSES | spec
  aged : Nat := 0  -- U32 | 07_floen_links R238 AGED | spec
  addrErr : Nat := 0  -- U32 | 07_floen_links R238 ADDRERR | spec
  errTaps : List Nat := []  -- taps | 07_floen_links R237 LINK_ERRORS window | DESIGN CHOICE(1)
  i2cBusy : Bool := false  -- 1 | 07_floen_links R199 | DESIGN CHOICE(1)
  i2cAt : Nat := 0  -- taps | 07_floen_links R199; 14_pins_electrical R460 (the transaction began) | DESIGN CHOICE(1)
  diagAt : Option Nat := none  -- taps | 07_floen_links R199 DIAG_INTERVAL (the latest poll) | DESIGN CHOICE(1)
  xTemp : Int := 0  -- I16 | 07_floen_links XCVR_TEMP | spec
  xVcc : Nat := 0  -- U16 | 07_floen_links XCVR_VCC | spec
  xBias : Nat := 0  -- U16 | 07_floen_links XCVR_BIAS | spec
  xTx : Nat := 0  -- U16 | 07_floen_links XCVR_TXPWR | spec
  xRx : Nat := 0  -- U16 | 07_floen_links XCVR_RXPWR | spec
  xFlags : Nat := 0  -- U32 | 07_floen_links XCVR_FLAGS | spec
  xVendor : Option Nat := none  -- 16 bytes | 07_floen_links XCVR_VENDOR (read from the present module) | DESIGN CHOICE(1)
  deriving DecidableEq, Repr

/-- One entry of the duplicate filter (R215). Bit i of `seen` is ESEQ `high` − 1 − i. -/
structure DupEntry where
  src : Nat
  cls : FloenClass
  high : Nat
  seen : Nat
  deriving DecidableEq, Repr

/-- One check unit CUu (R227 to R229, R239); its parameters are objects. -/
structure Cu where
  crc : Nat := 0
  bytes : Nat := 4
  result : Nat := 0
  fails : Nat := 0
  deriving DecidableEq, Repr

/-- One published GOOSE dataset (R233). -/
structure GoosePub where
  stNum : Nat := 0
  sqNum : Nat := 0
  intervalMs : Nat := 0
  sentTap : Nat := 0
  lastVals : List Nat := []
  deriving DecidableEq, Repr

/-- One GOOSE subscription (R235). -/
structure GooseSub where
  status : Nat := 0
  lastTap : Nat := 0
  ttlMs : Nat := 0
  stored : Option (List Nat) := none
  deriving DecidableEq, Repr

/-- One Sampled Values subscription (R236). -/
structure SvSub where
  status : Nat := 0
  missed : Nat := 0
  lastCnt : Option Nat := none
  lastTap : Nat := 0
  deriving DecidableEq, Repr

/-- A member of a published dataset, as the BER type that encodes it (R233). -/
inductive GooseVal where
  | boolean (b : Bool)
  | unsigned (n : Nat)
  | integer (i : Int)
  | float (f : F32)
  deriving DecidableEq, Repr

/-- A GOOSE message of IEC 61850-8-1 as the STATION publishes it (R233, R240). -/
structure GooseOut where
  dataset : Nat
  dstMac : Nat
  appid : Nat
  gocbRef : Nat
  datSet : Nat
  goId : Nat
  ttlMs : Nat
  stNum : Nat
  sqNum : Nat
  confRev : Nat
  members : List GooseVal
  deriving DecidableEq, Repr

/-- A PTP message of a STATION in its domain (R261): as a master Sync, with its Follow_Up where two-step, and Announce; a request of the peer delay,
and the answer to a neighbour's request. -/
inductive PtpOut where
  | sync (domain : Nat) (twoStep : Bool)
  | followUp (domain : Nat)
  | announce (m : PtpMaster)
  | pdelayReq (domain : Nat)
  | pdelayResp (domain requester : Nat) (twoStep : Bool)
  | pdelayFollowUp (domain requester : Nat)
  deriving DecidableEq, Repr

/-- What a frame of a STATION carries (R57, R231 to R233, R261). -/
inductive EthContent where
  | supervision
  | goose (g : GooseOut)
  | arpReply (targetIp : Nat)
  | icmpReply (dstIp : Nat)
  | udp (session : Nat) (sdu : List Byte)
  | ptp (m : PtpOut)
  deriving DecidableEq, Repr

/-- A frame that a STATION sends on a LAN port (R230 to R236, R261): the sequence number and LAN identifier of its PRP trailer, its source address, its 802.1Q tag of VLAN_ID and
VLAN_PRIO where it carries one, and its content. -/
structure EthOut where
  lan : Nat
  prp : Option (Nat × Nat)
  srcMac : Nat
  vlan : Option (Nat × Nat) := none
  content : EthContent
  deriving DecidableEq, Repr

/-- The station ports (R230 to R236). -/
structure Lan where
  up : Vector Bool 2 := Vector.replicate 2 false  -- 2 | 07_floen_links R230, LAN_STATE | spec
  seen : List (Nat × Nat × Nat) := []  -- MAC, sequence, tap | 07_floen_links R231 (entry-forget 400 ms) | DESIGN CHOICE(1)
  seqTx : Nat := 0  -- U16 | 07_floen_links R231 | DESIGN CHOICE(1)
  supAt : Option Nat := none  -- taps | 07_floen_links R231 PRP_SUP_INTERVAL (the latest supervision frame) | DESIGN CHOICE(1)
  duplicates : Nat := 0  -- U32 | 07_floen_links R231 PRP_DUPLICATES | spec
  wrongLan : Nat := 0  -- U32 | 07_floen_links R231 PRP_WRONG_LAN | spec
  gp : Vector GoosePub 8 := Vector.replicate 8 {}  -- 8 | 07_floen_links R233 stNum, sqNum; 10_journal_redundancy R333 | DESIGN CHOICE(1)
  gs : Vector GooseSub 32 := Vector.replicate 32 {}  -- 32 | 07_floen_links R235 GS_STATUS | spec
  sv : Vector SvSub 4 := Vector.replicate 4 {}  -- 4 | 07_floen_links R236 SV_STATUS, SV_MISSED | spec
  ds0Class : Nat := 0  -- U8 | 07_floen_links R234 member 3 | DESIGN CHOICE(1)
  ds0Type : Nat := 0  -- U16 | 07_floen_links R234 member 4 | DESIGN CHOICE(1)
  ds0Src : Nat := 0  -- U32 | 07_floen_links R234 member 5 | DESIGN CHOICE(1)
  ds0Rsn : Nat := 0  -- U32 | 07_floen_links R234 member 6 | DESIGN CHOICE(1)
  out : List EthOut := []  -- list, newest first | 07_floen_links R230-R236 (frames sent) | DESIGN CHOICE(1)
  deriving DecidableEq, Repr

/-- The LINK block (R197 to R241). -/
structure Link where
  ports : Vector Port 6 := Vector.replicate 6 {}  -- 6 ports | 07_floen_links R197, R238 | spec
  cu : Vector Cu 4 := Vector.replicate 4 {}  -- 4 units | 07_floen_links R227, R239 | spec
  lan : Lan := {}  -- station ports | 07_floen_links R230 | spec
  dup : List DupEntry := []  -- at most 32, least recent first | 07_floen_links R215 | DESIGN CHOICE(1)
  eseq : Vector Nat 8 := Vector.replicate 8 0  -- 8 x U16 | 07_floen_links R205 ESEQ | DESIGN CHOICE(1)
  blkOrig : Bool := false  -- 1 | 07_floen_links R219 (a STATION sends the BLK of its demand) | DESIGN CHOICE(1)
  blkOut : Bool := false  -- 1 | 07_floen_links R219, R238 LINK.BLK.OUT | spec
  blkSeen : Bool := false  -- 1 | 07_floen_links R238 LINK.BLK.SEEN | spec
  blkSince : Nat := 0  -- taps | 07_floen_links R219 | DESIGN CHOICE(1)
  blkCount : Nat := 0  -- U32 | 07_floen_links BLK_COUNT | spec
  noRoute : Nat := 0  -- U32 | 07_floen_links R238 NOROUTE | spec
  hopsExp : Nat := 0  -- U32 | 07_floen_links R238 HOPSEXP | spec
  dirErr : Nat := 0  -- U32 | 07_floen_links R238 DIRERR | spec
  dups : Nat := 0  -- U32 | 07_floen_links R238 DUPS | spec
  evt : Word := 0  -- 32 | 07_floen_links R238 LINK.EVT | spec
  inten : Word := 0  -- 32 | 07_floen_links R238 LINK.INTEN | spec
  deriving DecidableEq, Repr

/-- One pulse output TPOn (R269). -/
structure Tpo where
  active : Bool := false
  fired : Bool := false
  startTap : Int := 0
  count : Nat := 0
  deriving DecidableEq, Repr

/-- One capture of a TSI input: the NT_f count of the edge and its direction (R270). -/
structure TsiEntry where
  nt : Int := 0
  falling : Bool := false
  deriving DecidableEq, Repr

/-- One capture input TSIn (R270). -/
structure Tsi where
  fifo : List TsiEntry := []
  level : Bool := false
  ovf : Bool := false
  captures : Nat := 0
  overflows : Nat := 0
  last : Int := 0
  lastTap : Option Nat := none
  deriving DecidableEq, Repr

/-- A scheduled step: instant in ns of network time, increment in ns, identifier (R249). -/
structure SStep where
  ts : Nat := 0
  delta : Int := 0
  armed : Bool := false
  late : Bool := false
  id : Nat := 0
  deriving DecidableEq, Repr

/-- The PTP state of a STATION (R261), with the taps of the latest Announce of each LAN's master and of the latest messages sent. -/
structure Ptp where
  masterA : Option PtpMaster := none
  masterB : Option PtpMaster := none
  port : Nat := 0
  locked : Bool := false
  run : Nat := 0
  offset : Int := 0
  pdelayA : Int := 0
  pdelayB : Int := 0
  asMaster : Bool := false
  annA : Nat := 0
  annB : Nat := 0
  sentTap : Nat := 0
  deriving DecidableEq, Repr

/-- The time base (R242 to R272). -/
structure TimeBase where
  taps : Nat := 0  -- 64 + 7 | 08_time_base R244 (TRAW × 128 + tap) | spec
  offset : Int := 0  -- 96 | 08_time_base R244, R245, R272 TB.OFFS0-OFFS2 | spec
  rate : Int := 0  -- 32 | 08_time_base R244, R245, R272 TB.RATE | spec
  refOk : Bool := false  -- 1 | 08_time_base R243, R272 TB.CTRL.REFOK | spec
  state : TimeState := .free  -- 2 | 08_time_base R252, R272 TB.CTRL.TSTATE | spec
  latTraw : Nat := 0  -- 64 | 08_time_base R246, R272 TB.TRAWL, TRAWH | spec
  latTap : Nat := 0  -- 7 | 08_time_base R246, R272 TB.TAP | spec
  latNt : Nat := 0  -- 96 | 08_time_base R246, R272 TB.NT0-NT2 (as NT96) | spec
  stepReg : Vector Nat 3 := Vector.replicate 3 0  -- 3 x 32 | 08_time_base R248, R272 TB.STEP0-STEP2 | spec
  sstep : SStep := {}  -- registers | 08_time_base R249, R272 TB.SSTEPS, SSTEPN, SSTEPDL, SSTEPDH, SSTEPC | spec
  sstepReg : Vector Nat 4 := Vector.replicate 4 0  -- 4 x 32 | 08_time_base R249, R272 TB.SSTEPS, SSTEPN, SSTEPDL, SSTEPDH | spec
  steps : Nat := 0  -- U32 | 08_time_base R272 STEPS | spec
  stepRefused : Nat := 0  -- U32 | 08_time_base R248, R272 STEPREFUSED | spec
  sSteps : Nat := 0  -- U32 | 08_time_base R272 SSTEPS | spec
  evt : Word := 0  -- 32 | 08_time_base R272 TB.EVT | spec
  inten : Word := 0  -- 32 | 08_time_base R272 TB.INTEN | spec
  servoI : F32 := 0  -- F32 | 08_time_base R257 (I) | DESIGN CHOICE(1)
  theta : Int := 0  -- 1/65536 ns | 08_time_base R256, THETA | spec
  lockRun : Nat := 0  -- count | 08_time_base R252 | DESIGN CHOICE(1)
  bigRun : Nat := 0  -- count | 08_time_base R252 (STEP_THRESHOLD run) | DESIGN CHOICE(1)
  alignRun : Nat := 0  -- count | 08_time_base R258 | DESIGN CHOICE(1)
  quantRun : Nat := 0  -- count | 08_time_base R262 (|θ| ≥ Q/2 run) | DESIGN CHOICE(1)
  prevTx : Vector (Option Int) 6 := Vector.replicate 6 none  -- 6 x 1/65536 ns | 08_time_base R255 (previous T_TX) | DESIGN CHOICE(1)
  appliedDelta : Vector Int 6 := Vector.replicate 6 0  -- 6 x ns | 08_time_base R255 (Δ applied since the previous SYNC) | DESIGN CHOICE(1)
  lastSeq : Vector (Option Nat) 6 := Vector.replicate 6 none  -- 6 x U16 | 08_time_base R255 | DESIGN CHOICE(1)
  lastSyncTap : Nat := 0  -- taps | 08_time_base R252 | DESIGN CHOICE(1)
  depth : Nat := 0  -- U8 | 08_time_base R254, TIME_DEPTH | spec
  rootPtp : Bool := false  -- 1 | 08_time_base R254 ROOTPTP | DESIGN CHOICE(1)
  syncQuantum : Nat := 0  -- U32 ns | 08_time_base R254, R264 STEP_QUANTUM received | DESIGN CHOICE(1)
  retTheta : Vector (Option Int) 4 := Vector.replicate 4 none  -- 4 | 08_time_base R259 | DESIGN CHOICE(1)
  syncAt : Option Nat := none  -- taps | 08_time_base R253 (the latest SYNCs were queued) | DESIGN CHOICE(1)
  slewEnd : Option Nat := none  -- taps | 08_time_base R262, R263 (a remainder of TIME_SET is corrected until then) | DESIGN CHOICE(148)
  stepNt : Int := 0  -- 1/65536 ns | 08_time_base R269 (network time right after the latest step) | DESIGN CHOICE(1)
  syncSeqTx : Vector Nat 6 := Vector.replicate 6 0  -- 6 x U16 | 08_time_base R254 SEQ | DESIGN CHOICE(1)
  ann : SyncMsg := {}  -- announcement | 08_time_base R263 (STEP_ID, STEP_AT, STEP_DELTA copied, STEPV) | DESIGN CHOICE(1)
  nextStepId : Nat := 1  -- U16 | 08_time_base R263 | DESIGN CHOICE(1)
  lastStep : Int := 0  -- I64 ns | 08_time_base LAST_STEP | spec
  refBackTap : Nat := 0  -- taps | 11_selvedge_safety R369 | DESIGN CHOICE(1)
  tpo : Vector Tpo 4 := Vector.replicate 4 {}  -- 4 | 08_time_base R269, R272 TPOn.COUNT | spec
  tsi : Vector Tsi 4 := Vector.replicate 4 {}  -- 4 | 08_time_base R270, R272 TSIn.STAT, TS0-TS2 | spec
  ptp : Ptp := {}  -- PTP | 08_time_base R261, PTP_OFFSET, PDELAY_A, PDELAY_B, PTP_PORT | spec
  utcOffset : Int := 0  -- I16 | 08_time_base R250 UTC_OFFSET | spec
  deriving DecidableEq, Repr

/-- One receiving safety connection, and the sender's sequence number on the same port (R358, R364). -/
structure Conn where
  valid : Bool := false
  start : Bool := false
  dem : Bool := false
  lastSeq : Nat := 0
  lastTap : Nat := 0
  idExp : Nat := 0
  last : Option SafetyFrame := none
  mismatch : Bool := false
  mismatchAt : Nat := 0
  gotValid : Bool := false
  txSeq : Nat := 0
  txLast : Option SafetyFrame := none
  deriving DecidableEq, Repr

/-- One window comparator as the island takes it (R190, R356, R371). -/
structure Wc where
  uv : Nat := 0
  state : WcState := .inside
  since : Nat := 0
  tripped : Bool := false
  coreRun : Nat := 0
  coreTrip : Bool := false
  fault : Bool := false
  belowSdi : Bool := false
  deriving DecidableEq, Repr

/-- The Selvedge island (R345 to R384). -/
structure Selvedge where
  spb : Bool := true  -- 1 | 11_selvedge_safety R348, R383 SEL.STAT.SPB | spec
  causes : Nat := 0x1000  -- 14 | 11_selvedge_safety R348, R383 SEL.SPBC | spec
  causeEnd : Vector Nat 14 := Vector.replicate 14 0  -- 14 x taps | 11_selvedge_safety R351 | DESIGN CHOICE(1)
  sby : Bool := false  -- 1 | 11_selvedge_safety R349, R383 SEL.STAT.SBY | spec
  sbyCause : Nat := 0  -- U8 | 11_selvedge_safety R349 SBY_CAUSE | spec
  sdi : Bool := false  -- 1 | 11_selvedge_safety R350, R383 SEL.STAT.SDI | spec
  sinB : Vector Bool 2 := Vector.replicate 2 false  -- 2 | 11_selvedge_safety R352, R383 SEL.STAT.SIN | spec
  sinC : Vector Bool 2 := Vector.replicate 2 false  -- 2 | 11_selvedge_safety R352 | spec
  coreSamp : Vector (Bool × Nat) 2 := Vector.replicate 2 (false, 0)  -- 2 | 11_selvedge_safety R352 (equal consecutive samples) | DESIGN CHOICE(1)
  discrepant : Bool := false  -- 1 | 11_selvedge_safety R352 | DESIGN CHOICE(1)
  coreOk : Bool := false  -- 1 | 11_selvedge_safety R383 SEL.CHAN.COREOK | spec
  badgOk : Bool := false  -- 1 | 11_selvedge_safety R383 SEL.CHAN.BADGOK | spec
  supOk : Bool := false  -- 1 | 11_selvedge_safety R383 SEL.CHAN.SUPOK | spec
  clkIosc : Bool := false  -- 1 | 11_selvedge_safety R369, R383 SEL.CHAN.CLKIOSC | spec
  wcOk : Nat := 0  -- 4 | 11_selvedge_safety R383 SEL.CHAN.WCOK | spec
  permitB : Bool := false  -- 1 | 11_selvedge_safety R353 | DESIGN CHOICE(1)
  permitC : Bool := false  -- 1 | 11_selvedge_safety R353 | DESIGN CHOICE(1)
  enPulse : Vector Bool 2 := Vector.replicate 2 false  -- 2 | 11_selvedge_safety R354 (off-pulse in progress) | DESIGN CHOICE(1)
  pulseAt : Vector Nat 2 := Vector.replicate 2 0  -- 2 x taps | 11_selvedge_safety R354 (grid of the off-pulses) | DESIGN CHOICE(1)
  enSeen : Vector (Bool × Nat) 2 := Vector.replicate 2 (false, 0)  -- 2 x level, taps | 11_selvedge_safety R354 (last commanded edge) | DESIGN CHOICE(1)
  coreAt : Nat := 0  -- taps | 11_selvedge_safety R352 (grid of the safety core's samples) | DESIGN CHOICE(1)
  sinDiscAt : Option Nat := none  -- taps | 11_selvedge_safety R352 (start of a discrepancy) | DESIGN CHOICE(1)
  decAt : Option Nat := none  -- taps | 11_selvedge_safety R371 (start of a decision discrepancy) | DESIGN CHOICE(1)
  fb : Vector Bool 2 := Vector.replicate 2 false  -- 2 | 11_selvedge_safety R354, R383 SEL.STAT.FB0, FB1 | spec
  fbBad : Vector Bool 2 := Vector.replicate 2 false  -- 2 | 11_selvedge_safety R354 | DESIGN CHOICE(1)
  failedB : Bool := false  -- 1 | 11_selvedge_safety R372, R383 SEL.DEG.FAILED bit 0 | spec
  failedC : Bool := false  -- 1 | 11_selvedge_safety R372, R383 SEL.DEG.FAILED bit 1 | spec
  degraded : Bool := false  -- 1 | 11_selvedge_safety R372, R383 SEL.STAT.DEG | spec
  degMin : Nat := 0  -- 16 | 11_selvedge_safety R372, R383 SEL.DEG.MIN | spec
  degStage : Nat := 0  -- 2 | 11_selvedge_safety R372 (the highest row of its table that has been acted on) | DESIGN CHOICE(1)
  degAt : Nat := 0  -- taps | 11_selvedge_safety R372 (start of the running minute) | DESIGN CHOICE(1)
  testedB : Bool := false  -- 1 | 11_selvedge_safety R373 | DESIGN CHOICE(1)
  testedC : Bool := false  -- 1 | 11_selvedge_safety R373 | DESIGN CHOICE(1)
  missB : Bool := false  -- 1 | 11_selvedge_safety R371 (B missed a cause that C saw) | DESIGN CHOICE(1)
  missC : Bool := false  -- 1 | 11_selvedge_safety R371 (C missed a cause that B saw) | DESIGN CHOICE(1)
  discPending : Bool := false  -- 1 | 11_selvedge_safety R351, R371 | DESIGN CHOICE(1)
  scv : Nat := 0  -- 32 | 11_selvedge_safety R375, R383 SEL.SCV | spec
  scvOk : Bool := false  -- 1 | 11_selvedge_safety R376, R383 SEL.STAT.SCVOK | spec
  scvConfirmed : Nat := 0  -- 32 | 11_selvedge_safety R376, R383 SEL.SCVC, SCV_CONFIRMED | spec
  scvTime : Nat := 0  -- NT96 | 11_selvedge_safety SCV_CONFIRM_TIME | spec
  sealEn : Bool := false  -- 1 | 11_selvedge_safety R378, R383 SEL.STAT.SEAL | spec
  sealSel : Nat := 0  -- 8 | 11_selvedge_safety R378 SEAL_SET | DESIGN CHOICE(1)
  wc : Vector Wc 4 := Vector.replicate 4 {}  -- 4 | 11_selvedge_safety R356; 06_measurement R190, WC_STATE | spec
  conns : Vector Conn 6 := Vector.replicate 6 {}  -- 6 | 11_selvedge_safety R358, R364, R383 SEL.CONN0-CONN5 | spec
  f4Req : Bool := false  -- 1 | 11_selvedge_safety R365, R368 (firmware requests an F4) | DESIGN CHOICE(1)
  demandId : Nat := 0  -- U32 | 11_selvedge_safety R365 DEMAND_ID | DESIGN CHOICE(1)
  demanding : Bool := false  -- 1 | 11_selvedge_safety R365 (an ARM's own demand in force) | DESIGN CHOICE(1)
  sfAt : Nat := 0  -- taps | 11_selvedge_safety R363 (last periodic safety frames) | DESIGN CHOICE(1)
  sysTrip : Bool := false  -- 1 | 11_selvedge_safety R368 | DESIGN CHOICE(1)
  dnmSeen : List (Nat × Nat × Bool × Bool × Nat) := []  -- port, tap, value of the frames of the last 200 us | 11_selvedge_safety R367 | DESIGN CHOICE(1)
  dnmDisAt : Option Nat := none  -- taps | 11_selvedge_safety R367 (start of a disagreement) | DESIGN CHOICE(1)
  dnmAcc : Bool := false  -- 1 | 11_selvedge_safety R367 | DESIGN CHOICE(1)
  powerUpDone : Bool := false  -- 1 | 11_selvedge_safety R351 (first enable after power-up) | DESIGN CHOICE(1)
  jtagHold : Bool := false  -- 1 | 13_identity_power_reset R440 (released only after a power-on reset) | DESIGN CHOICE(1)
  refused : Nat := 0  -- U32 | 11_selvedge_safety R383 REFUSED | spec
  frameErr : Nat := 0  -- U32 | 11_selvedge_safety R383 FRAMEERR | spec
  seqGap : Nat := 0  -- U32 | 11_selvedge_safety R383 SEQGAP | spec
  pulses : Nat := 0  -- U32 | 11_selvedge_safety R383 PULSES | spec
  deriving DecidableEq, Repr

/-- The states of a Den slot (R401). -/
inductive DenState where
  | opened | closed | stored | pinned
  deriving DecidableEq, Repr

/-- A Den slot (R401, R402): a record, its stream, its state, whether it has been sent or need not be, when it entered the Den, and whether its
retained bytes no longer match CHECK. -/
structure DenSlot where
  record : Record
  relayed : Bool := false
  state : DenState := .opened
  sent : Bool := false
  arn : Nat := 0
  age : Nat := 0
  bad : Bool := false
  deriving DecidableEq, Repr

/-- A record that EVENTS holds (R401, R403, R411): a relayed copy under its arrival number; lost with an uncorrectable sector. -/
structure EvEntry where
  record : Record
  arn : Option Nat := none
  lost : Bool := false
  deriving DecidableEq, Repr

/-- The event recorder (R385 to R404, R414). -/
structure Rec where
  den : List DenSlot := []  -- 64 slots of 52 bytes | 12_recorder_storage R401, DEN_IMAGE | spec
  denAge : Nat := 0  -- count | 12_recorder_storage R401 (slots taken so far: their age) | DESIGN CHOICE(1)
  openAt : Nat := 0  -- TRAW taps | 12_recorder_storage R392 (t_open) | DESIGN CHOICE(1)
  events : List EvEntry := []  -- EVENTS partition, oldest first | 12_recorder_storage R398, R401, R403, R407 | DESIGN CHOICE(1)
  evLsn : Nat := 0  -- U32 | 12_recorder_storage R406, R412 (LSN of the oldest EVENTS sector) | DESIGN CHOICE(1)
  nextRsn : Nat := 0  -- U32 | 12_recorder_storage R388, R414 REC.RSN | spec
  firstRsn : Nat := 0  -- U32 | 12_recorder_storage R404 (lower own records read as empty) | DESIGN CHOICE(1)
  nextArn : Nat := 0  -- U32 | 12_recorder_storage R403, R414 REC.ARN | spec
  firstArn : Nat := 0  -- U32 | 12_recorder_storage R404 | DESIGN CHOICE(1)
  optHi : Nat := 0  -- 8 | 12_recorder_storage R414 REC.OPTH (latched by a read of OPTL) | spec
  optBase : Nat := 0  -- 40 | 12_recorder_storage R389, R414 REC.OPTL, OPTH | spec
  pcc : Nat := 0  -- 24 | 12_recorder_storage R389, R414 REC.PCC | spec
  noBase : Bool := false  -- 1 | 12_recorder_storage R389, R414 REC.STAT.NOBASE | spec
  media : Bool := false  -- 1 | 12_recorder_storage R399, R414 REC.STAT.MEDIA | spec
  mediaSources : List (Nat × Nat) := []  -- list of 19-bit address, taps of the last repeat | 12_recorder_storage R399 | DESIGN CHOICE(1)
  mediaAt : Nat := 0  -- taps | 12_recorder_storage R399 (last sending of the MEDIA_FAULT record) | DESIGN CHOICE(1)
  utype : Nat := 0  -- 16 | 12_recorder_storage R396, R414 REC.UTYPE.TYPE | spec
  uclass : Nat := 0  -- 3 | 12_recorder_storage R414 REC.UTYPE.CLASS | spec
  upay : Vector Nat 4 := Vector.replicate 4 0  -- 4 x 32 | 12_recorder_storage R414 REC.UPAY0-3 | spec
  fseqTx : List (Nat × Nat) := []  -- list | 12_recorder_storage R397 FSEQ | DESIGN CHOICE(1)
  fseqRx : List (Nat × Nat) := []  -- at most 64 | 12_recorder_storage R397 | DESIGN CHOICE(1)
  records : Nat := 0  -- U32 | 12_recorder_storage R414 RECORDS | spec
  repeats : Nat := 0  -- U32 | 12_recorder_storage R414 REPEATS | spec
  denDrops : Nat := 0  -- U32 | 12_recorder_storage R414 DEN_DROPS | spec
  denBad : Nat := 0  -- U32 | 12_recorder_storage R414 DEN_BAD | spec
  overwritten : Nat := 0  -- U32 | 12_recorder_storage R414 OVERWRITTEN | spec
  relayedCnt : Nat := 0  -- U32 | 12_recorder_storage R414 RELAYED | spec
  fwdGaps : Nat := 0  -- U32 | 12_recorder_storage R414 FWD_GAPS | spec
  fwdLost : Nat := 0  -- U32 | 12_recorder_storage R414 FWD_LOST | spec
  evt : Word := 0  -- 32 | 12_recorder_storage R414 REC.EVT | spec
  inten : Word := 0  -- 32 | 12_recorder_storage R414 REC.INTEN | spec
  gapOpen : Bool := false  -- 1 | 12_recorder_storage R395; 10_journal_redundancy R328 | DESIGN CHOICE(1)
  deriving DecidableEq, Repr

/-- What SNAPSHOT holds besides the firmware's data (R321, R389, R372, R438): the copy a power loss leaves. -/
structure Snapshot where
  valid : Bool := false
  objs : List ObjCell := []
  applied : Nat := 0
  bypass : Bool := false
  sby : Bool := false
  rsn : Nat := 0
  opt : Nat := 0
  pcc : Nat := 0
  degraded : Bool := false
  degFailed : Nat := 0
  degMin : Nat := 0
  degStage : Nat := 0
  scvConfirmed : Nat := 0
  media : Bool := false
  prefSlot : Nat := 0
  arn : Nat := 0
  deriving DecidableEq, Repr

/-- The Bobbin store (R405 to R415). -/
structure Bob where
  mounted : Bool := false  -- 1 | 12_recorder_storage R415 BOB.STAT.MOUNTED | spec
  type0 : Nat := 0  -- 2 | 12_recorder_storage R415 BOB.STAT.TYPE0 | spec
  type1 : Nat := 0  -- 2 | 12_recorder_storage R415 BOB.STAT.TYPE1 | spec
  inner0 : Bool := false  -- 1 | 12_recorder_storage R405, R415 INNER0 | spec
  inner1 : Bool := false  -- 1 | 12_recorder_storage R405, R415 INNER1 | spec
  scrubbing : Bool := false  -- 1 | 12_recorder_storage R415 BOB.STAT.SCRUB | spec
  cap0 : Nat := 0  -- U32 MiB | 12_recorder_storage R415 BOB.CAP0 | spec
  cap1 : Nat := 0  -- U32 MiB | 12_recorder_storage R415 BOB.CAP1 | spec
  spareLeft : Nat := 0  -- 16 | 12_recorder_storage R412, R415 BOB.SPARE.LEFT | spec
  spareInit : Nat := 0  -- 16 | 12_recorder_storage R412, R415 BOB.SPARE.INIT | spec
  erases : List (Nat × Nat) := []  -- block, count, blocks erased at least once | 12_recorder_storage R412, R415 BOB.ERMAX, BOB.ERAVG | spec
  scrubPos : Nat := 0  -- U32 | 12_recorder_storage R415 BOB.SCRUBPOS | spec
  scrubFrom : Nat := 0  -- taps | 12_recorder_storage R409, R411 (the present SCRUB_PERIOD's start) | DESIGN CHOICE(1)
  scrubAt : Nat := 0  -- taps | 12_recorder_storage R411 (start of the present pass) | DESIGN CHOICE(1)
  scrubLast : Nat := 0  -- U32 s | 12_recorder_storage R415 BOB.SCRUBLAST | spec
  flushUs : Nat := 0  -- 16 | 12_recorder_storage R410, R415 BOB.FLUSH | spec
  load : Nat := 0  -- 16 | 12_recorder_storage R409, R415 BOB.LOAD | spec
  fgBusy : Nat := 0  -- taps | 12_recorder_storage R409 (foreground time in the present 1 s window) | DESIGN CHOICE(1)
  work : List Nat := []  -- priorities queued | 12_recorder_storage R409, R415 BOB.STAT.FG | DESIGN CHOICE(1)
  superblock : Vector Bool 2 := Vector.replicate 2 false  -- 2 copies | 12_recorder_storage R407 | DESIGN CHOICE(1)
  sectors : List SectorAt := []  -- written sectors | 12_recorder_storage R406, R411 | DESIGN CHOICE(1)
  wseq : Nat := 0  -- U32 | 12_recorder_storage R406 WSEQ | spec
  tries : List (Nat × Nat) := []  -- block, failed programs of its page | 12_recorder_storage R399 cause 2 | DESIGN CHOICE(1)
  flushed : Vector Nat 2 := Vector.replicate 2 0  -- 2 x bytes in the flush area | 12_recorder_storage R410 | DESIGN CHOICE(1)
  dict : Nat := 0  -- digest of the image whose dictionary DICT holds | 12_recorder_storage R390, R407 | DESIGN CHOICE(1)
  sbMark : Bool := false  -- 1 | 12_recorder_storage R399 | DESIGN CHOICE(1)
  partSize : Vector Nat 7 := Vector.replicate 7 0  -- 7 x U32 MiB | 12_recorder_storage R407, R408 (laid out) | DESIGN CHOICE(1)
  snap : Snapshot := {}  -- SNAPSHOT partition | 12_recorder_storage R407; 10_journal_redundancy R321 | DESIGN CHOICE(1)
  corrSect : Nat := 0  -- U32 | 12_recorder_storage R415 CORRSECT | spec
  corrBits : Nat := 0  -- U32 | 12_recorder_storage R415 CORRBITS | spec
  uncorr : Nat := 0  -- U32 | 12_recorder_storage R415 UNCORR | spec
  reloc : Nat := 0  -- U32 | 12_recorder_storage R415 RELOC | spec
  progFail : Nat := 0  -- U32 | 12_recorder_storage R415 PROGFAIL | spec
  eraseFail : Nat := 0  -- U32 | 12_recorder_storage R415 ERASEFAIL | spec
  timeouts : Nat := 0  -- U32 | 12_recorder_storage R415 TIMEOUTS | spec
  preempts : Nat := 0  -- U32 | 12_recorder_storage R415 PREEMPTS | spec
  evt : Word := 0  -- 32 | 12_recorder_storage R415 BOB.EVT | spec
  inten : Word := 0  -- 32 | 12_recorder_storage R415 BOB.INTEN | spec
  deriving DecidableEq, Repr

/-- The keep area (R438). `valid` says that its CRC holds. -/
structure Keep where
  valid : Bool := false
  rsn : Nat := 0
  opt : Nat := 0
  pcc : Nat := 0
  media : Bool := false
  bypass : Bool := false
  sby : Bool := false
  degraded : Bool := false
  clean : Bool := false
  prefSlot : Nat := 0
  trialCount : Nat := 0
  degFailed : Nat := 0
  degMin : Nat := 0
  scvConfirmed : Nat := 0
  applied : Nat := 0
  deriving DecidableEq, Repr

/-- The system unit: identity, firmware slots, supplies, resets, debug access (R417 to R443). -/
structure Sys where
  resetCause : Nat := 0  -- 4 | 13_identity_power_reset R431, R442 SYS.RESET | spec
  keep : Keep := {}  -- 256 bytes | 13_identity_power_reset R438, KEEP_IMAGE | spec
  vcoreNow : Nat := 0  -- 16 mV | 13_identity_power_reset R427, R442 SYS.VCORE.HIGH, VCORE_NOW | spec
  vin : Nat := 0  -- 16 mV | 13_identity_power_reset R442 SYS.SUPPLY.LOW, VIN_NOW | spec
  vdda : Nat := 0  -- 16 mV | 13_identity_power_reset R442 SYS.SUPPLY.HIGH, VDDA_NOW | spec
  tj : Int := 0  -- I16 | 13_identity_power_reset R442 SYS.TJ, TJ | spec
  pfailLow : Bool := false  -- 1 | 13_identity_power_reset R428, R442 SYS.STAT.PFAIL | spec
  flushing : Bool := false  -- 1 | 13_identity_power_reset R429, R442 SYS.STAT.FLUSH | spec
  clean : Bool := false  -- 1 | 13_identity_power_reset R429, R442 SYS.STAT.CLEAN | spec
  rampAt : Nat := 0  -- taps | 13_identity_power_reset R427 (start of the ramp) | DESIGN CHOICE(1)
  rampFrom : Nat := 0  -- 16 mV | 13_identity_power_reset R427 (setting before the ramp) | DESIGN CHOICE(1)
  ramp : Bool := false  -- 1 | 13_identity_power_reset R427, R442 SYS.STAT.RAMP | spec
  headroom : Bool := false  -- 1 | 13_identity_power_reset R427, R442 SYS.STAT.HEADRM | spec
  trial : Bool := false  -- 1 | 13_identity_power_reset R424, R442 SYS.STAT.TRIAL | spec
  slot : Nat := 0  -- 1 | 13_identity_power_reset R424, R442 SYS.STAT.SLOT, FW_SLOT | spec
  slots : Vector (Option FwSlot) 2 := Vector.replicate 2 none  -- 2 | 13_identity_power_reset R422, SLOT_A_VERSION, SLOT_B_VERSION | spec
  imageStatus : Nat := 0  -- U8 | 13_identity_power_reset R423 IMAGE_STATUS | spec
  minSvn : Nat := 0  -- U32 | 13_identity_power_reset R422 MIN_SVN (OTP) | DESIGN CHOICE(1)
  jtagLocked : Bool := false  -- 1 | 13_identity_power_reset R440 lock fuse | DESIGN CHOICE(1)
  jtagUnlocked : Bool := false  -- 1 | 13_identity_power_reset R439 | spec
  loaded : Bool := false  -- 1 | 05_gate_outputs R156 (the stored values have reached the registers in BOOT) | DESIGN CHOICE(1)
  bootFailed : Bool := false  -- 1 | 13_identity_power_reset R425; 00_scope R29 (BOOT has ended in a fault and stays) | DESIGN CHOICE(1)
  wdRun : Bool := false  -- 1 | 13_identity_power_reset R434 | DESIGN CHOICE(1)
  wdKickTap : Nat := 0  -- taps | 13_identity_power_reset R434, R442 SYS.WDREM | DESIGN CHOICE(1)
  hibernating : Bool := false  -- 1 | 13_identity_power_reset R436 (OFF by HIBERNATE) | DESIGN CHOICE(1)
  pendingReset : Option Nat := none  -- cause | 13_identity_power_reset R433 | DESIGN CHOICE(1)
  certStatus : Nat := 0  -- U8 | 13_identity_power_reset R418 OP_CERT_STATUS | spec
  certAt : Option Nat := none  -- taps | 13_identity_power_reset R418 (last check since time was first LOCKED) | DESIGN CHOICE(1)
  certReason : Nat := 0  -- U8 | 13_identity_power_reset R418 OP_CERT_REASON | spec
  certFacts : CertFacts := {}  -- facts of the stored OP_CERT under the stored OP_ROOT | 13_identity_power_reset R418 | DESIGN CHOICE(1)
  admitted : Vector (Option Nat) 6 := Vector.replicate 6 none  -- 6 x public key | 13_identity_power_reset R420 | DESIGN CHOICE(1)
  peerDev : Vector (Option CertFacts) 6 := Vector.replicate 6 none  -- 6 | 13_identity_power_reset R420 (verified DEVICE_CERT) | DESIGN CHOICE(1)
  peerOp : Vector Bool 6 := Vector.replicate 6 false  -- 6 | 13_identity_power_reset R420 (verified OP_CERT) | DESIGN CHOICE(1)
  vddioB : Bool := true  -- 1 | 13_identity_power_reset R426; 14_pins_electrical R455 | DESIGN CHOICE(1)
  pfails : Nat := 0  -- U32 | 13_identity_power_reset R442 PFAILS, PFAIL_COUNT | spec
  warmResets : Nat := 0  -- U32 | 13_identity_power_reset R442 WARM_RESETS | spec
  peerRejects : Nat := 0  -- U32 | 13_identity_power_reset R442 PEER_REJECTS | spec
  evt : Word := 0  -- 32 | 13_identity_power_reset R442 SYS.EVT | spec
  inten : Word := 0  -- 32 | 13_identity_power_reset R442 SYS.INTEN | spec
  deriving DecidableEq, Repr

/-- The run state of one operation (R286, R289, R299). -/
structure OpRun where
  faults : Nat := 0
  quarantined : Bool := false
  waitLast : Nat := 0
  waitMax : Nat := 0
  deriving DecidableEq, Repr

/-- A ready operation and the tap of the step in which it became ready (R286). -/
structure ReadyEntry where
  op : Nat
  since : Nat
  deriving DecidableEq, Repr

/-- A worker core's view of Heddle (R288, R305). -/
structure HCore where
  opened : Option Nat := none  -- 12 + 1 | 09_cores_heddle R305 HDL.CUR.OP, OPEN | spec
  openAt : Nat := 0  -- taps | 09_cores_heddle R290 | DESIGN CHOICE(1)
  waiting : Bool := false  -- 1 | 09_cores_heddle R288 (HDL.NEXT read waits) | DESIGN CHOICE(1)
  cur : Nat := 0  -- 12 | 09_cores_heddle R305 HDL.CUR.OP | spec
  nin : Nat := 0  -- 4 | 09_cores_heddle R305 HDL.CUR.NIN | spec
  entry : Nat := 0  -- 32 | 09_cores_heddle R305 HDL.NEXT | spec
  inputs : Vector Nat 8 := Vector.replicate 8 0  -- 8 x 32 | 09_cores_heddle R305 HDL.IN0-IN7 | spec
  usedArcs : List Nat := []  -- list | 09_cores_heddle R293 (arcs whose token the instance consumed) | DESIGN CHOICE(1)
  staged : List (Nat × Nat) := []  -- list of output, value | 09_cores_heddle R288 | DESIGN CHOICE(1)
  pval : Nat := 0  -- 32 | 09_cores_heddle R305 HDL.PVAL | spec
  dlyv : Nat := 0  -- 32 | 09_cores_heddle R305 HDL.DLYV | spec
  dlya : Nat := 0  -- 32 | 09_cores_heddle R305 HDL.DLYA | spec
  dlyh : Nat := 0  -- 32 | 09_cores_heddle R305 HDL.DLYH | spec
  opsel : Nat := 0  -- 12 | 09_cores_heddle R305 HDL.OPSEL | spec
  busy : Nat := 0  -- taps in the present load window | 09_cores_heddle R299 | DESIGN CHOICE(1)
  load : Nat := 0  -- 16 | 09_cores_heddle R299, R305 HDL.LOADn | spec
  deriving DecidableEq, Repr

/-- An entry of a delay list (R295). -/
structure DlyEntry where
  due : Nat
  handle : Nat
  arc : Nat
  value : Nat
  since : Nat
  deriving DecidableEq, Repr

/-- A delay list: tick count, the tap of its latest tick, entries in order of due tick and insertion, those a tick has made due and that leave one
after the other, largest fill (R295, R296, R299). -/
structure DlyList where
  tick : Nat := 0
  lastAt : Nat := 0
  entries : List DlyEntry := []
  out : List DlyEntry := []
  maxFill : Nat := 0
  serial : Nat := 0
  deriving DecidableEq, Repr

/-- Heddle (R281 to R299, R305). -/
structure Heddle where
  bank : Nat := 0  -- 1 | 09_cores_heddle R284, R305 HDL.CTRL.BANK | spec
  banks : Vector GraphImage 2 := Vector.replicate 2 {}  -- 2 images | 09_cores_heddle R284 | DESIGN CHOICE(1)
  run : Bool := false  -- 1 | 09_cores_heddle R305 HDL.CTRL.RUN | spec
  activating : Bool := false  -- 1 | 09_cores_heddle GRAPH_STATE | spec
  ops : List OpRun := []  -- at most 4096 | 09_cores_heddle R283, R299 | DESIGN CHOICE(1)
  arcs : List (List Nat) := []  -- tokens of each arc, oldest first | 09_cores_heddle R282 | DESIGN CHOICE(1)
  ready : List ReadyEntry := []  -- list | 09_cores_heddle R286 | DESIGN CHOICE(1)
  arrivals : List (Nat × Nat) := []  -- arc, taps | 09_cores_heddle R298 (arcs that a token reached in the present step) | DESIGN CHOICE(1)
  cancels : List (Nat × Nat × Bool) := []  -- operation, taps, raced | 09_cores_heddle R298 (cancels of the present step) | DESIGN CHOICE(1)
  dlyCans : List (Nat × DlyEntry × Nat) := []  -- list, entry, taps | 09_cores_heddle R297 (entries cancelled in the present step) | DESIGN CHOICE(1)
  cores : Vector HCore 8 := Vector.replicate 8 {}  -- 8 cores | 09_cores_heddle R288, R305 | spec
  delay : Vector DlyList 4 := Vector.replicate 4 {}  -- 4 lists | 09_cores_heddle R295, R305 HDL.DFILL0-3 | spec
  qmax : Vector Nat 8 := Vector.replicate 8 0  -- 8 x 16 | 09_cores_heddle R299, R305 HDL.QDEPTHn.MAX | spec
  loadAt : Nat := 0  -- taps | 09_cores_heddle R299 (start of the present window) | DESIGN CHOICE(1)
  dispatches : Nat := 0  -- U32 | 09_cores_heddle R305 DISPATCHES | spec
  cancelRace : Nat := 0  -- U32 | 09_cores_heddle R305 CANCEL_RACE | spec
  arcFull : Nat := 0  -- U32 | 09_cores_heddle R305 ARC_FULL | spec
  opFault : Nat := 0  -- U32 | 09_cores_heddle R305 OPFAULT | spec
  budget : Nat := 0  -- U32 | 09_cores_heddle R305 BUDGET | spec
  dlyRefused : Nat := 0  -- U32 | 09_cores_heddle R305 DLY_REFUSED | spec
  memCe : Nat := 0  -- U32 | 09_cores_heddle R305 MEMCE, MEM_CE | spec
  memUe : Nat := 0  -- U32 | 09_cores_heddle R305 MEMUE, MEM_UE | spec
  memUeAddr : Nat := 0  -- 32 | 09_cores_heddle R305 HDL.MEMUEA | spec
  scrubMs : Nat := 0  -- 32 | 09_cores_heddle R305 HDL.SCRUB, SCRUB_LAST | spec
  scrubAt : Nat := 0  -- taps | 09_cores_heddle R279 (start of the present pass) | DESIGN CHOICE(1)
  evt : Word := 0  -- 32 | 09_cores_heddle R305 HDL.EVT | spec
  inten : Word := 0  -- 32 | 09_cores_heddle R305 HDL.INTEN | spec
  deriving DecidableEq, Repr

/-- One event counter ECn (R300 to R303, R306); `startTap` is the tap s of R302, for the EC_WSTART
`startNt`, and `winEnd` the tap at which the latest window ends (R308); `clrVal` is the value before the clear at tap `clrAt` (R303). -/
structure Ec where
  value : Nat := 0
  hi : Nat := 0
  cap : Nat := 0
  fsn : Nat := 0
  fid : Nat := 0
  inWindow : Bool := false
  startTap : Option Nat := none
  startNt : Nat := 0
  winEnd : Nat := 0
  clrAt : Option Nat := none
  clrVal : Nat := 0
  deriving DecidableEq, Repr

/-- The event counters (R300 to R303, R306). -/
structure Evc where
  ec : Vector Ec 16 := Vector.replicate 16 {}  -- 16 x 48 | 09_cores_heddle R300, R306 ECn.LO, HI, CAP, FSN, FID, CFG.ACT | spec
  evt : Word := 0  -- 32 | 09_cores_heddle R306 EVC.EVT | spec
  inten : Word := 0  -- 32 | 09_cores_heddle R306 EVC.INTEN | spec
  deriving DecidableEq, Repr

/-- A word with a bit error: its address and whether the error is double (R278). -/
structure WordError where
  addr : Nat
  double : Bool
  deriving DecidableEq, Repr

/-- The shared SRAM and the local memories (R276, R278): bytes by address in canonical form, and the words with errors. -/
structure Mem where
  cells : List Host.Cell := []  -- 4 MiB + 8 x 64 KiB bytes, unlisted reads 0 | 09_cores_heddle R276, R278; 13_identity_power_reset R432 (cleared) | spec
  errors : List WordError := []  -- list | 09_cores_heddle R278 SECDED | DESIGN CHOICE(1)
  deriving DecidableEq, Repr

/-- One entry a member or a target holds, with how far it has come (R315 to R320). -/
structure HeldEntry where
  e : JEntry
  committed : Bool := false
  acked : Bool := false
  accepted : Bool := false
  since : Nat := 0
  ram : Bool := false
  deriving DecidableEq, Repr

/-- What a lane's member knows of a registered target (R323, TARGET_TABLE). -/
structure Target where
  addr : Nat
  applied : Nat
  nstate : Nat
  deriving DecidableEq, Repr

/-- A value of the lane image (R323). -/
structure ImageVal where
  target : Nat
  key : Nat
  jsn : Nat
  value : Nat
  deriving DecidableEq, Repr

/-- A lane a node holds or applies (R309, R310, R320, R323). -/
structure Lane where
  code : Nat
  applied : Nat := 0
  head : Nat := 0
  trim : Nat := 0
  entries : List HeldEntry := []
  gapped : List JEntry := []
  image : List ImageVal := []
  fenceId : Nat := 0
  fenceJsn : Nat := 0
  deriving DecidableEq, Repr

/-- The journal and the pair (R309 to R344). -/
structure Journal where
  pstate : PairState := .none  -- 3 | 10_journal_redundancy R329, R343 JRN.STAT.PSTATE | spec
  health : Nat := 0  -- 6 | 10_journal_redundancy R330, R343 JRN.HEALTH | spec
  healthyWas : Bool := false  -- 1 | 10_journal_redundancy R343 JRN.STAT.HEALTHY | spec
  pHealthyWas : Bool := false  -- 1 | 10_journal_redundancy R343 JRN.STAT.PHEALTHY | spec
  partner : Option PairMsg := none  -- PAIR frame | 10_journal_redundancy R312 PAIR, PARTNER_STATE | spec
  partnerTap : Nat := 0  -- taps | 10_journal_redundancy R316 | DESIGN CHOICE(1)
  epoch : Nat := 0  -- 32 | 10_journal_redundancy R343 JRN.EPOCH, PAIR_EPOCH | spec
  alone : Bool := false  -- 1 | 10_journal_redundancy R316, R343 JRN.STAT.SINGLE | spec
  busy : Bool := false  -- 1 | 10_journal_redundancy R309, R343 JRN.STAT.BUSY | spec
  busyArms : List Nat := []  -- arm lanes | 10_journal_redundancy R309, R325 (switch-overs in progress in ARM pairs, as a STATION sees them) | DESIGN CHOICE(1)
  armEpochs : List (Nat × Nat) := []  -- lane, epoch | 10_journal_redundancy R332 (PAIR_EPOCH in ACCEPTED traffic) | DESIGN CHOICE(1)
  dropped : Bool := false  -- 1 | 10_journal_redundancy R316 (the partner left the commit set and has not resynchronised) | DESIGN CHOICE(1)
  upLostTx : Bool := false  -- 1 | 10_journal_redundancy R329, R343 JRN.STAT.UPLOSTX | spec
  holdup : Bool := false  -- 1 | 10_journal_redundancy R315, R343 JRN.STAT.HOLDUP | spec
  ramBytes : Nat := 0  -- 16 | 10_journal_redundancy R315, R343 JRN.RAMB | spec
  journalBytes : Nat := 0  -- U32 | 10_journal_redundancy JOURNAL_BYTES | spec
  lanes : List Lane := []  -- lanes held | 10_journal_redundancy R309, R343 APPL, HEAD, TRIM | spec
  headSeen : Bool := false  -- 1 | 10_journal_redundancy R322 | DESIGN CHOICE(1)
  unclean : Bool := false  -- 1 | 10_journal_redundancy R321 | DESIGN CHOICE(1)
  lastJsn : Nat := 0  -- U64 | 10_journal_redundancy R310 | DESIGN CHOICE(1)
  targets : List Target := []  -- list | 10_journal_redundancy R323 TARGET_TABLE | spec
  imageRx : List ImageRec := []  -- list | 10_journal_redundancy R314 | DESIGN CHOICE(1)
  lastFence : Nat := 0  -- U64 | 10_journal_redundancy R326 LAST_FENCE | spec
  lastFenceJsn : Nat := 0  -- U64 | 10_journal_redundancy R326 LAST_FENCE_JSN | spec
  fenceRead : Nat := 0  -- U64 | 10_journal_redundancy FENCE (read) | spec
  fencePending : List (Nat × Nat) := []  -- JSN, arm lane that has not accepted the fence | 10_journal_redundancy R317 | DESIGN CHOICE(1)
  yieldCause : Option Nat := none  -- U8 | 10_journal_redundancy R332 (YIELD received since the last TD(0) or boundary) | DESIGN CHOICE(1)
  triggerCause : Nat := 3  -- U8 | 10_journal_redundancy R332 (cause of the latest trigger: that of YIELD, or 3 for primacy) | DESIGN CHOICE(1)
  primaryNotice : Vector (Option Nat) 4 := Vector.replicate 4 none  -- 4 | 10_journal_redundancy R332 PRIMARY | DESIGN CHOICE(1)
  epochRx : List (Nat × List Byte) := []  -- CYCLE, segment | 10_journal_redundancy R333, R334 | DESIGN CHOICE(1)
  epochDone : Option Nat := none  -- U64 | 10_journal_redundancy R334 (the latest cycle whose epoch can no longer be adopted) | DESIGN CHOICE(1)
  epochLate : Option Nat := none  -- U64 | 10_journal_redundancy R334 (the latest late epoch counted) | DESIGN CHOICE(1)
  adoptedK : Nat := 0  -- U64 | 10_journal_redundancy R343 JRN.MIRR.CYC | spec
  missRun : Nat := 0  -- 8 | 10_journal_redundancy R334, R343 JRN.MIRR.MISS | spec
  shadowApplied : Nat := 0  -- U64 | 10_journal_redundancy R334 (APPLIED_JSN at the start of the own execution) | DESIGN CHOICE(1)
  epochSentK : Option Nat := none  -- U64 | 10_journal_redundancy R335 | DESIGN CHOICE(1)
  snapTap : Nat := 0  -- taps | 10_journal_redundancy R340, R341 (the resync began) | DESIGN CHOICE(1)
  snapAskAt : Nat := 0  -- taps | 10_journal_redundancy R339 (the latest SNAP_REQ or segment) | DESIGN CHOICE(1)
  abortAt : Option Nat := none  -- taps | 10_journal_redundancy R341 (a resync has been aborted) | DESIGN CHOICE(1)
  headAt : Option Nat := none  -- taps | 10_journal_redundancy R322 HEAD_INTERVAL (the latest HEAD) | DESIGN CHOICE(1)
  pairAt : Option Nat := none  -- taps | 10_journal_redundancy R312 (the latest PAIR frame sent) | DESIGN CHOICE(1)
  activeFrom : Nat := 0  -- U64 | 10_journal_redundancy R332, R335 (first cycle that this member decides as the active one) | DESIGN CHOICE(1)
  triggerAt : Option Nat := none  -- taps | 10_journal_redundancy R332 (the TD(0) or boundary that gave a take-over trigger) | DESIGN CHOICE(1)
  snapFrozen : List Byte := []  -- bytes | 10_journal_redundancy R339 (the snapshot frozen for the partner) | DESIGN CHOICE(1)
  snapParts : List (Nat × List Byte) := []  -- segments by offset | 10_journal_redundancy R339 | DESIGN CHOICE(1)
  snapSize : Nat := 0  -- U32 | 10_journal_redundancy R339, SNAPSHOT_BYTES | spec
  snapDone : Bool := false  -- 1 | 10_journal_redundancy R339 | DESIGN CHOICE(1)
  snapNext : Option Nat := none  -- offset | 10_journal_redundancy R339 (of the next SNAP segment to send) | DESIGN CHOICE(1)
  snapNextAt : Nat := 0  -- taps | 10_journal_redundancy R339 (when RESYNC_SHARE lets the next segment leave) | DESIGN CHOICE(1)
  hiLatch : Vector Nat 3 := Vector.replicate 3 0  -- 3 x 32 | 10_journal_redundancy R343 JRN.APPLH, HEADH, TRIMH (latched by a read of the low word) | spec
  entryParts : List (List Byte) := []  -- ENTRY payloads | 10_journal_redundancy R313 (of entries not yet complete) | DESIGN CHOICE(1)
  entriesIn : List JEntry := []  -- list, newest first | 10_journal_redundancy R313 (entries received whole) | DESIGN CHOICE(1)
  snapStored : List JEntry := []  -- list | 10_journal_redundancy R339 | DESIGN CHOICE(1)
  verifyRun : Nat := 0  -- count | 10_journal_redundancy R339 | DESIGN CHOICE(1)
  verified : Bool := false  -- 1 | 10_journal_redundancy R330 VERIFIED | DESIGN CHOICE(1)
  switches : Nat := 0  -- U32 | 10_journal_redundancy R343 SWITCHES | spec
  discarded : Nat := 0  -- U32 | 10_journal_redundancy R343 EPOCHS_DISCARDED | spec
  catchups : Nat := 0  -- U32 | 10_journal_redundancy R343 CATCHUPS | spec
  transfers : Nat := 0  -- U32 | 10_journal_redundancy R343 TRANSFERS | spec
  dups : Nat := 0  -- U32 | 10_journal_redundancy R343 DUPS | spec
  resyncs : Nat := 0  -- U32 | 10_journal_redundancy R343 RESYNCS | spec
  resyncAborts : Nat := 0  -- U32 | 10_journal_redundancy R343 RESYNC_ABORTS | spec
  busyRefusals : Nat := 0  -- U32 | 10_journal_redundancy R343 BUSY_REFUSALS | spec
  lastCause : Nat := 0  -- U8 | 10_journal_redundancy LAST_SWITCH_CAUSE | spec
  lastTime : Nat := 0  -- NT96 | 10_journal_redundancy LAST_SWITCH_TIME | spec
  resyncMs : Nat := 0  -- U32 | 10_journal_redundancy R340 LAST_RESYNC_MS | spec
  evt : Word := 0  -- 32 | 10_journal_redundancy R343 JRN.EVT | spec
  inten : Word := 0  -- 32 | 10_journal_redundancy R343 JRN.INTEN | spec
  deriving DecidableEq, Repr

/-- The whole device. `free` counts the free values drawn so far and is the model's own; `pending` is the queue of commands
that wait, first in, first out. -/
structure State where
  pins : Pins := {}
  node : Node := {}
  dict : Dict := {}
  weft : Weft := {}
  arm : WeftArm := {}
  trdl : Treadle := {}
  gate : Gate := {}
  adc : Adc := {}
  link : Link := {}
  tb : TimeBase := {}
  hdl : Heddle := {}
  evc : Evc := {}
  mem : Mem := {}
  jrn : Journal := {}
  sel : Selvedge := {}
  recd : Rec := {}
  bob : Bob := {}
  sys : Sys := {}
  inbox : List Frame := []  -- list, newest first | 07_floen_links R210 (frames delivered to firmware) | DESIGN CHOICE(1)
  free : Nat := 0  -- counter | the model's own (free values) | DESIGN CHOICE(2)
  pending : List Instr := []  -- queue | the model's own (commands waiting) | DESIGN CHOICE(3)
  deriving DecidableEq, Repr

/-- The machine right after the internal reset release of a power-on reset: BOOT, with the power-up latch set (R7, R348,
R425), every register at its reset value, and no command waiting. -/
def State.reset : State := {}

end Sys2Proof.Machine
end

