-- ==== Sys2Proof/Machine/Ops.lean ====
section
/-!
DEFINITION. Sys2Proof/Machine/Ops.lean: the named operations over the state's units: one update for each unit, and the few
reads that every chapter uses (the role, the pair state, the active member).
-/
namespace Sys2Proof.Machine

/-- Change the unit `pins` and nothing else. -/
def State.upPins (s : State) (f : Pins → Pins) : State := { s with pins := f s.pins }

/-- Change the unit `node` and nothing else. -/
def State.upNode (s : State) (f : Node → Node) : State := { s with node := f s.node }

/-- Change the unit `dict` and nothing else. -/
def State.upDict (s : State) (f : Dict → Dict) : State := { s with dict := f s.dict }

/-- Change the unit `weft` and nothing else. -/
def State.upWeft (s : State) (f : Weft → Weft) : State := { s with weft := f s.weft }

/-- Change the unit `arm` and nothing else. -/
def State.upArm (s : State) (f : WeftArm → WeftArm) : State := { s with arm := f s.arm }

/-- Change the unit `trdl` and nothing else. -/
def State.upTrdl (s : State) (f : Treadle → Treadle) : State := { s with trdl := f s.trdl }

/-- Change the unit `gate` and nothing else. -/
def State.upGate (s : State) (f : Gate → Gate) : State := { s with gate := f s.gate }

/-- Change the unit `adc` and nothing else. -/
def State.upAdc (s : State) (f : Adc → Adc) : State := { s with adc := f s.adc }

/-- Change the unit `link` and nothing else. -/
def State.upLink (s : State) (f : Link → Link) : State := { s with link := f s.link }

/-- Change the unit `tb` and nothing else. -/
def State.upTb (s : State) (f : TimeBase → TimeBase) : State := { s with tb := f s.tb }

/-- Change the unit `hdl` and nothing else. -/
def State.upHdl (s : State) (f : Heddle → Heddle) : State := { s with hdl := f s.hdl }

/-- Change the unit `evc` and nothing else. -/
def State.upEvc (s : State) (f : Evc → Evc) : State := { s with evc := f s.evc }

/-- Change the unit `mem` and nothing else. -/
def State.upMem (s : State) (f : Mem → Mem) : State := { s with mem := f s.mem }

/-- Change the unit `jrn` and nothing else. -/
def State.upJrn (s : State) (f : Journal → Journal) : State := { s with jrn := f s.jrn }

/-- Change the unit `sel` and nothing else. -/
def State.upSel (s : State) (f : Selvedge → Selvedge) : State := { s with sel := f s.sel }

/-- Change the unit `recd` and nothing else. -/
def State.upRecd (s : State) (f : Rec → Rec) : State := { s with recd := f s.recd }

/-- Change the unit `bob` and nothing else. -/
def State.upBob (s : State) (f : Bob → Bob) : State := { s with bob := f s.bob }

/-- Change the unit `sys` and nothing else. -/
def State.upSys (s : State) (f : Sys → Sys) : State := { s with sys := f s.sys }

/-- Draw one free value below `n` (0 when `n` is 0): nothing constrains it. -/
def State.drawFree (s : State) (n : Nat) : Nat × State := (Config.freeValue s.free % n, { s with free := s.free + 1 })

/-- The node is a cell. -/
def State.isCell (s : State) : Bool := s.node.role == .cell

/-- The node is an ARM master. -/
def State.isArm (s : State) : Bool := s.node.role == .arm

/-- The node is a STATION master. -/
def State.isStation (s : State) : Bool := s.node.role == .station

/-- The node is a member of a pair (R2, R329). -/
def State.isMember (s : State) : Bool := s.isArm || s.isStation

/-- The node is the ACTIVE member of its pair (R329). -/
def State.isActive (s : State) : Bool := s.isMember && s.jrn.pstate == .active

/-- The node is powered and outside HIBERNATE (R7). -/
def State.powered (s : State) : Bool := s.node.nodeState != .off

/-- The meaning of a command that cannot stop. -/
abbrev Result := Host.Outcome State Fault Refusal

/-- Answer a next state. -/
def done (s : State) : Result := .next s

/-- The command acts only while the device is powered; in OFF nothing is driven and nothing is received (R7). -/
def whenOn (s : State) (t : State) : Result := .next (if s.powered then t else s)

end Sys2Proof.Machine
end

