-- ==== Sys2Proof/Machine/Objects.lean ====
section
/-!
DEFINITION. Sys2Proof/Machine/Objects.lean: the object dictionary as a table (R42 to R49): which objects a role has, the size of
a value, its default, the stored value and the value in effect, and the range checks of R44, R63 and R470.
-/
namespace Sys2Proof.Machine

/-- The code of a role, as STRAP_ROLE (R40). -/
def roleCode : Role → Nat
  | .cell => 0
  | .arm => 1
  | .station => 2
  | .relay => 3

/-- The role a strap code selects (R2). -/
def roleOfCode (n : Nat) : Role :=
  match n % 4 with
  | 0 => .cell
  | 1 => .arm
  | 2 => .station
  | _ => .relay

/-- The index of a key. -/
def keyIndex (key : Nat) : Nat := key / 256

/-- The sub-index of a key. -/
def keySub (key : Nat) : Nat := key % 256

/-- The row covers the key. -/
def ObjRow.has (r : ObjRow) (key : Nat) : Bool :=
  r.index ≤ keyIndex key && keyIndex key < r.index + r.nIdx && r.sub ≤ keySub key && keySub key < r.sub + r.nSub

/-- The row's object exists in a role. -/
def ObjRow.inRole (r : ObjRow) (role : Role) : Bool := bitOf r.roles (roleCode role)

/-- The key of a user graph object (R42). -/
def isUserKey (key : Nat) : Bool := 0x8000 ≤ keyIndex key && keyIndex key < 0x10000

/-- A user graph object as the model knows it: a 4-byte value. DESIGN CHOICE(7): the graph image of R281 to R284 carries no
type, access class or default. -/
def userRow (key : Nat) : ObjRow := ⟨keyIndex key, 1, keySub key, 1, .u 4, .rw, 0, .vol, 15, .any⟩

/-- The table's row of a key, whatever the role. -/
def tableRow (key : Nat) : Option ObjRow := objTable.find? (·.has key)

/-- The user objects that the running graph declares (R42, R281). -/
def State.userKeys (s : State) : List Nat := (vget s.hdl.banks s.hdl.bank {}).ops.flatMap (·.objects)

/-- An index is implemented for a role (R42). -/
def State.hasIndex (s : State) (role : Role) (idx : Nat) : Bool :=
  if 0x8000 ≤ idx then s.userKeys.any fun k => keyIndex k == idx
  else objTable.any fun r => r.index ≤ idx && idx < r.index + r.nIdx && r.inRole role

/-- Sub-index 0 of an index: the number of its highest sub-index, read-only (R43). -/
def subZeroRow (key : Nat) : ObjRow := ⟨keyIndex key, 1, 0, 1, .u 1, .ro, 0, .vol, 15, .any⟩

/-- The row of a key for a role (R42, R43). -/
def State.objRow (s : State) (role : Role) (key : Nat) : Option ObjRow :=
  if isUserKey key then (if s.userKeys.contains key then some (userRow key)
    else if keySub key == 0 && s.hasIndex role (keyIndex key) then some (subZeroRow key) else none)
  else match objTable.find? fun r => r.has key && r.inRole role with
    | some r => some r
    | none => if keySub key == 0 && s.hasIndex role (keyIndex key) then some (subZeroRow key) else none

/-- The highest sub-index implemented at an index for a role: what sub-index 0 reads (R43). -/
def State.maxSub (s : State) (role : Role) (idx : Nat) : Nat :=
  if 0x8000 ≤ idx then ((s.userKeys.filter fun k => keyIndex k == idx).map keySub).foldl max 0
  else objTable.foldl (fun m r =>
    if r.index ≤ idx && idx < r.index + r.nIdx && r.inRole role then max m (r.sub + r.nSub - 1) else m) 0

/-- The size of a value in bytes (R44). -/
def OType.size : OType → Nat
  | .bool => 1
  | .u n => n
  | .i n => n
  | .f32 => 4
  | .nt96 => 12
  | .octets n => n
  | .string n => n

/-- The defaults of the PART_SIZE objects in MiB (R407). -/
def partDefault (n : Nat) : Nat := [64, 64, 256, 32, 256, 4, 16].getD (n - 1) 0

/-- The least sizes of the partitions in MiB (R407). -/
def partMin (n : Nat) : Nat := [16, 16, 8, 8, 16, 1, 0].getD (n - 1) 0

/-- The Default of a key (R48): the table's, by channel where it differs by channel, and the factory's for what is
programmed in the unit. -/
def objDefault (key : Nat) : Nat :=
  if keyIndex key == 0x5411 then partDefault (keySub key)
  else if key == Obj.GP_COUNT then 6
  else match tableRow key with
    | some r => r.dflt
    | none => 0

/-- A fixed-width integer in a field. -/
def sealTexp (sl : Nat) : Nat := [100, 200, 500, 1000].getD (sl % 4) 100

/-- The value that a sealed set gives an object of the safety parameter set (R379). -/
def sealedValue (sl : Nat) (role : Role) (key : Nat) : Nat :=
  if key == Obj.TEXP then sealTexp sl
  else if key == Obj.SF_PERIOD then sealTexp sl / 4
  else if key == Obj.WC_USE then 1
  else if key == Obj.WC_HIGH then [576, 640, 704, 768, 800, 832, 896, 960].getD (sl / 4 % 8) 576
  else if key == Obj.WC_USE + 256 then (if bitOf sl 5 then 4 else 0)
  else if key == Obj.WC_LOW + 256 then (if bitOf sl 5 then 40 else 0)
  else if key == Obj.SIN_MODE then [0, 1, 2, 1].getD (sl / 64 % 4) 0
  else if key == Obj.SIN_FWD then (if sl / 64 % 4 == 3 && role == .arm then 1 else 0)
  else objDefault key

/-- The objects of the safety parameter set (R374). -/
def isSpsKey (key : Nat) : Bool :=
  [Obj.SIN_MODE, Obj.SIN_FWD, Obj.SIN_FILT_B, Obj.SIN_DISC, Obj.TEXP, Obj.SF_PERIOD, Obj.DEG_HOURS, Obj.DNM_WAIVE,
    Obj.OFFPULSE_EN, Obj.SDI_TIME, Obj.GO_POL, Obj.GO4_MODE, Obj.BYP_PULSE_W, Obj.BYP_PULSE_P].contains key
  || (0x5015 ≤ keyIndex key && keyIndex key < 0x5019 && 1 ≤ keySub key && keySub key ≤ 4)

/-- The stored value of an object: written, or its Default (R48); in legacy seal mode the safety parameter set is the sealed
set (R378). -/
def State.obj (s : State) (key : Nat) : Nat :=
  if s.sel.sealEn && isSpsKey key then sealedValue s.sel.sealSel s.node.role key
  else match s.dict.objs.find? (·.key == key) with
    | some c => c.value
    | none => objDefault key

/-- The value in effect of an object whose Persist is "next reset" (R48). -/
def State.objEff (s : State) (key : Nat) : Nat :=
  if s.sel.sealEn && isSpsKey key then sealedValue s.sel.sealSel s.node.role key
  else match s.dict.inEffect.find? (·.1 == key) with
    | some c => c.2
    | none => objDefault key

/-- The stored value as a signed number of `w` bits. -/
def State.objI (s : State) (key w : Nat) : Int := toSigned w (s.obj key)

/-- The stored value as binary32. -/
def State.objF (s : State) (key : Nat) : F32 := BitVec.ofNat 32 (s.obj key)

/-- The stored value as a truth value. -/
def State.objB (s : State) (key : Nat) : Bool := s.obj key != 0

/-- The JSN that wrote an object; 0 where none has (R48). -/
def State.objJsn (s : State) (key : Nat) : Nat :=
  match s.dict.objs.find? (·.key == key) with
  | some c => c.jsn
  | none => 0

/-- Store a value with the JSN of its write, keeping the list by rising key. -/
def storeCell (c : ObjCell) : List ObjCell → List ObjCell
  | [] => [c]
  | d :: ds => if c.key < d.key then c :: d :: ds else if c.key == d.key then c :: ds else d :: storeCell c ds

/-- Store an object's value (R48). -/
def State.setObj (s : State) (key value jsn : Nat) : State :=
  s.upDict fun d => { d with objs := storeCell ⟨key, value, jsn⟩ d.objs }

/-- An object's Persist is "next reset". -/
def isNextReset (key : Nat) : Bool :=
  match tableRow key with
  | some r => r.persist == .nextReset
  | none => false

/-- An object is kept in SNAPSHOT (R48). -/
def isPers (key : Nat) : Bool :=
  match tableRow key with
  | some r => r.persist == .nextReset || r.persist == .imm
  | none => false

/-- A next-reset value waits for a reset (R48). -/
def State.resetPending (s : State) : Bool :=
  s.dict.objs.any fun c => isNextReset c.key && s.objEff c.key != c.value

/-- Put every stored next-reset value into effect (R48). -/
def State.takeEffect (s : State) : State :=
  s.upDict fun d => { d with inEffect := (d.objs.filter (fun c => isNextReset c.key)).map fun c => (c.key, c.value) }

/-- The own address (R5). -/
abbrev State.addr (s : State) : Nat := s.node.address

/-- The highest code of a signal of R114 that a role has. -/
def signalOk (role : Role) (code : Nat) : Bool :=
  let hi := code / 256
  let lo := code % 256
  let loop := role == .cell || role == .arm || role == .station
  let outer := role == .arm || role == .station
  (code == 0) || hi == 1 || (hi == 2 && lo < 8 && loop) || (hi == 3 && lo < 8 && outer) || (hi == 4 && lo < 8 && outer)
    || (hi == 5 && lo < 16) || (0x0600 ≤ code && code ≤ 0x0606 && role == .arm)
    || ((code == 0x0607 || code == 0x0608) && role == .cell) || code == 0x0610 || code == 0x0611

/-- An event-counter source that is not reserved (R301). -/
def ecSourceOk (v : Nat) : Bool :=
  v ≤ 0x28 || (0x30 ≤ v && v ≤ 0x3B) || (0x40 ≤ v && v ≤ 0x46) || (0x48 ≤ v && v ≤ 0x4A) || (0x4C ≤ v && v ≤ 0x5F)

/-- A valid ENTRYn (R176). -/
def adcEntryOk (v : Nat) : Bool :=
  bitsOf v 6 4 ≤ 4 && bitsOf v 11 8 ≤ 6 && bitsOf v 7 7 == 0 && bitsOf v 15 12 == 0 && 8 ≤ bitsOf v 31 16
    && bitsOf v 31 16 ≤ 2000

/-- The classes a check unit may bind (R228). -/
def cuClassOk (v : Nat) : Bool := [2, 5, 6, 7].contains (v % 8)

/-- Ranges that the table cannot write as numbers, by the rule that states them (R58, R75, R114, R153, R155, R160, R176,
R228, R301, R356, R365, R407), for a target role. -/
def ruleRange (role : Role) (rule key v : Nat) : Bool :=
  if rule == 58 then v / 2 ^ 160 % 256 ≤ 3
  else if rule == 75 then 1 ≤ v && (role != .cell || 100 ≤ v)
  else if rule == 114 then signalOk role v
  else if rule == 153 then (if role == .arm then v ≤ 1 else v ≤ 2)
  else if rule == 155 then v < 16 && v % 4 != 3 && v / 4 % 4 != 3
  else if rule == 160 then v < 256 && bitsOf v 3 2 != 3 && bitsOf v 5 4 != 3 && bitsOf v 7 6 != 3
  else if rule == 176 then adcEntryOk v
  else if rule == 228 then true
  else if rule == 301 then ecSourceOk v
  else if rule == 356 then v ≤ 4 && ((v != 1 && v != 4) || role == .cell)
  else if rule == 365 then v == 0 || role == .arm
  else if rule == 407 then partMin (keySub key) ≤ v
  else true

/-- One byte starts a UTF-8 sequence of this many bytes; 0 for none (R44). PRESUMED(8): UTF-8 is RFC 3629. -/
def utf8Len (b : Nat) : Nat :=
  if b < 0x80 then 1 else if 0xC2 ≤ b && b < 0xE0 then 2 else if 0xE0 ≤ b && b < 0xF0 then 3
  else if 0xF0 ≤ b && b < 0xF5 then 4 else 0

/-- A continuation byte of UTF-8. -/
def isCont (b : Nat) : Bool := 0x80 ≤ b && b < 0xC0

/-- Bytes are valid UTF-8 (R44), by fuel. -/
def utf8Ok : Nat → List Nat → Bool
  | 0, _ => true
  | _, [] => true
  | f + 1, b :: bs =>
    match utf8Len b with
    | 1 => utf8Ok f bs
    | 2 => (match bs with | c :: r => isCont c && utf8Ok f r | _ => false)
    | 3 => (match bs with
      | c :: d :: r => isCont c && isCont d && (b != 0xE0 || 0xA0 ≤ c) && (b != 0xED || c < 0xA0) && utf8Ok f r
      | _ => false)
    | 4 => (match bs with
      | c :: d :: e :: r =>
        isCont c && isCont d && isCont e && (b != 0xF0 || 0x90 ≤ c) && (b != 0xF4 || c < 0x90) && utf8Ok f r
      | _ => false)
    | _ => false

/-- A value is within its type (R44). -/
def typeRange (t : OType) (v : Nat) : Bool :=
  match t with
  | .bool => v ≤ 1
  | .f32 => F32.finite (BitVec.ofNat 32 v)
  | .nt96 => v / 2 ^ 16 % 2 ^ 32 ≤ 999999999
  | .string n => utf8Ok n ((leBytes n v).map (·.toNat))
  | _ => true

/-- A value as the integer its type gives it. -/
def OType.int (t : OType) (v : Nat) : Int :=
  match t with
  | .i n => toSigned (8 * n) v
  | _ => v

/-- The value's own absolute range (R44, R63): the static RANGE check. `own` is the target's own address. -/
def rangeOk (role : Role) (own : Nat) (r : ObjRow) (key v : Nat) : Bool :=
  v < 2 ^ (8 * r.ty.size) && typeRange r.ty v &&
  match r.range with
  | .any => true
  | .int lo hi step => lo ≤ r.ty.int v && r.ty.int v ≤ hi && (step == 0 || (r.ty.int v) % (step : Nat) == 0)
  | .f32 lo hi => F32.le (BitVec.ofNat 32 lo) (BitVec.ofNat 32 v) && F32.le (BitVec.ofNat 32 v) (BitVec.ofNat 32 hi)
  | .oneOf l => l.contains v
  | .own => v == own
  | .rule n => ruleRange role n key v

/-- POLY, INIT and XOROUT lie within the stored WIDTH of their check unit (R241). DEDUCED(145): the node checks it as it checks a partner's
stored value, since the static check covers a value's own absolute range alone (R63). -/
def State.cuWidthOk (s : State) (idx sub v : Nat) : Bool :=
  !(0x5C00 ≤ idx && idx < 0x5C04 && 3 ≤ sub && sub ≤ 5) || decide (v < 2 ^ s.obj (idx * 256 + 2))

/-- The range that R470 states relative to a partner's stored value. -/
def State.partnerOk (s : State) (key v : Nat) : Bool :=
  let idx := keyIndex key
  let sub := keySub key
  let at' (k : Nat) : Nat := s.obj k
  let f (n : Nat) : F32 := BitVec.ofNat 32 n
  if 0x3440 ≤ idx && idx < 0x3448 && sub == 4 then F32.lt (f v) (f (at' (key + 1)))
  else if 0x3440 ≤ idx && idx < 0x3448 && sub == 5 then F32.lt (f (at' (key - 1))) (f v)
  else if 0x3440 ≤ idx && idx < 0x3448 && sub == 6 then F32.le (f v) (f (at' (key + 1)))
  else if 0x3440 ≤ idx && idx < 0x3448 && sub == 7 then F32.le (f (at' (key - 1))) (f v)
  else if key == Obj.N_MIN then decide (toSigned 16 v ≤ s.objI Obj.N_MAX 16)
  else if key == Obj.N_MAX then decide (s.objI Obj.N_MIN 16 ≤ toSigned 16 v)
  else if key == Obj.D_MIN then F32.le (f v) (f (at' Obj.D_MAX))
  else if key == Obj.D_MAX then F32.le (f (at' Obj.D_MIN)) (f v)
  else if 0x6400 ≤ idx && idx < 0x6408 && sub == 4 then decide (v < at' (key - 1))
  else if 0x6400 ≤ idx && idx < 0x6408 && sub == 3 then decide (at' (key + 1) < v)
  else if key == Obj.GATE_PERIOD then decide (at' Obj.PHASE < v)
  else if key == Obj.PHASE then decide (v < at' Obj.GATE_PERIOD)
  else if key == Obj.BYP_PULSE_W then decide (v < at' Obj.BYP_PULSE_P)
  else if key == Obj.BYP_PULSE_P then decide (at' Obj.BYP_PULSE_W < v)
  else if 0x5015 ≤ idx && idx < 0x5019 && sub == 1 then decide (v < at' (key + 1))
  else if 0x5015 ≤ idx && idx < 0x5019 && sub == 2 then decide (at' (key - 1) < v)
  else if Obj.TPO_WIDTH / 256 ≤ idx && idx < Obj.TPO_WIDTH / 256 + 4 && sub == Obj.TPO_WIDTH % 256 then
    decide (v + 10 ≤ at' (idx * 256 + Obj.TPO_PERIOD % 256))
  else if Obj.TPO_PERIOD / 256 ≤ idx && idx < Obj.TPO_PERIOD / 256 + 4 && sub == Obj.TPO_PERIOD % 256 then
    decide (at' (idx * 256 + Obj.TPO_WIDTH % 256) + 10 ≤ v)
  else if 0x4200 ≤ idx && idx < 0x4208 && sub == 7 then decide (v ≤ at' (key + 1))
  else if 0x4200 ≤ idx && idx < 0x4208 && sub == 8 then decide (at' (key - 1) ≤ v)
  else if 0x5800 ≤ idx && idx < 0x5810 && sub == Obj.EC_WLENGTH % 256 then
    decide (v ≤ at' (idx * 256 + Obj.EC_WPERIOD % 256))
  else if 0x5800 ≤ idx && idx < 0x5810 && sub == Obj.EC_WPERIOD % 256 then
    decide (at' (idx * 256 + Obj.EC_WLENGTH % 256) ≤ v)
  else if key == Obj.ARM_COUNT then at' Obj.ARM_LEVEL == 0 || decide (v ≤ 2 ^ at' Obj.ARM_LEVEL)
  else if key == Obj.ARM_LEVEL then v == 0 || decide (at' Obj.ARM_COUNT ≤ 2 ^ v)
  else s.cuWidthOk idx sub v

/-- The role an address implies (R5). -/
def addrRole (a : Nat) : Role :=
  if a / 2 ^ 18 % 2 == 0 then .cell
  else if a / 4 % 4096 == 0 then .arm
  else if a / 4 % 4096 == 4095 then .station
  else .relay

/-- A reserved address: it names no node (R6). -/
def addrReserved (a : Nat) : Bool :=
  if a / 2 ^ 18 % 2 == 0 then 0x3FFC ≤ a % 2 ^ 14
  else a % 2 == 1 || (a / 4 % 4096 != 0 && a / 2 ^ 14 % 16 != 15)

/-- The broadcast to all cells of an arm (R6). -/
def isArmBroadcast (a : Nat) : Bool := a / 2 ^ 18 % 2 == 0 && a % 2 ^ 14 == 0x3FFF

/-- A reserved destination: the arm broadcast is a destination (R6). -/
def dstReserved (a : Nat) : Bool := addrReserved a && !isArmBroadcast a

end Sys2Proof.Machine
end

