-- ==== Sys2Proof/Machine/Time.lean ====
section
/-!
DEFINITION. Sys2Proof/Machine/Time.lean: the counter, network time and operating time, and their conversions (R243 to R246,
R144, R389). Time is counted in taps of 78.125 ps, 128 taps to a REFCLK period of 10 ns.
-/
namespace Sys2Proof.Machine

/-- Taps in a microsecond, a millisecond and a second. -/
abbrev tapsUs : Nat := 12800
abbrev tapsMs : Nat := 12800000

/-- The taps in which `n` nanoseconds have passed. -/
def nsTaps (n : Nat) : Nat := (64 * n + 4) / 5
abbrev tapsS : Nat := 12800000000

/-- NT_f for the count `c` of taps: OFFSET + c × 5,120 + ⌊c × 5,120 × RATE / 2^40⌋ (R245). -/
def TimeBase.ntFAt (tb : TimeBase) (c : Nat) : Int :=
  tb.offset + c * 5120 + ((c * 5120 : Nat) * tb.rate).fdiv (2 ^ 40)

/-- The present network time in units of 1/65,536 ns. -/
def TimeBase.ntF (tb : TimeBase) : Int := tb.ntFAt tb.taps

/-- The tap time of the present network time: ⌊NT_f / 5,120⌋ (R144). -/
def TimeBase.ntTap (tb : TimeBase) : Int := tb.ntF.fdiv 5120

/-- The present network time in nanoseconds. -/
def TimeBase.ntNs (tb : TimeBase) : Nat := (tb.ntF.fdiv 65536).toNat

/-- NT96 of an NT_f count: 48-bit seconds, 32-bit nanoseconds, 16-bit fraction, from the most significant (the glossary of
00_scope). -/
def nt96 (f : Int) : Nat :=
  let n := (f % 2 ^ 96).toNat
  let ns := n / 65536
  (ns / 1000000000 % 2 ^ 48) * 2 ^ 48 + (ns % 1000000000) * 2 ^ 16 + n % 65536

/-- Operating time now in 1/1024 s: the base plus TRAW's count (R389). -/
def State.optNow (s : State) : Nat := (s.recd.optBase + s.tb.taps / 12500000) % 2 ^ 40

/-- The cycle number of the present network time (R78): ⌊NT / T_W⌋. -/
def State.cycleNow (s : State) : Nat := if s.weft.tw == 0 then 0 else s.tb.ntNs / s.weft.tw

/-- A cycle comes after the latest one that has been taken. -/
def laterThan (k : Nat) (last : Option Nat) : Bool :=
  match last with
  | some j => decide (j < k)
  | none => true

/-- `d` taps have passed since `a`, by TRAW. DESIGN CHOICE(162): while REFCLK is lost TRAW stands still (R243) and the island runs on IOSC
(R369); then the command that reports the event says itself that its time has come. -/
def State.elapsed (s : State) (a d : Nat) : Bool := !s.tb.refOk || decide (a + d ≤ s.tb.taps)

/-- A condition that holds since `o` has lasted `d` taps without a break. -/
def State.lasted (s : State) (o : Option Nat) (d : Nat) : Bool :=
  match o with
  | some a => s.elapsed a d
  | none => !s.tb.refOk

/-- The start of a condition: kept while it lasts, none once it has ended. -/
def startOf (old : Option Nat) (b : Bool) (now : Nat) : Option Nat := if b then some (old.getD now) else none

/-- A half-open window of `w` taps that began at `a` has not ended at `now` (R268). -/
def inWindow (a w now : Nat) : Bool := decide (a ≤ now ∧ now < a + w)

end Sys2Proof.Machine
end

