-- ==== Sys2Proof/Machine/Record.lean ====
section
/-!
DEFINITION. Sys2Proof/Machine/Record.lean: the fault names with their record TYPE, unit and class (R386, R390, R469 and the fault
tables), the event counters' counting (R300 to R302), and the making of a record in the Den (R385 to R395, R401).
-/
namespace Sys2Proof

/-- The chapter and the place in its fault table of each fault name (R390); the records of R391 have chapter 0. -/
def faultPlace : FaultName → Nat × Nat
  | .roleMismatch => (1, 1) | .twillWiring => (1, 2) | .placeUnexpected => (1, 3) | .singleParentJoin => (1, 4)
  | .parentLost => (1, 5) | .childLost => (1, 6) | .orphan => (1, 7) | .armOrphan => (1, 8)
  | .pdTimeout => (2, 1)
  | .weftCount => (3, 1) | .countAdopted => (3, 2) | .weftAdjLimit => (3, 3) | .weftStall => (3, 4) | .weftLate => (3, 5)
  | .weftShort => (3, 6) | .weftSat => (3, 7) | .sensorLost => (3, 8) | .sensorDisagree => (3, 9)
  | .sensorConflict => (3, 10) | .bridgeMismatch => (3, 11) | .weftConfig => (3, 12)
  | .trdlOverrun => (4, 1) | .trdlSlowSkip => (4, 2) | .trdlNoCurrent => (4, 3) | .trdlProgramDiffers => (4, 4)
  | .nLimit => (4, 5) | .refFallback => (4, 6) | .refRestored => (4, 7) | .transferClamped => (4, 8) | .rampDone => (4, 9)
  | .fltAlarm => (5, 1) | .fltTrip => (5, 2) | .gateCal => (5, 3) | .goReadback => (5, 4) | .gateModeMismatch => (5, 5)
  | .adcRef => (6, 1) | .adcCal => (6, 2) | .adcCalStarved => (6, 3) | .adcConfig => (6, 4) | .adcTrigLost => (6, 5)
  | .adcOverrun => (6, 6) | .sensorRange => (6, 7)
  | .linkDown => (7, 1) | .linkFlap => (7, 2) | .linkDelay => (7, 3) | .linkErrors => (7, 4) | .linkCongestion => (7, 5)
  | .xcvrDiag => (7, 6) | .xcvrAbsent => (7, 7) | .cuCheck => (7, 8) | .lanLost => (7, 9) | .gooseConfig => (7, 10)
  | .gooseTimeout => (7, 11) | .svLost => (7, 12)
  | .refclkLost => (8, 1) | .timeAlign => (8, 2) | .timeHoldover => (8, 3) | .timeQuantum => (8, 4) | .ptpLost => (8, 5)
  | .timeStep => (8, 6) | .tsiOverflow => (8, 7)
  | .memUe => (9, 1) | .memUeLatent => (9, 2) | .memScrubLate => (9, 3) | .hdlOpFault => (9, 4) | .hdlBudget => (9, 5)
  | .hdlOpQuarantine => (9, 6) | .hdlArcFull => (9, 7) | .hdlDlyRefused => (9, 8) | .hdlGraphDiffers => (9, 9)
  | .jrnGap => (10, 1) | .jrnSingle => (10, 2) | .jrnSwitch => (10, 3) | .jrnMirror => (10, 4) | .jrnTransfer => (10, 5)
  | .jrnUnclean => (10, 6) | .jrnFull => (10, 7) | .jrnResyncAbort => (10, 8) | .jrnDeposed => (10, 9)
  | .jrnDiverged => (10, 10) | .jrnPulse => (10, 11) | .jrnNoStandby => (10, 12)
  | .safeTrip => (11, 1) | .safeInDiscrepancy => (11, 2) | .spbRemote => (11, 3) | .spbClearRefused => (11, 4)
  | .safetyConnLost => (11, 5) | .safetyFramesLost => (11, 6) | .safetyParam => (11, 7) | .safetyDnmDisagree => (11, 8)
  | .safeFbFault => (11, 9) | .wcTrip => (11, 10) | .sbyFired => (11, 11) | .wcFault => (11, 12)
  | .sdiIndicated => (11, 13) | .safetyDegraded => (11, 14) | .safetyDeg50 => (11, 15) | .safetyDeg90 => (11, 16)
  | .safetyDegExpired => (11, 17) | .safetyDiscrepancy => (11, 18) | .safetyDualFail => (11, 19)
  | .safetySupply => (11, 20) | .safetyFw => (11, 21) | .scvMismatch => (11, 22)
  | .mediaFault => (12, 1) | .bobWorn => (12, 2) | .bobScrubLate => (12, 3) | .bobFlushSlow => (12, 4)
  | .recDrop => (12, 5) | .recWrap => (12, 6)
  | .bootImage => (13, 1) | .fwReverted => (13, 2) | .fwSlotInvalid => (13, 3) | .opCertInvalid => (13, 4)
  | .peerCert => (13, 5) | .supplyPfail => (13, 6) | .vcoreHeadroom => (13, 7) | .sysWdog => (13, 8)
  | .debugUnlocked => (13, 9)
  | .cleared => (0, 1) | .startup => (0, 2) | .fence => (0, 3) | .refusal => (0, 4) | .mediaCleared => (0, 5)

/-- The record TYPE of a name: 0x0100 × chapter + place (R390, R391). -/
def FaultName.typ (n : FaultName) : Nat := 0x100 * (faultPlace n).1 + (faultPlace n).2

/-- The unit code of a name's records (R391, R469). -/
def FaultName.unit (n : FaultName) : Nat :=
  match n with
  | .cuCheck => 11
  | .recDrop | .recWrap | .cleared => 9
  | .startup => 13
  | .fence => 8
  | .refusal => 16
  | .mediaCleared => 10
  | _ => [0, 15, 16, 4, 5, 1, 2, 6, 0, 7, 8, 14, 10, 13].getD (faultPlace n).1 0

/-- The class of a fault with the node's role and pair state (the fault tables of chapters 01 to 13; R336: faults of a YIELDED
member are F2 at most). `fcls` is the class an operation of the graph declares (R281). -/
def FaultName.clsIn (role : Role) (active : Bool) (n : FaultName) : FClass :=
  let isCell := role == .cell
  match n with
  | .orphan | .roleMismatch | .twillWiring | .placeUnexpected => .f2
  | .armOrphan => .f3
  | .bridgeMismatch | .weftConfig | .trdlProgramDiffers | .fltTrip | .gateCal | .goReadback | .gateModeMismatch
  | .adcConfig | .timeQuantum | .hdlGraphDiffers | .jrnDeposed | .jrnDiverged | .safeInDiscrepancy | .safetyFramesLost
  | .safetyParam | .safeFbFault | .wcTrip | .sbyFired | .wcFault | .safetyDegExpired | .safetyDiscrepancy
  | .safetyDualFail | .safetySupply | .safetyFw | .bootImage | .sysWdog | .debugUnlocked | .hdlOpQuarantine => .f2
  | .weftAdjLimit | .weftStall | .trdlNoCurrent | .jrnPulse => .f3
  | .trdlOverrun => if active then .f3 else .f2
  | .adcRef | .adcCal | .timeAlign => if isCell then .f2 else .f1
  | .refclkLost | .memUe => if active then .f3 else .f2
  | .jrnNoStandby => if role == .station then .f4 else .f3
  | .safeTrip => if role == .station then .f4 else if role == .arm && active then .f3 else .f2
  | .supplyPfail => if active then .f3 else .f1
  | .refRestored | .transferClamped | .rampDone | .adcOverrun | .linkDown | .timeStep | .tsiOverflow | .jrnGap
  | .spbClearRefused | .sdiIndicated | .recWrap | .cleared | .startup | .fence | .refusal => .f0
  | _ => .f1

/-- The number of a class. -/
def FClass.code : FClass → Nat
  | .f0 => 0
  | .f1 => 1
  | .f2 => 2
  | .f3 => 3
  | .f4 => 4

/-- The higher of two classes. -/
def FClass.max (a b : FClass) : FClass := if a.code < b.code then b else a

/-- The FLAGS byte (R387). -/
def Record.flags (r : Record) : Nat :=
  match r.copyFlags with
  | some f => f % 256
  | none => r.cls.code + 8 * b2n r.gap + 16 * b2n r.xfer + 32 * b2n r.noBase + 64 * b2n r.pfail

/-- Bytes 0 to 43 of a record (R385), from the first to the last of them. -/
def Record.body (r : Record) : List Byte :=
  leBytes 2 r.typ ++ leBytes 3 r.source ++ leBytes 1 r.flags
    ++ leBytes 4 r.rsn ++ leBytes 5 r.opt ++ leBytes 3 r.pcc ++ leBytes 2 r.repeatCount ++ leBytes 4 r.ntS
    ++ leBytes 4 r.ntNs ++ leBytes 16 r.payload

/-- The 48 bytes of a record (R385). -/
def Record.bytes (r : Record) : List Byte := r.body ++ leBytes 4 (Crc.crc32c r.body)

/-- A class from its number (R387). DESIGN CHOICE(197): a record with one of the reserved codes 5 to 7 is none of F1 to F4. -/
def FClass.ofCode (n : Nat) : FClass :=
  match n with
  | 1 => .f1
  | 2 => .f2
  | 3 => .f3
  | 4 => .f4
  | _ => .f0

/-- A record from its 48 bytes, none of which a copy alters (R385). -/
def Record.ofBytes (bs : List Byte) : Record :=
  let at' (i n : Nat) := leNat ((bs.drop i).take n)
  let fl := at' 5 1
  { typ := at' 0 2, source := at' 2 3, cls := FClass.ofCode (fl % 8), gap := bitOf fl 3, xfer := bitOf fl 4,
    noBase := bitOf fl 5, pfail := bitOf fl 6, rsn := at' 6 4, opt := at' 10 5, pcc := at' 15 3, repeatCount := at' 18 2,
    ntS := at' 20 4, ntNs := at' 24 4, payload := at' 28 16, copyFlags := if fl % 8 < 5 && fl < 128 then none else some fl }

/-- The record's CHECK matches (R398). -/
def Record.checkOk (bs : List Byte) : Bool := bs.length == 48 && leNat (bs.drop 44) == Crc.crc32c (bs.take 44)

/-- A record may be folded: an F0 or F1 that is no MEDIA_FAULT and is not gap-marked (R392, R395). -/
def Record.foldable (r : Record) : Bool := r.cls.code ≤ 1 && r.typ != 0x0C01 && !r.gap

/-- Two records describe the same event (R392). -/
def Record.same (a b : Record) : Bool := a.typ == b.typ && a.source == b.source && a.payload == b.payload

end Sys2Proof

namespace Sys2Proof.Machine

/-- The class with which a fault acts at this node (R14, R336). -/
def State.faultClass (s : State) (n : FaultName) : FClass :=
  let c := n.clsIn s.node.role s.isActive
  if s.jrn.pstate == .yielded && 2 < c.code then .f2 else c

/-- Set an event bit of a register word (R293). -/
def setBit32 (w : Word) (i : Nat) : Word := w ||| BitVec.ofNat 32 (2 ^ i)

/-- Change counter `n`. -/
def State.upEc (s : State) (n : Nat) (f : Ec → Ec) : State := s.upEvc fun v => { v with ec := vset v.ec n (f (vget v.ec n {})) }

/-- The first window's start in NT_f units: EC_WSTART (R302). -/
def ntOf96 (v : Nat) : Int := ((v / 2 ^ 48 * 1000000000 + v / 2 ^ 16 % 2 ^ 32) * 65536 + v % 2 ^ 16 : Nat)

/-- The taps of a window's period and length (R302). -/
def State.ecPeriod (s : State) (n : Nat) : Nat := s.obj (Obj.EC_WPERIOD + 256 * n) * tapsUs
def State.ecLength (s : State) (n : Nat) : Nat := s.obj (Obj.EC_WLENGTH + 256 * n) * tapsUs

/-- The first window's start s (R302): the first tap at which NT has reached EC_WSTART, and not before the counter was last set up. -/
def State.ecFirst (s : State) (n : Nat) : Option Nat :=
  let start := ntOf96 (s.obj (Obj.EC_WSTART + 256 * n))
  if s.tb.ntF < start then none
  else
    let c := if s.tb.ntFAt (s.tb.taps - 128) < start then s.tb.taps - ((s.tb.ntF - start) / 5120).toNat else s.tb.taps
    some (max c (vget s.evc.ec n {}).winEnd)

/-- The window that is open by the clock of counter `n` and has not begun: s, or s + m × WPER on TRAW (R302). Another EC_WSTART gives another
s once no window is open (R308). -/
def State.ecDue (s : State) (n : Nat) : Option Nat :=
  let e := vget s.evc.ec n {}
  match e.startTap with
  | none => s.ecFirst n
  | some a =>
    let w := s.tb.taps - (s.tb.taps - a) % s.ecPeriod n
    if e.startNt != s.obj (Obj.EC_WSTART + 256 * n) then s.ecFirst n
    else if s.tb.taps < w + s.ecLength n && e.winEnd ≤ w then some w else none

/-- A window of counter `n` begins at tap `w`, with the length in force (R302, R308). -/
def State.ecOpen (s : State) (n w : Nat) : State :=
  let nt := s.obj (Obj.EC_WSTART + 256 * n)
  s.upEc n fun e => { e with
    inWindow := true, startTap := if e.startNt == nt then e.startTap.or (some w) else some w, startNt := nt, winEnd := w + s.ecLength n }

/-- The window of counter `n` that is due begins (R302). -/
def State.ecStart (s : State) (n : Nat) : State :=
  if s.obj (Obj.EC_MODE + 256 * n) == 2 && n < 16 && !(vget s.evc.ec n {}).inWindow then
    (match s.ecDue n with
    | some w => s.ecOpen n w
    | none => s)
  else s

/-- A counter is cleared at `now`; the value before the first clear of a step is kept for a fence in it (R303). -/
def Ec.clear (now : Nat) (e : Ec) : Ec :=
  { e with value := 0, clrVal := if e.clrAt == some now then e.clrVal else e.value, clrAt := some now }

/-- The window of counter `n` has ended (R302): the value goes to the capture, and the counter clears. -/
def State.ecEnd (s : State) (n : Nat) : State :=
  if (vget s.evc.ec n {}).inWindow && n < 16 && decide ((vget s.evc.ec n {}).winEnd ≤ s.tb.taps) then
    (s.upEc n fun e => { e.clear s.tb.taps with inWindow := false, cap := e.value }).upEvc fun v => { v with evt := setBit32 v.evt n }
  else s

/-- Count `n` events of a source in every counter that counts it (R300 to R302): OFF holds, WINDOW counts inside windows. -/
def Ec.count (mode n : Nat) (e : Ec) : Ec :=
  if mode == 1 || (mode == 2 && e.inWindow) then { e with value := (e.value + n) % 2 ^ 48 } else e

/-- A stored value, or the Default `d` that the table gives its object. -/
def State.objOr (s : State) (key d : Nat) : Nat :=
  match s.dict.objs.find? (·.key == key) with
  | some c => c.value
  | none => d

/-- Counter `i` counts events of source `code` (R301, R302). -/
def State.counts (s : State) (code i : Nat) : Bool :=
  s.objOr (Obj.EC_MODE + 256 * i) 0 != 0 && s.objOr (Obj.EC_SOURCE + 256 * i) 0x5E == code

/-- One counter counts `n` events of source `code`, with its OVF bit on a wrap (R300). An event at the boundary of a window belongs to the window
that starts there (R302): what has ended ends, and what is due begins, before it counts. -/
def State.countOne (code n : Nat) (s : State) (i : Nat) : State :=
  if s.counts code i && n != 0 then
    let t := (s.ecEnd i).ecStart i
    let e := vget t.evc.ec i {}
    let e' := e.count (s.objOr (Obj.EC_MODE + 256 * i) 0) n
    let wrap := e'.value < e.value
    t.upEvc fun v => { v with ec := vset v.ec i e', evt := if wrap then v.evt ||| BitVec.ofNat 32 (2 ^ (16 + i)) else v.evt }
  else s

/-- Count `n` events of source `code` (R301). -/
def State.event (s : State) (code : Nat) (n : Nat := 1) : State := (List.range 16).foldl (State.countOne code n) s

/-- Set or clear a bit of a register word. -/
def putBit (w : Word) (i : Nat) (b : Bool) : Word :=
  if b then w ||| BitVec.ofNat 32 (2 ^ i) else w &&& ~~~ (BitVec.ofNat 32 (2 ^ i))

/-- A bit of a register word. -/
def getBit (w : Word) (i : Nat) : Bool := bitOf w.toNat i

/-- The open slot of the Den, of which there is at most one (R392). -/
def Rec.openSlot (r : Rec) : Option DenSlot := r.den.find? fun d => d.state == .opened

/-- Close the open record (R393); `pfail` when the power-fail flush closes it. -/
def Rec.close (pfail : Bool) (r : Rec) : Rec :=
  if r.openSlot.isSome then
    { r with
      den := r.den.map fun d =>
        if d.state == .opened then { d with state := .closed, record := { d.record with pfail := d.record.pfail || pfail } }
        else d
      evt := setBit32 r.evt 0 }
  else r

/-- A slot may be taken for a new record while the store is mounted (R401). -/
def DenSlot.free (d : DenSlot) : Bool := d.state == .stored && d.sent

/-- The oldest slot that satisfies `p` (R401). -/
def oldestSlot (p : DenSlot → Bool) : List DenSlot → Option DenSlot
  | [] => none
  | d :: ds =>
    match oldestSlot p ds with
    | some x => if p d && d.age ≤ x.age then some d else some x
    | none => if p d then some d else none

/-- The slots in the order in which they entered the Den. -/
def insertSlot (d : DenSlot) : List DenSlot → List DenSlot
  | [] => [d]
  | x :: l => if d.age ≤ x.age then d :: x :: l else x :: insertSlot d l

/-- The slots of the Den, the oldest first. -/
def Rec.byAge (r : Rec) : List DenSlot := r.den.foldr insertSlot []

/-- A new record takes the place of the slot `x` (R401). -/
def Rec.replace (r : Rec) (x d : DenSlot) : Rec :=
  { r with den := r.den.map fun y => if y.age == x.age then { d with age := r.denAge } else y, denAge := r.denAge + 1 }

/-- Put a slot into the Den by R401; none when the record is dropped. -/
def Rec.place (r : Rec) (d : DenSlot) : Option Rec :=
  if r.den.length < 64 then some { r with den := r.den ++ [{ d with age := r.denAge }], denAge := r.denAge + 1 }
  else if r.media then
    (oldestSlot (·.state != .pinned) r.den).map fun x => { r.replace x d with
      denDrops := if x.state == .stored then r.denDrops else satAdd 32 r.denDrops 1
      fwdLost := if x.sent then r.fwdLost else satAdd 32 r.fwdLost 1 }
  else (oldestSlot (·.free) r.den).map fun x => r.replace x d

/-- The new record can be folded into the open one at tap `now` (R392). -/
def Rec.folds (r : Rec) (now : Nat) (n : Record) : Bool :=
  match r.openSlot with
  | some d => n.foldable && d.record.foldable && d.record.same n && inWindow r.openAt tapsS now
      && d.record.repeatCount != 65535
  | none => false

/-- The record of an event at this node now (R385, R388, R389, R395). -/
def State.mkRecord (s : State) (typ unit : Nat) (cls : FClass) (payload : Nat) : Record :=
  let ns := s.tb.ntNs
  { typ := typ, source := unit * 2 ^ 19 + s.addr % 2 ^ 19, cls := cls, gap := s.isMember && s.recd.gapOpen,
    noBase := s.recd.noBase, rsn := s.recd.nextRsn, opt := s.optNow, pcc := s.recd.pcc,
    repeatCount := if s.isMember && s.recd.gapOpen then s.jrn.epoch % 65536 else 0,
    ntS := ns / 1000000000 % 2 ^ 32, ntNs := ns % 1000000000, payload := payload }

/-- The record need not be sent to a parent (R397): an F0, or a record of a STATION member. -/
def State.noSend (s : State) (r : Record) : Bool := r.cls == .f0 || s.isStation

/-- Make a record of an event (R392, R401): fold it into the open record, or close that and open a new one; F2 to F4 and
MEDIA_FAULT records are closed at once. A record that finds no slot is dropped, with F1 REC_DROP once per run, whose own record
is then dropped as well. -/
def Rec.make (r : Rec) (now : Nat) (n : Record) (sent : Bool) : Rec :=
  if r.folds now n then
    { r with
      den := r.den.map fun d =>
        if d.state == .opened then { d with record := { d.record with repeatCount := d.record.repeatCount + 1 } } else d
      repeats := satAdd 32 r.repeats 1 }
  else
    let r1 := r.close false
    let n' := { n with rsn := r1.nextRsn }
    let st : DenState := if n.typ == 0x0C01 then .pinned else if 2 ≤ n.cls.code then .closed else .opened
    let r2 := { r1 with nextRsn := (r1.nextRsn + 1) % 2 ^ 32, records := satAdd 32 r1.records 1,
                        evt := if st == DenState.opened then r1.evt else setBit32 r1.evt 0 }
    match r2.place { record := n', state := st, sent := sent } with
    | some r3 => { r3 with openAt := if st == DenState.opened then now else r3.openAt }
    | none => { r2 with denDrops := satAdd 32 r2.denDrops 1, evt := setBit32 r2.evt 2 }

/-- The run marker of a fault: it has been recorded since its cause began (R106 and "once per run" elsewhere). -/
def State.inRun (s : State) (n : FaultName) (arg : Nat) : Bool := s.node.runs.contains (n, arg)

/-- Note that a run has begun. -/
def State.startRun (s : State) (n : FaultName) (arg : Nat) : State :=
  if s.inRun n arg then s else s.upNode fun d => { d with runs := (n, arg) :: d.runs }

/-- Note that a run has ended. -/
def State.endRun (s : State) (n : FaultName) (arg : Nat) : State :=
  s.upNode fun d => { d with runs := d.runs.filter (· != (n, arg)) }

/-- A record of this node enters the Den, or is dropped with F1 REC_DROP once per run (R401). -/
def State.enterDen (s : State) (n : Record) : State :=
  let drops := s.recd.denDrops
  let s1 := (s.upRecd fun r => r.make s.tb.taps n (s.noSend n)).event 0x5D
  if s1.recd.denDrops != drops && !s1.recd.media then
    if s1.inRun .recDrop 0 then s1
    else
      let d := s1.mkRecord FaultName.recDrop.typ FaultName.recDrop.unit .f1 0
      (s1.startRun .recDrop 0).upRecd fun r => r.make s1.tb.taps d (s1.noSend d)
  else s1.endRun .recDrop 0

/-- Make a record with its payload (R391, R392). -/
def State.record (s : State) (typ unit : Nat) (cls : FClass) (payload : Nat) : State := s.enterDen (s.mkRecord typ unit cls payload)

/-! ### Work on the store (R409) -/

/-- All flash activity has stopped after a power-fail flush (R429), until the device resumes (R430). -/
def State.flashStopped (s : State) : Bool := s.sys.pfailLow && !s.sys.flushing

/-- The store takes data: it is mounted, without MEDIA_FAULT, and the flash is active (R400, R401, R429). -/
def State.storeTakes (s : State) : Bool := s.bob.mounted && !s.recd.media && !s.flashStopped

/-- Foreground work is queued (R409). -/
def State.foreground (s : State) : Bool := s.bob.work.any (· ≤ 5)

/-- Work of a priority is queued (R409): background work is deferred by foreground work, and each deferral counts PREEMPTS. DESIGN CHOICE(198):
one entry stands for all queued work of its priority. -/
def Bob.addWork (p : Nat) (b : Bob) : Bob :=
  if b.work.contains p then b
  else
    let fg := b.work.any (· ≤ 5)
    let n := if p ≤ 5 then (if fg then 0 else (b.work.filter (5 < ·)).length) else b2n fg
    { b with work := b.work ++ [p], preempts := satAdd 32 b.preempts n }

/-- Work of a priority is queued at a mounted store. -/
def State.storeWork (s : State) (p : Nat) : State := if s.bob.mounted then s.upBob (Bob.addWork p) else s

/-- A reference to EVENTS' sectors: 21 records to a sector of 1,024 data bytes (DESIGN CHOICE(25)). -/
abbrev eventsPerSector : Nat := 21

end Sys2Proof.Machine
end

