-- ==== Sys2Proof/Machine/Frames.lean ====
section
/-!
DEFINITION. Sys2Proof/Machine/Frames.lean: places and routes of the Twill (R5, R21, R24, R27, R210 to R214), the frames on the
wire (R205 to R208), the queues of a transmit port (R208), and the origination of a frame.
-/
namespace Sys2Proof

/-- The code of a class (R208). -/
def FloenClass.code : FloenClass → Nat
  | .weft => 0
  | .safety => 1
  | .journal => 2
  | .mirror => 3
  | .time => 4
  | .telemetry => 5
  | .event => 6
  | .service => 7

/-- The class of a code. -/
def FloenClass.ofCode (n : Nat) : FloenClass :=
  match n % 8 with
  | 0 => .weft
  | 1 => .safety
  | 2 => .journal
  | 3 => .mirror
  | 4 => .time
  | 5 => .telemetry
  | 6 => .event
  | _ => .service

/-- The code of a direction (R205). -/
def FloenDir.code : FloenDir → Nat
  | .up => 0
  | .down => 1
  | .cross => 2
  | .localDir => 3

/-- The direction of a code. -/
def FloenDir.ofCode (n : Nat) : FloenDir :=
  match n % 4 with
  | 0 => .up
  | 1 => .down
  | 2 => .cross
  | _ => .localDir

/-- The directions a class allows (R208). -/
def FloenClass.allows (c : FloenClass) (d : FloenDir) : Bool :=
  match c with
  | .weft => d == .localDir
  | .safety | .journal | .service => d == .up || d == .down || d == .cross
  | .mirror => d == .cross
  | .time => d == .localDir || d == .down
  | .telemetry => d == .up || d == .down
  | .event => d == .up

/-- The classes whose frames may go to the arm broadcast (R208). -/
def FloenClass.broadcast (c : FloenClass) : Bool :=
  match c with
  | .journal | .time | .telemetry | .service => true
  | .weft | .safety | .mirror | .event => false

/-- The bytes a class's queue holds at a transmit port (R208); WEFT is counted in frames. -/
def FloenClass.queueBytes (c : FloenClass) : Nat :=
  match c with
  | .weft => 0
  | .safety => 2048
  | .journal => 8192
  | .mirror => 8192
  | .time => 1024
  | .telemetry => 8192
  | .event => 4096
  | .service => 8192

/-- The header bytes 0 to 14 of a frame (R205); `blk` is the BLK state the sender carries. -/
def Frame.header (f : Frame) : List Byte :=
  leBytes 1 (f.cls.code + 8 * b2n f.blk + 16 * f.dir.code + 64)
    ++ leBytes 3 (f.dst % 2 ^ 19 + 2 ^ 19 * b2n f.anym) ++ leBytes 3 (f.src % 2 ^ 19) ++ leBytes 1 f.hops
    ++ leBytes 2 f.hseq ++ leBytes 2 (f.payload.length % 2048 + 2048 * b2n f.twin) ++ leBytes 2 f.eseq ++ leBytes 1 0

/-- The frame's bytes: header with HCS, payload and hop CRC (R205, R206). -/
def Frame.bytes (f : Frame) : List Byte :=
  let h := f.header ++ leBytes 1 (Crc.crc8 f.header)
  h ++ f.payload ++ leBytes 4 (Crc.crc32c (h ++ f.payload))

/-- The length of a frame on the lane (R205): 16 header bytes, the payload and 4 CRC bytes. -/
def Frame.size (f : Frame) : Nat := f.payload.length + 20

/-- A frame from its bytes (R205), with no check. -/
def Frame.ofBytes (bs : List Byte) : Frame :=
  let at' (i n : Nat) := leNat ((bs.drop i).take n)
  let b0 := at' 0 1
  let d := at' 1 3
  let l := at' 10 2
  { cls := FloenClass.ofCode b0, blk := bitOf b0 3, dir := FloenDir.ofCode (b0 / 16), dst := d % 2 ^ 19,
    anym := bitOf d 19, src := at' 4 3 % 2 ^ 19, hops := at' 7 1, hseq := at' 8 2, twin := bitOf l 11, eseq := at' 12 2,
    payload := (bs.drop 16).take (l % 2048) }

/-- Check 1 of R207: HCS, VER and LEN. -/
def Frame.hcsOk (bs : List Byte) : Bool :=
  16 ≤ bs.length && leNat ((bs.drop 15).take 1) == Crc.crc8 (bs.take 15) && bitsOf (leNat (bs.take 1)) 7 6 == 1
    && leNat ((bs.drop 10).take 2) % 2048 ≤ 1024

/-- A frame of which fewer bytes came than its header announces. DEDUCED(150): an invalid block, an ABORT or a RESUME at a wrong offset has ended it
(R204). -/
def Frame.cutOff (bs : List Byte) : Bool := bs.length < leNat ((bs.drop 10).take 2) % 2048 + 20

/-- Check 5 of R207: the hop CRC, at the frame's end. -/
def Frame.crcOk (bs : List Byte) : Bool :=
  let l := leNat ((bs.drop 10).take 2) % 2048
  bs.length == l + 20 && leNat ((bs.drop (16 + l)).take 4) == Crc.crc32c (bs.take (16 + l))

end Sys2Proof

namespace Sys2Proof.Machine

/-- The position of a place: 2^(L+1) − 4 + i. -/
def placePos (p : Place) : Nat := 2 ^ (p.level + 1) - 4 + p.index

/-- The place of a position: L = ⌊log₂(p + 4)⌋ − 1, i = p + 4 − 2^(L+1). -/
def posPlace (p : Nat) : Place :=
  let l := (p + 4).log2 - 1
  ⟨l, p + 4 - 2 ^ (l + 1)⟩

/-- The A-parent of a place (R213). -/
def parentA (p : Place) : Place := ⟨p.level - 1, p.index / 2⟩

/-- The B-parent of a place (R213). -/
def parentB (p : Place) : Place := ⟨p.level - 1, (p.index / 2 + 2 ^ (p.level - 1)) % 2 ^ p.level⟩

/-- The parent of a place in a tree. -/
def parentIn (treeB : Bool) (p : Place) : Place := if treeB then parentB p else parentA p

/-- Climb from a place to the level below `l0`. -/
def climb (treeB : Bool) (l0 : Nat) : Nat → Place → Place
  | 0, p => p
  | n + 1, p => if l0 + 1 < p.level then climb treeB l0 n (parentIn treeB p) else p

/-- The relay number of an upper place (R27). -/
def relayNumber (p : Place) : Nat := 2 ^ p.level - 1 + p.index % 2 ^ p.level

/-- The upper place of a relay number and member (R27). -/
def relayPlace (n : Nat) (memberB : Bool) : Place :=
  let u := (n + 1).log2
  ⟨u, n + 1 - 2 ^ u + (if memberB then 2 ^ u else 0)⟩

/-- The member bit of a master's or relay's address (R5). -/
def memberBit (a : Nat) : Bool := bitOf a 1

/-- The arm field of an address (R5). -/
def addrArm (a : Nat) : Nat := a / 2 ^ 14 % 16

/-- The address of a cell (R5). -/
def cellAddr (arm pos : Nat) : Nat := arm * 2 ^ 14 + pos

/-- The address of an ARM master (R5). -/
def armAddr (arm : Nat) (memberB : Bool) : Nat := 2 ^ 18 + arm * 2 ^ 14 + 2 * b2n memberB

/-- The address of a relay or STATION master by its relay number (R5). -/
def relayAddr (n : Nat) (memberB : Bool) : Nat := 2 ^ 18 + 15 * 2 ^ 14 + 4 * n + 2 * b2n memberB

/-- The address of a STATION master (R5). -/
def stationAddr (memberB : Bool) : Nat := relayAddr 4095 memberB

/-- The partner's address of a pair member: bit 1 inverted. -/
def partnerAddr (a : Nat) : Nat := a ^^^ 2

/-- This node is member B of its pair (R5). -/
def State.memberB (s : State) : Bool := memberBit s.addr

/-- The level of the node in the Twill below it: a master or STATION stands at level 0 (R213). -/
def State.level0 (s : State) (cellTwill : Bool) : Place :=
  if s.isStation || (s.isArm && cellTwill) then ⟨0, 0⟩ else s.node.place

/-- The place to reach for a destination, and whether it lies in the cell Twill; none where this node stands in no Twill that
leads to it (R213). -/
def State.targetPlace (s : State) (treeB : Bool) (dst : Nat) : Option (Place × Bool) :=
  let ua := s.objEff Obj.ARM_LEVEL
  let a := addrArm dst
  match addrRole dst with
  | .cell =>
    if (s.isCell || s.isArm) then
      (if a == s.node.arm then some (posPlace (dst % 2 ^ 14), true) else none)
    else some (⟨ua, a + (if treeB then 2 ^ ua else 0)⟩, false)
  | .arm =>
    if s.isCell then none
    else some (⟨ua, a + (if memberBit dst then 2 ^ ua else 0)⟩, false)
  | .relay => if s.isCell then none else some (relayPlace (dst / 4 % 4096) (memberBit dst), false)
  | .station => none

/-- The down ports on which a DOWN frame is forwarded (R213); an empty list counts NOROUTE. -/
def State.routeDown (s : State) (treeB : Bool) (dst : Nat) : List Nat :=
  if isArmBroadcast dst then (if s.isMember then [2, 3, 4, 5] else if treeB then [4, 5] else [2, 3])
  else match s.targetPlace treeB dst with
    | none => []
    | some (t, cellTwill) =>
      let own := s.level0 cellTwill
      if t.level ≤ own.level then []
      else
        let p := climb treeB own.level 16 t
        if own.level == 0 then [2 + p.index % 4]
        else if parentIn treeB p == own then [if treeB then 4 + p.index % 2 else 2 + p.index % 2]
        else []

/-- Port `p`. -/
def State.port (s : State) (p : Nat) : Port := vget s.link.ports p {}

/-- Change port `p`. -/
def State.upPort (s : State) (p : Nat) (f : Port → Port) : State :=
  s.upLink fun l => { l with ports := vset l.ports p (f (vget l.ports p {})) }

/-- A port is UP (R221); in the STATION role UPA and UPB are no Floen ports (R197). -/
def State.portUp (s : State) (p : Nat) : Bool := (s.port p).state == .up && (2 ≤ p || !s.isStation)

/-- A port is lit: UP, with its neighbour admitted (R221, R420). -/
def State.lit (s : State) (p : Nat) : Bool := s.portUp p && (vget s.sys.admitted p none).isSome

/-- The primary up port: UPA or UPB. -/
def State.primaryPort (s : State) : Option Nat :=
  match s.node.primary with
  | .a => some 0
  | .b => some 1
  | .none => none

/-- The tap of an event within the present period of REFCLK (R225, R244). A command names no tap, so that it is free, PRESUMED(146). -/
def State.tapNow (s : State) : Nat × State :=
  let f := s.drawFree 128
  (s.tb.taps / 128 * 128 + f.1, f.2)

/-- The code of the SOURCE object for a parent (R253). -/
def sourceOf : Parent → Nat
  | .a => 1
  | .b => 2
  | .none => 0

/-- A STATION takes its time from PTP, as the active member does (R253); a member that stands by, or has stepped down, takes return
syncs (R259). -/
def State.followsPtp (s : State) : Bool :=
  s.isStation && (s.jrn.pstate == .active || s.jrn.pstate == .none || s.jrn.pstate == .init)

/-- The source of the node's time, as SOURCE reads (R253). -/
def State.timeSource (s : State) : Nat :=
  if s.followsPtp then (if s.tb.ptp.port == 0 then 0 else s.tb.ptp.port + 2)
  else if s.isStation then 5
  else sourceOf s.node.primary

/-- The down ports that are lit. -/
def State.litDown (s : State) : List Nat := [2, 3, 4, 5].filter s.lit

/-- The bytes of a class queued on a port. -/
def Port.queued (p : Port) (c : FloenClass) : Nat :=
  (p.queue.filter fun q => q.frame.cls == c).foldl (fun n q => n + q.frame.size) 0

/-- A frame fits its queue (R208). -/
def Port.fits (p : Port) (f : Frame) : Bool :=
  match f.cls with
  | .weft => (p.queue.filter fun q => q.frame.cls == .weft).length < 2
  | c => p.queued c + f.size ≤ c.queueBytes

/-- A port carries a frame: any frame while it is lit, and the LOCAL TIME frames in MEASURE and before admission as well (R221,
R419, R420). -/
def State.carries (s : State) (p : Nat) (f : Frame) : Bool :=
  s.lit p || (((s.port p).state == .measure || (s.port p).state == .up) && f.cls == .time && f.dir == .localDir
    && (2 ≤ p || !s.isStation))

/-- A frame that does not fit its queue is dropped and counted, with F1 LINK_CONGESTION once per run (R208). -/
def State.dropFrame (s : State) (p : Nat) : State :=
  let s1 := (s.upPort p fun q => { q with drops := satAdd 32 q.drops 1 }).upLink fun l => { l with evt := setBit32 l.evt 13 }
  if s1.inRun .linkCongestion p then s1
  else (s1.startRun .linkCongestion p).record FaultName.linkCongestion.typ FaultName.linkCongestion.unit .f1
    (Config.faultPayload FaultName.linkCongestion.typ p)

/-- A frame joins its queue on a lit port, or is dropped where it does not fit (R208). On a dark port nothing is queued. -/
def State.enqueue (s : State) (p : Nat) (f : Frame) : State :=
  if !s.carries p f then s
  else if (s.port p).fits f then
    (s.upPort p fun q => { q with queue := q.queue ++ [⟨f, s.tb.taps⟩] }).endRun .linkCongestion p
  else s.dropFrame p

/-- Queue one frame on several ports. -/
def State.enqueueAll (s : State) (ps : List Nat) (f : Frame) : State := ps.foldl (fun t p => t.enqueue p f) s

/-- The next ESEQ of a class, and the state with it taken (R215). -/
def State.takeEseq (s : State) (c : FloenClass) : Nat × State :=
  let e := vget s.link.eseq c.code 0
  (e, s.upLink fun l => { l with eseq := vset l.eseq c.code ((e + 1) % 65536) })

/-- A frame this node originates (R205). -/
def State.mkFrame (s : State) (c : FloenClass) (d : FloenDir) (dst : Nat) (anym : Bool) (eseq : Nat) (pl : List Byte) : Frame :=
  { cls := c, dir := d, dst := dst, anym := anym, src := s.addr, eseq := eseq, payload := pl }

/-- Send an UP frame on the primary up port (R210). -/
def State.sendUp (s : State) (c : FloenClass) (dst : Nat) (anym : Bool) (pl : List Byte) : State :=
  let (e, s1) := s.takeEseq c
  match s1.primaryPort with
  | some p => s1.enqueue p (s1.mkFrame c .up dst anym e pl)
  | none => s1

/-- Send an UP frame on one named up port. -/
def State.sendUpOn (s : State) (p : Nat) (c : FloenClass) (dst : Nat) (anym : Bool) (pl : List Byte) : State :=
  let (e, s1) := s.takeEseq c
  s1.enqueue p (s1.mkFrame c .up dst anym e pl)

/-- Send a DOWN frame on this node's own tree (R210, R213); without a route it is discarded and counted in NOROUTE. -/
def State.sendDown (s : State) (c : FloenClass) (dst : Nat) (anym : Bool) (pl : List Byte) : State :=
  let (e, s1) := s.takeEseq c
  match (s1.routeDown s1.memberB dst).filter s1.lit with
  | [] => if isArmBroadcast dst then s1 else s1.upLink fun l => { l with noRoute := satAdd 32 l.noRoute 1 }
  | ps => s1.enqueueAll ps (s1.mkFrame c .down dst anym e pl)

/-- Send a DOWN frame on one named down port, to the neighbour there (R358). -/
def State.sendDownOn (s : State) (p : Nat) (c : FloenClass) (dst : Nat) (pl : List Byte) : State :=
  let (e, s1) := s.takeEseq c
  s1.enqueue p (s1.mkFrame c .down dst false e pl)

/-- Send a CROSS frame once on each lit down port (R214). -/
def State.sendCross (s : State) (c : FloenClass) (dst : Nat) (pl : List Byte) : State :=
  let (e, s1) := s.takeEseq c
  s1.enqueueAll s1.litDown (s1.mkFrame c .cross dst false e pl)

/-- Send a frame to the own partner, CROSS. -/
def State.sendPartner (s : State) (c : FloenClass) (pl : List Byte) : State := s.sendCross c (partnerAddr s.addr) pl

/-- Send a LOCAL frame to the neighbour on a port (R208, R210). -/
def State.sendLocal (s : State) (p : Nat) (c : FloenClass) (pl : List Byte) : State :=
  let (e, s1) := s.takeEseq c
  s1.enqueue p (s1.mkFrame c .localDir (s1.port p).peer.addr false e pl)

/-- The code of the lane this node applies (R309). -/
def State.ownLane (s : State) : Nat :=
  if s.isStation then 0xFFFF else if s.node.role == .relay then 0xFFFE else s.node.arm

/-- A lane that this node holds, or an empty one. -/
def State.laneOf (s : State) (code : Nat) : Lane := (s.jrn.lanes.find? (·.code == code)).getD { code := code }

/-- APPLIED_JSN of the node's own lane (R320). -/
def State.appliedJsn (s : State) : Nat := (s.laneOf s.ownLane).applied

/-- The epoch of ARM pair `lane` as a STATION member knows it; 0 before it has shown a higher one (R332). -/
def State.armEpoch (s : State) (lane : Nat) : Nat := ((s.jrn.armEpochs.find? (·.1 == lane)).map (·.2)).getD 0

/-- The epoch that a JOURNAL frame carries: that of the pair which journals the lane, as the sender knows it; 0 from a cell or relay (R311). -/
def State.laneEpoch (s : State) (lane : Nat) : Nat :=
  if !s.isMember then 0 else if s.isStation && lane < 16 then s.armEpoch lane else s.jrn.epoch

/-- The first 16 bytes of a JOURNAL payload (R311). -/
def State.jrnHead (s : State) (kind flags lane jsn : Nat) : List Byte :=
  leBytes 1 kind ++ leBytes 1 flags ++ leBytes 2 lane ++ leBytes 4 (s.laneEpoch lane) ++ leBytes 8 jsn

/-! ### Entries from their frames (R313) -/

/-- An entry type from its code (R313). -/
def etypeOfCode (n : Nat) : EType := match n with | 0 => .write | 1 => .fence | _ => .switch

/-- A session role from its code (R58). -/
def sessOfCode (n : Nat) : SessRole := match n with | 0 => .observer | 1 => .operator | 2 => .engineer | _ => .safetyEngineer

/-- The entry of the header of one of its frames and of its whole command bytes (R313). -/
def entryOf (hd cmd : List Byte) : JEntry :=
  let h := fun (i n : Nat) => leNat ((hd.drop i).take n)
  let c := fun (i n : Nat) => leNat ((cmd.drop i).take n)
  let t := h 32 4
  let e : JEntry := { lane := h 2 2, jsn := h 8 8, pjsn := h 16 8, applyAt := h 24 8, target := t % 2 ^ 19, anym := bitOf t 19, system := bitOf t 20
                      confirm := bitOf (h 1 1) 0, accepted := bitOf (h 1 1) 1, etype := etypeOfCode (h 1 1 / 16 % 4) }
  match e.etype with
  | .write => { e with index := c 0 2, sub := c 2 1, role := sessOfCode (c 3 1), len := cmd.length - 4, value := leNat (cmd.drop 4) }
  | .fence => { e with value := c 0 8 }
  | .switch => { e with swEpoch := c 0 4, swAddr := c 4 4, swCause := c 8 1 }

/-- The command bytes that follow one another from an offset on, among ENTRY payloads: by their number. -/
def entryJoin : Nat → List (List Byte) → Nat → List Byte
  | 0, _, _ => []
  | n + 1, parts, at' => match parts.find? fun p => leNat ((p.drop 40).take 4) == at' && 44 < p.length with
    | some p => p.drop 44 ++ entryJoin n parts (at' + (p.length - 44))
    | none => []

/-- An ENTRY payload arrives (R313): a frame of an entry of ETYPE 0 to 2 is kept until TOTAL_LEN command bytes are there; the entry is then
received. Frames of one entry agree in every field but OFFSET. -/
def State.entryPart (s : State) (p : List Byte) : State :=
  if leNat (p.take 1) != 1 || p.length < 44 || leNat ((p.drop 1).take 1) / 16 % 4 == 3 then s
  else
    let same := p :: s.jrn.entryParts.filter fun q => q.take 40 == p.take 40 && q.take 44 != p.take 44
    let rest := s.jrn.entryParts.filter fun q => q.take 40 != p.take 40
    let cmd := entryJoin same.length same 0
    if cmd.length == leNat ((p.drop 36).take 4) then
      s.upJrn fun j => { j with entryParts := rest, entriesIn := entryOf p cmd :: j.entriesIn }
    else s.upJrn fun j => { j with entryParts := same ++ rest }

end Sys2Proof.Machine
end

