-- ==== Sys2Proof/Machine/Actions.lean ====
section
/-!
DEFINITION. Sys2Proof/Machine/Actions.lean: what a fault does: the safe pattern (R163), the island's SPB and SBY latches (R348,
R349), the entries into BLOCK and BYPASS (R29), the step-down of an active member (R335), the system trip (R368), and the action
of a fault by its class (R14 to R16).
-/
namespace Sys2Proof

/-- The node has joined: READY or a later state (R29, R330). -/
def NodeState.isJoined (n : NodeState) : Bool :=
  match n with
  | .ready | .service | .hold | .block | .bypass => true
  | .off | .boot | .join => false

/-- Faults whose table names the action BLOCK or SPB for an F2 at a role, taken by a request of firmware (R348 cause 11). -/
def FaultName.blocks (isCell : Bool) (n : FaultName) : Bool :=
  match n with
  | .bridgeMismatch | .fltTrip | .gateCal | .goReadback | .safetyParam => true
  | .adcRef | .adcCal | .refclkLost | .timeAlign | .memUe | .hdlOpQuarantine | .trdlOverrun => isCell
  | _ => false

/-- The STATUS code (R68). -/
def Status.code : Status → Nat
  | .ok => 0x00
  | .noObject => 0x01
  | .noSubindex => 0x02
  | .access => 0x03
  | .role => 0x04
  | .length => 0x05
  | .range => 0x06
  | .state => 0x07
  | .busy => 0x08
  | .sealed => 0x09
  | .sequence => 0x0A
  | .tooLarge => 0x0B
  | .unreachable => 0x0C
  | .timeout => 0x0D
  | .snapshotLost => 0x0E
  | .aborted => 0x0F
  | .digest => 0x10
  | .media => 0x11
  | .sessionLimit => 0x12
  | .notBroadcast => 0x13
  | .pending => 0x14
  | .notActive => 0x15
  | .mapping => 0x16
  | .refused => 0x17

end Sys2Proof

namespace Sys2Proof.Machine

/-- The code of a node state (R40 NODE_STATE); OFF is 0. -/
def nodeCode : NodeState → Nat
  | .off => 0
  | .boot => 1
  | .join => 2
  | .ready => 3
  | .service => 4
  | .hold => 5
  | .block => 6
  | .bypass => 7

/-- The code of a pair state (R329). -/
def pairCode : PairState → Nat
  | .none => 0
  | .init => 1
  | .active => 2
  | .standby => 3
  | .resync => 4
  | .unhealthy => 5
  | .yielded => 6

/-- The pair state of a code (R329). -/
def pairOfCode (n : Nat) : PairState :=
  match n with
  | 1 => .init
  | 2 => .active
  | 3 => .standby
  | 4 => .resync
  | 5 => .unhealthy
  | 6 => .yielded
  | _ => .none

/-! ### Digests and pair health (R330) -/

/-- FW_DIGEST of the running image. -/
def State.fwDigest (s : State) : Nat :=
  match vget s.sys.slots s.sys.slot none with
  | some f => f.digest
  | none => 0

/-- PROGRAM_DIGEST: the active bank's, or the standard program's, which the firmware image fixes. -/
def State.programDigest (s : State) : Nat :=
  if s.trdl.std then Config.factoryValue Obj.PROGRAM_DIGEST else (vget s.trdl.banks s.trdl.bank {}).digest

/-- The cycle of the pair now (R319): the Weft cycle, or the station cycle. -/
def State.pairCycle (s : State) : Nat := if s.isStation then s.tb.ntNs / max 1 (s.objEff Obj.STATION_CYCLE) else s.cycleNow

/-- The image of WEFT.STAT (R107). -/
def State.weftStat (s : State) : Word :=
  let ins := s.isCell && (s.gate.ins == .pos || s.gate.ins == .neg)
  s.weft.stat ||| BitVec.ofNat 32 (b2n (s.node.primary == .b) + 2 * b2n (s.isCell && s.weft.cls == .eligible)
    + 4 * b2n (s.isCell && s.weft.cls == .held) + 8 * b2n ins + 16 * b2n (ins && s.gate.ins == .neg))

/-- The image of TRDL.STAT (R137). A field marked ARM reads 0 in another role. -/
def State.trdlStat (s : State) : Word :=
  let t := s.trdl
  t.stat ||| BitVec.ofNat 32 (b2n t.fastOk + 2 * b2n t.slowOk + 4 * b2n (s.isArm && t.fastK.isSome && !t.curValid)
    + 8 * b2n (t.refin.toList.any (·.held)))

/-- GRAPH_DIGEST of the running graph; 0 where none runs. -/
def State.graphDigest (s : State) : Nat := (vget s.hdl.banks s.hdl.bank {}).digest

/-- The first four bytes of a digest, as a PAIR frame carries it (R312). -/
def digest4 (d : Nat) : Nat := d % 2 ^ 32

/-- The three digests equal the partner's (R330 bit 4). -/
def State.digestsEqual (s : State) : Bool :=
  match s.jrn.partner with
  | some m => m.fwDigest == digest4 s.fwDigest && m.progDigest == digest4 s.programDigest
      && m.graphDigest == digest4 s.graphDigest
  | none => false

/-- The HEALTH bits (R330): JOURNAL, MIRROR and VERIFIED as held, the others from the state; 0 in the pair state NONE, as after a reset (R343). -/
def State.healthBits (s : State) : Nat :=
  if !s.isMember || s.jrn.pstate == .none then 0 else b2n (s.node.nodeState.isJoined && s.tb.state == .locked) + 2 * (s.jrn.health / 2 % 2) + 4 * (s.jrn.health / 4 % 2)
    + 8 * b2n s.jrn.verified + 16 * b2n s.digestsEqual + 32 * b2n s.node.faults.isEmpty

/-- A standby is healthy while all of its HEALTH bits are 1 (R330). -/
def State.healthy (s : State) : Bool := s.healthBits == 63

/-- Set or clear a stored HEALTH bit. -/
def Journal.putHealth (j : Journal) (i : Nat) (b : Bool) : Journal :=
  let h := j.health
  { j with health := if bitOf h i == b then h else if b then h + 2 ^ i else h - 2 ^ i }

/-- A PAIR frame has come from the partner within 10 ms (R316). -/
def State.partnerFresh (s : State) : Bool := s.jrn.partner.isSome && inWindow s.jrn.partnerTap (10 * tapsMs) s.tb.taps

/-- The partner is STANDBY and healthy, by its latest PAIR frame (R316, R330). -/
def State.partnerHealthy (s : State) : Bool :=
  match s.jrn.partner with
  | some m => s.partnerFresh && m.pstate == .standby && m.health == 63
  | none => false

/-- The partner is ACTIVE, by its latest PAIR frame. -/
def State.partnerActive (s : State) : Bool :=
  match s.jrn.partner with
  | some m => s.partnerFresh && m.pstate == .active
  | none => false

/-! ### The safe pattern (R163) -/

/-- Turn a switch off at tap `now`; a pending switch-on is cancelled (R163). A switch that turned on in this same tap has no edge (R144),
and has been off without a break. -/
def Switch.force (now : Nat) (w : Switch) : Switch :=
  { on := false, offSince := if w.on && w.onAt != now then now else w.offSince, onAt := w.onAt, pendingOn := none }

/-- A force on the bridge outputs: every pending switch-on cancelled, every switch that is on turned off, and no scheduled edge of
GO0 to GO3 placed (R163). -/
def Gate.force (now : Nat) (g : Gate) : Gate :=
  { g with sw := g.sw.map (Switch.force now), leg1 := .openLeg, leg2 := .openLeg, ins := .safeOpen, carRun := false, safeAt := some now,
           sched := g.sched.filter fun e => 4 ≤ e.out }

/-- An island force line or an FLT latch is asserted (R165): the bridge outputs turn off, FORCES counts and its event is set. -/
def State.assertForce (s : State) : State :=
  ((s.upGate fun g => { g.force s.tb.taps with forces := satAdd 32 g.forces 1, evt := setBit32 g.evt 0 }).event 0x51)

/-- The bridge outputs go to the safe pattern without a force line: the node leaves SERVICE or HOLD (R147). -/
def State.safePattern (s : State) : State := s.upGate (Gate.force s.tb.taps)

/-! ### The commanded outputs (R139 to R142, R146, R155, R162) -/

/-- A switch of GO0 to GO3. -/
def Gate.switch (g : Gate) (i : Nat) : Switch := vget g.sw i {}

/-- An input latched with ACTION 2 (R161). -/
def State.fltBypass (s : State) : Bool :=
  s.isCell && ([0, 1, 2, 3, 4, 5].any fun n => (vget s.gate.flt n {}).latched && bitsOf (s.obj (Obj.FLT_CFG0 + n)) 3 2 == 2)

/-- The bypass is commanded (R141, R162). -/
def State.bypassCommanded (s : State) : Bool := s.sel.sby || s.fltBypass

/-- Some force is applied to the bridge (R162). -/
def State.forced (s : State) : Bool :=
  s.sel.spb || s.sel.sby || s.node.nodeState == .block || s.node.nodeState == .bypass
    || ([0, 1, 2, 3, 4, 5].any fun n => (vget s.gate.flt n {}).latched && bitsOf (s.obj (Obj.FLT_CFG0 + n)) 3 2 != 0)

/-- The own drive of GO6 or GO7 (R154, R155). -/
def State.auxDrive (s : State) (i : Nat) : Bool :=
  if s.obj Obj.GATE_MODE == 2 then (if i == 0 then s.gate.go6 else s.gate.go7)
  else match s.obj Obj.AUX_SRC / 4 ^ i % 4 with
    | 0 => bitOf s.gate.aux i
    | 1 => s.gate.ins == .pos || s.gate.ins == .neg
    | 2 => s.forced
    | _ => false

/-- The pattern of the latched inputs for GO6 or GO7 (R162): inactive beats active beats keep. -/
def State.fltPattern (s : State) (i : Nat) : Option Bool :=
  let f := fun (v : Nat) => [0, 1, 2, 3, 4, 5].any fun n =>
    (vget s.gate.flt n {}).latched && s.obj (Obj.FLT_CFG0 + n) / 4 ^ (2 + i) % 4 == v
  if f 1 then some false else if f 2 then some true else none

/-- The commanded state of an output: true for active (R139 to R142, R155, R162). -/
def State.goActive (s : State) (out : Nat) : Bool :=
  match out with
  | 0 | 1 | 2 | 3 => (s.gate.switch out).on
  | 4 => s.bypassCommanded && (s.obj Obj.GO4_MODE == 0 || s.gate.bypPulse)
  | 5 => s.bypassCommanded
  | 6 => (s.fltPattern 0).getD (s.auxDrive 0)
  | 7 => (s.fltPattern 1).getD (s.auxDrive 1)
  | _ => false

/-- The commanded electrical level of an output ball (R140). -/
def State.goLevel (s : State) (out : Nat) : Bool := s.goActive out != bitOf s.gate.goPol out

/-- The latest commanded edge of an output (R146): one of the present period of REFCLK, or the one held. -/
def State.lastGoEdge (s : State) (out : Nat) : Nat :=
  let e := vget s.gate.goSeen out (false, 0)
  if s.goActive out == e.1 then e.2 else s.tb.taps

/-- The latest readback of an output, where no commanded edge has come since (R146). -/
def State.rbNow (s : State) (out : Nat) : Option Bool :=
  (vget s.gate.rb out none).bind fun r => if s.lastGoEdge out ≤ r.2 then some r.1 else none

/-- The readback of an output differs from its command (R146). -/
def State.rbDiffers (s : State) (out : Nat) : Bool := match s.rbNow out with | some l => l != s.goLevel out | none => false

/-- The readback of an output: true for active (R167). DESIGN CHOICE(151): before one has been reported, what is commanded. -/
def State.goRead (s : State) (out : Nat) : Bool := s.goActive out != s.rbDiffers out

/-- One period of REFCLK passes over the commanded outputs: what has changed in it is an edge (R146). -/
def State.watchOutputs (s : State) : State :=
  s.upGate fun g => { g with goSeen := Vector.ofFn fun i => (s.goActive i, s.lastGoEdge i) }

/-! ### BLOCK, SPB, SBY and BYPASS (R29, R348, R349) -/

/-- The cycle that follows an entry into BLOCK (R8, R37): after T_exec of the eighth cycle without a decision the next one. DESIGN
CHOICE(179): after any other entry the one that follows the cycle of network time. -/
def State.followingCycle (s : State) : Nat :=
  if s.node.nodeState == .hold && s.node.holdCount == 8 then ((s.weft.insHist.head?).map (·.1)).getD s.cycleNow + 1 else s.cycleNow + 1

/-- Enter BLOCK from READY, SERVICE or HOLD (R29); a local orphan is then due for its bypass, at T_exec of the cycle that follows (R37). -/
def State.toBlock (s : State) : State :=
  match s.node.nodeState with
  | .ready | .service | .hold =>
    (s.upNode fun n => { n with nodeState := .block, orphanBypassDue := n.orphan == .localOrphan, orphanDueK := s.followingCycle }).safePattern
  | .off | .boot | .join | .block | .bypass => s

/-- Cause `i` of R348 becomes active: the SPB latch is set, the force line is asserted when it was not, and the node is in BLOCK
or stays where R29 leaves it. -/
def State.setCause (s : State) (i : Nat) : State :=
  let was := s.sel.spb
  let s1 := s.upSel fun l => { l with causes := if bitOf l.causes i then l.causes else l.causes + 2 ^ i, spb := true }
  (if was then s1 else s1.assertForce).toBlock

/-- Cause `i` of R348 ends now; the latch stays (R351). -/
def State.endCause (s : State) (i : Nat) : State :=
  if bitOf s.sel.causes i then
    s.upSel fun l => { l with causes := l.causes - 2 ^ i, causeEnd := vset l.causeEnd i s.tb.taps }
  else s

/-- A request from firmware to block (R348 cause 11): the latch is set in every state, and what R29 moves to BLOCK moves (R161). -/
def State.blockRequest (s : State) : State := s.setCause 11

/-- The bypass mark is kept in the keep area and in SNAPSHOT (R12, R30). -/
def State.keepBypass (s : State) (b : Bool) : State :=
  ((s.upNode fun n => { n with bypassMark := b }).upSys fun y => { y with keep := { y.keep with bypass := b, sby := b } }).upBob
    fun v => { v with snap := { v.snap with bypass := b, sby := b } }

/-- Set the SBY latch at a CELL (R349): the bypass fires, its pulse train begins (R141), and the cell is in BYPASS; the first cause is kept. -/
def State.latchSby (s : State) (cause : Nat) : State :=
  if s.isCell && s.powered && !s.sel.sby then
    let s1 := (s.upSel fun l => { l with sby := true, sbyCause := if l.sbyCause == 0 then cause else l.sbyCause }).assertForce
    ((s1.upNode fun n => { n with nodeState := .bypass, orphanBypassDue := false }).upGate fun g => { g with bypPulse := true, bypAt := s.tb.taps }).keepBypass true
  else s

/-! ### The system trip (R365, R368) -/

/-- The level that a channel has taken demands SPB by SIN_MODE (R352); `l0` and `l1` are SAFE_IN0 and SAFE_IN1. -/
def sinDemand (mode : Nat) (l0 l1 : Bool) : Bool :=
  match mode with
  | 0 => false
  | 1 => !(l0 && l1)
  | _ => !(l0 && !l1)

/-- SAFE_IN demands at a channel that has not failed (R348 cause 0, R372). -/
def State.sinActive (s : State) : Bool :=
  let m := s.obj Obj.SIN_MODE
  (!s.sel.failedB && sinDemand m (vget s.sel.sinB 0 false) (vget s.sel.sinB 1 false))
    || (!s.sel.failedC && sinDemand m (vget s.sel.sinC 0 false) (vget s.sel.sinC 1 false))

/-- A valid connection carries a bit of SDATA (R365). -/
def Conn.carries (c : Conn) (f : SafetyFrame → Bool) : Bool :=
  c.valid && (match c.last with | some x => f x | none => false)

/-- TRIP_UP arrives from some child connection (R365). -/
def State.childTrip (s : State) : Bool := [2, 3, 4, 5].any fun p => (vget s.sel.conns p {}).carries (·.tripUp)

/-- The causes of the system trip of a STATION member (R368). -/
def State.tripWanted (s : State) : Bool := s.isStation && (s.sinActive || s.childTrip || s.sel.f4Req)

/-- Count a rising edge of LINK.BLK.OUT (R240, R301). -/
def State.setBlkOut (s : State) (b : Bool) : State :=
  if s.link.blkOut == b then s
  else
    let s1 := s.upLink fun l => { l with blkOut := b, evt := setBit32 l.evt 12, blkCount := if b then satAdd 32 l.blkCount 1 else l.blkCount }
    if b then s1.event 0x5F else s1

/-- Bring the STATION's trip in step with its causes (R219, R368): BLK is demanded from the start of a demand, cause 13 is active
while it lasts, and the demand's identifier is set at its start (R365). BLK falls by BLK_MIN_HOLD_END. -/
def State.tripUpdate (s : State) : State :=
  let want := s.tripWanted
  if want && !s.sel.sysTrip then
    let s1 := s.upSel fun l => { l with sysTrip := true, demandId := s.optNow % 2 ^ 32 }
    let s2 := s1.upLink fun l => { l with blkOrig := true, blkSince := s.tb.taps }
    (s2.setBlkOut true).setCause 13
  else if !want && s.sel.sysTrip then
    let s1 := (s.upSel fun l => { l with sysTrip := false }).endCause 13
    if s.link.blkSince + 50 * tapsUs ≤ s.tb.taps then
      (s1.upLink fun l => { l with blkOrig := false }).setBlkOut false
    else s1
  else s

/-- Firmware requests an F4 (R14, R368): the STATION trips the system; any other node requests it upward with TRIP_UP and
blocks (R29). -/
def State.requestTrip (s : State) : State :=
  let s1 := s.upSel fun l => { l with f4Req := true }
  if s.isStation then s1.tripUpdate else s1.blockRequest

/-! ### Stepping down (R329, R335) -/

/-- The sessions of a STATION member end when it is neither active nor standby (R47, R54, R60). -/
def State.endSessions (s : State) : State :=
  if s.isStation then s.upDict fun d => { d with sessions := [], cursors := [], segReads := [], segWrites := [], blocks := [], waiting := [] }
  else s

/-- A session ends, with its cursors and transfers (R47, R60). -/
def State.endSession (s : State) (id : Nat) : State :=
  s.upDict fun d => { d with
    sessions := d.sessions.filter (·.id != id), cursors := d.cursors.filter (·.1 != .session id)
    segReads := d.segReads.filter (·.via != .session id), segWrites := d.segWrites.filter (·.via != .session id)
    blocks := d.blocks.filter (·.via != .session id)
    waiting := d.waiting.filter (·.via != .session id) }

/-- The active member passes to YIELDED: it advertises UPLOST on its down ports and sends no Shuttle from then on; a STATION
member's sessions end (R60). `cause` is the code of LAST_SWITCH_CAUSE. -/
def State.toYielded (s : State) (cause : Nat) : State :=
  (s.upJrn fun j => { j with
    pstate := .yielded, upLostTx := true, lastCause := cause, lastTime := nt96 s.tb.ntF, evt := setBit32 j.evt 2 }).endSessions

/-- Send YIELD to the partner (R312, R335). -/
def State.sendYield (s : State) (cause : Nat) : State :=
  s.sendPartner .journal (s.jrnHead 0x0A 0 s.ownLane 0 ++ leBytes 1 cause)

/-- The action of an F3 (R14, R16, R337): the active member yields to its partner; an ARM member without a healthy standby, or
during a switch-over of its arm, blocks the arm. A node that is no active member blocks itself. DEDUCED(9). -/
def State.f3Action (s : State) : State :=
  if s.isActive then
    let ok := s.partnerHealthy && !s.jrn.busy
    let s1 := (s.sendYield 1).toYielded 1
    if ok || s.isStation then s1 else (s1.upNode fun n => { n with armBlocked := true }).blockRequest
  else if s.isMember then
    (if s.jrn.busy && s.isArm then (s.upNode fun n => { n with armBlocked := true }).blockRequest else s)
  else s.blockRequest

/-! ### Raising faults (R14 to R16, R394) -/

/-- A fault to raise: its name, the number that tells two of one name apart, and where given the class an operation declares and
the payload R391 lays out. -/
structure Ev where
  name : FaultName
  arg : Nat := 0
  cls : Option FClass := none
  payload : Option Nat := none
  deriving DecidableEq, Repr

/-- The class with which a fault acts: never below the class of its table (R15). -/
def State.evClass (s : State) (e : Ev) : FClass :=
  match e.cls with
  | some c => if s.jrn.pstate == .yielded && 2 < c.code then .f2 else c
  | none => s.faultClass e.name

/-- The record's payload: as R391 gives it, or as the firmware's record dictionary lays it out. -/
def Ev.pay (e : Ev) : Nat := e.payload.getD (Config.faultPayload e.name.typ e.arg)

/-- Records of one step take their numbers in ascending unit, then TYPE (R394). -/
def Ev.before (a b : Ev) : Bool :=
  a.name.unit < b.name.unit || (a.name.unit == b.name.unit && a.name.typ ≤ b.name.typ)

/-- Insert by R394. -/
def insertEv (e : Ev) : List Ev → List Ev
  | [] => [e]
  | x :: xs => if e.before x then e :: x :: xs else x :: insertEv e xs

/-- The faults of one step in the order of R394. -/
def sortEvs (l : List Ev) : List Ev := l.foldr insertEv []

/-- The active STATION's status dataset notes an own F2 to F4 or MEDIA_FAULT record (R234, R398). -/
def State.noteDs0 (s : State) (cls typ src rsn : Nat) : State :=
  s.upLink fun l => { l with lan := { l.lan with
    ds0Class := cls, ds0Type := typ, ds0Src := src, ds0Rsn := rsn } }

/-- Record one fault and attribute it to the node where it is an F2, F3 or F4 (R10, R14). -/
def State.recordEv (s : State) (e : Ev) : State :=
  let c := s.evClass e
  let rsn := s.recd.nextRsn
  let s1 := s.record e.name.typ e.name.unit c e.pay
  let s2 := if 2 ≤ c.code then s1.upNode fun n => { n with faults := ⟨e.name, c, e.arg⟩ :: n.faults.filter (fun x => x.name != e.name || x.arg != e.arg) } else s1
  if s.isStation && s.isActive && (2 ≤ c.code || e.name == .mediaFault) then s2.noteDs0 c.code e.name.typ s.addr rsn else s2

/-- A resync is aborted (R341): counted, recorded, the received parts dropped, and the member UNHEALTHY. -/
def State.resyncAbort (s : State) : State :=
  (s.recordEv { name := .jrnResyncAbort }).upJrn fun j => { j with
    pstate := .unhealthy, upLostTx := true, resyncAborts := satAdd 32 j.resyncAborts 1, abortAt := some s.tb.taps, snapParts := [],
    snapDone := false, snapStored := [], epochRx := [], verifyRun := 0 }

/-- A standby that loses its health leaves the take-over set (R329, R330). -/
def State.healthCheck (s : State) : State :=
  let h := s.healthy
  let s1 := if h == s.jrn.healthyWas then s
    else s.upJrn fun j => { j with healthyWas := h, evt := setBit32 j.evt 3 }
  if s1.isMember && s1.jrn.pstate == .standby && s.jrn.healthyWas && !h then
    (s1.upJrn fun j => { j with pstate := .unhealthy, upLostTx := true, verified := false }).endSessions
  else s1

/-- The highest class among faults. -/
def State.topClass (s : State) (l : List Ev) : FClass := l.foldl (fun c e => c.max (s.evClass e)) .f0

/-- The action of the highest class among the faults of a step (R14, R16). -/
def State.actOn (s : State) (top : FClass) (l : List Ev) : State :=
  match top with
  | .f0 | .f1 => s
  | .f2 => if l.any (fun e => e.name.blocks s.isCell) then s.blockRequest else s
  | .f3 => s.f3Action
  | .f4 => if l.all (fun e => e.name == .safeTrip || (s.evClass e).code < 4) then s.tripUpdate else s.requestTrip

/-- Raise the faults of one step (R14 to R16): each is recorded in its own record, in the order of R394; the action is that of the
highest class. An F2 ends a resync (R341), and a standby with a fault is not healthy (R330). -/
def State.raiseAll (s : State) (l : List Ev) : State :=
  let top := s.topClass l
  let s1 := (sortEvs l).foldl State.recordEv s
  let s2 := s1.actOn top l
  let s3 := if 2 ≤ top.code && s2.isMember && s2.jrn.pstate == .resync then s2.resyncAbort else s2
  if 2 ≤ top.code then s3.healthCheck else s3

/-- Raise one fault. -/
def State.raise (s : State) (n : FaultName) (arg : Nat := 0) : State := s.raiseAll [{ name := n, arg := arg }]

/-- Raise a fault that is recorded once per run of its cause (R106 and "once per run"). -/
def State.raiseRun (s : State) (n : FaultName) (arg : Nat := 0) : State :=
  if s.inRun n arg then s else (s.startRun n arg).raise n arg

/-- A refusal at this node (R69): counted and latched in LAST_REFUSAL. -/
def State.countRefusal (s : State) (status key : Nat) : State :=
  s.upDict fun d => { d with refusedCount := satAdd 32 d.refusedCount 1, lastRefusal := status * 2 ^ 24 + key % 2 ^ 24 }

/-- The payload of a REFUSAL record (R391). -/
def refusalPay (status key jsn : Nat) : Nat :=
  status + (keyIndex key) * 2 ^ 16 + keySub key * 2 ^ 32 + jsn % 2 ^ 64 * 2 ^ 64

/-- A refusal by the target of a command (R69): counted, and written as an F0 record. -/
def State.refuse (s : State) (status key jsn : Nat) : State :=
  (s.countRefusal status key).raiseAll [{ name := .refusal, payload := some (refusalPay status key jsn) }]

end Sys2Proof.Machine
end

