-- ==== Sys2Proof/Machine/Reset.lean ====
section
/-!
DEFINITION. Sys2Proof/Machine/Reset.lean: the three kinds of reset and what each keeps (R1, R12, R30, R389, R402, R431 to R434,
R438), and the answer to a write of a command object.
-/
namespace Sys2Proof.Machine

/-- What comes of a write at its target: refused with a STATUS, or the state after it (R50, R69). -/
abbrev Applied := Status × State

/-- A write that is refused: nothing changes but the count of the refusal (R69). -/
def State.no (s : State) (st : Status) : Applied := (st, s)

/-- A write that is applied. -/
def State.yes (s : State) : Applied := (.ok, s)

/-- A command object that takes the own address (R50): another value is refused as RANGE. -/
def State.ownWrite (s : State) (value : Nat) (r : Applied) : Applied := if value == s.addr then r else s.no .range

/-- Answer a command at its target: a refusal is counted and recorded (R69). -/
def settle (key jsn : Nat) (r : Applied) : State := if r.1 == .ok then r.2 else r.2.refuse r.1.code key jsn

/-- A command that takes effect only while the device is powered. -/
def State.onPower (s t : State) : State := if s.powered then t else s

/-- A command of the REFCLK islands (R243): the time base, the lanes and the edge stage stop while REFCLK is lost. -/
def State.onLane (s t : State) : State := s.onPower (if s.tb.refOk then t else s)

/-- The kinds of a reset (R431). -/
inductive ResetKind where
  | powerOn | wake | warm
  deriving DecidableEq, Repr

/-- The kind of a cause (R431). -/
def resetKind (cause : Nat) : ResetKind := if cause ≤ 1 then .powerOn else if cause == 2 then .wake else .warm

/-- The strap balls are sampled at the release of internal reset (R1, R378); a floating strap gives a free value (R19). -/
def State.sampledRole (s : State) : Role :=
  if s.pins.roleTied then roleOfCode s.pins.role else roleOfCode (Config.floatingRole s.free)

/-- Objects in 0x1100 to 0x13FF are never restored (R49). -/
def neverRestored (key : Nat) : Bool := 0x1100 ≤ keyIndex key && keyIndex key < 0x1400

/-- An object's access class is RWS (R45). -/
def isRws (key : Nat) : Bool :=
  match tableRow key with
  | some r => r.acc == .rws
  | none => false

/-- The stored values after a reset (R48, R49): PERS values only, less those that a restore of defaults returns. -/
def restoreCells (m : RestoreMark) (l : List ObjCell) : List ObjCell :=
  l.filter fun c => isPers c.key && (match m with
    | .none => true
    | .keepRws => neverRestored c.key || isRws c.key
    | .all => neverRestored c.key)

/-- The later of two record numbers, compared modulo 2^32 within a distance of 2^31 (R388). -/
def rsnMax (a b : Nat) : Nat := if (b + 2 ^ 32 - a % 2 ^ 32) % 2 ^ 32 < 2 ^ 31 then b % 2 ^ 32 else a % 2 ^ 32

/-- The values of next RSN, OPT and PCC that a power-on reset or a WAKE resumes with (R389), from the stored ones and the
records found in the store; none where neither gives a valid value. -/
def resumeBase (stored : Option (Nat × Nat × Nat)) (evs : List Record) : Option (Nat × Nat × Nat) :=
  match stored, evs with
  | none, [] => none
  | some (r, o, p), l =>
    some (l.foldl (fun m x => rsnMax m ((x.rsn + 1) % 2 ^ 32)) r, l.foldl (fun m x => max m x.opt) o + 1,
      min (l.foldl (fun m x => max m x.pcc) p + 1) 0xFFFFFF)
  | none, e :: l =>
    some (l.foldl (fun m x => rsnMax m ((x.rsn + 1) % 2 ^ 32)) ((e.rsn + 1) % 2 ^ 32), l.foldl (fun m x => max m x.opt) e.opt + 1,
      min (l.foldl (fun m x => max m x.pcc) e.pcc + 1) 0xFFFFFF)

/-- A valid superblock stands in one of its two copies (R407). -/
def Bob.hasSuperblock (b : Bob) : Bool := vget b.superblock 0 false || vget b.superblock 1 false

/-- The store can be mounted (R399, R405): CS0 is fitted and holds a valid superblock. -/
def State.storeThere (s : State) : Bool := vget s.pins.flashType 0 0 != 0 && s.bob.hasSuperblock

/-- The base that SNAPSHOT holds (R389). -/
def Snapshot.base (p : Snapshot) : Option (Nat × Nat × Nat) := if p.valid then some (p.rsn, p.opt, p.pcc) else none

/-- The stored base (R389, R432): of the keep area at a WAKE, else of SNAPSHOT where the store can be mounted. -/
def State.storedBase (s : State) (kind : ResetKind) : Option (Nat × Nat × Nat) :=
  if kind == .wake && s.sys.keep.valid then some (s.sys.keep.rsn, s.sys.keep.opt, s.sys.keep.pcc)
  else if s.storeThere then s.bob.snap.base
  else none

/-- The own records in EVENTS. -/
def Rec.ownEvents (r : Rec) : List Record := (r.events.filter fun e => e.arn.isNone && !e.lost).map (·.record)

/-- The next arrival number that a stored one and the copies found in EVENTS continue (R389, R403). -/
def Rec.resumeArn (r : Rec) (stored : Nat) : Nat :=
  (r.events.filterMap (·.arn)).foldl (fun m a => rsnMax m ((a + 1) % 2 ^ 32)) stored

/-- The recorder after a reset (R389, R402, R432): a warm reset keeps it but for its registers, closes the open record and discards the slots
whose CHECK fails; a power-on reset or a WAKE loses the Den, and resumes from the keep area and from a store that can be mounted. The
MEDIA_FAULT flag comes back at the mount (R399). -/
def State.recAfter (s : State) (kind : ResetKind) : Rec :=
  let r := s.recd.close false
  if kind == .warm then
    { ({} : Rec) with den := r.den.filter fun d => !d.bad, denAge := r.denAge, denBad := (r.den.filter (·.bad)).length
                      events := r.events, evLsn := r.evLsn, nextRsn := r.nextRsn, firstRsn := r.firstRsn
                      nextArn := r.nextArn, firstArn := r.firstArn, optBase := r.optBase, pcc := r.pcc, noBase := r.noBase
                      media := r.media, fseqTx := [], fseqRx := [] }
  else
    let base := { ({} : Rec) with events := r.events, evLsn := r.evLsn, firstRsn := r.firstRsn, firstArn := r.firstArn
                                  nextArn := if s.storeThere then r.resumeArn s.bob.snap.arn else 0 }
    match resumeBase (s.storedBase kind) (if s.storeThere then r.ownEvents else []) with
    | some (n, o, p) => { base with nextRsn := n, optBase := o, pcc := p }
    | none => { base with noBase := true }

/-- A successful mount restores a base that a reset did not find (R389). -/
def State.restoreBase (s : State) : State :=
  if !s.recd.noBase || (s.bob.snap.base.isNone && s.recd.ownEvents.isEmpty) then s
  else match resumeBase s.bob.snap.base (s.recd.ownEvents ++ (s.recd.den.filter (!·.relayed)).map (·.record)) with
    | some (n, o, p) => s.upRecd fun r => { r with
        nextRsn := rsnMax r.nextRsn n, optBase := max r.optBase (o - s.tb.taps / 12500000), pcc := p
        nextArn := rsnMax r.nextArn (r.resumeArn s.bob.snap.arn), noBase := false }
    | none => s

/-- The stores after a reset (R407, R409): what the flash holds stays. -/
def State.bobAfter (s : State) : Bob :=
  let b := s.bob
  { ({} : Bob) with spareLeft := b.spareLeft, spareInit := b.spareInit, erases := b.erases,
                    superblock := b.superblock, sbMark := b.sbMark, partSize := b.partSize, sectors := b.sectors
                    wseq := b.wseq, flushed := b.flushed, dict := b.dict
                    snap := { b.snap with objs := restoreCells s.dict.restore b.snap.objs } }

/-- The keep area after a reset (R432, R438): lost at a power-on reset and rebuilt from SNAPSHOT. -/
def State.keepAfter (s : State) (kind : ResetKind) : Keep :=
  if kind == .powerOn then
    let p := s.bob.snap
    { valid := p.valid, rsn := p.rsn, opt := p.opt, pcc := p.pcc, media := p.media, bypass := p.bypass, sby := p.sby,
      degraded := p.degraded, prefSlot := p.prefSlot, degFailed := p.degFailed, degMin := p.degMin,
      trialCount := s.sys.keep.trialCount, scvConfirmed := p.scvConfirmed, applied := p.applied, clean := s.sys.keep.clean }
  else { s.sys.keep with valid := true }

/-- A comparator after a reset: the voltage at its ball is no register (R190). -/
def Wc.inputOnly (c : Wc) : Wc := { uv := c.uv }

/-- The island after a reset (R348, R369, R372, R376, R378, R432): the SPB latch set with cause 12, and through a warm reset with cause 10 while
REFCLK has not been back for 1 ms; the SBY latch, the degraded mode and the
confirmed value kept. A latch set by a debug unlock can be released only after a power-on reset (R440). -/
def State.selAfter (s : State) (kind : ResetKind) : Selvedge :=
  let l := s.sel
  let por := kind == .powerOn
  let p := s.bob.snap
  { ({} : Selvedge) with
    sby := if por then p.sby else l.sby
    failedB := if por then p.degraded && bitOf p.degFailed 0 else l.failedB
    failedC := if por then p.degraded && bitOf p.degFailed 1 else l.failedC
    degraded := if por then p.degraded else l.degraded
    degMin := if por then p.degMin else l.degMin
    degStage := if por then p.degStage else l.degStage
    causes := if kind == .warm && bitOf l.causes 10 then 0x1400 else 0x1000
    clkIosc := kind == .warm && l.clkIosc
    degAt := if kind == .warm then l.degAt else 0
    wc := l.wc.map Wc.inputOnly
    scvConfirmed := if por then p.scvConfirmed else l.scvConfirmed
    scvTime := l.scvTime
    sealEn := s.pins.sealEn
    sealSel := s.pins.sealSel
    jtagHold := !por && l.jtagHold }

/-- The journal after a reset (R321, R329, R432): retention memory holds it through a warm reset; after another reset the flash
holds it, and what stood in the RAM buffer is there only with a clean flush. -/
def State.jrnAfter (s : State) (kind : ResetKind) : Journal :=
  let j := s.jrn
  let clean := kind == .warm || s.sys.keep.clean
  { ({} : Journal) with
    epoch := j.epoch
    lanes := j.lanes.map fun l => { l with
      entries := if clean then l.entries else l.entries.filter fun e => !e.ram
      applied := if kind == .powerOn && l.code == s.ownLane then min l.applied s.bob.snap.applied else l.applied
      gapped := [] }
    unclean := !clean
    lastJsn := j.lastJsn
    journalBytes := j.journalBytes
    targets := j.targets
    armEpochs := j.armEpochs }

/-- The system unit after a reset (R424, R431, R432, R439, R442). Every reset before a commitment adds 1 to the trial count. -/
def State.sysAfter (s : State) (kind : ResetKind) (cause : Nat) : Sys :=
  let y := s.sys
  let warm := kind == .warm
  let k := s.keepAfter kind
  { ({} : Sys) with
    resetCause := cause
    keep := { k with trialCount := if y.trial then min (y.keep.trialCount + 1) 7 else y.keep.trialCount }
    vin := y.vin, vdda := y.vdda, tj := y.tj, vcoreNow := if warm then y.vcoreNow else 0
    pfailLow := if warm then y.pfailLow else false
    slot := k.prefSlot
    slots := y.slots
    minSvn := y.minSvn
    jtagLocked := y.jtagLocked
    jtagUnlocked := warm && y.jtagUnlocked
    certFacts := y.certFacts
    vddioB := y.vddioB
    pfails := if warm then y.pfails else 0
    warmResets := if warm then satAdd 32 y.warmResets 1 else 0
    peerRejects := if warm then y.peerRejects else 0 }

/-- A capture input after a reset: the level of its ball is no register (R270). -/
def Tsi.levelOnly (i : Tsi) : Tsi := { level := i.level }

/-- A port after a reset: the levels of FL_LOSp and FL_MODABSp are what the transceiver drives (R199, R238). -/
def Port.levelsOnly (p : Port) : Port := { los := p.los, modAbs := p.modAbs }

/-- A fault input after a reset: the level of its ball stays (R160, R167). -/
def FltInput.rawOnly (f : FltInput) : FltInput := { raw := f.raw }

/-- The time base after a reset (R244, R252): a warm reset keeps TRAW, OFFSET and RATE, and the time state passes to HOLDOVER. -/
def State.tbAfter (s : State) (kind : ResetKind) : TimeBase :=
  let t := s.tb
  if kind == .warm then
    { ({} : TimeBase) with taps := t.taps, offset := t.offset, rate := t.rate, refOk := t.refOk, refBackTap := t.refBackTap,
                           state := if t.state == .free then .free else .holdover, tsi := t.tsi.map Tsi.levelOnly
                           ptp := { annA := t.taps, annB := t.taps, sentTap := t.taps }, lastSyncTap := t.taps, stepNt := t.stepNt }
  else { ({} : TimeBase) with refOk := t.refOk, tsi := t.tsi.map Tsi.levelOnly }

/-- The bypass mark that a reset finds (R12, R30). -/
def State.markAfter (s : State) (kind : ResetKind) : Bool := if kind == .powerOn then s.bob.snap.bypass else s.node.bypassMark

/-- The Gate unit after a reset (R140, R141, R432): the bridge off; outputs that are driven stay driven through a warm reset, and the
island keeps its pulse train; after any other reset they are high-impedance until GO_POL is loaded in BOOT. -/
def State.gateAfter (s : State) (kind : ResetKind) : Gate :=
  if kind == .warm then
    { ({} : Gate) with
      hiz := s.gate.hiz, goPol := if s.gate.hiz then 0 else s.obj Obj.GO_POL, sw := (s.gate.force s.tb.taps).sw
      bypPulse := s.gate.bypPulse, bypAt := s.gate.bypAt, goSeen := s.gate.goSeen }
  else { ({} : Gate) with bypPulse := s.markAfter kind }

/-- After every reset both channels start with the demand level taken for both inputs (R352): low, and SAFE_IN1 high in mode 2. -/
def State.sinStart (s : State) : State :=
  let d := s.obj Obj.SIN_MODE == 2
  s.upSel fun l => { l with sinB := #v[false, d], sinC := #v[false, d], coreSamp := #v[(false, 0), (d, 0)] }

/-- Internal reset is released with a cause (R1, R30, R431, R432): everything takes its reset value but what each rule keeps. The reference buffer and
the offsets of the converters are timed from here on: DESIGN CHOICE(203). -/
def State.resetTo (s : State) (cause : Nat) : State :=
  let kind := resetKind cause
  let role := s.sampledRole
  let mark := s.markAfter kind && role == .cell
  let cells := restoreCells s.dict.restore (if kind == .warm then s.dict.objs else s.bob.snap.objs)
  State.sinStart <| State.takeEffect
    { pins := s.pins
      node := { role := role, nodeState := if mark then .bypass else .boot, bypassMark := mark, faults := s.node.faults,
                tripRefusals := s.node.tripRefusals }
      dict := { objs := cells }
      hdl := { bank := s.hdl.bank, banks := s.hdl.banks, scrubAt := (s.tbAfter kind).taps, loadAt := (s.tbAfter kind).taps }
      trdl := { bank := s.trdl.bank, banks := s.trdl.banks, std := s.trdl.std, staged := s.trdl.staged }
      gate := { s.gateAfter kind with flt := s.gate.flt.map FltInput.rawOnly }
      adc := { refSince := (s.tbAfter kind).taps, cores := Vector.replicate 2 { ofsAt := Vector.replicate 5 (s.tbAfter kind).taps } }
      link := { ports := s.link.ports.map Port.levelsOnly }
      tb := s.tbAfter kind
      jrn := s.jrnAfter kind
      sel := s.selAfter kind
      recd := s.recAfter kind
      bob := s.bobAfter
      sys := s.sysAfter kind cause
      free := s.free + 1
      pending := s.pending }

/-- A reset comes into effect; after a watchdog reset the device raises F2 SYS_WDOG in BOOT (R434). -/
def State.resetNow (s : State) (cause : Nat) : State :=
  if cause == 4 then (s.resetTo cause).raise .sysWdog else s.resetTo cause

/-- A warm reset (R433): it waits for the end of a power-fail flush. -/
def State.warmReset (s : State) (cause : Nat) : State :=
  if s.sys.flushing then s.upSys fun y => { y with pendingReset := some cause } else s.resetNow cause

/-- Every supply but the keep area is gone (R7, R426, R436): nothing is driven, and what is held stands in flash and the keep area. -/
def State.toOff (s : State) : State :=
  (s.upNode fun n => { n with nodeState := .off }).upGate fun g => { g.force s.tb.taps with hiz := true }

/-- What the keep area holds now (R389, R399, R438). -/
def State.keepNow (s : State) : Keep :=
  { s.sys.keep with
    valid := true, rsn := s.recd.nextRsn, opt := s.optNow, pcc := s.recd.pcc, media := s.recd.media, bypass := s.node.bypassMark,
    sby := s.sel.sby, degraded := s.sel.degraded, degFailed := b2n s.sel.failedB + 2 * b2n s.sel.failedC,
    degMin := s.sel.degMin, scvConfirmed := s.sel.scvConfirmed,
    applied := ((s.jrn.lanes.find? (·.code == s.ownLane)).map (·.applied)).getD 0 }

/-- The keep area is saved (R436, R438), with the clean-flush mark or without. -/
def State.saveKeep (s : State) (clean : Bool) : State := s.upSys fun y => { y with keep := { s.keepNow with clean := clean } }

/-- SNAPSHOT written from what the device holds now (R321, R389, R410). -/
def State.saveSnap (s : State) : State :=
  s.upBob fun b => { b with snap := {
    valid := true, objs := s.dict.objs.filter (fun c => isPers c.key),
    applied := ((s.jrn.lanes.find? (·.code == s.ownLane)).map (·.applied)).getD 0,
    bypass := s.node.bypassMark, sby := s.sel.sby, rsn := s.recd.nextRsn, opt := s.optNow, pcc := s.recd.pcc,
    degraded := s.sel.degraded, degFailed := b2n s.sel.failedB + 2 * b2n s.sel.failedC, degMin := s.sel.degMin, degStage := s.sel.degStage,
    scvConfirmed := s.sel.scvConfirmed, media := s.recd.media, prefSlot := s.sys.keep.prefSlot, arn := s.recd.nextArn } }

/-- IMAGE_ACTIVATE reads 0 again (R424). -/
def State.clearActivate (s : State) : State :=
  (s.setObj Obj.IMAGE_ACTIVATE 0 (s.objJsn Obj.IMAGE_ACTIVATE)).upDict fun d => { d with
    inEffect := d.inEffect.filter fun c => c.1 != Obj.IMAGE_ACTIVATE }

/-- A trial firmware slot is committed (R424): it is preferred from now on, IMAGE_ACTIVATE reads 0, and MIN_SVN rises to its SVN. -/
def State.commitTrial (s : State) : State :=
  if !s.sys.trial then s
  else
    let svn := match vget s.sys.slots s.sys.slot none with | some f => f.svn | none => 0
    (s.clearActivate.upSys fun y => { y with
      trial := false, minSvn := max y.minSvn svn, keep := { y.keep with prefSlot := s.sys.slot, trialCount := 0 } }).upBob fun b =>
        { b with snap := { b.snap with prefSlot := s.sys.slot } }

/-- A Den slot's record is not in EVENTS yet, and no clear has taken it (R401, R404): an own record by its RSN, a relayed copy by its arrival
number. -/
def Rec.unstored (r : Rec) (d : DenSlot) : Bool :=
  if d.relayed then r.firstArn ≤ d.arn && !r.events.any (fun e => e.arn == some d.arn)
  else ((d.record.rsn + 2 ^ 32 - r.firstRsn) % 2 ^ 32 < 2 ^ 31 || d.state == .pinned)
    && !r.events.any (fun e => e.arn.isNone && e.record.rsn == d.record.rsn)

/-- What EVENTS holds of a slot (R401). -/
def DenSlot.entry (d : DenSlot) : EvEntry := { record := d.record, arn := if d.relayed then some d.arn else none }

/-- Store every closed Den slot in EVENTS, the oldest first (R401, R410); a flush takes the pinned record as well. -/
def Rec.storeDen (pinned : Bool) (r : Rec) : Rec :=
  { r with
    events := r.events ++ (r.byAge.filter fun d => (d.state == .closed || (pinned && d.state == .pinned)) && r.unstored d).map (·.entry)
    den := r.den.map fun d => if d.state == .closed then { d with state := .stored } else d }

/-- The bytes of a flush (R410): the journal RAM buffer, the Den records not yet stored, RSN, OPT, PCC and APPLIED_JSN by the layout of R438. -/
def State.flushBytes (s : State) : Nat :=
  s.jrn.ramBytes + 48 * (s.recd.den.filter fun d => d.state != .stored).length + 20

/-- The work of a flush (R410, R429): the journal RAM buffer, the Den records not yet stored, RSN, OPT, PCC and APPLIED_JSN. With two devices it
is split between their flush areas. -/
def State.flushStore (s : State) : State :=
  let n := s.flushBytes
  let half := if vget s.pins.flashType 1 0 != 0 then n / 2 else 0
  let s1 := ((s.upRecd fun r => (r.close true).storeDen true).upJrn fun j => { j with
    ramBytes := 0, lanes := j.lanes.map fun l => { l with entries := l.entries.map fun e => { e with ram := false } } })
  ((s1.upBob fun b => { b with flushed := #v[n - half, half] }).saveSnap).saveKeep true

end Sys2Proof.Machine
end

