-- ==== Sys2Proof/Machine/Weft.lean ====
section
/-!
DEFINITION. Sys2Proof/Machine/Weft.lean: distributed cell selection: classes and bins, the Warp aggregates and their merge, the
boundary, the Shuttle and its split, the HOLD ladder, adoption and stall (R78 to R108).
-/
namespace Sys2Proof.Machine

/-! ### Instants of a cycle (R78, R86, R94, R99, R100) -/

/-- How much later than on the grid the instants of a cycle lie: those of a cycle sampled before a step keep their real instant (R265). -/
def State.cycleLag (s : State) (k : Nat) : Nat :=
  match s.weft.lag.find? (·.1 == k) with
  | some e => e.2
  | none => 0

/-- t₀(k) in ns (R78). -/
def State.t0 (s : State) (k : Nat) : Nat := k * s.weft.tw + s.cycleLag k

/-- T_exec(k) in ns (R78). -/
def State.texec (s : State) (k : Nat) : Nat := s.t0 k + s.weft.lead

/-- The level at which this node merges: 0 for a master (R86). -/
def State.weftLevel (s : State) : Nat := if s.isArm then 0 else s.node.place.level

/-- TD(L) in ns: t₀(k) + T_S + (D − L) · t_up (R86, R99). -/
def State.tallyAt (s : State) (k : Nat) : Nat := s.t0 k + 770 + (s.weft.depth - s.weftLevel) * (330 + s.weft.fibreExtra)

/-- The lead used when LEAD is 0, by depth (R100). -/
def leadDefault (d : Nat) : Nat := if d ≤ 9 then 7000 else if d ≤ 11 then 8000 else 8500

/-- L_min(D) in ns: 2.22 µs + (0.49 µs + 2 · FIBRE_EXTRA) · D (R100). -/
def leadMin (d fibreExtra : Nat) : Nat := 2220 + (490 + 2 * fibreExtra) * d

/-- The population of depth D and last-level count n, 0 where R23 refuses the pair. -/
def populationOf (d n : Nat) : Nat :=
  if d == 0 || 12 < d || n == 0 || 2 ^ (d + 1) < n || (d == 1 && n < 4) then 0 else 2 ^ (d + 1) - 4 + n

/-- The lead in use of an ARM master (R78, R100). -/
def State.armLead (s : State) : Nat :=
  let l := s.objEff Obj.LEAD
  if l == 0 then leadDefault (s.objEff Obj.ARM_DEPTH) else l

/-- The configuration of the Weft that R100 refuses. -/
def State.weftConfigBad (s : State) : Bool :=
  let d := s.objEff Obj.ARM_DEPTH
  let tw := s.objEff Obj.WEFT_PERIOD
  populationOf d (s.objEff Obj.LAST_LEVEL_COUNT) == 0 || s.armLead < leadMin d (s.objEff Obj.FIBRE_EXTRA) || 2 * tw < s.armLead || tw < 5000

/-- The values in effect that an ARM master hands to every cell of its arm (R23, R78, R153). -/
def State.handoverOf (s : State) : Handover :=
  { tw := s.objEff Obj.WEFT_PERIOD, lead := s.armLead, fibreExtra := s.objEff Obj.FIBRE_EXTRA, depth := s.objEff Obj.ARM_DEPTH
    population := populationOf (s.objEff Obj.ARM_DEPTH) (s.objEff Obj.LAST_LEVEL_COUNT), carrier := s.obj Obj.GATE_MODE == 1 }

/-- An ARM master takes its own Weft values into use at JOIN, and hands the same to its arm (R78, R100). DESIGN CHOICE(125): a
configuration that R100 refuses is handed to nobody. -/
def State.armWeft (s : State) : State :=
  s.upWeft fun w => { w with
    handOut := if s.weftConfigBad then none else some s.handoverOf
    handed := true, tw := s.objEff Obj.WEFT_PERIOD, lead := s.armLead, fibreExtra := s.objEff Obj.FIBRE_EXTRA,
    depth := s.objEff Obj.ARM_DEPTH, population := populationOf (s.objEff Obj.ARM_DEPTH) (s.objEff Obj.LAST_LEVEL_COUNT),
    armCarrier := s.obj Obj.GATE_MODE == 1 }

/-- The full cycle number of a 16-bit CYCLE near the present cycle. -/
def State.cycleOf (s : State) (c : Nat) : Nat :=
  let k := s.weft.k
  let d := (k % 65536 + 65536 - c % 65536) % 65536
  if d < 32768 then k - d else k + (65536 - d)

/-! ### Classes and bins (R80 to R82) -/

/-- The class of a cell at t₀(k) (R80). -/
def classAt (n : NodeState) (window : Bool) : CellClass :=
  match n with
  | .service => if window then .eligible else .held
  | .hold => .held
  | .ready | .block | .bypass => .out
  | .boot | .join | .off => .notContributor

/-- The window that holds for a cycle (R81). -/
def State.window (s : State) (k : Nat) : Option WinVal := (s.weft.wins.find? (·.k == k)).map (·.win)

/-- The insertion that the decision held for a cycle gives the cell (R82, R95): a decision that came too late for the own edges, or none,
leaves it as it is, and so does one at a cell outside SERVICE and HOLD, whose outputs follow no decision. -/
def State.heldInsertion (s : State) (k : Nat) : Insertion :=
  match s.weft.decisions.find? (·.k == k) with
  | some d => if d.late || !(s.node.nodeState == .service || s.node.nodeState == .hold) then s.gate.ins else (match d.action with
    | .insert true => .neg
    | .insert false => .pos
    | .goZero => .zero
    | .keep => s.gate.ins)
  | none => s.gate.ins

/-- The insertion of the cell at T_exec of a cycle (R82). DESIGN CHOICE(138): before T_exec(k) it is what the decision held for k gives, and
without one the present insertion. -/
def State.insertionAt (s : State) (k : Nat) : Insertion :=
  match s.weft.insHist.find? (·.1 == k) with
  | some e => e.2
  | none => s.heldInsertion k

/-- What a cell holds of a cycle: the present one, or one of those before (R80). -/
def State.ownAt (s : State) (k : Nat) : Option OwnCycle :=
  let w := s.weft
  if k == w.k then some ⟨k, w.cls, w.insAt0, w.vcode, w.bin, w.codeReady, w.sens, w.sensReady, w.t0At⟩ else w.prev.find? (·.k == k)

/-- The effective code of R82. -/
def effCode (w : WinVal) (insPrev : Insertion) (v : Nat) : Nat :=
  let hinted := if w.polHint then Insertion.neg else Insertion.pos
  if insPrev == hinted then (if w.dirHint then min 65535 (v + w.rb) else v - w.rb) else v

/-- The bin of an effective code (R81). -/
def binOf (w : WinVal) (ve : Nat) : Nat := if ve < w.wb then 0 else min 63 ((ve - w.wb) / 2 ^ w.ws)

/-- The own bin for cycle k of a raw code (R81, R82). -/
def State.ownBin (s : State) (k v : Nat) : Nat :=
  match s.window k with
  | some w => binOf w (effCode w (s.insertionAt (k - 1)) v)
  | none => 0

/-! ### Bytes of the frames (R84, R91) -/

/-- One sensor slot (R84). -/
def slotBytes (x : SensSlot) : List Byte := leBytes 2 (ofSigned 16 x.i) ++ leBytes 1 (b2n x.valid + 2 * b2n x.overRange) ++ leBytes 1 0

/-- The 148 bytes of a Warp aggregate (R84). -/
def warpBytes (w : Warp) : List Byte :=
  leBytes 1 1 ++ leBytes 1 (b2n w.priB + 2 * b2n w.fo + 4 * b2n w.late + 8 * b2n w.resent) ++ leBytes 2 w.cycle ++ leBytes 2 w.nbin
    ++ leBytes 2 w.nhpos ++ leBytes 2 w.nhneg ++ leBytes 2 w.nhoff ++ leBytes 2 w.nout ++ leBytes 2 w.abs ++ leBytes 2 w.short
    ++ leBytes 2 w.miss ++ leBytes 4 w.vsum ++ leBytes 2 w.vmin ++ leBytes 2 w.vmax ++ slotBytes w.sens0 ++ slotBytes w.sens1
    ++ leBytes 112 ((List.range 64).foldl (fun n j => n + vget w.hist j 0 % 2 ^ 14 * 2 ^ (14 * j)) 0)

/-- The WIN byte of a window (R91). -/
def winByte (w : WinVal) : Nat := w.ws % 16 + 16 * b2n w.dirHint + 32 * b2n w.polHint + 64 * b2n w.wvalid

/-- The FLAGS of a Shuttle (R91). -/
def shuttleFlags (x : Shuttle) : Nat :=
  b2n x.dirHigh + 2 * b2n x.polNeg + 4 * b2n x.keep + 8 * b2n x.repeatFlag + 16 * b2n x.cmiss + 32 * b2n x.bridge + 64 * b2n x.copy2

/-- The window a Shuttle carries (R91). -/
def Shuttle_win (x : Shuttle) : WinVal := ⟨x.wb, x.ws, x.dirHint, x.polHint, x.wvalid, x.rb⟩

/-- The 24 bytes of a Shuttle (R91). -/
def shuttleBytes (x : Shuttle) : List Byte :=
  leBytes 1 2 ++ leBytes 1 (shuttleFlags x) ++ leBytes 2 x.cycle ++ leBytes 1 x.bbin ++ leBytes 1 0 ++ leBytes 2 x.alloc
    ++ leBytes 4 x.texecS ++ leBytes 4 x.texecNs ++ leBytes 2 x.wb ++ leBytes 1 (winByte (Shuttle_win x)) ++ leBytes 1 0
    ++ leBytes 2 x.rb ++ leBytes 2 0

/-! ### Merging on the way up (R85 to R87, R98) -/

/-- The contributor count of an aggregate (R84). -/
def Warp_count (w : Warp) : Nat := w.nbin + w.nhpos + w.nhneg + w.nhoff + w.nout

/-- Merge one slot (R98): a valid value that stands stays, and a second valid one is a conflict. -/
def mergeSlot (a b : SensSlot) : SensSlot × Nat := if b.valid then (if a.valid then (a, 1) else (b, 0)) else (a, 0)

/-- Merge a child's aggregate (R86), with the number of sensor conflicts. Additions saturate at the field maximum. -/
def mergeWarp (a c : Warp) : Warp × Nat :=
  let m0 := mergeSlot a.sens0 c.sens0
  let m1 := mergeSlot a.sens1 c.sens1
  ({ a with
    hist := Vector.ofFn fun j => satAdd 14 (vget a.hist j 0) (vget c.hist j 0)
    nbin := satAdd 16 a.nbin c.nbin, nhpos := satAdd 16 a.nhpos c.nhpos, nhneg := satAdd 16 a.nhneg c.nhneg
    nhoff := satAdd 16 a.nhoff c.nhoff, nout := satAdd 16 a.nout c.nout, abs := satAdd 16 a.abs c.abs
    short := satAdd 16 a.short c.short, miss := satAdd 16 a.miss c.miss, vsum := satAdd 32 a.vsum c.vsum
    vmin := min a.vmin c.vmin, vmax := max a.vmax c.vmax, fo := a.fo || c.fo, late := a.late || c.late
    sens0 := m0.1, sens1 := m1.1 }, m0.2 + m1.2)

/-- rec[k] of a node (R87). -/
def State.recOf (s : State) (k : Nat) : Option WeftRec := s.weft.recs.find? (·.k == k)

/-- The own SHORT and MISS units of the aggregate of cycle k (R84): those that it carried already where it is merged anew (R103). -/
def State.ownUnits (s : State) (k : Nat) : Nat × Nat :=
  match s.recOf k with
  | some r => (r.short, r.miss)
  | none => (s.weft.short, s.weft.miss)

/-- The aggregate of cycle k that is out carries FO. -/
def State.sentFo (s : State) (k : Nat) : Bool := (((s.recOf k).bind (·.sent)).map (·.fo)).getD false

/-- The sensor conflicts that the merge of cycle k has counted already (R98). -/
def State.sentConf (s : State) (k : Nat) : Nat := ((s.recOf k).map (·.conf)).getD 0

/-- The SHORT and MISS units of a merge that the master has not counted yet (R104, R105). -/
def State.gained (s : State) (k : Nat) (a : Warp) : Warp :=
  match (s.recOf k).bind (·.sent) with
  | some o => { a with short := a.short - o.short, miss := a.miss - o.miss }
  | none => a

/-- The own contribution of a cell to cycle k (R80, R84, R98); a master has none. -/
def State.ownWarp (s : State) (k : Nat) : Warp :=
  let u := s.ownUnits k
  let base : Warp := { cycle := k % 65536, short := u.1, miss := u.2, fo := s.weft.foFor.contains k || s.sentFo k }
  match s.isCell, s.ownAt k with
  | true, some w =>
    let slot := s.obj Obj.SENSOR_SLOT
    let sens : SensSlot := if w.sensReady then w.sens else {}
    let b := { base with sens0 := if slot == 1 then sens else {}, sens1 := if slot == 2 then sens else {} }
    match w.cls with
    | .eligible => { b with nbin := 1, vsum := w.vcode, vmin := w.vcode, vmax := w.vcode, hist := vset b.hist w.bin 1 }
    | .held => (match w.insAt0 with
      | .pos => { b with nhpos := 1 }
      | .neg => { b with nhneg := 1 }
      | .zero | .safeOpen => { b with nhoff := 1 })
    | .out => { b with nout := 1 }
    | .notContributor => b
  | _, _ => base

/-- The aggregate a port delivered for cycle k that this node merges: one that names it primary, or any at a standby master (R86,
R87). -/
def State.portWarp (s : State) (k port : Nat) : Option WarpIn :=
  let shadow := s.isArm && !s.isActive
  s.weft.ins.find? fun x => x.k == k && x.port == port && (x.primary || shadow)

/-- A down port counts as a child (R35): it is dark, or the node on it has completed JOIN. -/
def State.childCounts (s : State) (p : Nat) : Bool := !s.lit p || ((s.port p).peer.avalid && decide (3 ≤ (s.port p).peer.nstate))

/-- The ports from which this node expects an aggregate (R35, R85, R87): those whose latest aggregate named it primary; at a standby
master every lit level-1 port. DEDUCED(126): a port that has lit again is no child, and no absence, before its node has completed JOIN. DESIGN CHOICE(189): at a standby
master a port that goes dark within the cycle is expected no more, and its aggregate is not merged. -/
def State.expectedPorts (s : State) : List Nat :=
  [2, 3, 4, 5].filter fun p => if s.isArm && !s.isActive then s.lit p else vget s.weft.childNamed (p - 2) false && s.childCounts p

/-- The own values of a cell for cycle k are there (R79, R98): the code, and at a sensor cell the current measurement, for which it waits
until t₀(k) + T_S. -/
def State.ownReady (s : State) (k : Nat) : Bool :=
  match s.ownAt k with
  | some o => o.codeReady && (s.obj Obj.SENSOR_SLOT == 0 || o.sensReady || decide (s.t0 k + 770 ≤ s.tb.ntNs))
  | none => false

/-- Everything expected for cycle k has been delivered by the ports that are lit, and the own values are ready (R35, R79, R86). -/
def State.allDelivered (s : State) (k : Nat) : Bool :=
  (s.expectedPorts.all fun p => (s.portWarp k p).isSome || !s.lit p) && (s.isArm || s.ownReady k)

/-- What a merge collects: the aggregate, the counts of each port, and the sensor conflicts. -/
abbrev MergeAcc := Warp × Vector (Option (Vector Nat 64)) 4 × Nat

/-- Take one expected port into the merge (R86). -/
def State.mergePort (s : State) (k : Nat) (acc : MergeAcc) (p : Nat) : MergeAcc :=
  match s.portWarp k p with
  | some x =>
    let m := mergeWarp acc.1 x.warp
    (m.1, vset acc.2.1 (p - 2) (some x.warp.hist), acc.2.2 + m.2)
  | none =>
    if !s.lit p then
      let fresh := match vget s.weft.darkSince (p - 2) none with
        | some t => decide (s.t0 k ≤ t)
        | none => false
      ({ acc.1 with abs := satAdd 16 acc.1.abs 1, fo := acc.1.fo || fresh }, acc.2)
    else ({ acc.1 with late := true }, acc.2)

/-- Insert a rec, of which a node keeps the latest four (R87). -/
def putRec (r : WeftRec) (l : List WeftRec) : List WeftRec := (r :: l.filter (·.k != r.k)).take 4

/-- Send an aggregate to a parent (R85): PRI_B names the primary. -/
def State.sendWarp (s : State) (p : Nat) (w : Warp) : State := s.sendLocal p .weft (warpBytes w)

/-- F1 SENSOR_CONFLICT once per run, and its count (R98). -/
def State.noteConflicts (s : State) (n : Nat) : State :=
  if n == 0 then s.endRun .sensorConflict 0
  else (s.upWeft fun w => { w with sensConflicts := satAdd 32 w.sensConflicts n }).raiseRun .sensorConflict

/-- What a merge of cycle k leaves of the units not yet reported (R84): none, or those gained since it was merged first. -/
def State.unitsLeft (s : State) (k : Nat) (w : Weft) : Weft := if (s.recOf k).isSome then w else { w with short := 0, miss := 0 }

/-- A cell merges and sends cycle k (R86). -/
def State.cellMerge (s : State) (k : Nat) : State :=
  let (agg, cnt, conf) := s.expectedPorts.foldl (s.mergePort k) (s.ownWarp k, Vector.replicate 4 none, 0)
  let a := { agg with priB := s.node.primary == .b, cycle := k % 65536 }
  let own := (s.ownAt k).getD ⟨k, .notContributor, s.gate.ins, 0, 0, false, {}, false, 0⟩
  let r : WeftRec := { k := k, cnt := cnt, cls := own.cls, bin := own.bin, sentTo := s.node.primary, sent := some a
                       short := (s.ownUnits k).1, miss := (s.ownUnits k).2, conf := conf }
  let s1 := s.upWeft fun w => { s.unitsLeft k w with
    recs := putRec r w.recs, foFor := w.foFor.filter (· != k)
    stat := if a.fo then setBit32 w.stat 22 else w.stat }
  ((s1.noteConflicts (conf - s.sentConf k)).sendWarp 0 a).sendWarp 1 a

/-- The units an active master counts from its merge (R104, R105): SHORTS, MISSES and F1 WEFT_SHORT, not for a straddling cycle
(R266). -/
def State.countShorts (s : State) (a : Warp) (straddle : Bool) : State :=
  let s1 := s.upWeft fun w => { w with
    shorts := satAdd 32 w.shorts a.short, misses := satAdd 32 w.misses a.miss, stat := if a.fo then setBit32 w.stat 22 else w.stat }
  let s2 := (s1.event 0x45 a.short).event 0x46 a.miss
  if a.short + a.miss == 0 then s2.endRun .weftShort 0
  else if straddle then s2
  else s2.raiseRun .weftShort

/-- Cycle k straddles a step of network time (R266). -/
def State.straddles (s : State) (k : Nat) : Bool :=
  s.arm.straddleK.contains k || (s.tb.sstep.armed && decide (s.t0 k < s.tb.sstep.ts ∧ s.tb.sstep.ts < s.texec k))

/-- The aggregate of cycle k can report units of a straddling cycle (R96, R266): k straddles, or one of the two before, whose T_exec lies
before the aggregate. -/
def State.straddlesNear (s : State) (k : Nat) : Bool := s.straddles k || s.straddles (k - 1) || s.straddles (k - 2)

/-- The faults of the sensor slots at the active master (R106). -/
def State.sensorFaults (s : State) (a : Warp) : State :=
  let lost := !a.sens0.valid && !a.sens1.valid
  let dis := a.sens0.valid && a.sens1.valid && decide ((s.obj Obj.SENS_DIFF : Int) < (a.sens0.i - a.sens1.i).natAbs)
  let s1 := if lost then s.raiseRun .sensorLost else s.endRun .sensorLost 0
  if dis then s1.raiseRun .sensorDisagree else s1.endRun .sensorDisagree 0

/-- A master merges cycle k (R86, R87); only the active member raises and counts. -/
def State.armMerge (s : State) (k : Nat) : State :=
  let (a, cnt, conf) := s.expectedPorts.foldl (s.mergePort k) (s.ownWarp k, Vector.replicate 4 none, 0)
  let r : WeftRec := { k := k, cnt := cnt, sent := some a, short := (s.ownUnits k).1, miss := (s.ownUnits k).2, conf := conf }
  let s1 := (s.upWeft fun w => { s.unitsLeft k w with recs := putRec r w.recs, foFor := w.foFor.filter (· != k) }).upArm
    fun x => { x with merged := some a, mergedK := k }
  if s.isActive then ((s1.noteConflicts (conf - s.sentConf k)).countShorts (s.gained k a) (s.straddlesNear k)).sensorFaults a else s1

/-- The cycle has begun, and is one of the four that the node still holds (R80, R87). -/
def State.holdsCycle (s : State) (k : Nat) : Bool := s.weft.begun && k ≤ s.weft.k && s.weft.k < k + 4

/-- The merge of cycle k (R86). -/
def State.mergeNow (s : State) (k : Nat) : State :=
  if s.isCell then s.cellMerge k
  else if s.isArm then s.armMerge k
  else s

/-- The Tally of cycle k, once (R86). -/
def State.tally (s : State) (k : Nat) : State :=
  if (s.recOf k).isSome || s.weft.tw == 0 || !s.holdsCycle k then s else s.mergeNow k

/-- A cycle that was merged before TD(L) can still be merged anew (R103): at a cell, and at a master before its FAST of the cycle has ended. -/
def State.reopens (s : State) (k : Nat) : Bool :=
  (s.recOf k).isSome && s.holdsCycle k && (s.isCell || s.trdl.fastBusy == some k || laterThan k s.trdl.fastK)

/-- Merge at once where everything is there (R86). -/
def State.tryTally (s : State) (k : Nat) : State := if s.allDelivered k then s.tally k else s

/-- An aggregate of port `p` for cycle k that comes too late (R86, R106): discarded, counted, F1 WEFT_LATE at the first cycle of a run of the
port. -/
def State.lateWarp (s : State) (p k : Nat) : State :=
  let goes := match vget s.weft.lateK (p - 2) none with
    | some j => decide (j ≤ k ∧ k ≤ j + 1)
    | none => false
  let s1 := if goes then s else s.endRun .weftLate p
  ((s1.upWeft fun w => { w with
    lates := satAdd 32 w.lates 1, stat := setBit32 w.stat 18, lateK := vset w.lateK (p - 2) (some k) }).event 0x43).raiseRun .weftLate p

/-- A Warp aggregate arrives from a child port (R85, R86, R103): one that arrives at or after TD(L) is discarded as late, whichever parent it
names. DEDUCED(141): one for a cycle that has not begun bears a CYCLE of an older scale, and is discarded as late (R266). DEDUCED(136): one
that names this node and comes before TD(L), but after everything expected was there and has been merged, is merged in, and the aggregate
sent again. DESIGN CHOICE(139): a RESENT one that R103 discards counts in no counter. -/
def State.warpRx (s : State) (p : Nat) (w : Warp) : State :=
  if !(s.isCell || s.isArm) || !(2 ≤ p && p ≤ 5) || !s.lit p || s.weft.tw == 0 then s
  else
    let k := s.cycleOf w.cycle
    let mine := w.priB == (if s.isArm then s.memberB else decide (4 ≤ p))
    let shadow := s.isArm && !s.isActive
    let s1 := s.upWeft fun x => { x with childNamed := vset x.childNamed (p - 2) mine }
    let late := decide (s.tb.ntNs < s.t0 k) || k + 4 ≤ s.weft.k || decide (s.tallyAt k ≤ s.tb.ntNs)
    if w.resent && (s.recOf k).isSome then s1
    else if late then (if shadow then s1 else s1.lateWarp p k)
    else
      let s2 := s1.upWeft fun x => { x with
        ins := ⟨k, p, mine, w⟩ :: x.ins.filter fun e => (e.k != k || e.port != p) && s.weft.k < e.k + 4 }
      if (mine || shadow) && s.reopens k then s2.mergeNow k else s2.tryTally k

/-- WARP_RECEIVE (R85). -/
def execWarpReceive (port : Nat) (w : Warp) (s : State) : Result := .next (s.onLane (s.warpRx port w))

/-! ### The active master's decision (R83, R88 to R91, R101, R102) -/

/-- The arm current i(k) of an aggregate: the mean of its valid slots, rounded toward zero; none where no slot is valid (R89). -/
def armCurrent (a : Warp) : Option Int :=
  match a.sens0.valid, a.sens1.valid with
  | true, true => some ((a.sens0.i + a.sens1.i).tdiv 2)
  | true, false => some a.sens0.i
  | false, true => some a.sens1.i
  | false, false => none

/-- The boundary search over bins in the order given (R90). -/
def boundary (hist : Vector Nat 64) (m : Nat) : List Nat → Nat → Nat × Nat
  | [], _ => (64, 0)
  | j :: js, cum => let h := vget hist j 0
    if m ≤ cum + h then (j, m - cum) else boundary hist m js (cum + h)

/-- BBIN and ALLOC (R90). -/
def findBoundary (hist : Vector Nat 64) (m : Nat) (high : Bool) : Nat × Nat :=
  if m == 0 then (64, 0) else boundary hist m (if high then (List.range 64).reverse else List.range 64) 0

/-- The window for cycle k + 2 (R83): automatic from the aggregate, carried forward, or fixed. `next` is the window of k + 1. -/
def autoWindow (mode base shift margin rb : Nat) (saw : Bool) (next : WinVal) (a : Warp) : Nat × Nat :=
  if mode == 1 then (base, shift)
  else if a.nbin == 0 then (if saw then (next.wb, next.ws) else (base, shift))
  else
    let span := a.vmax - a.vmin + 2 * rb + margin
    (a.vmin - rb - margin / 2, ((List.range 10).find? fun w => span ≤ 64 * 2 ^ w).getD 9)

/-- What the master decides for cycle k (R88, R89). -/
structure ArmDecision where
  keep : Bool
  cmiss : Bool
  rep : Bool
  c : Nat
  e : Int
  dirHigh : Bool
  polNeg : Bool
  m : Nat
  sat : Bool
  bbin : Nat
  alloc : Nat
  deriving DecidableEq, Repr

/-- The decision for cycle k with N from Treadle (R88 to R90, R266). `overran` when Treadle overran. -/
def State.decideWith (s : State) (a : Warp) (k : Nat) (n : Int) (overran : Bool) : ArmDecision :=
  let c := Warp_count a
  let e : Int := s.weft.population - a.abs - s.arm.adj
  let cm := decide ((c : Int) ≠ e) || a.fo || a.late
  let keep := cm || overran || s.straddles k
  let t : Int := n - a.nhpos + a.nhneg
  let pol := if keep then s.arm.polNeg else decide (t < 0)
  let half := s.objEff Obj.BRIDGE == 0
  let m0 := if half && decide (t < 0) then 0 else t.natAbs
  let sat := !keep && ((half && decide (t < 0)) || a.nbin < m0)
  let m := min m0 a.nbin
  let dir := if keep then s.arm.dirHigh
    else match armCurrent a with
      | none => s.arm.dirHigh
      | some i => if i.natAbs < s.obj Obj.DIR_DEADBAND || i == 0 then s.arm.dirHigh
        else !(decide (0 < i) == !pol)
  let b := if keep then (64, 0) else findBoundary a.hist m dir
  { keep := keep, cmiss := cm, rep := overran, c := c, e := e, dirHigh := dir, polNeg := pol, m := m, sat := sat, bbin := b.1, alloc := b.2 }

/-- The net insertion that the Shuttle of cycle k commands (R118). -/
def ArmDecision.nEff (d : ArmDecision) (a : Warp) (n old : Int) : Int :=
  if d.keep then old
  else if d.sat then (if d.polNeg then (a.nhpos : Int) - a.nhneg - d.m else (d.m : Int) + a.nhpos - a.nhneg)
  else n

/-- The Shuttle of a decision with its window (R91). -/
def State.shuttleOf (s : State) (k : Nat) (d : ArmDecision) (w : WinVal) : Shuttle :=
  let t := s.texec k
  { dirHigh := d.dirHigh, polNeg := d.polNeg, keep := d.keep, repeatFlag := d.rep, cmiss := d.cmiss,
    bridge := s.objEff Obj.BRIDGE == 1, cycle := k % 65536, bbin := d.bbin, alloc := d.alloc,
    texecS := t / 1000000000 % 2 ^ 32, texecNs := t % 1000000000, wb := w.wb, ws := w.ws, dirHint := w.dirHint,
    polHint := w.polHint, wvalid := true, rb := w.rb }

/-- Rotate a list left (R93). -/
def rotateLeft {α : Type} (n : Nat) (l : List α) : List α := if l.isEmpty then l else l.drop (n % l.length) ++ l.take (n % l.length)

/-- The children to which a node splits: counted as primary in rec[k], and lit now, in rotated port order (R93, R104). -/
def State.splitList (s : State) (r : WeftRec) (k : Nat) : List Nat :=
  rotateLeft k ([2, 3, 4, 5].filter fun p => (vget r.cnt (p - 2) none).isSome && s.lit p)

/-- Give each child its share and send the Shuttle twice (R92, R93); what remains is `need`. -/
def State.splitTo (r : WeftRec) (x : Shuttle) (acc : State × Nat) (p : Nat) : State × Nat :=
  let have' := match vget r.cnt (p - 2) none with
    | some h => vget h x.bbin 0
    | none => 0
  let a := if x.keep || x.bbin == 64 then 0 else min acc.2 have'
  let y := { x with alloc := a }
  ((acc.1.sendLocal p .weft (shuttleBytes { y with copy2 := false })).sendLocal p .weft (shuttleBytes { y with copy2 := true }), acc.2 - a)

/-- Split a Shuttle among the children (R93): what no child could take adds to SHORT. -/
def State.split (s : State) (r : WeftRec) (k need : Nat) (x : Shuttle) : State :=
  let res := (s.splitList r k).foldl (State.splitTo r x) (s, need)
  if x.keep || res.2 == 0 then res.1
  else (res.1.upWeft fun w => { w with short := satAdd 16 w.short res.2, stat := setBit32 w.stat 19 }).event 0x45 res.2

/-- What every merged cycle gives the master (R83, R101, R108): the run of the count difference, the window of cycle k + 2, and the
measured values. -/
def State.noteCount (s : State) (k : Nat) (a : Warp) (d : ArmDecision) (w : WinVal) : State :=
  let diff := d.e - d.c
  let plain := decide (diff ≠ 0) && !a.fo && !a.late && !s.straddles k
  s.upArm fun x => { x with
    mmRun := if plain then (if diff == x.mmDiff then x.mmRun + 1 else 1) else 0
    adjOver := x.adjOver && plain && diff == x.mmDiff
    mmDiff := if plain then diff else 0
    sawNbin := x.sawNbin || a.nbin != 0
    winNext := x.winAfter, winAfter := w
    lastVmin := a.vmin, lastVmax := a.vmax, lastI := (armCurrent a).getD x.lastI }

/-- A decided cycle (R89, R102, R107, R108): DIR and POL, the run of KEEP cycles, and the values of the last decided cycle. -/
def State.noteDecision (s : State) (k : Nat) (d : ArmDecision) (n : Int) : State :=
  s.upArm fun x => { x with
    dirHigh := d.dirHigh, polNeg := d.polNeg
    stallRun := if s.straddles k then x.stallRun else if d.keep && d.cmiss then x.stallRun + 1 else 0
    lastC := d.c, lastE := d.e, lastN := n, lastM := d.m }

/-- CMISSES, STAT.CMISS and F1 WEFT_COUNT at the active member (R106, R107), the fault not for a straddling cycle (R266). -/
def State.countMismatch (s : State) (k : Nat) (d : ArmDecision) : State :=
  if d.cmiss then
    let s1 := s.upWeft fun w => { w with cmisses := satAdd 32 w.cmisses 1, stat := setBit32 w.stat 17 }
    if s.straddles k then s1 else s1.raiseRun .weftCount
  else s.endRun .weftCount 0

/-- SATS, STAT.SAT and F1 WEFT_SAT of a decided cycle at the active member (R89, R106, R107). -/
def State.countSat (s : State) (d : ArmDecision) : State :=
  if d.sat then (s.upWeft fun w => { w with sats := satAdd 32 w.sats 1, stat := setBit32 w.stat 21 }).raiseRun .weftSat
  else s.endRun .weftSat 0

/-- The Shuttle of cycle k leaves (R88, R107): the member is ACTIVE and in SERVICE; a KEEP counts when it leaves. A standby in SERVICE notes
the same values (R333). -/
def State.sendShuttle (s : State) (k : Nat) (d : ArmDecision) (w : WinVal) : State :=
  if s.node.nodeState != .service then s.upArm fun y => { y with curBbin := 64, curFlags := 0, curAlloc := 0 }
  else
    let x := s.shuttleOf k d w
    let s1 := s.upArm fun y => { y with curBbin := d.bbin, curFlags := shuttleFlags x, curAlloc := d.alloc }
    if !s1.isActive then s1
    else
      let s2 := (s1.upArm fun y => { y with shuttleSentK := some k }).upWeft fun y => { y with lastDec := x }
      let s3 := if d.keep then (s2.upWeft fun y => { y with keeps := satAdd 32 y.keeps 1, stat := setBit32 y.stat 16 }).event 0x41 else s2
      match s3.recOf k with
      | some r => s3.split r k d.alloc x
      | none => s3

/-- The member decides the cycles it merges (R88, R124): an active one in SERVICE only; a standby in shadow. -/
def State.decides (s : State) : Bool := !s.isActive || s.node.nodeState == .service

/-- The master decides cycle k on its merge with N from Treadle, or N = NHPOS − NHNEG in a carrier arm (R88 to R91, R118, R153). A cycle
that it does not decide gives only the count, the window and the measured values: DESIGN CHOICE(140), R101 names no state. -/
def State.decideCycle (s : State) (k : Nat) (nTrdl : Int) (overran : Bool) : State :=
  match s.arm.merged with
  | none => s
  | some a =>
    if s.arm.mergedK != k || !s.isArm then s
    else
      let n : Int := if s.weft.armCarrier then (a.nhpos : Int) - a.nhneg else nTrdl
      let d := s.decideWith a k n overran
      let wv := autoWindow (s.obj Obj.WIN_MODE) (s.obj Obj.WIN_BASE) (s.obj Obj.WIN_SHIFT) (s.obj Obj.WIN_MARGIN) (s.obj Obj.RET_BIAS)
        s.arm.sawNbin s.arm.winAfter a
      let win : WinVal := ⟨wv.1, wv.2, s.arm.dirHigh, s.arm.polNeg, true, s.obj Obj.RET_BIAS⟩
      if !s.decides then
        let s1 := (s.noteCount k a d win).upArm fun y => { y with stallRun := 0, curBbin := 64, curFlags := 0, curAlloc := 0 }
        s1.countMismatch k d
      else
        let w : WinVal := { win with dirHint := d.dirHigh, polHint := d.polNeg }
        let ne := d.nEff a n s.trdl.nEff
        let s1 := ((s.noteCount k a d w).noteDecision k d n).upTrdl fun t => { t with
          nEff := ne, h := if ne == n then t.h else ne - t.nFf }
        let s2 := if s.isActive then (s1.countMismatch k d).countSat d else s1
        let s2 := if s2.arm.stallRun == 0 then s2.endRun .weftStall 0 else s2
        s2.sendShuttle k d w

/-- The count mismatch is adopted (R101). -/
def State.adopt (s : State) : State :=
  if !s.isArm || !s.isActive || s.arm.mmRun < s.obj Obj.ADOPT_CYCLES then s
  else
    let adj := s.arm.adj + s.arm.mmDiff
    if s.obj Obj.ADJ_LIMIT < adj.natAbs then (s.upArm fun x => { x with mmRun := 0, adjOver := true }).raise .weftAdjLimit
    else ((s.upArm fun x => { x with adj := adj, mmRun := 0 }).upWeft fun w => { w with adopts := satAdd 32 w.adopts 1 }).raise .countAdopted

/-- COUNT_ADOPT (R101). -/
def execCountAdopt (s : State) : Result := .next (s.onPower s.adopt)

/-- WEFT_STALL (R102): STALL_LIMIT KEEP cycles in a row. -/
def execWeftStall (s : State) : Result :=
  .next (s.onPower (if s.isArm && s.isActive && s.obj Obj.STALL_LIMIT ≤ s.arm.stallRun then s.raiseRun .weftStall else s))

/-! ### A cell's decision (R93 to R97) -/

/-- The own action of an eligible cell on a decision (R93, R95), and the units of ALLOC that remain. -/
def ownDecision (x : Shuttle) (cls : CellClass) (bin : Nat) : OwnAction × Nat :=
  if x.keep then (.keep, x.alloc)
  else if cls != .eligible then (.keep, x.alloc)
  else if bin == x.bbin && x.alloc != 0 then (.insert x.polNeg, x.alloc - 1)
  else if x.bbin == 64 then (.goZero, x.alloc)
  else if (!x.dirHigh && bin < x.bbin) || (x.dirHigh && x.bbin < bin) then (.insert x.polNeg, x.alloc)
  else (.goZero, x.alloc)

/-- A Shuttle is a valid decision at this node (R94). -/
def State.shuttleValid (s : State) (p k : Nat) (r : WeftRec) (x : Shuttle) : Bool :=
  let t := s.texec k
  (r.sentTo == (if p == 0 then Parent.a else Parent.b)) && p < 2 && x.texecS == t / 1000000000 % 2 ^ 32 && x.texecNs == t % 1000000000
    && decide (s.tb.ntNs + 250 < t)

/-- The cycle of the edge stage in ns (R156, R159): T_W. DESIGN CHOICE(143): a STATION or a RELAY, to which nobody hands a T_W, takes its
station cycle. -/
def State.gateTw (s : State) : Nat := if s.isCell || s.isArm then s.weft.tw else s.objEff Obj.STATION_CYCLE

/-- t_e(k) in taps of network time (R147), with the EDGE_OFS in force. -/
def State.edgeTap (s : State) (k : Nat) : Int :=
  (((k * s.gateTw + (if s.isCell || s.isArm then s.cycleLag k + s.weft.lead else 0)) * 64 / 5 : Nat) : Int) + s.gate.act.edgeOfs

/-- The references of LEVEL and DIRECT mode, t₀ of the cycle in progress and of the one before, in taps of network time (R159). A step moves that
of the cycle in progress with it (R265): without a Weft, the grid counts from its first instant after the step on. -/
def State.cycleRefs (s : State) : List Int :=
  if s.weft.begun && (s.isCell || s.isArm) then (s.weft.k :: s.weft.prev.map (·.k)).map fun k => ((s.t0 k * 64 / 5 : Nat) : Int)
  else
    let n := s.tb.ntNs / max 1 s.gateTw
    let on := [n, n - 1].map fun j => ((j * s.gateTw * 64 / 5 : Nat) : Int)
    on.filter (fun r => decide (s.tb.stepNt ≤ r * 5120)) ++ s.gate.stepRef.toList

/-- t_e(k), or a later one, has come at the Gate unit (R147, R156). -/
def State.edgePast (s : State) (k : Nat) : Bool := !laterThan k s.gate.edgeK

/-- A valid Shuttle that arrives too late for the own edges (R148): t_e(k), or the guard time before it, has come. -/
def State.lateForEdges (s : State) (k : Nat) : Bool := s.edgePast k || decide (s.edgeTap k - 3200 ≤ s.tb.ntTap)

/-- The window of a Shuttle is held for its cycle (R80, R91, R153). -/
def State.takeWindow (s : State) (k : Nat) (x : Shuttle) : State :=
  if x.wvalid && !s.weft.armCarrier then
    s.upWeft fun w => { w with wins := (⟨k + 2, Shuttle_win x⟩ :: w.wins.filter (·.k != k + 2)).take 4 }
  else s

/-- A cell takes a valid decision (R93, R97, R148). DESIGN CHOICE(190): KEEPS and CMISSES count at the ARM master, which sends the Shuttles, and not
at the cells that receive them. -/
def State.takeDecision (s : State) (k : Nat) (r : WeftRec) (x : Shuttle) : State :=
  let own := ownDecision x r.cls r.bin
  let bad := s.isCell && decide ((s.objEff Obj.BRIDGE == 1) ≠ x.bridge)
  let late := s.lateForEdges k
  let d : Decision := { k := k, action := if bad then .keep else own.1, late := late }
  let s1 := s.upWeft fun w => { w with
    decisions := (d :: w.decisions).take 8, lastDec := x
    stat := putBit (putBit w.stat 16 (getBit w.stat 16 || x.keep)) 17 (getBit w.stat 17 || x.cmiss) }
  let s2 := (if x.keep then s1.event 0x41 else s1).takeWindow k x
  let s3 := s2.split r k own.2 x
  if bad then (s3.startRun .bridgeMismatch 0).raise .bridgeMismatch else s3.endRun .bridgeMismatch 0

/-- The parent on an up port. -/
def parentOf (p : Nat) : Parent := if p == 0 then .a else .b

/-- The node stands at level 1 of its Twill: its parents are the members of a pair (R87, R253). -/
def State.atLevel1 (s : State) : Bool := !s.isStation && s.node.place.level == 1

/-- Note which parent is the active member: it sent a Shuttle or a journal entry (R87). -/
def State.noteActive (s : State) (p : Nat) : State :=
  if s.atLevel1 && p < 2 then s.upNode fun n => { n with home := parentOf p } else s

/-- A Shuttle copy arrives (R92 to R94): the first valid copy counts. -/
def State.shuttleRx (s : State) (p : Nat) (x : Shuttle) : State :=
  if !s.isCell || !s.lit p || s.weft.tw == 0 then s
  else
    let k := s.cycleOf x.cycle
    let s1 := s.noteActive p
    match s1.recOf k with
    | none => s1
    | some r => if s1.weft.decisions.any (·.k == k) || !s1.shuttleValid p k r x then s1 else s1.takeDecision k r x

/-- SHUTTLE_RECEIVE (R93). -/
def execShuttleReceive (port : Nat) (sh : Shuttle) (s : State) : Result := .next (s.onLane (s.shuttleRx port sh))

/-! ### T_exec(k) and the HOLD ladder (R8, R29, R94, R96) -/

/-- The insertion at T_exec(k) for the retention bias (R82). -/
def State.noteInsertion (s : State) (k : Nat) : State :=
  s.upWeft fun w => { w with insHist := ((k, s.heldInsertion k) :: w.insHist.filter (·.1 != k)).take 4 }

/-- The cell has left SERVICE or HOLD since t₀(k) (R96): its bridge went to the safe pattern in [t₀(k), T_exec(k)). -/
def State.leftSince (s : State) (k : Nat) : Bool :=
  match s.gate.safeAt, s.ownAt k with
  | some a, some o => decide (o.t0At ≤ a)
  | _, _ => false

/-- A cell's MISS unit of cycle k (R94, R96): counted as eligible or held, and without a valid decision, or with outputs that departed
from it, or with one that came too late for the own edges (R148). -/
def State.missUnit (s : State) (k : Nat) : Bool :=
  match s.recOf k with
  | none => false
  | some r =>
    let counted := r.cls == .eligible || r.cls == .held
    let in' := s.node.nodeState == .service || s.node.nodeState == .hold
    counted && (!in' || s.leftSince k || (match s.weft.decisions.find? (·.k == k) with
      | none => true
      | some d => d.late))

/-- Enter or stay in HOLD (R8, R29). A CARRIER cell places no new edges before the first grid boundary back in SERVICE (R152). -/
def State.enterHold (s : State) : State :=
  let s1 := if s.node.nodeState == .service then s.event 0x42 else s
  (s1.upGate fun g => { g with carRun := false }).upNode fun n => { n with nodeState := .hold, holdCount := min 8 (n.holdCount + 1) }

/-- T_exec(k) has come, once, at a cell that holds the cycle (R94). -/
def State.execDue (s : State) (k : Nat) : Bool :=
  s.isCell && s.weft.tw != 0 && s.holdsCycle k && decide (s.texec k ≤ s.tb.ntNs)
    && (match s.weft.insHist.head? with | some e => decide (e.1 < k) | none => true)

/-- T_exec(k) at a cell (R29, R94). -/
def State.execAt (s : State) (k : Nat) : State :=
  if !s.execDue k then s
  else
    let s1 := s.noteInsertion k
    let s2 := if s.missUnit k then (s1.upWeft fun w => { w with miss := satAdd 16 w.miss 1 }).event 0x46 else s1
    let valid := s.weft.decisions.any (·.k == k)
    let s3 := if valid then s2 else s2.upWeft fun w => { w with stat := setBit32 w.stat 20 }
    match s.node.nodeState with
    | .service | .hold => if valid then s3.upNode fun n => { n with nodeState := .service, holdCount := 0 } else s3.enterHold
    | .off | .boot | .join | .ready | .block | .bypass => s3

/-- EXEC_DEADLINE (R94). -/
def execExecDeadline (k : Nat) (s : State) : Result := .next (s.onPower (s.execAt k))

/-- HOLD_LIMIT (R8): the eighth consecutive cycle without a valid decision; cause 11 of R348. -/
def execHoldLimit (s : State) : Result :=
  .next (s.onPower (if s.node.nodeState == .hold && s.node.holdCount == 8 then s.setCause 11 else s))

/-! ### t₀(k) (R78, R80) -/

/-- t₀(k) has come, once (R78): k is the cycle of the present network time. -/
def State.t0Due (s : State) (k : Nat) : Bool :=
  (s.isCell || s.isArm) && s.weft.tw != 0 && k == s.cycleNow && !(s.weft.begun && s.weft.k == k)

/-- The Weft at t₀(k) (R80): the class holds for the whole cycle; what the node holds of the cycles before stays for their merge and their
T_exec. -/
def State.weftT0 (s : State) (k : Nat) : State :=
  let win := match s.window k with | some w => w.wvalid | none => false
  (s.upWeft fun w => { w with
    prev := ((if w.begun then (s.ownAt w.k).toList else []) ++ w.prev).take 3, begun := true
    lag := w.lag.filter fun e => e.1 < k && k < e.1 + 4
    k := k, cls := if s.isCell then classAt s.node.nodeState win else .notContributor, insAt0 := s.gate.ins,
    codeReady := !s.isCell, sensReady := false, t0At := s.tb.taps, ins := w.ins.filter fun e => k < e.k + 4 }).event 0x40

/-! ### Failover (R103) -/

/-- The cycles between whose t₀ and T_exec the present instant lies (R103). -/
def State.openCycles (s : State) : List Nat :=
  if s.weft.tw == 0 || !s.weft.begun then []
  else ((s.weft.prev.map (·.k)).reverse ++ [s.weft.k]).filter fun k => s.holdsCycle k && decide (s.tb.ntNs < s.texec k)

/-- The primary parent has changed between t₀(k) and T_exec(k) (R103): an aggregate that is out is sent again, with RESENT and FO, and
rec[k] names the new primary; one that is not out yet will carry FO. -/
def State.failoverOf (s : State) (k : Nat) : State :=
  match s.recOf k, s.primaryPort with
  | some r, some p => match r.sent with
    | some a =>
      let a' := { a with resent := true, fo := true, priB := s.node.primary == .b }
      let r' := { r with sentTo := s.node.primary, sent := some a' }
      (s.upWeft fun w => { w with recs := putRec r' w.recs }).sendWarp p a'
    | none => s
  | some _, none => s
  | none, _ => s.upWeft fun w => { w with foFor := k :: w.foFor.filter (· != k) }

/-- The primary parent of a cell has changed (R103): every cycle in progress is failed over, the oldest first. -/
def State.failover (s : State) : State := s.openCycles.foldl State.failoverOf s

/-- A child port has gone dark (R35, R86): ABS is registered at the Tally, with FO where it went dark in the cycle. -/
def State.childDark (s : State) (p : Nat) : State :=
  s.upWeft fun w => { w with darkSince := vset w.darkSince (p - 2) (some s.tb.ntNs) }

/-- A write of REBASE (R101). -/
def State.applyRebase (s : State) (value : Nat) : Applied :=
  if !s.isArm then s.no .noObject else s.ownWrite value (s.upArm fun x => { x with adj := 0, adjOver := false }).yes

/-- REBASE (R101). -/
def execRebase (value : Nat) (s : State) : Result := .next (s.onPower (settle Obj.REBASE 0 (s.applyRebase value)))

end Sys2Proof.Machine
end

