-- ==== Sys2Proof/Machine/Mirror.lean ====
section
/-!
DEFINITION. Sys2Proof/Machine/Mirror.lean: the epochs by which a standby keeps the state of the active member (R333, R334), and the
verification of a resynchronising member (R339).
-/
namespace Sys2Proof.Machine

/-! ### The layout of an epoch (R333) -/

/-- A window as an epoch carries it: 6 bytes. -/
def winBytes (w : WinVal) : List Byte := leBytes 2 w.wb ++ leBytes 1 (winByte w) ++ leBytes 1 0 ++ leBytes 2 w.rb

/-- A window from its 6 bytes. -/
def winOfBytes (bs : List Byte) : WinVal :=
  let v := leNat ((bs.drop 2).take 1)
  { wb := leNat (bs.take 2), ws := v % 16, dirHint := bitOf v 4, polHint := bitOf v 5, wvalid := bitOf v 6,
    rb := leNat ((bs.drop 4).take 2) }

/-- A PI block as an epoch carries it: 16 bytes. -/
def piBytes (p : PiState) : List Byte :=
  leBytes 4 p.i.toNat ++ leBytes 4 p.u.toNat ++ leBytes 4 p.manual.toNat ++ leBytes 4 (b2n p.auto)

/-- A RAMP block as an epoch carries it: 12 bytes. -/
def rampBytes (p : RampState) : List Byte := leBytes 4 p.r.toNat ++ leBytes 4 p.target.toNat ++ leBytes 4 (b2n p.run)

/-- A binary32 from 4 bytes. -/
def f32At (bs : List Byte) (i : Nat) : F32 := BitVec.ofNat 32 (leNat ((bs.drop i).take 4))

/-- A PI block from its bytes. -/
def piOfBytes (bs : List Byte) (i : Nat) : PiState :=
  ⟨f32At bs i, f32At bs (i + 4), f32At bs (i + 8), leNat ((bs.drop (i + 12)).take 1) == 1⟩

/-- A RAMP block from its bytes. -/
def rampOfBytes (bs : List Byte) (i : Nat) : RampState := ⟨f32At bs i, f32At bs (i + 4), leNat ((bs.drop (i + 8)).take 1) == 1⟩

/-- The epoch data before the CRC (R333). -/
def epochData (station : Bool) (e : Epoch) : List Byte :=
  let arm := leBytes 4 (ofSigned 32 e.h) ++ leBytes 4 (ofSigned 32 e.nEff) ++ leBytes 4 (ofSigned 32 e.n)
    ++ leBytes 2 (ofSigned 16 e.adj) ++ leBytes 1 e.bbin ++ leBytes 1 e.flags ++ leBytes 2 e.alloc ++ leBytes 2 0
    ++ winBytes e.win1 ++ winBytes e.win2
  (if station then List.replicate 32 0 else arm) ++ e.pi.toList.flatMap piBytes ++ e.ramp.toList.flatMap rampBytes
    ++ (if station then e.stNum.toList.flatMap (leBytes 4) else []) ++ e.vars.flatMap fun v => leBytes 4 v.toNat

/-- The epoch data with its CRC-32C. -/
def epochBytes (station : Bool) (e : Epoch) : List Byte :=
  let d := epochData station e
  d ++ leBytes 4 (Crc.crc32c d)

/-- One segment of an epoch: the 28-byte header and at most 996 data bytes (R333). -/
def epochSegment (e : Epoch) (all : List Byte) (seg : Nat) : List Byte :=
  let off := 996 * seg
  let part := (all.drop off).take 996
  leBytes 1 1 ++ leBytes 1 (b2n (decide (all.length ≤ off + 996))) ++ leBytes 1 seg ++ leBytes 1 0 ++ leBytes 8 e.cycle
    ++ leBytes 8 e.appliedJsn ++ leBytes 4 e.pairEpoch ++ leBytes 2 off ++ leBytes 2 part.length ++ part

/-- The segments of an epoch: one or two. -/
def epochSegments (station : Bool) (e : Epoch) : List (List Byte) :=
  let all := epochBytes station e
  if all.length ≤ 996 then [epochSegment e all 0] else [epochSegment e all 0, epochSegment e all 1]

/-- An epoch from the header of a segment and the whole data, whose CRC has been checked. -/
def epochOf (station : Bool) (hd data : List Byte) : Epoch :=
  let at' (i n : Nat) := leNat ((hd.drop i).take n)
  let d (i n : Nat) := leNat ((data.drop i).take n)
  let base := if station then 288 else 256
  { cycle := at' 4 8, appliedJsn := at' 12 8, pairEpoch := at' 20 4
    h := toSigned 32 (d 0 4), nEff := toSigned 32 (d 4 4), n := toSigned 32 (d 8 4), adj := toSigned 16 (d 12 2)
    bbin := d 14 1, flags := d 15 1, alloc := d 16 2
    win1 := winOfBytes ((data.drop 20).take 6), win2 := winOfBytes ((data.drop 26).take 6)
    pi := Vector.ofFn fun i => piOfBytes data (32 + 16 * i)
    ramp := Vector.ofFn fun i => rampOfBytes data (160 + 12 * i)
    stNum := if station then Vector.ofFn fun i => d (256 + 4 * i) 4 else Vector.replicate 8 0
    vars := (List.range ((data.length - base - 4) / 4)).map fun i => f32At data (base + 4 * i) }

/-! ### Sending (R333, R334) -/

/-- The epoch of cycle k at this member (R333). -/
def State.epochNow (s : State) (k : Nat) : Epoch :=
  { cycle := k, appliedJsn := s.jrn.shadowApplied, pairEpoch := s.jrn.epoch, h := s.trdl.h, nEff := s.trdl.nEff, n := s.arm.lastN
    adj := s.arm.adj, bbin := s.arm.curBbin, flags := s.arm.curFlags, alloc := s.arm.curAlloc, win1 := s.arm.winNext
    win2 := s.arm.winAfter, pi := s.trdl.pi, ramp := s.trdl.ramp, stNum := s.link.lan.gp.map (·.stNum)
    vars := (s.trdl.vars.toList).take (s.objEff Obj.MIRROR_VARS) }

/-- The active member sends the epoch of cycle k, once on each lit down port (R214, R334). -/
def State.sendEpoch (s : State) (k : Nat) : State :=
  if !s.isActive then s
  else ((epochSegments s.isStation (s.epochNow k)).foldl (fun t b => t.sendPartner .mirror b) s).upJrn fun j => { j with epochSentK := some k }

/-! ### Receiving (R333, R334) -/

/-- The parts of a segment: whether it is the last, its number, offset and data. -/
def segParts (b : List Byte) : Bool × Nat × Nat × List Byte :=
  (bitOf (leNat ((b.drop 1).take 1)) 0, leNat ((b.drop 2).take 1), leNat ((b.drop 24).take 2), b.drop 28)

/-- A segment is well formed (R333). -/
def segOk (b : List Byte) : Bool :=
  28 ≤ b.length && leNat (b.take 1) == 1 && leNat ((b.drop 26).take 2) == b.length - 28 && b.length ≤ 1024 && (segParts b).2.1 ≤ 1

/-- The data that begin with one segment: its own, or with those of each second segment that follows it. -/
def epochData? (segs : List (List Byte)) (a : List Byte) : List (List Byte) :=
  let x := segParts a
  if x.1 then [x.2.2.2]
  else (segs.filter fun b => (segParts b).1 && (segParts b).2.1 == 1 && (segParts b).2.2.1 == x.2.2.2.length && (b.drop 4).take 20 == (a.drop 4).take 20).map
    fun b => x.2.2.2 ++ (segParts b).2.2.2

/-- The last four bytes of an epoch's data are their CRC-32C (R333). -/
def epochCrcOk (d : List Byte) : Bool := 4 ≤ d.length && leNat (d.drop (d.length - 4)) == Crc.crc32c (d.take (d.length - 4))

/-- The segments of one cycle, from whatever paths, as a whole epoch (R334); none while no two fit or the CRC is wrong. -/
def wholeEpoch (station : Bool) (segs : List (List Byte)) : Option Epoch :=
  (segs.filter fun b => (segParts b).2.1 == 0).findSome? fun a => ((epochData? segs a).find? epochCrcOk).map (epochOf station a)

/-- A member that shadows and may adopt epochs (R329, R339). -/
def State.shadows (s : State) : Bool := s.isMember && (s.jrn.pstate == .standby || (s.jrn.pstate == .resync && s.jrn.snapDone))

/-- The CYCLE of a segment (R333). -/
def segCycle (b : List Byte) : Nat := leNat ((b.drop 4).take 8)

/-- A segment of a cycle comes after its adoption (R334): a copy of the adopted epoch is nothing new; any other is discarded, and each such epoch
is counted once. -/
def State.mirrorLate (s : State) (k : Nat) : State :=
  if k == s.jrn.adoptedK || s.jrn.epochLate == some k then s
  else s.upJrn fun j => { j with epochLate := some k, discarded := satAdd 32 j.discarded 1 }

/-- A MIRROR segment arrives at a member that shadows (R333, R334): it is kept for the adoption of its cycle. -/
def State.mirrorRx (s : State) (b : List Byte) : State :=
  if !s.shadows || !segOk b then s
  else
    let k := segCycle b
    if (match s.jrn.epochDone with | some d => decide (k ≤ d) | none => false) then s.mirrorLate k
    else if s.jrn.epochRx.contains (k, b) then s
    else s.upJrn fun j => { j with epochRx := (k, b) :: j.epochRx }

/-- MIRROR_RECEIVE (R334). -/
def execMirrorReceive (payload : List Byte) (s : State) : Result := .next (s.onLane (s.mirrorRx payload))

/-! ### Adoption and verification (R334, R339) -/

/-- The epoch equals what this member found in its own shadow execution (R339). -/
def State.epochMatches (s : State) (e : Epoch) : Bool :=
  if s.isStation then (e.pi.map (·.u)) == (s.trdl.pi.map (·.u))
  else e.n == s.arm.lastN && e.bbin == s.arm.curBbin && e.alloc == s.arm.curAlloc && e.flags == s.arm.curFlags

/-- The shadow state becomes the epoch's (R124, R334). -/
def State.takeEpoch (s : State) (e : Epoch) : State :=
  let s1 := s.upTrdl fun t => { t with
    h := e.h, nEff := e.nEff, pi := e.pi, ramp := e.ramp
    vars := Vector.ofFn fun i => e.vars.getD i (vget t.vars i 0) }
  if s.isStation then
    s1.upLink fun l => { l with lan := { l.lan with gp := Vector.ofFn fun i => { vget l.lan.gp i {} with stNum := vget e.stNum i 0 } } }
  else s1.upArm fun a => { a with adj := e.adj, winNext := e.win1, winAfter := e.win2 }

/-- The outcome of a verification (R339): a resynchronising member counts its run, and a standby that differs has diverged. -/
def State.verifyWith (s : State) (good : Bool) : State :=
  if s.jrn.pstate == .resync then s.upJrn fun j => { j with verifyRun := if good then j.verifyRun + 1 else 0 }
  else if good then s
  else ((s.upJrn fun j => { j with pstate := .unhealthy, upLostTx := true, verified := false }).endSessions).raise .jrnDiverged

/-- No epoch of the cycle could be adopted (R334): after two in a row HEALTH.MIRROR falls. -/
def State.mirrorMissed (s : State) : State :=
  let s1 := s.upJrn fun j => { j with missRun := satAdd 8 j.missRun 1, verifyRun := 0 }
  if 2 ≤ s1.jrn.missRun then ((s1.upJrn fun j => j.putHealth 2 false).raiseRun .jrnMirror).healthCheck else s1

/-- The epoch of cycle k − 1 that may be adopted at the start of cycle k (R334): complete, with this pair's epoch and this member's APPLIED_JSN. -/
def State.epochFor (s : State) (k : Nat) : Option Epoch :=
  (wholeEpoch s.isStation ((s.jrn.epochRx.filter fun x => x.1 + 1 == k).map (·.2))).filter fun e =>
    e.pairEpoch == s.jrn.epoch && e.appliedJsn == s.jrn.shadowApplied

/-- The cycles before k of which segments are held, each once. -/
def State.epochsBefore (s : State) (k : Nat) : List Nat := ((s.jrn.epochRx.map (·.1)).filter fun c => decide (c < k)).eraseDups

/-- What came before cycle k and is not adopted is discarded and counted, each epoch once (R334). -/
def State.epochsDrop (s : State) (k : Nat) (adopted : Bool) : State :=
  s.upJrn fun j => { j with
    epochRx := j.epochRx.filter fun x => decide (k ≤ x.1), epochDone := some (k - 1)
    discarded := satAdd 32 j.discarded ((s.epochsBefore k).length - b2n adopted) }

/-- The standby adopts the epoch of the cycle before, at the start of its execution of cycle k (R334). -/
def State.mirrorAdopt (s : State) (k : Nat) : State :=
  if !s.shadows then s
  else match s.epochFor k with
    | some e =>
      let good := s.epochMatches e
      ((((s.takeEpoch e).upJrn fun j => { j.putHealth 2 true with adoptedK := e.cycle, missRun := 0 }).endRun .jrnMirror 0).epochsDrop k true).verifyWith good
    | none => (s.epochsDrop k false).mirrorMissed

/-- A member starts its execution of cycle k (R333, R334): a standby adopts, and APPLIED_JSN is noted. -/
def State.memberStart (s : State) (k : Nat) : State :=
  (s.mirrorAdopt k).upJrn fun j => { j with shadowApplied := s.appliedJsn }

end Sys2Proof.Machine
end

