-- ==== Sys2Proof/Machine/Program.lean ====
section
/-!
DEFINITION. Sys2Proof/Machine/Program.lean: the checks of a loaded Treadle program, its paths and the VCORE setting it needs
(R110 to R113, R115).
-/
namespace Sys2Proof

/-- The steps of an operation (R110). -/
def TInstr.steps : TInstr → Nat
  | .div _ _ _ => 8
  | .pi _ => 6
  | .ramp _ => 4
  | .hyst => 12
  | .fma _ _ _ _ | .add _ _ _ | .sub _ _ _ | .mul _ _ _ | .tmin _ _ _ | .tmax _ _ _ | .tabs _ _ | .tneg _ _
  | .cmp _ _ _ | .sel _ _ _ | .br _ | .cvti _ _ | .cvtf _ _ | .lds _ _ | .stx _ _ | .lim _ _ _ _ | .tend => 1

end Sys2Proof

namespace Sys2Proof.Machine

/-- The longer of two paths; none where one of them lacks an END. -/
def longer (a b : Option Nat) : Option Nat :=
  match a, b with
  | some x, some y => some (max x y)
  | _, _ => none

/-- The longest path from each address of a segment to END, from the last address backwards (R111, R113): none where a path lacks
an END or a branch is not forward. `i` is the address of the first instruction of the list. -/
def pathsFrom : Nat → List TInstr → List (Option Nat)
  | _, [] => []
  | i, x :: xs =>
    let rest := pathsFrom (i + 1) xs
    let next := rest.headD none
    (match x with
      | .tend => some 1
      | .br t => if i < t then (longer next (rest.getD (t - i - 1) none)).map (· + 1) else none
      | y => next.map (· + y.steps)) :: rest

/-- The longest path of a segment in steps; none for one that R111 refuses. DESIGN CHOICE(193): an absent segment, which holds no END, is accepted
with a path of 0 steps. -/
def segPath (l : List TInstr) : Option Nat := if l.isEmpty then some 0 else (pathsFrom 0 l).headD none

/-- Every branch of a segment is forward, wherever it stands (R111). -/
def branchesForward (l : List TInstr) : Bool :=
  l.zipIdx.all fun e => match e.1 with
    | .br t => decide (e.2 < t)
    | _ => true

/-- A program that R111 accepts. -/
def programOk (p : TProgram) : Bool :=
  (segPath p.fast).isSome && (segPath p.slow).isSome && branchesForward p.fast && branchesForward p.slow

/-- Every signal that a program names is available in the role (R114). -/
def programSignals (role : Role) (p : TProgram) : Bool :=
  (p.fast ++ p.slow).all fun x => match x with
    | .lds _ code => signalOk role code
    | _ => true

/-- The longest FAST path of the running program (R113); the standard program's is 88 in the ARM role, and the manual states none
for another role. -/
def State.fastPath (s : State) : Nat :=
  if s.trdl.std then (if s.isArm then 88 else Config.factoryValue Obj.FAST_PATH)
  else (segPath (vget s.trdl.banks s.trdl.bank {}).fast).getD 0

/-- The longest SLOW path of the running program (R113). -/
def State.slowPath (s : State) : Nat :=
  if s.trdl.std then (if s.isArm then 140 else Config.factoryValue Obj.SLOW_PATH)
  else (segPath (vget s.trdl.banks s.trdl.bank {}).slow).getD 0

/-- The settings of R112 in mV with their step time bound in units of 10 ps. -/
def stepTimes : List (Nat × Nat) := [(600, 625), (700, 370), (800, 263), (900, 217), (1000, 192)]

/-- The FAST budget of R115 in units of 10 ps; none where the role has no FAST segment. -/
def fastBudget (r : Role) : Option Nat :=
  match r with
  | .arm => some 35000
  | .cell => some 200000
  | .station | .relay => none

/-- The lowest setting of R112 at which a FAST path fits its budget (R113); 65,535 where none does. DESIGN CHOICE(192): the roles for which R115
gives no budget need the lowest setting, 600 mV. -/
def vcoreMinOf (r : Role) (path : Nat) : Nat :=
  match fastBudget r with
  | none => 600
  | some b => match stepTimes.find? (fun t => path * t.2 ≤ b) with
    | some t => t.1
    | none => 65535

/-- VCORE_MIN of the running program (R113). -/
def State.vcoreMin (s : State) : Nat := vcoreMinOf s.node.role s.fastPath

/-- The VCORE setting whose speed bounds apply (R112, R427): during a ramp the lower of the two. -/
def State.vcoreBound (s : State) : Nat := if s.sys.ramp then min (s.obj Obj.VCORE) s.sys.rampFrom else s.obj Obj.VCORE

end Sys2Proof.Machine
end

