-- ==== Sys2Proof/Machine/Treadle.lean ====
section
/-!
DEFINITION. Sys2Proof/Machine/Treadle.lean: the control engine: its signals, the arm-current loop, the PI and RAMP blocks, the cell's
filter and duty, the microprogram's operations, the FAST and SLOW executions with their staged commits, run modes, overruns,
reference fallback and program activation (R109 to R135). DESIGN CHOICE(13) for the order of operations and roundings that the manual
leaves open.
-/
namespace Sys2Proof.Machine

/-! ### Modes and signals (R114, R124) -/

/-- The run mode (R124). DEDUCED(35): a member that verifies its shadow in JOIN (R322, R339) runs in SHADOW there. DESIGN CHOICE(194): a member that
is neither active nor standby runs as a standby does. -/
def State.runMode (s : State) : RunMode :=
  match s.node.nodeState with
  | .off | .boot => .stop
  | .join => if s.shadows then .shadow else .stop
  | n =>
    if s.isCell then .run
    else if !s.isMember then .stop
    else if !s.isActive then .shadow
    else if n == .ready || n == .block then .track
    else .run

/-- The execution interval of the role in ns: T_W or STATION_CYCLE (R120, R122). -/
def State.trdlT (s : State) : Nat := if s.isStation then s.objEff Obj.STATION_CYCLE else s.weft.tw

/-- A time in seconds as binary32. -/
def secs (ns : Nat) : F32 := F32.ofRat ns 1000000000

/-- A value is 0.0. -/
def isZeroF (x : F32) : Bool := x.toNat % 2 ^ 31 == 0

/-- A capacitor code in V: the code × 0.05. -/
def voltsOf (code : Nat) : F32 := F32.ofRat code 20

/-- The signal of a code (R114), with the block outputs and variables as the execution has staged them. -/
def State.signal (s : State) (x : Stage) (code : Nat) : F32 :=
  let lo := code % 256
  match code / 256 with
  | 1 => vget x.vars lo 0
  | 2 => (vget x.pi lo {}).u
  | 3 => (vget x.ramp lo {}).r
  | 4 => s.objF (Obj.REFIN0 + lo)
  | 5 => vget s.trdl.xin lo 0
  | 6 =>
    match lo with
    | 0 => s.trdl.iMeas
    | 1 => s.trdl.vMean
    | 2 => s.trdl.vSum
    | 3 => F32.ofInt! s.trdl.nEff
    | 4 => F32.ofInt! s.trdl.nbin
    | 5 => s.trdl.slot0
    | 6 => s.trdl.slot1
    | 7 => voltsOf s.trdl.vOwn
    | 8 => x.vFilt
    | 0x10 => (vget s.adc.cores 0 {}).x
    | 0x11 => (vget s.adc.cores 1 {}).x
    | _ => 0
  | _ => 0

/-- An execution begins with the committed state (R111). -/
def State.freshStage (s : State) : Stage :=
  { vars := s.trdl.vars, pi := s.trdl.pi, ramp := s.trdl.ramp, xout := s.trdl.xout, h := s.trdl.h, nOut := s.trdl.nOut, nFf := s.trdl.nFf,
    iRef := s.trdl.iRef, uFf := s.trdl.uFf, vFilt := s.trdl.vFilt, filtRun := s.trdl.filtRun, duty := s.trdl.duty, mode := s.runMode }

/-- A result that is no finite number sets the execution's FPE flag (R111). -/
def Stage.orFpe (x : Stage) (r : Option Stage) : Stage := r.getD { x with fpe := true }

/-- min(hi, max(lo, a)). -/
def clampF (a lo hi : F32) : F32 := F32.min hi (F32.max lo a)

/-! ### PI and RAMP blocks (R120 to R122, R125 to R127) -/

/-- An AUTO execution of PI block `n` (R120, R126): `preset` when the integrator is preset and not updated. DESIGN CHOICE(191): a
transfer counts as clamped where the preset integrator is, not where the output alone is. -/
def State.piAuto (s : State) (x : Stage) (n tNs : Nat) (preset : Bool) : Option Stage :=
  let o := fun k => k + 256 * n
  let p := vget x.pi n {}
  let manual := s.objF (o Obj.MANUAL_VALUE)
  let umin := s.objF (o Obj.UMIN)
  let umax := s.objF (o Obj.UMAX)
  let imin := s.objF (o Obj.IMIN)
  let imax := s.objF (o Obj.IMAX)
  let ff := s.signal x (s.obj (o Obj.FF_SRC))
  do
    let e ← F32.sub (s.signal x (s.obj (o Obj.REF_SRC))) (s.signal x (s.obj (o Obj.PI_MEAS_SRC)))
    let pr ← F32.mul (s.objF (o Obj.KP)) e
    let raw ← if preset then (do F32.sub (← F32.sub manual pr) ff)
      else do F32.add p.i (← F32.mul (← F32.mul (s.objF (o Obj.KI)) (secs tNs)) e)
    let hold := !preset && ((F32.le umax p.u && F32.lt 0 e) || (F32.le p.u umin && F32.lt e 0))
    let i := if hold then p.i else clampF raw imin imax
    let sum ← F32.add (← F32.add pr i) ff
    let u := clampF sum umin umax
    let track := s.objB (o Obj.MAN_TRACK)
    pure { x with
      pi := vset x.pi n { i := i, u := u, manual := if track then u else manual, auto := true }
      xfer := x.xfer || preset
      clamped := if preset && i != raw then n :: x.clamped else x.clamped
      tracked := if track then n :: x.tracked else x.tracked }

/-- An execution of PI block `n` (R120, R124 to R127); `first` in the first RUN execution after TRACK. -/
def State.piRun (s : State) (tNs : Nat) (first : Bool) (x : Stage) (n : Nat) : Stage :=
  let p := vget x.pi n {}
  if x.mode == .track || !s.objB (Obj.PI_MODE + 256 * n) then
    x.orFpe (do
      let m ← F32.settled (s.objF (Obj.MANUAL_VALUE + 256 * n))
      pure { x with pi := vset x.pi n { p with u := m, manual := m, auto := false }, xfer := x.xfer || p.auto })
  else x.orFpe (s.piAuto x n tNs (first || !p.auto))

/-- An execution of a PI block of the standard program: when the cycle number is a multiple of DIV (R120). In TRACK every block outputs
MANUAL_VALUE, and the first RUN execution presets every block. -/
def State.piStd (s : State) (k : Nat) (first : Bool) (x : Stage) (n : Nat) : Stage :=
  let div := s.obj (Obj.DIV + 256 * n)
  if k % div == 0 || first || x.mode == .track then s.piRun (div * s.trdlT) first x n else x

/-- A step of a running ramp (R122). -/
def rampStep (rate : F32) (t : F32) (tgt : F32) (r : F32) : Option (F32 × Bool) :=
  if isZeroF rate then do pure (← F32.settled tgt, false)
  else do
    let d ← F32.mul rate t
    let gap ← F32.sub tgt r
    if F32.le (F32.abs gap) d then do pure (← F32.settled tgt, false)
    else do
      let r' ← if F32.neg gap then F32.sub r d else F32.add r d
      some (r', true)

/-- An execution of RAMP block `n` (R122, R124, R125). -/
def State.rampRun (s : State) (tNs : Nat) (first : Bool) (x : Stage) (n : Nat) : Stage :=
  let o := fun k => k + 256 * n
  let src := s.obj (o Obj.TARGET_SRC)
  let tgt := if src == 0 then s.objF (o Obj.TARGET) else s.signal x src
  let ms := s.obj (o Obj.RAMP_MEAS_SRC)
  let meas := s.signal x ms
  let p := vget x.ramp n {}
  if x.mode == .track then
    x.orFpe (do
      let r ← F32.settled (if ms != 0 then meas else tgt)
      pure { x with ramp := vset x.ramp n { r := r, target := tgt, run := false } })
  else
    let changed := tgt != p.target
    let preset := ms != 0 && (first || (changed && !p.run && s.obj (o Obj.START_MODE) == 0))
    let r0 := if preset then meas else p.r
    if changed || p.run || preset then
      x.orFpe (do
        let (r, run) ← rampStep (s.objF (o Obj.RATE)) (secs tNs) tgt r0
        pure { x with ramp := vset x.ramp n { r := r, target := tgt, run := run }
                      rampsDone := if run then x.rampsDone else n :: x.rampsDone })
    else x

/-! ### The arm-current loop (R116, R117) -/

/-- The sum of the signals of four selectors (R116). -/
def State.sumSel (s : State) (x : Stage) (key : Nat) : Option F32 :=
  [0, 1, 2, 3].foldlM (fun a i => F32.add a (s.signal x (s.obj (key + i)))) 0

/-- The step s of the index (R117). -/
def State.hystStep (s : State) (e : F32) : Option Int :=
  if !s.trdl.curValid || !F32.lt (s.objF Obj.HYST_H) (F32.abs e) then some 0
  else do
    let q ← F32.div (← F32.sub (F32.abs e) (s.objF Obj.HYST_H)) (s.objF Obj.DELTA_I)
    let d ← F32.toDy q
    pure (min (s.obj Obj.STEP_MAX : Int) (1 + F32.dyFloor d))

/-- HYST (R116, R117, R124, R125). -/
def State.hystRun (s : State) (first : Bool) (x : Stage) : Stage :=
  x.orFpe (do
    let iRef ← s.sumSel x Obj.IREF_SRC0
    let uFf ← s.sumSel x Obj.UFF_SRC0
    let nFf ← if isZeroF s.trdl.vMean then some 0 else do F32.roundAway (← F32.div uFf s.trdl.vMean)
    let nFf := clampI nFf (-(2 ^ 31 : Nat)) (2 ^ 31 - 1)
    if x.mode == .track then
      pure { x with iRef := iRef, uFf := uFf, nFf := nFf, h := 0, nOut := nFf, hystRan := true }
    else
      let e0 ← F32.sub s.trdl.iMeas iRef
      let e := if s.obj Obj.CUR_SIGN == 1 then F32.negate e0 else e0
      let st ← s.hystStep e
      let lim : Int := s.obj Obj.H_LIMIT
      let h0 := if first then 0 else x.h
      let sg : Int := if F32.lt 0 e then st else if F32.lt e 0 then -st else 0
      let h := clampI (h0 + sg) (-lim) lim
      let prev := if first then nFf else s.trdl.nEff
      let raw := nFf + h
      let n1 := clampI raw (s.objI Obj.N_MIN 16) (s.objI Obj.N_MAX 16)
      let slew : Int := s.obj Obj.N_SLEW
      let n := clampI n1 (prev - slew) (prev + slew)
      pure { x with iRef := iRef, uFf := uFf, nFf := nFf, h := if n == raw then h else n - nFf, nOut := n, nLim := n != raw, hystRan := true })

/-! ### A cell's filter and duty (R134, R135) -/

/-- exp(−a/b) in units of 2^−256, for 0 ≤ a/b < 128: the series of a 1,024th of the argument, raised back. -/
def expNeg (a b : Nat) : Nat :=
  let one := 2 ^ 256
  let y := a * one / (b * 1024)
  let rec go (fuel i : Nat) (term sum : Int) : Int :=
    match fuel with
    | 0 => sum
    | f + 1 => let t := -(term * y / (one * (i + 1) : Nat)); go f (i + 1) t (sum + t)
  let e := (go 40 0 one one).toNat
  (List.range 10).foldl (fun v _ => v * v / one) e

/-- α = 1 − exp(−T_W / FILT_TAU), rounded once (R134); T_W in ns and FILT_TAU = m × 2^e µs. -/
def filtAlpha (tw : Nat) (tau : F32) : F32 :=
  match F32.toDy tau with
  | none => 0
  | some (m, e) =>
    let a := if 0 ≤ e then tw else tw * 2 ^ (-e).toNat
    let b := if 0 ≤ e then 1000 * m.toNat * 2 ^ e.toNat else 1000 * m.toNat
    if b == 0 || 128 * b ≤ a then F32.ofInt! 1 else F32.ofRat ((2 ^ 256 - expNeg a b : Nat) : Int) (2 ^ 256)

/-- The cell's filter (R134). -/
def State.filterRun (s : State) (x : Stage) : Stage :=
  if !s.trdl.vHave then x
  else
    let v := voltsOf s.trdl.vOwn
    let tau := s.objF Obj.FILT_TAU
    if !x.filtRun || isZeroF tau then { x with vFilt := v, filtRun := true }
    else x.orFpe (do
      let d ← F32.sub v x.vFilt
      let y ← F32.add x.vFilt (← F32.mul (filtAlpha s.weft.tw tau) d)
      pure { x with vFilt := y })

/-- v_f is below 0.1 × V_NOM (R135). -/
def belowTenth (vf vnom : F32) : Bool :=
  match F32.toDy vf, F32.toDy vnom with
  | some a, some b => decide ((F32.dyAdd (10 * a.1, a.2) (-b.1, b.2)).1 < 0)
  | _, _ => false

/-- The duty of a carrier cell by the standard program (R135); 0 in BYPASS (R124). -/
def State.dutyRun (s : State) (x : Stage) : Stage :=
  if s.node.nodeState == .bypass then { x with duty := 0, dutyNew := true }
  else if s.obj Obj.GATE_MODE != 1 || !s.trdl.std then x
  else if belowTenth x.vFilt (s.objF Obj.V_NOM) then { x with duty := 0, dutyNew := true }
  else x.orFpe (do
    let a ← F32.div (← F32.mul (s.objF Obj.M_REF) (s.objF Obj.V_NOM)) x.vFilt
    let g ← F32.mul (s.objF Obj.BAL_GAIN) (← F32.sub x.vFilt (s.objF Obj.V_AVG))
    let ia := s.objF Obj.I_ARM
    let b := if F32.lt 0 ia then g else if F32.lt ia 0 then F32.negate g else 0
    let d ← F32.sub a b
    pure { x with duty := clampF d (s.objF Obj.D_MIN) (s.objF Obj.D_MAX), dutyNew := true })

/-! ### Microprograms (R110, R111) -/

/-- Write a variable, or note an exception. -/
def Stage.put (x : Stage) (d : Nat) (v : Option F32) : Stage :=
  match v with
  | some y => { x with vars := vset x.vars d y }
  | none => { x with fpe := true }

/-- Write the result of an operation that takes a value as it stands (R111). -/
def Stage.putF (x : Stage) (d : Nat) (v : F32) : Stage := x.put d (F32.settled v)

/-- The predicate of CMP (R110): <, ≤, = or ≠. -/
def cmpPred (a b : F32) (cond : Nat) : Bool :=
  match cond % 4 with
  | 0 => F32.lt a b
  | 1 => F32.le a b
  | 2 => F32.cmp a b == some 0
  | _ => F32.cmp a b != some 0

/-- F32 to I32, nearest even, saturating (R110 CVTI). -/
def cvtI (a : F32) : Option F32 := do
  let i ← F32.roundEven a
  pure (BitVec.ofInt 32 (clampI i (-(2 ^ 31 : Nat)) (2 ^ 31 - 1)))

/-- One operation of a loaded program but BR and END (R110). -/
def State.trdlOp (s : State) (tNs : Nat) (first : Bool) (x : Stage) (op : TInstr) : Stage :=
  let v := fun i => vget x.vars i 0
  match op with
  | .fma d a b c => x.put d (F32.fma (v a) (v b) (v c))
  | .add d a b => x.put d (F32.add (v a) (v b))
  | .sub d a b => x.put d (F32.sub (v a) (v b))
  | .mul d a b => x.put d (F32.mul (v a) (v b))
  | .div d a b => x.put d (F32.div (v a) (v b))
  | .tmin d a b => x.putF d (F32.min (v a) (v b))
  | .tmax d a b => x.putF d (F32.max (v a) (v b))
  | .tabs d a => x.putF d (F32.abs (v a))
  | .tneg d a => x.putF d (F32.negate (v a))
  | .cmp a b c => { x with pred := cmpPred (v a) (v b) c }
  | .sel d a b => x.put d (some (if x.pred then v a else v b))
  | .cvti d a => x.put d (cvtI (v a))
  | .cvtf d a => x.put d (F32.ofInt (v a).toInt)
  | .lds d code => if code / 256 == 1 then x.put d (some (s.signal x code)) else x.putF d (s.signal x code)
  | .stx n a => { x with xout := vset x.xout n (v a) }
  | .lim d a lo hi => x.putF d (clampF (v a) (v lo) (v hi))
  | .pi n => s.piRun (s.obj (Obj.DIV + 256 * n) * tNs) first x n
  | .ramp n => s.rampRun tNs first x n
  | .hyst => s.hystRun first x
  | .br _ | .tend => x

/-- Run a segment to END (R110, R111): branches go forward only; `skip` operations of a taken branch are passed over, and `pc` is the
address of the first operation of the list. -/
def State.trdlRun (s : State) (tNs : Nat) (first : Bool) : Nat → Nat → List TInstr → Stage → Stage
  | _, _, [], x => x
  | n + 1, pc, _ :: rest, x => s.trdlRun tNs first n (pc + 1) rest x
  | 0, pc, op :: rest, x =>
    match op with
    | .tend => x
    | .br t => s.trdlRun tNs first (if x.pred then t - pc - 1 else 0) (pc + 1) rest x
    | _ => s.trdlRun tNs first 0 (pc + 1) rest (s.trdlOp tNs first x op)

/-- Eight blocks in rising number. -/
def eight : List Nat := [0, 1, 2, 3, 4, 5, 6, 7]

/-- XOUT takes the signals that XOUT_SRC names (R111, R138); a variable is copied as it stands. -/
def State.xoutCopy (s : State) (x : Stage) : Stage :=
  (List.range 16).foldl (fun x n =>
    let c := s.obj (Obj.XOUT_SRC0 + n)
    if c == 0 then x
    else x.orFpe (do
      let v ← if c / 256 == 1 then some (s.signal x c) else F32.settled (s.signal x c)
      pure { x with xout := vset x.xout n v })) x

/-- What a FAST execution of cycle k stages (R115, R116, R124, R134, R135): in BYPASS a cell's filter runs alone, with the duty forced to
0. -/
def State.fastRun (s : State) (k : Nat) : Stage :=
  let x := s.freshStage
  let first := x.mode == .run && s.trdl.lastMode == .track
  let y := if s.isCell then s.filterRun x else x
  let z :=
    if s.node.nodeState == .bypass then y
    else if !s.trdl.std then s.trdlRun s.trdlT first 0 0 (vget s.trdl.banks s.trdl.bank {}).fast y
    else if s.isArm then s.hystRun first y
    else eight.foldl (s.piStd k false) y
  s.xoutCopy (if s.isCell then s.dutyRun z else z)

/-- What a SLOW execution of cycle or station cycle k stages (R115): the RAMP blocks, then the PI blocks. -/
def State.slowRun (s : State) (k : Nat) : Stage :=
  let x := s.freshStage
  let first := x.mode == .run && s.trdl.slowMode == .track
  s.xoutCopy (
    if !s.trdl.std then s.trdlRun s.trdlT first 0 0 (vget s.trdl.banks s.trdl.bank {}).slow x
    else eight.foldl (s.piStd k first) (eight.foldl (s.rampRun s.trdlT first) x))

/-! ### References in fallback (R123) -/

/-- REFIN n is mapped into an RPD whose payload is timed out: it is held (R74, R123). -/
def State.refinHold (s : State) (n : Nat) : State :=
  s.upTrdl fun t => { t with refin := vset t.refin n (if (vget t.refin n {}).held then vget t.refin n {} else { held := true, since := s.tb.taps }) }

/-- A valid payload has arrived again after a timeout (R123): the value is taken at once, and the return is recorded. -/
def State.refinBack (s : State) (n : Nat) : State :=
  if (vget s.trdl.refin n {}).held then
    ((s.upTrdl fun t => { t with refin := vset t.refin n {} }).endRun .refFallback n).raise .refRestored n
  else s

/-- A REFIN in fallback moves toward REFIN_FALLBACK at its rate (R123); a rate of 0 holds it. -/
def State.refinMove (s : State) (n : Nat) : State :=
  if (vget s.trdl.refin n {}).falling && !isZeroF (s.objF (Obj.REFIN_FB_RATE0 + n)) then
    match rampStep (s.objF (Obj.REFIN_FB_RATE0 + n)) (secs s.trdlT) (s.objF (Obj.REFIN_FALLBACK0 + n)) (s.objF (Obj.REFIN0 + n)) with
    | some (v, _) => s.setObj (Obj.REFIN0 + n) v.toNat (s.objJsn (Obj.REFIN0 + n))
    | none => s
  else s

/-- REF_HOLD_EXPIRY (R123): the hold of a timed-out REFIN ends; with a rate it goes to its fallback. -/
def execRefHoldExpiry (n : Nat) (s : State) : Result :=
  .next (s.onPower (
    let r := vget s.trdl.refin n {}
    if r.held && !r.falling && !isZeroF (s.objF (Obj.REFIN_FB_RATE0 + n)) && decide (r.since + s.obj Obj.REF_HOLD * tapsMs ≤ s.tb.taps) then
      (s.upTrdl fun t => { t with refin := vset t.refin n { r with falling := true } }).raiseRun .refFallback n
    else s))

/-! ### Overruns (R129 to R132) -/

/-- W_OV = ⌈10⁹ ns / T⌉ (R131). -/
def State.wOv (s : State) : Nat := if s.trdlT == 0 then 0 else (1000000000 + s.trdlT - 1) / s.trdlT

/-- An execution of cycle k is abandoned: nothing is committed, and the overrun counts (R129). -/
def State.overrun (s : State) (k : Nat) (slow fpe : Bool) : State :=
  (s.upTrdl fun t => { t with
    overruns := satAdd 32 t.overruns 1, fpes := if fpe then satAdd 32 t.fpes 1 else t.fpes, cycle := k
    stat := if fpe then setBit32 (setBit32 t.stat 16) 17 else setBit32 t.stat 16
    ovrConsec := satAdd 8 t.ovrConsec 1, ovrCycles := k :: t.ovrCycles.filter fun j => k < j + s.wOv
    fastK := if slow then t.fastK else some k, slowK := if slow then some k else t.slowK
    fastOk := if slow then t.fastOk else false, slowOk := if slow then false else t.slowOk
    fastBusy := if slow then t.fastBusy else none, slowBusy := if slow then none else t.slowBusy }).event 0x4A

/-- The consecutive count and the window restart on the member that becomes active (R131). -/
def State.ovrRestart (s : State) : State :=
  (s.upTrdl fun t => { t with ovrConsec := 0, ovrCycles := [] }).endRun .trdlOverrun 0

/-- The overruns of the window that ends with the last execution's cycle (R131). -/
def State.ovrInWindow (s : State) : Nat := (s.trdl.ovrCycles.filter fun j => s.trdl.cycle < j + s.wOv).length

/-- The escalation condition of R131. -/
def State.ovrDue (s : State) : Bool := 3 ≤ s.trdl.ovrConsec || 16 ≤ s.ovrInWindow

/-- OVERRUN_ESCALATION (R131): F3 at the active member (F4 at a STATION without a healthy standby), F2 elsewhere. -/
def execOverrunEscalation (s : State) : Result :=
  .next (s.onPower (
    if s.ovrDue && !s.inRun .trdlOverrun 0 then
      let s1 := s.startRun .trdlOverrun 0
      if s.isStation && s.isActive && !s.partnerHealthy then s1.raiseAll [{ name := .trdlOverrun, cls := some .f4 }]
      else s1.raise .trdlOverrun
    else s))

/-- A SLOW of an ARM master is abandoned when the next FAST must start (R132). -/
def State.slowSkip (s : State) : State :=
  match s.trdl.slowBusy with
  | some k =>
    ((s.upTrdl fun t => { t with slowBusy := none, slowOk := false, slowSkips := satAdd 32 t.slowSkips 1, stat := setBit32 t.stat 18 }).raiseRun
      .trdlSlowSkip).sendEpoch k
  | none => s

/-! ### The start of an execution (R114, R115, R119) -/

/-- The inputs of an ARM master's FAST, from the merged aggregate (R114, R119). -/
def State.armInputs (s : State) (a : Warp) : State :=
  let i := armCurrent a
  s.upTrdl fun t => { t with
    iMeas := match i with | some v => F32.ofRat v 4 | none => t.iMeas
    slot0 := if a.sens0.valid then F32.ofRat a.sens0.i 4 else t.slot0
    slot1 := if a.sens1.valid then F32.ofRat a.sens1.i 4 else t.slot1
    vMean := if a.nbin == 0 then t.vMean else F32.ofRat a.vsum (20 * a.nbin)
    vSum := F32.ofRat a.vsum 20, nbin := a.nbin, curValid := i.isSome
    noCurRun := if i.isSome then 0 else t.noCurRun + 1 }

/-- The inputs of a cell's FAST (R134): the code of this cycle, or the last one obtained. -/
def State.cellInputs (s : State) : State :=
  if s.weft.codeReady then s.upTrdl fun t => { t with vOwn := s.weft.vcode, vHave := true } else s

/-- Treadle consumes the results of a core with CONS = 1 at the start of every execution (R184). -/
def State.consumeAdc (s : State) : State :=
  let f := fun (a : Adc) (c : Fin 2) =>
    let k := vget a.cores c {}
    if s.obj (Obj.CONS + 256 * c) == 1 then { k with resValid := false } else k
  s.upAdc fun a => { a with cores := Vector.ofFn (f a) }

/-- Stage a FAST execution of cycle k. -/
def State.beginFast (s : State) (k : Nat) : State :=
  let s1 := eight.foldl State.refinMove s
  let x := s1.fastRun k
  s1.consumeAdc.upTrdl fun t => { t with fastBusy := some k, fastStage := x, fastK := some k }

/-- The start of FAST of cycle k has come, once (R115): an ARM master has merged the cycle; at a cell, t₀(k) + T_S. -/
def State.fastDue (s : State) (k : Nat) : Bool :=
  s.runMode != .stop && s.trdl.fastBusy.isNone && s.holdsCycle k && laterThan k s.trdl.fastK
    && (s.isArm || (k == s.weft.k && decide (s.t0 k + 770 ≤ s.tb.ntNs)))

/-- FAST of cycle k starts (R115): an ARM master's at the merge, a cell's at t₀ + T_S. -/
def State.fastStart (s : State) (k : Nat) : State :=
  if !s.fastDue k then s
  else if s.isArm then
    match s.arm.merged with
    | some a =>
      if s.arm.mergedK != k then s
      else
        let s1 := (s.slowSkip.memberStart k).armInputs a
        (if s1.trdl.curValid then s1.endRun .trdlNoCurrent 0 else s1).beginFast k
    | none => s
  else if s.isCell then s.cellInputs.beginFast k
  else s

/-- TREADLE_FAST_START (R115). -/
def execTreadleFastStart (k : Nat) (s : State) : Result := .next (s.onPower (s.fastStart k))

/-- NO_CURRENT_LIMIT (R119): CUR_LOST_LIMIT cycles in a row without a valid slot at the active ARM master. -/
def execNoCurrentLimit (s : State) : Result :=
  .next (s.onPower (
    if s.isArm && s.isActive && s.obj Obj.CUR_LOST_LIMIT ≤ s.trdl.noCurRun then s.raiseRun .trdlNoCurrent else s))

/-- Stage a SLOW execution of cycle k. -/
def State.beginSlow (s : State) (k : Nat) : State :=
  s.consumeAdc.upTrdl fun t => { t with slowBusy := some k, slowStage := s.slowRun k, slowK := some k }

/-- SLOW starts at the END of FAST in an ARM master, and at each boundary s_j in a STATION (R115). -/
def State.slowStart (s : State) (k : Nat) : State :=
  if s.runMode == .stop || !s.isMember || s.trdl.slowBusy.isSome then s
  else if s.isStation then (eight.foldl State.refinMove (s.memberStart k)).beginSlow k
  else s.beginSlow k

/-! ### The commits (R111, R118, R121, R127) -/

/-- Write Treadle's duty into the Gate unit's DUTY shadow (R135, R156, R157). -/
def State.writeDuty (s : State) (d : F32) : State :=
  s.upGate fun g => { g with sh := { g.sh with duty := some d, dutyPartner := g.sh.period.isSome, since := vset g.sh.since 4 s.tb.taps } }

/-- MANUAL_VALUE follows the committed output of an AUTO block with MAN_TRACK (R127). -/
def State.trackManual (x : Stage) (s : State) (n : Nat) : State :=
  s.setObj (Obj.MANUAL_VALUE + 256 * n) (vget x.pi n {}).u.toNat (s.objJsn (Obj.MANUAL_VALUE + 256 * n))

/-- What a commit records: nothing leaves the engine in SHADOW (R121, R122, R124, R126). -/
def State.commitRecords (s : State) (x : Stage) : State :=
  if x.mode == .shadow then s
  else
    let s1 := if x.nLim then s.raiseRun .nLimit else if x.hystRan then s.endRun .nLimit 0 else s
    let s2 := x.clamped.reverse.foldl (fun t n => t.raise .transferClamped n) s1
    x.rampsDone.reverse.foldl (fun t n => t.raise .rampDone n) s2

/-- Commit what an execution staged: the variable file, the blocks, HYST and XOUT together (R111). -/
def State.commitStage (s : State) (x : Stage) : State :=
  let s1 := s.upTrdl fun t => { t with
    vars := x.vars, pi := x.pi, ramp := x.ramp, xout := x.xout, h := x.h, nOut := x.nOut, nFf := x.nFf, iRef := x.iRef, uFf := x.uFf
    vFilt := x.vFilt, filtRun := x.filtRun, duty := x.duty, ovrConsec := 0
    stat := (if x.nLim then setBit32 t.stat 19 else t.stat) ||| (if x.xfer then 0x100000#32 else 0#32) }
  let s2 := x.tracked.reverse.foldl (State.trackManual x) s1
  s2.commitRecords x

/-- The overrun window is below its limit: a new escalation can arise. -/
def State.ovrEase (s : State) : State := if s.ovrDue then s else s.endRun .trdlOverrun 0

/-- A duration held in a register of 16 bits with its maximum. -/
def dur16 (v : Nat) : Nat := min v 65535

/-- In TRACK N(k) is reported and h stays 0 (R124). -/
def State.trackH (s : State) (x : Stage) : State := if x.mode == .track then s.upTrdl fun t => { t with h := 0 } else s

/-- FAST of cycle k has committed: SLOW starts and the master decides; a cell's duty goes to the Gate unit (R115, R118, R135). -/
def State.fastCommitted (s : State) (k : Nat) (x : Stage) : State :=
  if s.isArm then ((s.slowStart k).decideCycle k x.nOut false).trackH x
  else if s.isCell && x.dutyNew then s.writeDuty x.duty
  else s

/-- The deadline of FAST of cycle k in ns (R115): TD(0) + 0.35 µs, or t₀(k) + T_S + 2.0 µs at a cell. -/
def State.fastDeadline (s : State) (k : Nat) : Nat := if s.isArm then s.tallyAt k + 350 else s.t0 k + 2770

/-- The deadline of SLOW in ns (R115, R132): s_j + station cycle − 5 µs, or at an ARM master the latest start of the next FAST. -/
def State.slowDeadline (s : State) (k : Nat) : Nat := if s.isStation then (k + 1) * s.trdlT - 5000 else s.tallyAt (k + 1)

/-- FAST reaches END (R111, R115, R129): after its deadline it counts as an overrun. The first RUN execution after TRACK uses N_ff(k) as
N_eff(k − 1) (R125), which a KEEP then leaves. -/
def State.fastEnd (s : State) (ns : Nat) : State :=
  match s.trdl.fastBusy with
  | none => s
  | some k =>
    let x := s.trdl.fastStage
    let s1 := s.upTrdl fun t => { t with fastNs := dur16 ns, fastMax := max t.fastMax (dur16 ns), fastBusy := none }
    if x.fpe || decide (s.fastDeadline k < s.tb.ntNs) then
      let s2 := s1.overrun k false x.fpe
      if s2.isArm then s2.decideCycle k s2.trdl.nOut true else s2
    else
      let s2 := (s1.commitStage x).upTrdl fun t => { t with
        cycle := k, fastOk := true, lastMode := x.mode
        nEff := if x.hystRan && x.mode == .run && t.lastMode == .track then x.nFf else t.nEff }
      ((s2.ovrEase).event 0x48).fastCommitted k x

/-- TREADLE_FAST_END (R111). -/
def execTreadleFastEnd (ns : Nat) (s : State) : Result := .next (s.onPower (s.fastEnd ns))

/-- SLOW reaches END (R111, R115). -/
def State.slowEnd (s : State) (ns : Nat) : State :=
  match s.trdl.slowBusy with
  | none => s
  | some k =>
    let x := s.trdl.slowStage
    let s1 := s.upTrdl fun t => { t with slowNs := dur16 (ns / 10), slowMax := max t.slowMax (dur16 (ns / 10)), slowBusy := none }
    if x.fpe || (s.isStation && decide (s.slowDeadline k < s.tb.ntNs)) then s1.overrun k true x.fpe
    else
      let y := if x.hystRan then x
        else { x with h := s1.trdl.h, nOut := s1.trdl.nOut, nFf := s1.trdl.nFf, iRef := s1.trdl.iRef, uFf := s1.trdl.uFf }
      let s2 := (s1.commitStage y).upTrdl fun t => { t with
        cycle := k, slowOk := true, slowMode := x.mode }
      (((s2.ovrEase).endRun .trdlSlowSkip 0).event 0x49).sendEpoch k

/-- TREADLE_SLOW_END (R111). -/
def execTreadleSlowEnd (ns : Nat) (s : State) : Result := .next (s.onPower (s.slowEnd ns))

/-- The cycle whose execution has missed its deadline (R115, R129, R132): the one in progress, or the latest whose deadline has passed
without a start. -/
def State.missedCycle (s : State) (slow : Bool) : Option Nat :=
  let now := s.tb.ntNs
  match if slow then s.trdl.slowBusy else s.trdl.fastBusy with
  | some k => if decide ((if slow then s.slowDeadline k else s.fastDeadline k) ≤ now) then some k else none
  | none =>
    if slow then
      (if s.isStation then
        [(now + 5000) / max 1 s.trdlT - 1].find? fun j => decide (s.slowDeadline j ≤ now) && laterThan j s.trdl.slowK
      else none)
    else
      let k := s.weft.k
      [k, k - 1, k - 2].find? fun j =>
        (s.isArm || s.isCell) && s.holdsCycle j && decide (s.fastDeadline j ≤ now) && laterThan j s.trdl.fastK

/-- The deadline of an execution passes (R115, R129, R130, R132). One that has not started counts as well. -/
def State.trdlDeadline (s : State) (slow : Bool) : State :=
  if s.runMode == .stop then s
  else match s.missedCycle slow with
    | none => s
    | some k =>
      if slow then (if s.isStation then s.overrun k true false else s.slowSkip)
      else
        let s1 := s.overrun k false false
        if s.isArm then s1.decideCycle k s1.trdl.nOut true else s1

/-- TREADLE_DEADLINE (R129). -/
def execTreadleDeadline (slow : Bool) (s : State) : Result := .next (s.onPower (s.trdlDeadline slow))

/-! ### Programs (R111, R113) -/

/-- A write of PROGRAM_ACTIVATE (R113): the VCORE setting in force, during a ramp the lower of the two (R427), must carry the program's FAST path. -/
def State.applyProgramActivate (s : State) (value jsn : Nat) : Applied :=
  let fits := fun (path : Nat) => vcoreMinOf s.node.role path ≤ s.vcoreBound
  let put := fun (t : State) => (t.setObj Obj.PROGRAM_ACTIVATE value jsn).yes
  if s.node.role == .relay then s.no .noObject
  else if 1 < value then s.no .range
  else if s.node.nodeState == .service then s.no .state
  else if value == 0 then
    (if fits (if s.isArm then 88 else Config.factoryValue Obj.FAST_PATH) then put (s.upTrdl fun t => { t with std := true }) else s.no .refused)
  else
    let b := if s.trdl.staged then 1 - s.trdl.bank else s.trdl.bank
    let p := vget s.trdl.banks b {}
    if programOk p && !(p.fast.isEmpty && p.slow.isEmpty) && fits ((segPath p.fast).getD 0) then
      put (s.upTrdl fun t => { t with std := false, bank := b, staged := false })
    else s.no .refused

/-- PROGRAM_ACTIVATE (R113). -/
def execProgramActivate (value : Nat) (s : State) : Result :=
  .next (s.onPower (settle Obj.PROGRAM_ACTIVATE 0 (s.applyProgramActivate value 0)))

end Sys2Proof.Machine
end

