-- ==== Sys2Proof/Machine/Gate.lean ====
section
/-!
DEFINITION. Sys2Proof/Machine/Gate.lean: the switching outputs: legs and the dead-time sequencer, LEVEL, CARRIER and DIRECT placement,
shadow loading, the delay line, readback, auxiliary and bypass outputs, and the fault inputs (R139 to R165).
-/
namespace Sys2Proof.Machine

/-! ### The dead-time sequencer (R142, R143) -/

/-- The complement of a switch in its leg: GO0 with GO1, GO2 with GO3. -/
def mate (i : Nat) : Nat := if i % 2 == 0 then i + 1 else i - 1

/-- A pending switch-on takes place at tap `now` (R143): its scheduled time has come, and its complement is off and has been for the
dead time in force. -/
def Gate.switchDue (g : Gate) (now : Nat) (i : Nat) : Bool :=
  match (g.switch i).pendingOn with
  | some t => t ≤ now && !(g.switch (mate i)).on && decide ((g.switch (mate i)).offSince + g.act.deadtime ≤ now)
  | none => false

/-- The instant at which a pending switch-on takes place (R143). -/
def Gate.onTime (g : Gate) (i : Nat) : Nat := max ((g.switch i).pendingOn.getD 0) ((g.switch (mate i)).offSince + g.act.deadtime)

/-- Turn on a switch whose pending switch-on is due. -/
def Gate.trySwitch (g : Gate) (now : Nat) (i : Nat) : Gate :=
  if g.switchDue now i then { g with sw := vset g.sw i { g.switch i with on := true, onAt := g.onTime i, pendingOn := none } } else g

/-- Every due switch-on takes place (R143): at a load of a new dead time as well. -/
def Gate.settle (g : Gate) (now : Nat) : Gate := [0, 1, 2, 3].foldl (fun g i => g.trySwitch now i) g

/-- Turn a switch off at tap `now`, and cancel its pending switch-on (R143). -/
def Gate.switchOff (g : Gate) (now : Nat) (i : Nat) : Gate := { g with sw := vset g.sw i (Switch.force now (g.switch i)) }

/-- Request a switch-on, scheduled at tap `now`; a switch that is on has no edge (R143). -/
def Gate.requestOn (g : Gate) (now : Nat) (i : Nat) : Gate :=
  if (g.switch i).on then g else { g with sw := vset g.sw i { g.switch i with pendingOn := some now } }

/-- A commutation of leg `l` at tap `now` (R143): a pending switch-on is cancelled, the outgoing switch turns off, and the incoming one is
requested. -/
def Gate.commute (g : Gate) (now : Nat) (l : Nat) (target : LegState) : Gate :=
  let up := 2 * l
  let lo := 2 * l + 1
  let g1 := match target with
    | .top => ((g.switchOff now lo).requestOn now up)
    | .bot => ((g.switchOff now up).requestOn now lo)
    | .openLeg => (g.switchOff now up).switchOff now lo
  g1.settle now

/-- The number of switches that differ: edges at the balls. -/
def Gate.edges (a b : Gate) : Nat := ([0, 1, 2, 3].filter fun i => (a.switch i).on != (b.switch i).on).length

/-- The leg states of an insertion state (R142); `zt` is the full-bridge zero pair. -/
def legsOf (full : Bool) (zt : Bool) (i : Insertion) : LegState × LegState :=
  match i with
  | .pos => (.top, if full then .bot else .openLeg)
  | .neg => if full then (.bot, .top) else (.openLeg, .openLeg)
  | .zero => if full then (if zt then (.top, .top) else (.bot, .bot)) else (.bot, .openLeg)
  | .safeOpen => (.openLeg, .openLeg)

/-- The full-bridge zero pair of an entry into the zero state (R142 ZERO_LEGS). -/
def zeroPair (mode : Nat) (already last : Bool) : Bool :=
  match mode with
  | 0 => false
  | 1 => true
  | _ => if already then last else !last

/-- Set the insertion state at tap `now` (R142, R143). -/
def Gate.setIns (g : Gate) (now : Nat) (full : Bool) (zmode : Nat) (i : Insertion) : Gate :=
  let zt := if i == .zero then zeroPair zmode (g.ins == .zero) g.zeroTop else g.zeroTop
  let legs := legsOf full zt i
  let g1 := { g with ins := i, zeroTop := zt, leg1 := legs.1, leg2 := legs.2 }
  let g2 := g1.commute now 0 legs.1
  if full then g2.commute now 1 legs.2 else g2

/-- The cell's bridge is driven: a cell in SERVICE or HOLD with no force on it (R142, R147, R162). -/
def State.bridgeDriven (s : State) : Bool :=
  s.isCell && (s.node.nodeState == .service || s.node.nodeState == .hold) && !s.sel.spb && !s.sel.sby

/-- Change the Gate unit and count the edges that appear at the balls. -/
def State.gateStep (s : State) (f : Gate → Gate) : State :=
  let t := s.upGate f
  t.event 0x50 (s.gate.edges t.gate)

/-- The tap of TRAW at which an edge scheduled at a tap of network time that has come appears: that tap, in the period of REFCLK that ends now;
for an earlier one, which a grid that moves puts into the past (R151), the present. -/
def State.rawTap (s : State) (nt : Int) : Nat :=
  let t := ((s.tb.taps : Int) - (s.tb.ntTap - nt)).toNat
  if t + 128 < s.tb.taps then s.tb.taps else t

/-- Set the insertion state with edges scheduled at a tap of network time, where the bridge is driven (R142, R144). -/
def State.insertNow (s : State) (nt : Int) (i : Insertion) : State :=
  if s.bridgeDriven then s.gateStep fun g => g.setIns (s.rawTap nt) (s.objEff Obj.BRIDGE == 1) (s.obj Obj.ZERO_LEGS) i else s

/-- DEADTIME_EXPIRY (R143): a pending switch-on of an output takes place once its complement has been off for the dead time. -/
def execDeadtimeExpiry (out : Nat) (s : State) : Result :=
  .next (s.onLane (if s.bridgeDriven && out < 4 then s.gateStep fun g => g.trySwitch s.tb.taps out else s))

/-! ### Shadow registers (R156 to R158) -/

/-- A shadow is pending and was not written in the present step (R158). -/
def GateShadow.ripe (h : GateShadow) (now i : Nat) : Bool := vget h.since i 0 < now

/-- A pending value, where it is ripe. -/
def GateShadow.pick {α : Type} (h : GateShadow) (now i : Nat) (v : Option α) : Option α := if h.ripe now i then v else none

/-- Load the shadows that load at every boundary independently: DEADTIME, EDGE_OFS and CMPT0 to CMPT3 (R157). -/
def Gate.loadFree (g : Gate) (now : Nat) : Gate :=
  let h := g.sh
  let dt := h.pick now 2 h.deadtime
  let eo := h.pick now 3 h.edgeOfs
  let c := fun (i : Fin 4) => h.pick now (5 + i) (vget h.cmpt i none)
  { g with
    act := { g.act with deadtime := dt.getD g.act.deadtime, edgeOfs := eo.getD g.act.edgeOfs,
                        cmpt := Vector.ofFn fun i => (c i).getD (vget g.act.cmpt i 0) }
    sh := { h with deadtime := if dt.isSome then none else h.deadtime, edgeOfs := if eo.isSome then none else h.edgeOfs,
                   cmpt := Vector.ofFn fun i => if (c i).isSome then none else vget h.cmpt i none } }

/-- Load PERIOD. -/
def Gate.loadPeriod (now : Nat) (g : Gate) : Gate :=
  match g.sh.pick now 0 g.sh.period with
  | some v => { g with act := { g.act with period := v }, sh := { g.sh with period := none, wait := 0 } }
  | none => g

/-- Load PHASE. -/
def Gate.loadPhase (now : Nat) (g : Gate) : Gate :=
  match g.sh.pick now 1 g.sh.phase with
  | some v => { g with act := { g.act with phase := v }, sh := { g.sh with phase := none } }
  | none => g

/-- Load DUTY. -/
def Gate.loadDuty (now : Nat) (g : Gate) : Gate :=
  match g.sh.pick now 4 g.sh.duty with
  | some v => { g with act := { g.act with duty := v }, sh := { g.sh with duty := none, dutyPartner := false } }
  | none => g

/-- Load PERIOD, PHASE and DUTY without coupling (R156, R157). -/
def Gate.loadAll (now : Nat) (g : Gate) : Gate := Gate.loadDuty now (Gate.loadPhase now (Gate.loadPeriod now g))

/-- The boundary of a coupled CARRIER grid (R157). -/
def Gate.loadCoupled (now : Nat) (g : Gate) : Gate :=
  if (g.sh.pick now 0 g.sh.period).isNone then Gate.loadDuty now (Gate.loadPhase now g)
  else if g.sh.dutyPartner && (g.sh.pick now 4 g.sh.duty).isSome then g.loadAll now
  else if g.sh.wait + 1 == 4 then
    let g1 := Gate.loadPhase now (Gate.loadPeriod now g)
    { g1 with mismatch := satAdd 32 g1.mismatch 1, evt := setBit32 g1.evt 1 }
  else
    let g1 := { g with sh := { g.sh with wait := g.sh.wait + 1 } }
    if g1.sh.dutyPartner then g1 else g1.loadDuty now

/-- A load boundary of LEVEL or DIRECT mode (R156). -/
def State.loadPlain (s : State) : State := s.gateStep fun g => ((g.loadAll s.tb.taps).loadFree s.tb.taps).settle s.tb.taps

/-- A load boundary of CARRIER mode (R157). -/
def State.loadCarrier (s : State) : State :=
  s.gateStep fun g =>
    (((if s.objB Obj.COUPLED then g.loadCoupled s.tb.taps else g.loadAll s.tb.taps)).loadFree s.tb.taps).settle s.tb.taps

/-- A value reaches a shadow register (R156, R157): `i` is its place in `since`. -/
def GateShadow.mark (h : GateShadow) (i now : Nat) : GateShadow := { h with since := vset h.since i now }

/-- An applied object write reaches its shadow (R156 to R158). A second PERIOD replaces the first and restarts the count. -/
def State.gateShadow (s : State) (key v : Nat) : State :=
  let now := s.tb.taps
  let h := s.gate.sh
  let put := fun (h' : GateShadow) (i : Nat) => s.upGate fun g => { g with sh := h'.mark i now }
  if key == Obj.GATE_PERIOD then
    put { h with period := some v, wait := 0, dutyPartner := h.duty.isSome && vget h.since 4 0 == now } 0
  else if key == Obj.PHASE then put { h with phase := some v } 1
  else if key == Obj.DEADTIME then put { h with deadtime := some v } 2
  else if key == Obj.EDGE_OFS then put { h with edgeOfs := some (toSigned 32 v) } 3
  else if Obj.CMPT0 ≤ key && key < Obj.CMPT0 + 4 then
    put { h with cmpt := vset h.cmpt (key - Obj.CMPT0) (some v) } (5 + (key - Obj.CMPT0))
  else s

/-- The end of BOOT (R140, R156): the stored values become active, and the outputs are driven with GO_POL. -/
def State.gateBoot (s : State) : State :=
  s.upGate fun g => { g with
    hiz := false, goPol := s.objEff Obj.GO_POL
    act := { g.act with period := s.obj Obj.GATE_PERIOD, phase := s.obj Obj.PHASE, deadtime := s.obj Obj.DEADTIME,
                        edgeOfs := s.objI Obj.EDGE_OFS 32, cmpt := Vector.ofFn fun i => s.obj (Obj.CMPT0 + i) } }

/-! ### LEVEL mode (R147, R148) -/

/-- t_e(k) has come, once, in LEVEL mode (R147, R156). -/
def State.edgeDue (s : State) (k : Nat) : Bool :=
  s.obj Obj.GATE_MODE == 0 && s.gateTw != 0 && s.node.nodeState != .boot && !s.edgePast k && decide (s.edgeTap k ≤ s.tb.ntTap)

/-- t_e(k) in LEVEL mode (R147, R156): the shadows load, and at a cell in SERVICE or HOLD a valid decision of an eligible cell sets the
legs. -/
def State.levelEdge (s : State) (k : Nat) : State :=
  if !s.edgeDue k then s
  else
    let at' := s.edgeTap k
    let s1 := (s.upGate fun g => { g with edgeK := some k }).loadPlain
    match s1.weft.decisions.find? (·.k == k) with
    | none => s1
    | some d =>
      if d.late then s1
      else match d.action with
        | .keep => s1
        | .goZero => s1.insertNow at' .zero
        | .insert neg => s1.insertNow at' (if neg then .neg else .pos)

/-- t₀(k) at a node without a Weft (R156): in DIRECT mode the load boundary, once. DESIGN CHOICE(143). -/
def State.gridStart (s : State) (k : Nat) : State :=
  if s.gateTw == 0 || k != s.tb.ntNs / s.gateTw || !laterThan k s.gate.gridK || s.node.nodeState == .boot then s
  else
    let s1 := s.upGate fun g => { g with gridK := some k }
    if s.obj Obj.GATE_MODE == 2 then s1.loadPlain else s1

/-- LEVEL_EDGE_INSTANT (R147). -/
def execLevelEdgeInstant (k : Nat) (s : State) : Result := .next (s.onLane (s.levelEdge k))

/-! ### CARRIER mode (R149 to R152) -/

/-- The PHASE in use (R149). -/
def State.phaseInUse (s : State) : Nat :=
  if s.isCell && s.objB Obj.PHASE_AUTO && s.weft.population != 0 then placePos s.node.place * s.gate.act.period / s.weft.population
  else s.gate.act.phase

/-- The first boundary of the grid at or after a tap (R149). -/
def gridFrom (period phase : Nat) (t : Int) : Int :=
  if period == 0 then t else t + ((phase : Int) - t) % (period : Int)

/-- The boundary that ends the period which began at b (R150, R151): the first one at least half a PERIOD after it. -/
def State.periodEnd (s : State) (b : Int) : Int :=
  gridFrom s.gate.act.period s.phaseInUse (b + ((s.gate.act.period + 1) / 2 : Nat))

/-- round(|d| × L), ties away from zero (R150). -/
def dutyTaps (d : F32) (l : Nat) : Nat :=
  match F32.toDy d with
  | none => 0
  | some (m, e) => (F32.dyFloor (F32.dyAdd (m.natAbs * l, e) (1, -1))).toNat

/-- D after MIN_PULSE, and whether it was adjusted (R150). -/
def minPulse (mp d l : Nat) : Nat × Bool :=
  if d < mp then (0, true) else if l - d < mp && 0 < d then (l, true) else (d, false)

/-- The inserted interval of a period of length L that begins at b: offsets from b (R150 ALIGN). -/
def insertedFrom (align d l : Nat) : Nat := if align == 0 then (l - d) / 2 else 0

/-- The edges of a period (R150): zero or inserted at its start, and the two ends of the inserted interval. An entry with output 0
inserts positively, with output 1 negatively; its level tells insertion from zero. -/
def periodEdges (b ofs : Int) (a d l : Nat) (neg : Bool) : List SchedEdge :=
  let o := if neg then 1 else 0
  let start : List SchedEdge := [⟨o, b + ofs, decide (a == 0 ∧ 0 < d)⟩]
  let up : List SchedEdge := if 0 < a && 0 < d then [⟨o, b + ofs + a, true⟩] else []
  let down : List SchedEdge := if 0 < d && a + d < l then [⟨o, b + ofs + a + d, false⟩] else []
  start ++ up ++ down

/-- Plan the period that begins at b (R150 to R152): its length, its duty and its edges, where the carrier drives the legs. A bridge
edge of the period before that EDGE_OFS places before the first edge of this one keeps its place. A period counts once in REALIGN and once
in MINPULSE, however often it is planned again; only a cell has a duty to adjust. -/
def State.planPeriod (s : State) (b : Int) (drive : Bool) : State :=
  let l := (s.periodEnd b - b).toNat
  let d0 := dutyTaps s.gate.act.duty l
  let mp := minPulse (s.obj Obj.MIN_PULSE) d0 l
  let a := insertedFrom (s.obj Obj.ALIGN) mp.1 l
  s.upGate fun g => { g with
    carStart := b, carLen := l, carRun := drive
    realign := if l != g.act.period && !g.carAdj then satAdd 32 g.realign 1 else g.realign
    minpulse := if mp.2 && s.isCell && !g.carMin then satAdd 32 g.minpulse 1 else g.minpulse
    evt := if l != g.act.period && !g.carAdj then setBit32 g.evt 2 else g.evt
    carAdj := g.carAdj || l != g.act.period, carMin := g.carMin || (mp.2 && s.isCell)
    sched := g.sched.filter (fun e => 4 ≤ e.out || drive && decide (e.tap < b + g.act.edgeOfs)) ++ (if drive then periodEdges b g.act.edgeOfs a mp.1 l (F32.neg g.act.duty) else []) }

/-- A MIN_PULSE adjustment is an event of source 0x53 (R301). -/
def State.planCounted (s : State) (b : Int) (drive : Bool) : State :=
  let t := s.planPeriod b drive
  if t.gate.minpulse != s.gate.minpulse then t.event 0x53 else t

/-- A scheduled bridge edge appears (R150, R152): in HOLD a cell places no new edges. -/
def State.carrierEdge (s : State) (e : SchedEdge) : State :=
  if s.node.nodeState != .service || !s.gate.carRun then s
  else s.insertNow e.tap (if e.level then (if e.out == 1 then .neg else .pos) else .zero)

/-! ### DIRECT mode and scheduled edges (R144, R154) -/

/-- A scheduled edge is placed on its output (R144, R150, R154). -/
def State.placeEdge (s : State) (e : SchedEdge) : State :=
  let s1 := s.upGate fun g => { g with sched := g.sched.filter fun x => x.tap != e.tap || (x.out != e.out && (4 ≤ x.out || 4 ≤ e.out)) }
  if e.out < 4 then s1.carrierEdge e
  else
    (s1.upGate fun g => { g with
      go6 := if e.out == 6 then e.level else g.go6, go7 := if e.out == 7 then e.level else g.go7, dctrl := g.dctrl % 4 }).event 0x50

/-- The tap at which a scheduled edge appears (R144, R154): on GO6 and GO7 the EDGE_OFS in force applies. -/
def State.edgeAt (s : State) (e : SchedEdge) : Int := if e.out < 4 then e.tap else e.tap + s.gate.act.edgeOfs

/-- The next scheduled edge of an output that is due (R144). GO0 to GO3 share the bridge's edges; of edges on it in one tap, which drop one
another, the last gives the state that is left. -/
def State.dueEdge (s : State) (out : Nat) : Option SchedEdge :=
  let mine := s.gate.sched.filter fun e => (e.out == out || (e.out < 4 && out < 4)) && decide (s.edgeAt e ≤ s.tb.ntTap)
  mine.head?.bind fun e => (mine.filter fun x => x.tap == e.tap).getLast?

/-- SCHEDULED_EDGE (R144): an edge reaches its tap time. -/
def execScheduledEdge (out : Nat) (s : State) : Result :=
  .next (s.onLane (match s.dueEdge out with | some e => s.placeEdge e | none => s))

/-- Place the bridge edges that are due at once: those of a boundary with an EDGE_OFS at or before it. -/
def State.placeDue (s : State) : State :=
  (s.gate.sched.filter fun e => decide (e.out < 4 ∧ e.tap ≤ s.tb.ntTap)).foldl State.placeEdge s

/-- The carrier grid runs: CARRIER mode from the end of JOIN onward (R149), in every role, for its load boundaries and compare triggers (R156,
R159); only a cell drives legs with it. -/
def State.gridRuns (s : State) : Bool := s.obj Obj.GATE_MODE == 1 && s.node.nodeState.isJoined && s.gate.act.period != 0

/-- The boundary of the grid at or before the present tap time (R149). -/
def State.gridNow (s : State) : Int := s.tb.ntTap - ((s.tb.ntTap - (s.phaseInUse : Int)) % (s.gate.act.period : Int))

/-- A boundary of the grid has come (R149, R150): the end of the period in progress, or the first one since the grid runs. -/
def State.boundary (s : State) : Option Int :=
  if !s.gridRuns then none
  else if s.gate.carLen == 0 then some s.gridNow
  else if s.gate.carStart + s.gate.carLen ≤ s.tb.ntTap then some (s.gate.carStart + s.gate.carLen)
  else none

/-- A boundary of the carrier grid (R150, R157): the shadows load and the period that starts there is planned. -/
def State.carrierBoundary (s : State) : State :=
  match s.boundary with
  | some b =>
    let s1 := s.upGate fun g => { g with carPrev := (g.carStart, g.carLen), carAdj := false, carMin := false }
    (s1.loadCarrier.planCounted b (s.isCell && s.node.nodeState == .service)).placeDue
  | none => s

/-- CARRIER_BOUNDARY (R150). -/
def execCarrierBoundary (s : State) : Result := .next (s.onLane s.carrierBoundary)

/-- Of the bridge edges at or before `now` only the last stays: the state that a plan prescribes at this instant. -/
def lastDue (now : Int) (l : List SchedEdge) : List SchedEdge :=
  let due := fun (e : SchedEdge) => decide (e.out < 4 ∧ e.tap ≤ now)
  match (l.filter due).getLast? with
  | some e => e :: l.filter fun x => !due x
  | none => l

/-- The grid has moved (R151): the period in progress ends at the first boundary of the new grid at least half a PERIOD after its start. -/
def State.regrid (s : State) : State :=
  if s.gridRuns && s.gate.carLen != 0 then
    let s1 := s.planCounted s.gate.carStart s.gate.carRun
    (s1.upGate fun g => { g with sched := lastDue s1.tb.ntTap g.sched }).placeDue
  else s

/-- The tap time of the first t₀ after now (R154). -/
def State.nextT0Tap (s : State) : Int := (((s.tb.ntNs / s.gateTw + 1) * s.gateTw * 64 / 5 : Nat) : Int)

/-- A write of GATE.DCTRL (R154): in DIRECT mode, ARMED schedules one edge and replaces one not yet placed. EDGE_OFS applies as it is in
force when the edge falls due. -/
def State.directArm (s : State) (value : Nat) : State :=
  let v := value % 8
  let out := 6 + v % 2
  let s1 := s.upGate fun g => { g with dctrl := v }
  if s.obj Obj.GATE_MODE == 2 && bitOf v 2 && s.gateTw != 0 then
    s1.upGate fun g => { g with
      sched := g.sched.filter (·.out < 4) ++ [⟨out, s.nextT0Tap + g.dofs, bitOf v 1⟩] }
  else s1

/-- DIRECT_ARM (R154). -/
def execDirectArm (value : Nat) (s : State) : Result := .next (s.onPower (s.directArm value))

/-! ### Auxiliary and bypass outputs (R141, R155, R162) -/

/-- A level for GO6 and GO7 (R155): in DIRECT mode the outputs follow it. -/
def State.setAux (s : State) (v : Nat) : State :=
  let a := v % 4
  s.upGate fun g =>
    if s.obj Obj.GATE_MODE == 2 then { g with aux := a, go6 := bitOf a 0, go7 := bitOf a 1 } else { g with aux := a }

/-- A write of AUX_LEVEL (R155). -/
def State.applyAux (s : State) (value jsn : Nat) : Applied :=
  if 255 < value then s.no .range else ((s.setObj Obj.AUX_LEVEL value jsn).setAux value).yes

/-- AUX_WRITE (R155): of the register by a worker core, or of the object. -/
def execAuxWrite (object : Bool) (value : Nat) (s : State) : Result :=
  .next (s.onPower (if object then settle Obj.AUX_LEVEL 0 (s.applyAux value 0) else s.setAux value))

/-- The pulse train is active now (R141): for BYP_PULSE_W from the start of every BYP_PULSE_P since the bypass command. -/
def State.pulseOn (s : State) : Bool :=
  decide ((s.tb.taps - s.gate.bypAt) % (s.obj Obj.BYP_PULSE_P * tapsUs) < s.obj Obj.BYP_PULSE_W * tapsUs)

/-- BYPASS_PULSE (R141): GO4 follows its pulse train while the bypass is commanded; `level` is the level that begins now. While REFCLK is lost
the island keeps the train on IOSC, and the command itself says which level has come. DESIGN CHOICE(162). -/
def execBypassPulse (level : Bool) (s : State) : Result :=
  .next (s.onPower (
    if s.bypassCommanded && s.obj Obj.GO4_MODE == 1 && (!s.tb.refOk || level == s.pulseOn) then s.upGate fun g => { g with bypPulse := level } else s))

/-! ### Delay line and readback (R145, R146) -/

/-- DELAY_LINE_CAL (R145), CAL_PERIOD after the last one: `span` is the number of delay elements found in one REFCLK period. -/
def State.delayCal (s0 : State) (span : Nat) : State :=
  let s := s0.upGate fun g => { g with calAt := s0.tb.taps }
  if s0.node.nodeState == .boot || s0.tb.taps < s0.gate.calAt + s0.obj Obj.CAL_PERIOD * tapsMs then s0
  else if 140 ≤ span && span ≤ 250 then s.upGate fun g => { g with calSpan := span - 140, calOk := true }
  else (s.upGate fun g => { g with cals := satAdd 32 g.cals 1, evt := setBit32 g.evt 3 }).raise .gateCal

/-- DELAY_LINE_CAL (R145). -/
def execDelayLineCal (span : Nat) (s : State) : Result := .next (s.onLane (s.delayCal span))

/-- GO_READBACK (R146): the readback of a driven ball has stood at a level for 100 ns; not compared within 100 ns of a commanded edge, so that a
readback that differs counts 200 ns after it at the earliest. -/
def State.readback (s : State) (out : Nat) (level : Bool) : State :=
  if 7 < out || s.gate.hiz || decide (s.tb.taps < s.lastGoEdge out + 1280) then s
  else
    let s1 := s.upGate fun g => { g with rb := vset g.rb out (some (level, s.tb.taps)) }
    if level != s.goLevel out then
      (if s.inRun .goReadback out || decide (s.tb.taps < s.lastGoEdge out + 2560) then s1
      else
        ((s1.upGate fun g => { g with readback := satAdd 32 g.readback 1, evt := setBit32 g.evt 4 }).startRun .goReadback out).raise
          .goReadback out)
    else s1.endRun .goReadback out

/-- GO_READBACK (R146); without VDDIO_B the readback reads low (R455). -/
def execGoReadback (out : Nat) (level : Bool) (s : State) : Result := .next (s.onPower (s.readback out (level && s.sys.vddioB)))

/-! ### Fault inputs (R160, R161, R164, R165) -/

/-- The action of a latch (R161, R165, R166). -/
def State.fltLatch (s : State) (n action : Nat) : State :=
  let s1 := (s.upGate fun g => { g with
    flt := vset g.flt n { vget g.flt n {} with latched := true }, forces := satAdd 32 g.forces 1
    evt := if action == 0 then g.evt else setBit32 g.evt 0 }).event 0x51
  if action == 0 then s1.raise .fltAlarm n
  else if action == 2 && s.isCell then (s1.safePattern.recordEv { name := .fltTrip, arg := n }).latchSby 3
  else (if s.isCell then s1.safePattern else s1).raise .fltTrip n

/-- FLT_FILTER_EXPIRY (R160): the ball has stood at a level for FLT_FILTn; LOW makes the low level the active one. DESIGN CHOICE(142): the
table has no command for the change of the ball itself, so RAW takes the level here. -/
def State.fltExpiry (s : State) (n : Nat) (level : Bool) : State :=
  if 5 < n then s
  else
    let cfg := s.obj (Obj.FLT_CFG0 + n)
    let active := level != bitOf cfg 1
    let s1 := s.upGate fun g => { g with flt := vset g.flt n { vget g.flt n {} with raw := level, act := active } }
    if active && bitOf cfg 0 && s.node.nodeState != .boot && !(vget s.gate.flt n {}).latched then s1.fltLatch n (bitsOf cfg 3 2) else s1

/-- The level of an FLT ball; without VDDIO_B it reads inactive (R455). -/
def State.fltBall (s : State) (n : Nat) (level : Bool) : Bool := if s.sys.vddioB then level else bitOf (s.obj (Obj.FLT_CFG0 + n)) 1

/-- FLT_FILTER_EXPIRY (R160). -/
def execFltFilterExpiry (n : Nat) (level : Bool) (s : State) : Result := .next (s.onPower (s.fltExpiry n (s.fltBall n level)))

/-- FLT_CLEAR of one named input (R164): released where the input is inactive, else refused and counted. -/
def State.fltClearOne (mask : Nat) (s : State) (n : Nat) : State :=
  let f := vget s.gate.flt n {}
  if !bitOf mask n || !f.latched then s
  else if f.act then s.upGate fun g => { g with clearRefused := satAdd 32 g.clearRefused 1 }
  else
    (s.upGate fun g => { g with flt := vset g.flt n { f with latched := false } }).upNode fun d =>
      { d with faults := d.faults.filter fun x => x.name != .fltTrip || x.arg != n }

/-- A write of FLT_CLEAR (R164): where any named input is refused, the command answers REFUSED. -/
def State.applyFltClear (s : State) (mask : Nat) : Applied :=
  if 63 < mask then s.no .range
  else
    let bad := [0, 1, 2, 3, 4, 5].any fun n => bitOf mask n && (vget s.gate.flt n {}).latched && (vget s.gate.flt n {}).act
    (if bad then .refused else .ok, [0, 1, 2, 3, 4, 5].foldl (State.fltClearOne mask) s)

/-- FLT_CLEAR (R164). -/
def execFltClear (mask : Nat) (s : State) : Result := .next (s.onPower (settle Obj.FLT_CLEAR 0 (s.applyFltClear mask)))

end Sys2Proof.Machine
end

