-- ==== Sys2Proof/Machine/Adc.lean ====
section
/-!
DEFINITION. Sys2Proof/Machine/Adc.lean: the converter cores: triggers and pending runs, the order of work, results, the capacitor and
sensor entries, the reference, calibration, the checks of a sequence table, and the compare triggers (R159, R169 to R189).
-/
namespace Sys2Proof.Machine

/-! ### The entry table (R170, R171, R176) -/

/-- Core `c`. -/
def State.adcCore (s : State) (c : Nat) : AdcCore := vget s.adc.cores c {}

/-- Change core `c`. -/
def State.upAdcCore (s : State) (c : Nat) (f : AdcCore → AdcCore) : State :=
  s.upAdc fun a => { a with cores := vset a.cores c (f (vget a.cores c {})) }

/-- ENTRYn of a core. -/
def State.adcEntry (s : State) (c n : Nat) : Nat := s.obj (Obj.ENTRY0 + 256 * c + n)

/-- The channel, gain, trigger and sampling time of an entry (R176). -/
def entryCh (v : Nat) : Nat := v % 16
def entryGain (v : Nat) : Nat := bitsOf v 6 4
def entryTrig (v : Nat) : Nat := bitsOf v 11 8
def entrySamp (v : Nat) : Nat := bitsOf v 31 16

/-- The duration d_e of an entry in ns (R171). -/
def entryNs (v : Nat) : Nat := entrySamp v * 10 + 320

/-- The entries in use (R176). -/
def State.adcLen (s : State) (c : Nat) : Nat := s.obj (Obj.LEN + 256 * c)

/-- The entry that a trigger starts (R177). -/
def State.adcStart (s : State) (c trig : Nat) : Option Nat :=
  (List.range (s.adcLen c)).find? fun i => entryTrig (s.adcEntry c i) == trig

/-- The next entry of a run: the following one, while it is CHAIN (R177). -/
def State.adcNext (s : State) (c i : Nat) : Option Nat :=
  if i + 1 < s.adcLen c && entryTrig (s.adcEntry c (i + 1)) == 0 then some (i + 1) else none

/-- The entries of a run from an entry on (R177), by the count of entries left. -/
def State.adcRun (s : State) (c : Nat) : Nat → Nat → List Nat
  | 0, i => [i]
  | f + 1, i => match s.adcNext c i with
    | some j => i :: s.adcRun c f j
    | none => [i]

/-- The fraction of full scale of a raw result as binary32 (R170). -/
def adcX (ch raw : Nat) : F32 :=
  if 8 ≤ ch && ch < 12 then F32.ofRat (toSigned 16 raw) 32768 else F32.ofRat (raw % 65536 : Nat) 65536

/-! ### The checks of ENABLE (R177, R186, R187) -/

/-- The TB interval in ns: T_W of a cell or ARM master, STATION_CYCLE of a STATION; 0 while it is not known (R177, R179). -/
def State.tbInterval (s : State) : Nat :=
  if s.isStation then s.objEff Obj.STATION_CYCLE else if s.isArm then s.objEff Obj.WEFT_PERIOD else s.weft.tw

/-- The total duration of the TB run of a core in ns. -/
def State.tbRunNs (s : State) (c : Nat) : Nat :=
  match s.adcStart c 1 with
  | some i => (s.adcRun c 16 i).foldl (fun n j => n + entryNs (s.adcEntry c j)) 0
  | none => 0

/-- The entries outside the TB run fit what it leaves of the interval, and the run fits the interval (R177). -/
def State.tbFits (s : State) (c : Nat) : Bool :=
  let t := s.tbInterval
  let run := match s.adcStart c 1 with | some i => s.adcRun c 16 i | none => []
  s.tbRunNs c ≤ t
    && (List.range (s.adcLen c)).all fun i => run.contains i || decide (entryNs (s.adcEntry c i) + s.tbRunNs c ≤ t)

/-- The checks of a table that do not involve the TB interval (R177). -/
def State.tableOk (s : State) (c : Nat) : Bool :=
  let es := (List.range (s.adcLen c)).map (s.adcEntry c)
  let trigs := (es.map entryTrig).filter (· != 0)
  es.all (fun v => entryCh v < 12 || entryGain v == 0) && decide trigs.Nodup && (s.node.role != .relay || !trigs.contains 1)

/-- The table passes the checks of a write of ENABLE = 1 (R177): a cell without T_W and a RELAY have no TB interval to check. -/
def State.adcTableOk (s : State) (c : Nat) : Bool :=
  s.tableOk c && (s.node.role == .relay || (s.isCell && s.weft.tw == 0) || s.tbFits c)

/-- A write to a core's configuration is refused in SERVICE and HOLD; at a pair, by the active member only (R178). -/
def State.adcLocked (s : State) : Bool :=
  (s.node.nodeState == .service || s.node.nodeState == .hold) && (!s.isMember || s.isActive)

/-- A write of ENABLE (R177, R178). -/
def State.applyAdcEnable (s : State) (c value jsn : Nat) : Applied :=
  if 1 < c then s.no .noObject
  else if 1 < value then s.no .range
  else if s.adcLocked then s.no .state
  else if value == 1 && !s.adcTableOk c then s.no .refused
  else ((s.setObj (Obj.ENABLE + 256 * c) value jsn).upAdcCore c fun k => { k with enabled := value == 1 }).yes

/-- ADC_ENABLE (R177). -/
def execAdcEnable (core value : Nat) (s : State) : Result :=
  .next (s.onPower (settle (Obj.ENABLE + 256 * core) 0 (s.applyAdcEnable core value 0)))

/-- A stored ENABLE comes into force where its table passes (R48, R177). -/
def State.adcEnableStored (s : State) (c : Nat) : State :=
  s.upAdcCore c fun k => { k with enabled := s.objB (Obj.ENABLE + 256 * c) && s.adcTableOk c }

/-- A core at a hand-over of T_W (R177): only the checks that involve the TB interval are made again. -/
def State.adcHandCore (s : State) (c : Nat) : State :=
  s.upAdcCore c fun k => { k with enabled := s.objB (Obj.ENABLE + 256 * c) && s.tbFits c && (k.enabled || s.tableOk c) }

/-- The checks at a hand-over of T_W (R177): a core that fails converts nothing, and the cell raises F2 ADC_CONFIG. -/
def State.adcHandover (s : State) : State :=
  let bad := [0, 1].any fun c => s.objB (Obj.ENABLE + 256 * c) && !s.tbFits c
  let s1 := (s.adcHandCore 0).adcHandCore 1
  if bad then s1.raise .adcConfig else s1

/-- The conditions of a journaled enable that concern measurement (R188). -/
def State.adcReadyForEnable (s : State) : Bool :=
  let e0 := s.adcEntry 0 0
  let e1 := s.adcEntry 1 0
  (s.adcCore 0).enabled && s.adcLen 0 != 0 && entryTrig e0 == 1 && s.adc.refReady
    && (s.obj Obj.SENSOR_SLOT == 0
      || ((s.adcCore 1).enabled && s.adcLen 1 != 0 && entryTrig e1 == 1 && 8 ≤ entryCh e1 && entryCh e1 < 12))

/-! ### Triggers (R172, R174, R179, R180, R182) -/

/-- A trigger that arrives while the reference is not ready is dropped (R172). -/
def State.adcRefWait (s : State) (c : Nat) : State :=
  (s.upAdc fun a => { a with refWaits := satAdd 32 a.refWaits 1 }).upAdcCore c fun k => { k with stat := setBit32 k.stat 19 }

/-- A trigger or an urgent request is lost (R174, R182, R183): counted. -/
def State.adcLost (s : State) (c : Nat) : State :=
  ((s.upAdc fun a => { a with trigLosts := satAdd 32 a.trigLosts 1, evt := setBit32 a.evt 3 }).upAdcCore c fun k =>
    { k with stat := setBit32 k.stat 17 }).event 0x4F

/-- A run of a CMPT or SW trigger is pending or running (R182); `n` is the trigger's code. -/
def AdcCore.runBusy (k : AdcCore) (n : Nat) : Bool :=
  if n == 6 then k.swPend.isSome || (match k.cur with | .sw _ => true | _ => false)
  else (vget k.cmptPend (n - 2) none).isSome || (match k.cur with | .cmpt m _ => m == n - 2 | _ => false)

/-- Put a run's entry into its pending place. -/
def AdcCore.putRun (k : AdcCore) (n : Nat) (e : Option Nat) : AdcCore :=
  if n == 6 then { k with swPend := e } else { k with cmptPend := vset k.cmptPend (n - 2) e }

/-- A CMPT or SW trigger at a core (R172, R174, R182); `n` is the code of R176. -/
def State.adcTrigger (s : State) (n c : Nat) : State :=
  if !(s.adcCore c).enabled then s
  else match s.adcStart c n with
    | none => s
    | some e =>
      if !s.adc.refReady then s.adcRefWait c
      else if s.adc.calBusy then s.adcLost c
      else if (s.adcCore c).runBusy n then (s.adcLost c).raiseRun .adcTrigLost (8 * c + n)
      else (s.endRun .adcTrigLost (8 * c + n)).upAdcCore c fun k => k.putRun n (some e)

/-- SW_TRIGGER (R180): a write of ADCn.SWTRIG with GO. -/
def execSwTrigger (core value : Nat) (s : State) : Result :=
  .next (s.onPower (if value % 2 == 1 && core < 2 then s.adcTrigger 6 core else s))

/-- The periods to which compare offsets refer, the one in progress first: each with its reference and its length, in taps of network time
(R159). -/
def State.cmptPeriods (s : State) : List (Int × Nat) :=
  if s.obj Obj.GATE_MODE == 1 then [(s.gate.carStart, s.gate.carLen), s.gate.carPrev]
  else s.cycleRefs.map fun r => (r, s.gateTw * 64 / 5)

/-- The tap at which the reference plus CMPTn lies in the period of REFCLK that ends now (R159). -/
def State.cmptHits (s : State) (n : Nat) (p : Int × Nat) : Bool :=
  let o := vget s.gate.act.cmpt n 0xFFFFFFFF
  let before : Int := (s.tb.ntFAt (s.tb.taps - 128)).fdiv 5120
  o != 0xFFFFFFFF && decide (o < p.2) && decide (before < p.1 + o ∧ p.1 + o ≤ s.tb.ntTap) && vget s.gate.cmptAt n none != some p.1

/-- The reference of the period in which CMPTn falls due now, once (R159). -/
def State.cmptRef (s : State) (n : Nat) : Option Int :=
  if 3 < n || s.node.nodeState == .boot then none else (s.cmptPeriods.find? (s.cmptHits n)).map (·.1)

/-- CMPTn falls due now (R159): the tap time has reached the reference plus CMPTn. -/
def State.cmptDue (s : State) (n : Nat) : Bool := (s.cmptRef n).isSome

/-- CMPT_TRIGGER (R159): the interrupt bit, the event, and the two cores. -/
def State.cmptTrigger (s : State) (n : Nat) : State :=
  if !s.cmptDue n then s
  else
    let s1 := (s.upGate fun g => { g with evt := setBit32 g.evt (5 + n), cmptAt := vset g.cmptAt n (s.cmptRef n) }).event 0x52
    (s1.adcTrigger (2 + n) 0).adcTrigger (2 + n) 1

/-- CMPT_TRIGGER (R159). -/
def execCmptTrigger (n : Nat) (s : State) : Result := .next (s.onLane (s.cmptTrigger n))

/-- The TB trigger can fire: the node holds its interval, and its time is locked (R179). -/
def State.tbArmed (s : State) : Bool := s.node.role != .relay && s.tbInterval != 0 && s.tb.state == .locked

/-- The entries of the previous TB run that have not started are abandoned (R182). -/
def State.abandonTb (s : State) (c : Nat) : State :=
  match (s.adcCore c).tbRest with
  | none => s
  | some i =>
    let n := (s.adcRun c 16 i).length
    (s.upAdc fun a => { a with aborts := satAdd 32 a.aborts n }).upAdcCore c fun k => { k with tbRest := none, stat := setBit32 k.stat 18 }

/-- The entry of work in progress. -/
def AdcWork.entry : AdcWork → Nat
  | .none => 0
  | .tb e => e
  | .urgent e => e
  | .tbRest e => e
  | .cmpt _ e => e
  | .sw e => e
  | .slot _ => 0

/-- Work in its sampling phase goes back to its pending place, to be converted again from its start (R183). -/
def AdcCore.putBack (k : AdcCore) : AdcCore :=
  match k.cur with
  | .tbRest e => { k with cur := .none, tbRest := some e }
  | .cmpt n e => { k with cur := .none, cmptPend := vset k.cmptPend n (some e) }
  | .sw e => { k with cur := .none, swPend := some e }
  | .slot _ => { k with cur := .none }
  | .none | .tb _ | .urgent _ => k

/-- The first TB instant at or after an instant, in ns (R179): on the grid, or the one that was pending at a step and keeps its real instant
(R265). -/
def State.tbNext (s : State) (ns : Nat) : Nat :=
  let t := max 1 s.tbInterval
  let g := (ns + t - 1) / t * t
  match s.adc.tbPend with
  | some p => if ns ≤ p then min p g else g
  | none => g

/-- The present period of REFCLK holds P − t_samp of a TB entry (R179). -/
def State.tbNow (s : State) (v : Nat) : Bool :=
  let p := s.tb.ntNs + entrySamp v * 10
  decide (s.tbNext p < p + 10)

/-- The pending TB instant after a step by `d` ns of a network time that stood at `before` (R265): off the grid it is held. -/
def State.tbShift (s : State) (before : Nat) (d : Int) : State :=
  let p := ((s.tbNext (before + 1) : Nat) + d).toNat
  if s.tbInterval == 0 then s
  else s.upAdc fun a => { a with tbPend := if p % s.tbInterval == 0 then none else some p }

/-- The core has begun its TB entry in the present period of REFCLK. -/
def State.tbBegun (s : State) (c e : Nat) : Bool := (s.adcCore c).cur == .tb e && (s.adcCore c).startTap == s.tb.taps

/-- TB_SAMPLE_START (R179, R180): a TB entry starts sampling at P − t_samp, and the core is reserved until P + 320 ns. -/
def State.tbSample (s : State) (c : Nat) : State :=
  if 1 < c || !(s.adcCore c).enabled || !s.tbArmed then s
  else match s.adcStart c 1 with
    | none => s
    | some e =>
      let v := s.adcEntry c e
      if !s.tbNow v || s.tbBegun c e then s
      else if !s.adc.refReady then s.adcRefWait c
      else if s.adc.calBusy then s.adcLost c
      else (s.abandonTb c).upAdcCore c fun k =>
        { k.putBack with cur := .tb e, startTap := s.tb.taps, resvEnd := s.tb.taps + entryNs v / 10 * 128 }

/-- TB_SAMPLE_START (R179). -/
def execTbSampleStart (core : Nat) (s : State) : Result := .next (s.onLane (s.tbSample core))

/-! ### Urgent requests (R183) -/

/-- The core runs a calibration slot. -/
def AdcCore.inSlot (k : AdcCore) : Bool := match k.cur with | .slot _ => true | _ => false


/-- The work in progress is in its sampling phase (R171). -/
def State.adcSampling (s : State) (c : Nat) : Bool :=
  decide (s.tb.taps < (s.adcCore c).startTap + entrySamp (s.adcEntry c (s.adcCore c).cur.entry) * 128)

/-- A write of ADCn.URG (R183). A second request while one is pending is refused. An urgent request can abort a calibration slot (R175). -/
def State.urgent (s : State) (c v : Nat) : State :=
  if 1 < c then s
  else if !bitOf v 4 then s.upAdcCore c fun k => if k.urgPend.isSome then k else { k with urgEntry := v % 16 }
  else if (s.adcCore c).urgPend.isSome then (s.adcLost c).raiseRun .adcTrigLost (8 * c + 7)
  else
    let s1 := (s.endRun .adcTrigLost (8 * c + 7)).upAdcCore c fun k => { k with urgPend := some (v % 16), urgEntry := v % 16 }
    if (s.adcCore c).inSlot || s.adcSampling c then s1.upAdcCore c AdcCore.putBack else s1

/-- URGENT_REQUEST (R183). -/
def execUrgentRequest (core value : Nat) (s : State) : Result := .next (s.onPower (s.urgent core value))

/-! ### Starting work (R175, R180, R181) -/

/-- The gain that the next calibration slot refreshes (R175): the one that waits longest. -/
def AdcCore.nextSlot (k : AdcCore) : Nat :=
  [1, 2, 3, 4].foldl (fun g i => if vget k.ofsAt i 0 < vget k.ofsAt g 0 then i else g) 0

/-- The work of highest priority that is pending (R180); a calibration slot where nothing else is. -/
def AdcCore.nextWork (k : AdcCore) : AdcWork :=
  match k.urgPend, k.tbRest, ([0, 1, 2, 3].find? fun n => (vget k.cmptPend n none).isSome), k.swPend with
  | some e, _, _, _ => .urgent e
  | none, some e, _, _ => .tbRest e
  | none, none, some n, _ => .cmpt n ((vget k.cmptPend n none).getD 0)
  | none, none, none, some e => .sw e
  | none, none, none, none => .slot k.nextSlot

/-- A core takes work up. -/
def AdcCore.take (k : AdcCore) (w : AdcWork) (now : Nat) : AdcCore :=
  let k1 := { k with cur := w, startTap := now }
  match w with
  | .urgent _ => { k1 with urgPend := none }
  | .tbRest _ => { k1 with tbRest := none }
  | .cmpt n _ => { k1 with cmptPend := vset k1.cmptPend n none }
  | .sw _ => { k1 with swPend := none }
  | .slot _ | .tb _ | .none => k1

/-- The duration of work in ns (R171, R175). -/
def State.workNs (s : State) (c : Nat) (w : AdcWork) : Nat :=
  match w with
  | .slot _ => 2000
  | w => entryNs (s.adcEntry c w.entry)

/-- Work that starts now does not pass the start of the next TB reservation (R181). -/
def State.workFits (s : State) (c : Nat) (w : AdcWork) : Bool :=
  match s.adcStart c 1 with
  | none => true
  | some e =>
    !s.tbArmed || !(s.adcCore c).enabled
      || decide (s.tb.ntNs + s.workNs c w + entrySamp (s.adcEntry c e) * 10 ≤ s.tbNext (s.tb.ntNs + 1))

/-- A calibration slot may start on a core (R175): one slot at a time, and none inside a TB reservation. -/
def State.slotFree (s : State) (c : Nat) : Bool := !(s.adcCore (1 - c)).inSlot && decide ((s.adcCore c).resvEnd ≤ s.tb.taps)

/-- ADC_WORK_START (R180, R181): a free core starts its pending work of highest priority. -/
def State.adcWork (s : State) (c : Nat) : State :=
  let k := s.adcCore c
  let w := k.nextWork
  let may := match w with | .slot _ => s.slotFree c | _ => k.enabled
  if 1 < c || k.cur != .none || !s.adc.refReady || s.adc.calBusy || !may || !s.workFits c w then s
  else s.upAdcCore c fun k => k.take w s.tb.taps

/-- ADC_WORK_START (R181). -/
def execAdcWorkStart (core : Nat) (s : State) : Result := .next (s.onPower (s.adcWork core))

/-! ### Results (R184 to R187) -/

/-- The tap of the hold instant of the work in progress (R171). -/
def State.holdTap (s : State) (c : Nat) : Nat :=
  (s.adcCore c).startTap + entrySamp (s.adcEntry c (s.adcCore c).cur.entry) * 128

/-- The hold instant of the work in progress, as nanoseconds of network time (R184); a TB entry holds at exactly P (R179). -/
def State.holdNs (s : State) (c : Nat) : Nat :=
  let ns := ((s.tb.ntFAt (s.holdTap c)).fdiv 65536).toNat
  (match (s.adcCore c).cur with
    | .tb _ => s.tbNext ns
    | _ => ns) % 1000000000

/-- A result is written to ADCn.RES (R184). -/
def State.writeResult (s : State) (c e raw : Nat) (urg : Bool) : State :=
  let ch := entryCh (s.adcEntry c e)
  let lost := (s.adcCore c).resValid
  let s1 := s.upAdcCore c fun k => { k with
    resVal := raw % 65536, resCh := ch, resEntry := e, resUrg := urg, resOvr := lost, resValid := true, holdNs := s.holdNs c
    x := adcX ch raw, stat := if lost then setBit32 k.stat 16 else k.stat }
  let s2 := s1.upAdc fun a => { a with evt := setBit32 (if lost then setBit32 a.evt 2 else a.evt) c }
  if lost then (s2.upAdc fun a => { a with overruns := satAdd 32 a.overruns 1 }).raiseRun .adcOverrun c else s2.endRun .adcOverrun c

/-- round(num × fs / den), ties away from zero, for a binary32 scale (R186, R187). -/
def roundScaled (num : Int) (fs : F32) (den : Nat) : Int :=
  match F32.toDy fs with
  | none => 0
  | some (m, e) =>
    let n := num * m
    let top := if 0 ≤ e then n.natAbs * 2 ^ e.toNat else n.natAbs
    let bot := if 0 ≤ e then den else den * 2 ^ (-e).toNat
    let q : Int := ((2 * top + bot) / (2 * bot) : Nat)
    if n < 0 then -q else q

/-- The voltage code of a raw capacitor result (R186): v = clamp(round(x × VCAP_FS / 0.05) + VCAP_OFS, 0, 65,535). -/
def State.vcapCode (s : State) (ch raw : Nat) : Nat :=
  let num : Int := if 8 ≤ ch && ch < 12 then toSigned 16 raw else (raw % 65536 : Nat)
  let den := if 8 ≤ ch && ch < 12 then 32768 else 65536
  (clampI (roundScaled (num * 20) (s.objF Obj.VCAP_FS) den + s.objI Obj.VCAP_OFS 16) 0 65535).toNat

/-- The capacitor code of the cycle (R186): to the Weft, to Treadle and to ADC.VCAP. -/
def State.capacitorDone (s : State) (e raw : Nat) : State :=
  let v := s.vcapCode (entryCh (s.adcEntry 0 e)) raw
  let k := s.weft.k
  ((s.upAdc fun a => { a with vcapCode := v, vcapRaw := raw % 65536 }).upWeft fun w =>
    { w with vcode := v, bin := s.ownBin k v, codeReady := true }).tryTally k

/-- The current code of the cycle and its status (R187). -/
def State.sensorDone (s : State) (raw : Nat) : State :=
  let x := toSigned 16 raw
  let i := roundScaled (x * 4) (s.objF Obj.ISENS_FS) 32768 + s.objI Obj.ISENS_OFS 16
  let clipped := x == -32768 || x == 32767 || decide (i < -32768) || decide (32767 < i)
  let valid := !clipped && s.adc.refReady && s.adc.cal1Ok
  let c := clampI i (-32768) 32767
  let s1 := s.upAdc fun a => { a with isensCode := c, isensValid := valid, isensOver := clipped }
  let s2 := s1.upWeft fun w => { w with sens := { i := c, valid := valid, overRange := clipped }, sensReady := true }
  (if clipped then s2.raiseRun .sensorRange else s2.endRun .sensorRange 0).tryTally s2.weft.k

/-- The rest of a run waits (R177, R182). -/
def State.chainOn (s : State) (c : Nat) (w : AdcWork) : State :=
  s.upAdcCore c fun k =>
    let k1 := { k with cur := .none }
    match w with
    | .tb e | .tbRest e => { k1 with tbRest := s.adcNext c e }
    | .cmpt n e => { k1 with cmptPend := vset k1.cmptPend n (s.adcNext c e) }
    | .sw e => { k1 with swPend := s.adcNext c e }
    | .urgent _ | .slot _ | .none => k1

/-- The capacitor entry: ADC0 entry 0 of a cell (R186). -/
def State.isCapacitor (s : State) (c e : Nat) : Bool := s.isCell && c == 0 && e == 0

/-- The sensor entry: ADC1 entry 0 of a cell with SENSOR_SLOT ≠ 0 (R187). -/
def State.isSensor (s : State) (c e : Nat) : Bool := s.isCell && c == 1 && s.obj Obj.SENSOR_SLOT != 0 && e == 0

/-- Where a conversion of entry `e` goes (R184, R186, R187). DEDUCED(68): the capacitor and sensor entries never write ADCn.RES, and only
their conversion by the TB trigger, which holds at t₀(k), gives the code of the cycle. -/
def State.takeResult (s : State) (c e raw : Nat) (w : AdcWork) : State :=
  if s.isCapacitor c e then (if w == .tb 0 then s.capacitorDone 0 raw else s)
  else if s.isSensor c e then (if w == .tb 0 then s.sensorDone raw else s)
  else s.writeResult c e raw (match w with | .urgent _ => true | _ => false)

/-- A conversion ends, after its hold instant (R171, R184 to R187). -/
def State.conversion (s : State) (c raw : Nat) : State :=
  let w := (s.adcCore c).cur
  match w with
  | .none | .slot _ => s
  | w =>
    if 1 < c || s.tb.taps < s.holdTap c then s
    else
      let urg := match w with | .urgent _ => true | _ => false
      let s1 := s.takeResult c w.entry raw w
      let s2 := (s1.chainOn c w).event (0x4C + c)
      if urg then s2.event 0x4E else s2

/-- CONVERSION_DONE (R184). -/
def execConversionDone (core raw : Nat) (s : State) : Result := .next (s.onPower (s.conversion core raw))

/-- RESULT_READ (R184): a worker's read consumes the result where CONS = 0. -/
def execResultRead (core : Nat) (s : State) : Result :=
  .next (s.onPower (if s.obj (Obj.CONS + 256 * core) == 0 then s.upAdcCore core fun k => { k with resValid := false } else s))

/-! ### Reference and calibration (R172 to R175) -/

/-- A full calibration may start in these states after CAL_START (R174). -/
def State.calAllowed (s : State) : Bool :=
  s.node.nodeState == .join || s.node.nodeState == .ready || s.node.nodeState == .block

/-- The reference has been enabled, and no fault declared, for 3 ms (R172, R173). -/
def State.refDue (s : State) : Bool :=
  s.objB Obj.REF_EN && !s.adc.refReady && decide (s.adc.refSince + 3 * tapsMs ≤ s.tb.taps)

/-- The windows of the offset calibration begin (R175): when the reference is first ready. -/
def State.ofsBegin (s : State) (k : AdcCore) : AdcCore :=
  if s.adc.firstCal || s.adc.calBusy then k else { k with ofsAt := Vector.replicate 5 s.tb.taps }

/-- REF_READY (R172, R174): the reference has been in range for 3 ms; a full calibration starts once after reset, or as asked. -/
def execRefReady (s : State) : Result :=
  .next (s.onPower (
    if s.refDue then
      s.upAdc fun a => { a with
        refReady := true, refBad := false, calPending := false, cores := a.cores.map s.ofsBegin
        calBusy := a.calBusy || !a.firstCal || (a.calPending && s.calAllowed) }
    else s))

/-- The cycle has no sensor conversion (R187): its code is neither valid nor over range. -/
def State.noSensor (s : State) : State :=
  if s.isCell && s.obj Obj.SENSOR_SLOT != 0 then s.upAdc fun a => { a with isensValid := false, isensOver := false } else s

/-- The sensor conversion of the present cycle is not in progress at its hold instant (R187). -/
def State.sensorAtT0 (s : State) : State := if (s.adcCore 1).cur == .tb 0 then s else s.noSensor

/-- Every conversion in progress is discarded (R173): the rest of its run waits. -/
def State.discardConversions (s : State) : State :=
  let s1 := if (s.adcCore 1).cur == .tb 0 then s.noSensor else s
  (s1.chainOn 0 (s1.adcCore 0).cur).chainOn 1 (s1.adcCore 1).cur

/-- REF_FAULT (R173). -/
def execRefFault (s : State) : Result :=
  .next (s.onPower (
    if s.objB Obj.REF_EN then
      (s.discardConversions.upAdc fun a => { a with refReady := false, refBad := true, refSince := s.tb.taps, evt := setBit32 a.evt 4 }).raise .adcRef
    else s))

/-- A cell whose full calibration failed in BOOT stays in BOOT (R194). -/
def State.calHolds (s : State) : Bool := s.isCell && s.adc.firstCal && !(s.adc.cal0Ok && s.adc.cal1Ok)

/-- FULL_CAL_DONE (R174): `ok0` and `ok1` tell whether each core's result is within its factory record. -/
def execFullCalDone (ok0 ok1 : Bool) (s : State) : Result :=
  .next (s.onPower (
    if !s.adc.calBusy then s
    else
      let s1 := s.upAdc fun a => { a with
        calBusy := false, firstCal := true, cal0Ok := ok0, cal1Ok := ok1, evt := if ok0 && ok1 then a.evt else setBit32 a.evt 5 }
      let l : List Ev := (if ok0 then [] else [{ name := .adcCal, arg := 0 }]) ++ (if ok1 then [] else [{ name := .adcCal, arg := 1 }])
      let s2 := if s1.calHolds && s1.node.nodeState == .boot then s1.upSys fun y => { y with bootFailed := true } else s1
      s2.raiseAll l))

/-- A write of CAL_START (R174). -/
def State.applyCalStart (s : State) (value : Nat) : Applied :=
  if !s.calAllowed then s.no .state
  else s.ownWrite value
    (s.upAdc fun a => { a with calBusy := a.calBusy || a.refReady, calPending := a.calPending || !a.refReady }).yes

/-- CAL_START (R174). -/
def execCalStart (value : Nat) (s : State) : Result := .next (s.onPower (settle Obj.CAL_START 0 (s.applyCalStart value)))

/-- OFS_CAL_SLOT_DONE (R175): a slot of 2.0 µs has refreshed the offset of one gain. -/
def execOfsCalSlotDone (core gain : Nat) (s : State) : Result :=
  .next (s.onPower (
    if (s.adcCore core).cur == .slot gain && core < 2 && gain < 5 && decide ((s.adcCore core).startTap + 25600 ≤ s.tb.taps) then
      (s.endRun .adcCalStarved (8 * core + gain)).upAdcCore core fun k =>
        { k with cur := .none, ofsAt := vset k.ofsAt gain s.tb.taps }
    else s))

/-- OFS_CAL_STARVED (R175): a gain has not been refreshed within OFS_CAL_PERIOD. -/
def execOfsCalStarved (core gain : Nat) (s : State) : Result :=
  .next (s.onPower (
    if core < 2 && gain < 5 && decide (vget (s.adcCore core).ofsAt gain 0 + s.obj Obj.OFS_CAL_PERIOD * tapsS ≤ s.tb.taps) then
      s.raiseRun .adcCalStarved (8 * core + gain)
    else s))

end Sys2Proof.Machine
end

