-- ==== Sys2Proof/Machine/Memory.lean ====
section
/-!
DEFINITION. Sys2Proof/Machine/Memory.lean: the shared SRAM and the local memories of the worker cores (R276 to R278): which
addresses they have, and the reading and writing of their bytes in the one canonical form. Unlisted bytes read 0 (R432: cleared).
-/
namespace Sys2Proof.Machine

/-- The address of a byte in the global view: a core's own local memory at its global address (R276); none outside the memories. -/
def memAddr (core a : Nat) : Option Nat :=
  if 0x10000000 ≤ a && a < 0x10010000 then some (0x11000000 + 0x10000 * core + (a - 0x10000000))
  else if 0x11000000 ≤ a && a < 0x11080000 then some a
  else if 0x20000000 ≤ a && a < 0x20400000 then some a
  else none

/-- A core may store at a memory address: shared SRAM, or its own local memory in either view (R276, R277). -/
def memStoreOk (core a : Nat) : Bool :=
  (0x10000000 ≤ a && a < 0x10010000) || (0x11000000 + 0x10000 * core ≤ a && a < 0x11000000 + 0x10000 * (core + 1))
    || (0x20000000 ≤ a && a < 0x20400000)

/-- Read one byte of the cells; an unlisted address reads 0. -/
def cellsRead : List Host.Cell → Nat → Byte
  | [], _ => 0
  | c :: cs, a => if c.1 == a then c.2 else cellsRead cs a

/-- Remove an address from cells in canonical form. -/
def cellsErase : List Host.Cell → Nat → List Host.Cell
  | [], _ => []
  | c :: cs, a => if c.1 == a then cs else c :: cellsErase cs a

/-- Write a byte that is not 0 into cells in canonical form. -/
def cellsPut : List Host.Cell → Nat → Byte → List Host.Cell
  | [], a, b => [(a, b)]
  | c :: cs, a, b => if a < c.1 then (a, b) :: c :: cs else if c.1 == a then (a, b) :: cs else c :: cellsPut cs a b

/-- Write one byte: writing 0, what an unlisted address reads as, removes the entry. -/
def cellsWrite (cs : List Host.Cell) (a : Nat) (b : Byte) : List Host.Cell := if b == 0 then cellsErase cs a else cellsPut cs a b

/-- Addresses strictly rise and no entry is 0. -/
def cellsWf : List Host.Cell → Bool
  | [] => true
  | [c] => c.2 != 0
  | c :: d :: cs => c.2 != 0 && decide (c.1 < d.1) && cellsWf (d :: cs)

/-- The memory is in its canonical form. -/
def Mem.wf (m : Mem) : Bool := cellsWf m.cells

/-- The byte at a global address. -/
def Mem.read (m : Mem) (a : Nat) : Byte := cellsRead m.cells a

/-- Write one byte at a global address. -/
def Mem.write (m : Mem) (a : Nat) (b : Byte) : Mem := { m with cells := cellsWrite m.cells a b }

/-- Write a list of bytes from an address on, little-endian order (R3). -/
def Mem.writeBytes : Mem → Nat → List Byte → Mem
  | m, _, [] => m
  | m, a, b :: bs => (m.write a b).writeBytes (a + 1) bs

/-- The word of an address. -/
def wordOf (a : Nat) : Nat := a / 4 * 4

/-- The word of an address holds a double-bit error (R278). -/
def Mem.doubleAt (m : Mem) (a : Nat) : Bool := m.errors.any fun e => e.addr == wordOf a && e.double

/-- A write of a whole word clears any earlier error in it (R278). -/
def Mem.heal (m : Mem) (a : Nat) : Mem := { m with errors := m.errors.filter (·.addr != wordOf a) }

/-- Note the error of a word: it stays until the word is written (R278). -/
def Mem.noteError (m : Mem) (a : Nat) (double : Bool) : Mem :=
  { m with errors := ⟨wordOf a, double⟩ :: m.errors.filter (·.addr != wordOf a) }

end Sys2Proof.Machine
end

