-- ==== Sys2Proof/Machine/Heddle.lean ====
section
/-!
DEFINITION. Sys2Proof/Machine/Heddle.lean: the dataflow scheduler: tokens and readiness, dispatch, posts and completion, operation
faults and budgets, event tokens, delay lists and cancels, the graph's activation, the measures, the memory scrubber, and the event
counters' windows (R276 to R303).
-/
namespace Sys2Proof.Machine

/-! ### The running graph (R281, R282) -/

/-- The running graph. -/
def State.graph (s : State) : GraphImage := vget s.hdl.banks s.hdl.bank {}

/-- An operation of the running graph. -/
def State.gop (s : State) (n : Nat) : Option GOp := s.graph.ops[n]?

/-- The tokens of an arc, oldest first. -/
def State.tokens (s : State) (a : Nat) : List Nat := s.hdl.arcs.getD a []

/-- The tokens of an arc are replaced. -/
def State.setTokens (s : State) (a : Nat) (l : List Nat) : State := s.upHdl fun h => { h with arcs := h.arcs.set a l }

/-- Core `c` in Heddle's view. -/
def State.hcore (s : State) (c : Nat) : HCore := vget s.hdl.cores c {}

/-- Change core `c` in Heddle's view. -/
def State.upCore (s : State) (c : Nat) (f : HCore → HCore) : State :=
  s.upHdl fun h => { h with cores := vset h.cores c (f (vget h.cores c {})) }

/-- An instance of the operation is running on some core (R286). -/
def State.opRunning (s : State) (n : Nat) : Bool := (List.range 8).any fun c => (s.hcore c).opened == some n

/-- A journaled command to a user object waits, and the operation lists that object (R292). -/
def State.opHeld (s : State) (g : GOp) : Bool := s.dict.userPending.any fun e => g.objects.contains (e.index * 256 + e.sub)

/-- The run state of an operation. -/
def State.opRun (s : State) (n : Nat) : OpRun := s.hdl.ops.getD n {}

/-- Change the run state of an operation. -/
def State.upOp (s : State) (n : Nat) (f : OpRun → OpRun) : State := s.upHdl fun h => { h with ops := h.ops.set n (f (h.ops.getD n {})) }

/-- Ready operations not yet dispatched, at a priority (R299). -/
def State.queueDepth (s : State) (prio : Nat) : Nat :=
  (s.hdl.ready.filter fun r => match s.gop r.op with | some g => g.prio == prio | none => false).length

/-! ### Tokens and readiness (R282, R286) -/

/-- An operation becomes ready when every one of its input arcs holds a token (R286); a quarantined one does not (R289). -/
def State.checkReady (s : State) (n : Nat) : State :=
  match s.gop n with
  | none => s
  | some g =>
    if (s.opRun n).quarantined || s.hdl.ready.any (·.op == n) || g.inArcs.any (fun a => (s.tokens a).isEmpty) then s
    else
      let s1 := s.upHdl fun h => { h with ready := h.ready ++ [⟨n, s.tb.taps⟩] }
      s1.upHdl fun h => { h with qmax := vset h.qmax g.prio (max (vget h.qmax g.prio 0) (s1.queueDepth g.prio)) }

/-- A cancel race counts (R297, R298). -/
def State.cancelRace (s : State) : State :=
  (s.upHdl fun h => { h with cancelRace := satAdd 32 h.cancelRace 1, evt := setBit32 h.evt 0 }).event 0x22

/-- The arc's consumer was cancelled in the present step (R298). -/
def State.cancelledNow (s : State) (n : Nat) : Option (Nat × Nat × Bool) := s.hdl.cancels.find? fun c => c.1 == n && c.2.1 == s.tb.taps

/-- A token meets a cancel of its consumer in the same step: it is discarded, and the race counts once (R298). -/
def State.raceToken (s : State) (n : Nat) (raced : Bool) : State :=
  if raced then s
  else
    s.cancelRace.upHdl fun h => { h with cancels := h.cancels.map fun c => if c.1 == n && c.2.1 == s.tb.taps then (c.1, c.2.1, true) else c }

/-- A token at a full arc (R282). -/
def State.fullToken (s : State) (a : Nat) (arc : GArc) (v : Nat) : State :=
  let s1 := (s.upHdl fun h => { h with arcFull := satAdd 32 h.arcFull 1, evt := setBit32 h.evt 1 }).event 0x21
  if arc.overwrite then s1.setTokens a ((s1.tokens a).drop 1 ++ [v]) else s1.raiseRun .hdlArcFull a

/-- A token arrives at an arc (R282, R286, R298). -/
def State.postToken (s : State) (a v : Nat) : State :=
  match s.graph.arcs[a]? with
  | none => s
  | some arc =>
    let s1 := s.event 0x20
    match s1.cancelledNow arc.consumer with
    | some c => s1.raceToken arc.consumer c.2.2
    | none =>
      let s2 := s1.upHdl fun h => { h with arrivals := (a, s.tb.taps) :: h.arrivals.filter fun x => x.2 == s.tb.taps && x.1 != a }
      if (s2.tokens a).length < arc.depth then
        ((s2.endRun .hdlArcFull a).setTokens a (s2.tokens a ++ [v])).checkReady arc.consumer
      else s2.fullToken a arc v

/-- The numbers of the arcs whose producer satisfies `p`, rising. -/
def State.arcsOf (s : State) (p : Producer → Bool) : List Nat :=
  (List.range s.graph.arcs.length).filter fun a => match s.graph.arcs[a]? with | some x => p x.producer | none => false

/-- Post one value on every arc of a list, all in the same step. -/
def State.postAll (s : State) (l : List Nat) (v : Nat) : State := l.foldl (fun t a => t.postToken a v) s

/-- The CYCLE tokens of t₀(k) (R282, R294). -/
def State.cycleTokens (s : State) (k : Nat) : State :=
  s.postAll (s.arcsOf fun p => match p with | .cycle d ph => d != 0 && k % d == ph | _ => false) (k % 2 ^ 32)

/-- The STATION tokens of boundary s_j (R282, R294). -/
def State.stationTokens (s : State) (j : Nat) : State :=
  s.postAll (s.arcsOf fun p => match p with | .station d ph => d != 0 && j % d == ph | _ => false) (j % 2 ^ 32)

/-! ### Event tokens (R293) -/

/-- The EVT and INTEN of a block by its code; WEFT and TRDL give their STAT (R293). -/
def State.blockLine (s : State) (code : Nat) : Word × Word :=
  match code with
  | 0 => (s.tb.evt, s.tb.inten)
  | 1 => (s.gate.evt, s.gate.inten)
  | 2 => (s.adc.evt, s.adc.inten)
  | 4 => (s.weftStat, s.weft.inten)
  | 5 => (s.trdlStat, s.trdl.inten)
  | 6 => (s.link.evt, s.link.inten)
  | 7 => (s.hdl.evt, s.hdl.inten)
  | 8 => (s.jrn.evt, s.jrn.inten)
  | 9 => (s.recd.evt, s.recd.inten)
  | 10 => (s.bob.evt, s.bob.inten)
  | 12 => (s.evc.evt, s.evc.inten)
  | 13 => (s.sys.evt, s.sys.inten)
  | _ => (0, 0)

/-- The interrupt line of a block (R293). -/
def State.lineUp (s : State) (code : Nat) : Bool := (s.blockLine code).1 &&& (s.blockLine code).2 != 0

/-- An EVENT arc may take a token: it is empty, and its consumer is neither ready from it nor running on a token of it (R293). -/
def State.eventArcFree (s : State) (a : Nat) : Bool :=
  (s.tokens a).isEmpty && !(List.range 8).any fun c => (s.hcore c).opened.isSome && (s.hcore c).usedArcs.contains a

/-- The tokens of a block's line (R293). -/
def State.eventTokens (s : State) (code : Nat) : State :=
  if s.lineUp code then
    (s.arcsOf fun p => p == .event code).foldl (fun t a => if t.eventArcFree a then t.postToken a (t.blockLine code).1.toNat else t) s
  else s

/-- EVENT_TOKEN (R293). -/
def execEventToken (code : Nat) (s : State) : Result := .next (s.onPower (s.eventTokens code))

/-! ### Dispatch (R286, R287, R299) -/

/-- Of two ready entries, the one to be served first (R286, R287). -/
def State.servedFirst (s : State) (a b : ReadyEntry) : Bool :=
  let pa := match s.gop a.op with | some g => g.prio | none => 8
  let pb := match s.gop b.op with | some g => g.prio | none => 8
  decide (pa < pb) || (pa == pb && (decide (a.since < b.since) || (a.since == b.since && decide (a.op < b.op))))

/-- The ready operation that a core takes next (R287, R289, R292). -/
def State.pick (s : State) (c : Nat) : Option ReadyEntry :=
  s.hdl.ready.foldl (fun best r =>
    let fits := match s.gop r.op with
      | some g => bitOf g.affinity c && !s.opRunning r.op && !s.opHeld g
      | none => false
    if !fits then best
    else match best with
      | none => some r
      | some b => if s.servedFirst r b then some r else best) none

/-- The tokens that an instance consumes, one from each input arc (R286). -/
def State.consume (s : State) (g : GOp) : State := g.inArcs.foldl (fun t a => t.setTokens a ((t.tokens a).drop 1)) s

/-- Assign a ready operation to a core whose read of HDL.NEXT waits (R286 to R288, R299). An operation whose arcs all still hold a
token is ready again. DEDUCED(12). -/
def State.dispatchTo (s : State) (c : Nat) (r : ReadyEntry) (g : GOp) : State :=
  let ins := g.inArcs.map fun a => (s.tokens a).headD 0
  let wait := min ((s.tb.taps - r.since) / 1280) 65535
  let s1 := (s.upHdl fun h => { h with ready := h.ready.filter (·.op != r.op), dispatches := satAdd 32 h.dispatches 1 }).consume g
  let s2 := (s1.upOp r.op fun o => { o with waitLast := wait, waitMax := max o.waitMax wait }).upCore c fun k => { k with
    opened := some r.op, openAt := s.tb.taps, waiting := false, cur := r.op, entry := g.entry,
    nin := g.inArcs.length, inputs := Vector.ofFn fun i => ins.getD i 0, usedArcs := g.inArcs, staged := [] }
  (s2.event (0x18 + g.prio)).checkReady r.op

/-- A core is idle: its read of HDL.NEXT waits (R287, R288). -/
def State.coreIdle (s : State) (c : Nat) : Bool := (s.hcore c).waiting && (s.hcore c).opened.isNone

/-- An idle core with a lower number has an operation due: it is served first (R287). -/
def State.lowerDue (s : State) (c : Nat) : Bool := (List.range c).any fun i => s.coreIdle i && (s.pick i).isSome

/-- Heddle dispatches to a waiting core (R287), of several the one with the lowest number first. -/
def State.dispatch (s : State) (c : Nat) : State :=
  if !s.hdl.run || c > 7 || !s.coreIdle c || s.lowerDue c then s
  else match s.pick c with
    | none => s
    | some r => match s.gop r.op with
      | some g => s.dispatchTo c r g
      | none => s

/-- DISPATCH (R287). -/
def execDispatch (core : Nat) (s : State) : Result := .next (s.onPower (s.dispatch core))

/-! ### Posts and completion (R288) -/

/-- The open operation of a core closes. -/
def HCore.closed (k : HCore) : HCore := { k with opened := none, usedArcs := [], staged := [] }

/-- Deliver one staged post to every arc fed by its output (R288). -/
def State.deliver (op : Nat) (s : State) (p : Nat × Nat) : State := s.postAll (s.arcsOf fun x => x == .op op p.1) p.2

/-- The blocks that feed some arc of a list (R293). -/
def State.eventCodes (s : State) (l : List Nat) : List Nat :=
  l.filterMap fun a => match s.graph.arcs[a]? with
    | some x => (match x.producer with | .event c => some c | _ => none)
    | none => none

/-- Close a core's operation; where a block's line is still asserted, the next token follows at once (R293). -/
def State.closeCore (s : State) (c : Nat) : State :=
  let used := (s.hcore c).usedArcs
  (s.eventCodes used).foldl State.eventTokens (s.upCore c HCore.closed)

/-- An operation completes (R288): its posts are delivered in posting order, and its run of faults is broken. -/
def State.complete (s : State) (c : Nat) : State :=
  match (s.hcore c).opened with
  | none => s
  | some n =>
    let s1 := (s.hcore c).staged.foldl (State.deliver n) s
    ((s1.upOp n fun o => { o with faults := 0 }).closeCore c).event (0x08 + c)

/-! ### Operation faults and budgets (R289, R290) -/

end Sys2Proof.Machine

namespace Sys2Proof

/-- The class of an operation's faults (R281, R283). -/
def GOp.faultCls (g : GOp) : FClass := if g.sys then .f2 else g.fclass

end Sys2Proof

namespace Sys2Proof.Machine

/-- A run that ends by a fault or by its budget commits nothing (R289): its posts are discarded, the core restarts, and the third run in
a row quarantines the operation. -/
def State.endRunBadly (s : State) (c n : Nat) (g : GOp) (budget : Bool) : State :=
  let s1 := (s.upCore c fun k => { k with staged := [], waiting := false }).upHdl fun h =>
    if budget then { h with budget := satAdd 32 h.budget 1, evt := setBit32 h.evt 3 }
    else { h with opFault := satAdd 32 h.opFault 1, evt := setBit32 h.evt 2 }
  let s2 := ((s1.event 0x23).upOp n fun o => { o with faults := o.faults + 1 }).closeCore c
  let e : Ev := { name := if budget then .hdlBudget else .hdlOpFault, arg := n, cls := some g.faultCls }
  if 3 ≤ (s2.opRun n).faults then
    let s3 := (s2.upOp n fun o => { o with quarantined := true }).upHdl fun h =>
      { h with ready := h.ready.filter (·.op != n), evt := setBit32 h.evt 7 }
    s3.raiseAll [e, { name := .hdlOpQuarantine, arg := n, cls := some (FClass.max .f2 g.faultCls) }]
  else s2.raiseAll [e]

/-- The open operation of a core ends badly. -/
def State.abortCore (s : State) (c : Nat) (budget : Bool) : State :=
  match (s.hcore c).opened with
  | none => s
  | some n => match s.gop n with
    | some g => s.endRunBadly c n g budget
    | none => s.upCore c HCore.closed

/-- A core reads an uncorrectable word (R278): MEMUE counts, the address is held, and MEM_UE is raised. DESIGN CHOICE(155): HDL.MEMUEA holds
the global address, which names the word for every core. -/
def State.coreUe (s : State) (core addr : Nat) : State :=
  let a := (memAddr core addr).getD addr
  (((s.upMem fun m => m.noteError a true).upHdl fun h =>
    { h with memUe := satAdd 32 h.memUe 1, memUeAddr := a, evt := setBit32 h.evt 6 }).event 0x27).raise .memUe

/-- OPERATION_FAULT (R289), with the address of an uncorrectable word where that was its cause (R278). -/
def execOperationFault (core : Nat) (ue : Option Nat) (s : State) : Result :=
  .next (s.onPower (match ue with
    | some a => (s.coreUe core a).abortCore core false
    | none => s.abortCore core false))

/-- A write of HDL.POST (R288): stages PVAL on an output; an output of NOUT or more is an operation fault. -/
def State.stagePost (s : State) (core out : Nat) : State :=
  match (s.hcore core).opened with
  | none => s
  | some n => match s.gop n with
    | none => s
    | some g =>
      if g.nout ≤ out % 8 then s.abortCore core false
      else s.upCore core fun k => { k with staged := k.staged ++ [(out % 8, k.pval)] }

/-- HDL_POST (R288). -/
def execHdlPost (core out : Nat) (s : State) : Result := .next (s.onPower (s.stagePost core out))

/-- The open run of a core has reached its budget (R290). -/
def State.budgetDue (s : State) (c : Nat) : Bool :=
  match (s.hcore c).opened with
  | none => false
  | some n => match s.gop n with
    | none => false
    | some g => g.budget != 0 && decide ((s.hcore c).openAt + g.budget * tapsUs ≤ s.tb.taps)

/-- BUDGET_EXPIRY (R290): the run has reached its budget. -/
def execBudgetExpiry (core : Nat) (s : State) : Result :=
  .next (s.onPower (if s.budgetDue core then s.abortCore core true else s))

/-- The core ends its run (R288, R290): a completion loses to the budget. -/
def State.finish (s : State) (c : Nat) : State := if s.budgetDue c then s.abortCore c true else s.complete c

/-- HDL_NEXT (R288): a read of HDL.NEXT completes the open operation and waits for the next. -/
def execHdlNext (core : Nat) (s : State) : Result :=
  .next (s.onPower (if core > 7 then s else (s.finish core).upCore core fun k => { k with waiting := true }))

/-- HDL_DONE (R288): a 1 completes the open operation. -/
def execHdlDone (core value : Nat) (s : State) : Result :=
  .next (s.onPower (if core > 7 || value % 2 == 0 then s else s.finish core))

/-! ### Cancels (R298) -/

/-- HDL_CANCEL (R298). -/
def State.cancel (s : State) (op : Nat) : State :=
  match s.gop op with
  | none => s
  | some g =>
    let now := s.tb.taps
    let raced := s.hdl.ready.any (fun r => r.op == op && r.since == now) || g.inArcs.any fun a => s.hdl.arrivals.contains (a, now)
    let s1 := if raced then s.cancelRace else s
    let s2 := g.inArcs.foldl (fun t a => t.setTokens a []) s1
    s2.upHdl fun h => { h with ready := h.ready.filter (·.op != op),
                               cancels := (op, now, raced) :: h.cancels.filter fun c => c.2.1 == now && c.1 != op }

/-- HDL_CANCEL (R298): a write of an operation number by a core. -/
def execHdlCancel (core op : Nat) (s : State) : Result := .next (s.onPower (if core > 7 then s else s.cancel (op % 4096)))

/-! ### Delay lists (R295 to R297) -/

/-- Insert an entry by its due tick, after those of the same tick (R296). -/
def insertDly (e : DlyEntry) : List DlyEntry → List DlyEntry
  | [] => [e]
  | d :: ds => if e.due < d.due then e :: d :: ds else d :: insertDly e ds

/-- Change a delay list. -/
def State.upDly (s : State) (l : Nat) (f : DlyList → DlyList) : State := s.upHdl fun h => { h with delay := vset h.delay l (f (vget h.delay l {})) }

/-- An insertion is refused (R295). -/
def State.dlyRefuse (s : State) (c : Nat) : State :=
  ((((s.upCore c fun k => { k with dlyh := 0xFFFFFFFF }).upHdl fun h =>
    { h with dlyRefused := satAdd 32 h.dlyRefused 1, evt := setBit32 h.evt 4 }).event 0x25).raiseRun .hdlDlyRefused)

/-- A write of HDL.DLY (R295): the entry of DLYA and DLYV is due the given ticks after the present count. DESIGN CHOICE(11): a delay of 0,
below the range of R295, is due at the present count and leaves with the next tick. -/
def State.dlyInsert (s : State) (c ticks : Nat) : State :=
  let k := s.hcore c
  let arc := k.dlya % 2 ^ 14
  let l := k.dlya / 2 ^ 16 % 4
  let d := vget s.hdl.delay l {}
  let arcOk := match s.graph.arcs[arc]? with | some x => x.producer == .delay | none => false
  if !arcOk || 1024 ≤ d.entries.length + d.out.length then s.dlyRefuse c
  else
    let h := l * 2 ^ 30 + d.serial % 2 ^ 30
    let e : DlyEntry := ⟨d.tick + ticks, h, arc, k.dlyv, s.tb.taps⟩
    ((s.upDly l fun d => { d with entries := insertDly e d.entries, serial := d.serial + 1,
                                  maxFill := max d.maxFill (d.entries.length + d.out.length + 1) }).upCore c fun k => { k with dlyh := h }).endRun
      .hdlDlyRefused 0

/-- HDL_DLY (R295). -/
def execHdlDly (core ticks : Nat) (s : State) : Result :=
  .next (s.onPower (if core > 7 then s else s.dlyInsert core (ticks % 2 ^ 24)))

/-- The entries that a list holds (R295, R299). -/
def DlyList.fill (d : DlyList) : Nat := d.entries.length + d.out.length

/-- A write of HDL.DLYCAN (R297): the entry leaves its list; of those due, the first is the one that the present step releases, and the cancel
wins. -/
def State.dlyCancel (s : State) (handle : Nat) : State :=
  let l := handle / 2 ^ 30 % 4
  let d := vget s.hdl.delay l {}
  match d.entries.find? (·.handle == handle) with
  | some e =>
    (s.upDly l fun d => { d with entries := d.entries.filter (·.handle != handle) }).upHdl fun h =>
      { h with dlyCans := (l, e, s.tb.taps) :: h.dlyCans.filter (·.2.2 == s.tb.taps) }
  | none =>
    if d.out.any (·.handle == handle) then
      let s1 := s.upDly l fun d => { d with out := d.out.filter (·.handle != handle) }
      if (d.out.head?).any (·.handle == handle) then s1.cancelRace else s1
    else s

/-- HDL_DLYCAN (R297). -/
def execHdlDlycan (core handle : Nat) (s : State) : Result := .next (s.onPower (if core > 7 then s else s.dlyCancel handle))

/-- The order of release of two entries (R296): by due tick, then by insertion. -/
def DlyEntry.before (a b : DlyEntry) : Bool := a.due < b.due || (a.due == b.due && a.handle < b.handle)

/-- A list releases the first of its due entries (R296): at one token per 10 ns. -/
def State.dlyRelease (s : State) (l : Nat) : State :=
  match (vget s.hdl.delay l {}).out with
  | e :: es => ((s.upDly l fun d => { d with out := es }).event 0x24).postToken e.arc e.value
  | [] => s

/-- A tick of a delay list (R296, R297): what was inserted in the same step counts from this tick; the due entries leave in order, one in each
period of REFCLK from the present one on. An entry cancelled in this step, before the tick came, that would have left in it was a race. -/
def State.tickList (s : State) (l : Nat) : State :=
  let now := s.tb.taps
  let d := vget s.hdl.delay l {}
  let t := d.tick + 1
  let es := d.entries.filter (·.since != now)
  let es2 := (d.entries.filter (·.since == now)).foldl (fun a e => insertDly { e with due := e.due + 1 } a) es
  let due := es2.filter (·.due ≤ t)
  let mine := fun (c : Nat × DlyEntry × Nat) => c.1 == l && c.2.2 == now && decide (c.2.1.due ≤ t)
  let races := if d.out.isEmpty then (s.hdl.dlyCans.filter fun c => mine c && due.all (c.2.1.before ·)).length else 0
  let s1 := (s.upDly l fun d => { d with tick := t, entries := es2.filter fun e => !(decide (e.due ≤ t)), out := d.out ++ due }).upHdl fun h =>
    { h with dlyCans := h.dlyCans.filter fun c => !mine c }
  (List.range races).foldl (fun t _ => t.cancelRace) s1

/-- The taps between two ticks of a list (R295). -/
def State.dlyPeriod (s : State) (l : Nat) : Nat := nsTaps (s.objEff (Obj.DLY_TICK0 + l))

/-- DELAY_TICK (R295, R296): once for each DLY_TICK of the list since the end of BOOT. -/
def execDelayTick (list : Nat) (s : State) : Result :=
  .next (s.onPower (
    let at' := (vget s.hdl.delay list {}).lastAt + s.dlyPeriod list
    if list > 3 || s.node.nodeState == .boot || decide (s.tb.taps < at') then s
    else (s.tickList list).upDly list fun d => { d with lastAt := at' }))

/-! ### Loading a graph (R283, R284) -/

end Sys2Proof.Machine

namespace Sys2Proof

/-- The counts of a part of a graph. -/
def GraphImage.slots (g : GraphImage) : Nat := g.arcs.foldl (fun n a => n + a.depth) 0

/-- The operations of the system part. -/
def GraphImage.sysOps (g : GraphImage) : Nat := (g.ops.filter (·.sys)).length

/-- The arcs whose consumer is of the system part. -/
def GraphImage.sysArcs (g : GraphImage) : List GArc :=
  g.arcs.filter fun a => match g.ops[a.consumer]? with | some o => o.sys | none => false

/-- An address in local memory or shared SRAM (R276, R281). -/
def codeAddr (a : Nat) : Bool :=
  (0x10000000 ≤ a && a < 0x10010000) || (0x11000000 ≤ a && a < 0x11080000) || (0x20000000 ≤ a && a < 0x20400000)

/-- An operation keeps to the ranges of R281, and one of the system part to those of R283. The objects it names are user objects, 0x8000 and
above (R42). -/
def GOp.ok (g : GOp) (nArcs : Nat) : Bool :=
  codeAddr g.entry && g.objects.all Machine.isUserKey && g.prio ≤ 7 && g.affinity != 0 && g.affinity < 256 && g.inArcs.length != 0 && g.inArcs.length ≤ 8 && g.inArcs.all (· < nArcs)
    && g.nout ≤ 8 && g.budget ≤ 65535 && (g.fclass == .f1 || g.fclass == .f2 || g.fclass == .f3)
    && (!g.sys || (g.prio ≤ 2 && g.fclass == .f2))

/-- An arc keeps to R282: its depth, its consumer's input, and the tokens an INIT producer places. -/
def GArc.ok (a : GArc) (i : Nat) (g : GraphImage) : Bool :=
  1 ≤ a.depth && a.depth ≤ 16
    && (match g.ops[a.consumer]? with | some o => o.inArcs[a.input]? == some i | none => false)
    && (match a.producer with
      | .init n _ => n ≤ a.depth
      | .op n o => (match g.ops[n]? with | some x => o < x.nout | none => false)
      | _ => true)

/-- Each arc has one consumer, one input of one operation (R282): no two inputs of the graph name the same arc. -/
def GraphImage.consumersOk (g : GraphImage) : Bool := decide (g.ops.flatMap (·.inArcs)).Nodup

/-- Each output of an operation feeds one to four arcs (R281). -/
def GraphImage.outsOk (g : GraphImage) : Bool :=
  (List.range g.ops.length).all fun n => (List.range (match g.ops[n]? with | some o => o.nout | none => 0)).all fun o =>
    let c := (g.arcs.filter fun a => a.producer == .op n o).length
    1 ≤ c && c ≤ 4

/-- A graph image breaks no limit of R281 to R283. -/
def GraphImage.ok (g : GraphImage) : Bool :=
  g.ops.length ≤ 4096 && g.arcs.length ≤ 16384 && g.slots ≤ 65536 && g.sysOps ≤ 640 && g.sysArcs.length ≤ 2560
    && g.sysArcs.foldl (fun n a => n + a.depth) 0 ≤ 8192
    && g.ops.all (fun o => o.ok g.arcs.length)
    && (List.range g.arcs.length).all (fun i => match g.arcs[i]? with | some a => a.ok i g | none => false)
    && g.consumersOk && g.outsOk

/-- The tokens an arc starts with (R282 INIT). -/
def GArc.initial (a : GArc) : List Nat := match a.producer with | .init n v => List.replicate n v | _ => []

end Sys2Proof

namespace Sys2Proof.Machine

/-- An image's sections write the whole word of an address, and so clear an earlier error in it (R278). -/
def GraphImage_wholeWord (g : GraphImage) (a : Nat) : Bool := [0, 1, 2, 3].all fun i => g.sections.any (·.1 == wordOf a + i)

/-- The graph of the active bank is loaded (R284): arcs and delay lists emptied, the image's sections written, INIT tokens placed,
dispatching resumed. -/
def State.loadGraph (s : State) : State :=
  let g := s.graph
  let s1 := s.upHdl fun h => { h with
    ops := g.ops.map fun _ => {}, arcs := g.arcs.map GArc.initial, ready := [], arrivals := [], cancels := [], dlyCans := []
    delay := h.delay.map fun d => { d with entries := [], out := [] }, activating := false, run := !g.ops.isEmpty }
  let s2 := s1.upMem fun m => g.sections.foldl (fun m c => (if GraphImage_wholeWord g c.1 then m.heal c.1 else m).write c.1 c.2) m
  (List.range g.ops.length).foldl State.checkReady s2

/-- Some core has an operation open. -/
def State.coresBusy (s : State) : Bool := (List.range 8).any fun c => (s.hcore c).opened.isSome

/-- A write of GRAPH_ACTIVATE (R284): dispatching stops, for a switch of banks once the running operations have ended. -/
def State.applyGraphActivate (s : State) (value jsn : Nat) : Applied :=
  if value != 1 then s.no .range
  else if s.node.nodeState == .service || s.node.nodeState == .hold then s.no .state
  else
    let g := vget s.hdl.banks (1 - s.hdl.bank) {}
    if g.fwDigest != s.fwDigest || !g.ok then s.no .refused
    else ((s.setObj Obj.GRAPH_ACTIVATE value jsn).upHdl fun h => { h with run := false, activating := true }).yes

/-- GRAPH_ACTIVATE (R284). -/
def execGraphActivate (value : Nat) (s : State) : Result := .next (s.onPower (settle Obj.GRAPH_ACTIVATE 0 (s.applyGraphActivate value 0)))

/-- GRAPH_LOAD (R284): the running operations have ended, and the other bank takes over. -/
def execGraphLoad (s : State) : Result :=
  .next (s.onPower (if s.hdl.activating && !s.coresBusy then (s.upHdl fun h => { h with bank := 1 - h.bank }).loadGraph else s))

/-! ### The scrubber and the load windows (R278, R279, R299) -/

/-- A single-bit error found by a read is corrected and written back, and counts (R278). DESIGN CHOICE(156): no row of the table is a core's
load, whose data the model does not follow; SCRUB_READ stands for the read of any requester that finds such an error. -/
def State.correct (s : State) (a : Nat) : State :=
  (((s.upMem fun m => m.heal a).upHdl fun h => { h with memCe := satAdd 32 h.memCe 1, evt := setBit32 h.evt 5 }).event 0x26)

/-- The scrubber finds an uncorrectable word (R278): it stays as found until it is written. -/
def State.latentUe (s : State) (a : Nat) : State :=
  (((s.upMem fun m => m.noteError a true).upHdl fun h =>
    { h with evt := setBit32 h.evt 6 }).event 0x27).raise .memUeLatent a

/-- The last word of the scrubber's pass: the last word of the last local memory ends the memories in rising global addresses, and
shared SRAM follows them. -/
def lastScrubWord : Nat := 0x203FFFFC

/-- The scrubber's pass ends: its duration is held, and one within SCRUB_PERIOD ends a run of late passes (R279). -/
def State.scrubEnd (s : State) : State :=
  let s1 := s.upHdl fun h => { h with scrubMs := (s.tb.taps - h.scrubAt) / tapsMs % 2 ^ 32, scrubAt := s.tb.taps }
  if s.tb.taps ≤ s.hdl.scrubAt + s.obj Obj.HDL_SCRUB_PERIOD * tapsMs then s1.endRun .memScrubLate 0 else s1

/-- The scrubber reads one word (R278, R279); `bits` is how many of its bits are found wrong, besides an error already known. -/
def State.scrub (s : State) (addr bits : Nat) : State :=
  match memAddr 0 addr with
  | none => s
  | some g =>
    let a := wordOf g
    let s1 :=
      if s.mem.doubleAt a || 2 ≤ bits then s.latentUe a
      else if bits == 1 || s.mem.errors.any (·.addr == a) then s.correct a
      else s
    if a == lastScrubWord then s1.scrubEnd else s1

/-- SCRUB_READ (R279). -/
def execScrubRead (addr bits : Nat) (s : State) : Result := .next (s.onPower (s.scrub addr bits))

/-- SCRUB_LATE (R279): the pass has taken longer than SCRUB_PERIOD. -/
def execScrubLate (s : State) : Result :=
  .next (s.onPower (if s.hdl.scrubAt + s.obj Obj.HDL_SCRUB_PERIOD * tapsMs < s.tb.taps then s.raiseRun .memScrubLate else s))

/-- The load of a core over a window of `w` taps, in 1/65,536 (R299). -/
def HCore.windowEnd (w : Nat) (k : HCore) : HCore := { k with load := if w == 0 then 0 else min 65535 (k.busy * 65536 / w), busy := 0 }

/-- LOAD_WINDOW_END (R299): LOAD_WINDOW has passed since the window before ended; load windows follow one another without gaps. -/
def execLoadWindowEnd (s : State) : Result :=
  .next (s.onPower (
    if s.hdl.loadAt + s.obj Obj.LOAD_WINDOW * tapsMs ≤ s.tb.taps then
      s.upHdl fun h => { h with cores := h.cores.map (HCore.windowEnd (s.tb.taps - h.loadAt)), loadAt := s.tb.taps }
    else s))

/-! ### Event counters (R300 to R303) -/

/-- EC_WINDOW_START (R302): a WINDOW counter's window begins; s is the first tap at which NT has reached EC_WSTART. -/
def execEcWindowStart (n : Nat) (s : State) : Result := .next (s.onPower (s.ecStart n))

/-- EC_WINDOW_END (R302): after WLEN the value goes to the capture and the counter clears. -/
def execEcWindowEnd (n : Nat) (s : State) : Result := .next (s.onPower (s.ecEnd n))

/-- EC_LO_READ (R300): a read of ECn.LO latches the high bits into ECn.HI. -/
def execEcLoRead (n : Nat) (s : State) : Result := .next (s.onPower (s.upEc n fun e => { e with hi := e.value / 2 ^ 32 }))

/-- Clear a counter, its capture and its OVF bit (R300); its windows stay where they are (R302). -/
def State.ecClear (s : State) (n : Nat) : State :=
  (s.upEc n fun e => { e.clear s.tb.taps with hi := 0, cap := 0 }).upEvc fun v => { v with evt := putBit v.evt (16 + n) false }

/-- Another EC_MODE (R302): outside WINDOW there is no window, and the first one does not start before the write. -/
def Ec.setMode (value now : Nat) (e : Ec) : Ec :=
  if value != 2 then { e with inWindow := false } else if e.startTap.isNone then { e with winEnd := now } else e

/-- A write of EC_SOURCE or EC_MODE (R300 to R302). -/
def State.applyEcConfig (s : State) (n : Nat) (mode : Bool) (value jsn : Nat) : Applied :=
  let key := (if mode then Obj.EC_MODE else Obj.EC_SOURCE) + 256 * n
  if 15 < n then s.no .noObject
  else if mode && 2 < value then s.no .range
  else if !mode && (255 < value || !ecSourceOk value) then s.no .range
  else
    let s1 := (s.setObj key value jsn).ecClear n
    (if mode then s1.upEc n (Ec.setMode value s.tb.taps) else s1).yes

/-- EC_CONFIG_WRITE (R300). -/
def execEcConfigWrite (n : Nat) (mode : Bool) (value : Nat) (s : State) : Result :=
  .next (s.onPower (settle ((if mode then Obj.EC_MODE else Obj.EC_SOURCE) + 256 * n) 0 (s.applyEcConfig n mode value 0)))

/-- Every counter's value at a fence (R303), that of a counter cleared in the same step before the clear. -/
def State.fenceCounters (s : State) (id : Nat) : State :=
  s.upEvc fun v => { v with ec := v.ec.map fun e =>
    { e with fsn := if e.clrAt == some s.tb.taps then e.clrVal else e.value, fid := id % 2 ^ 32 } }

end Sys2Proof.Machine
end

