-- ==== Sys2Proof/Machine/Eth.lean ====
section
/-!
DEFINITION. Sys2Proof/Machine/Eth.lean: the frames that a STATION sends on its LAN ports (R197, R224, R230 to R233): the ports that transmit, the PRP
pair and the 802.1Q tag.
-/
namespace Sys2Proof.Machine

/-- Change the station ports. -/
def State.upLan (s : State) (f : Lan → Lan) : State := s.upLink fun l => { l with lan := f l.lan }

/-- Station port `lan` has link and transmits (R198, R224, R230, R243). -/
def State.lanLit (s : State) (lan : Nat) : Bool := s.tb.refOk && vget s.link.lan.up lan false && !(s.port lan).txDark

/-- The LAN identifier of the PRP trailer. PRESUMED(18): 0xA and 0xB, by IEC 62439-3. -/
def lanId (lan : Nat) : Nat := 0xA + lan

/-- The MAC address of the STATION, the same on both LANs (R231). -/
def macAddress : Nat := Config.factoryValue Obj.MAC_ADDRESS

/-- GOOSE and PTP frames carry the tag of VLAN_ID and VLAN_PRIO; a VLAN_ID of 0 is a priority tag (R232). -/
def State.vlanTag (s : State) (c : EthContent) : Option (Nat × Nat) :=
  match c with
  | .goose _ | .ptp _ => some (s.obj Obj.VLAN_ID, s.obj Obj.VLAN_PRIO)
  | .supervision | .arpReply _ | .icmpReply _ | .udp _ _ => none

/-- One copy of a frame, on one LAN (R231, R232). -/
def State.ethCopy (s : State) (c : EthContent) (lan : Nat) : EthOut :=
  { lan := lan, prp := some (s.link.lan.seqTx, lanId lan), srcMac := macAddress, vlan := s.vlanTag c, content := c }

/-- Send one frame on both LANs, as one duplicate pair with the next sequence number (R231); a port without link carries none. -/
def State.ethSend (s : State) (c : EthContent) : State :=
  s.upLan fun l => { l with out := ([0, 1].filter s.lanLit).map (s.ethCopy c) ++ l.out, seqTx := (l.seqTx + 1) % 65536 }

/-- Send a PTP message on each LAN separately, without a PRP trailer (R261). -/
def State.ptpSend (s : State) (c : PtpOut) : State :=
  s.upLan fun l => { l with out := ([0, 1].filter s.lanLit).map (fun lan => { s.ethCopy (.ptp c) lan with prp := none }) ++ l.out }

/-- Send a PTP message on one LAN (R261). -/
def State.ptpSendOn (s : State) (lan : Nat) (c : PtpOut) : State :=
  s.upLan fun l => { l with out := ([lan].filter s.lanLit).map (fun n => { s.ethCopy (.ptp c) n with prp := none }) ++ l.out }

end Sys2Proof.Machine
end

