-- ==== Sys2Proof/Machine/Respond.lean ====
section
/-!
DEFINITION. Sys2Proof/Machine/Respond.lean: the answers of the dictionary service (R51, R52, R62, R64): the SDU of a response, the
requests that wait for a result, and the result that a SERVICE frame brings to a STATION member.
-/
namespace Sys2Proof.Machine

/-- The SDU of a response (R51). -/
def respBytes (r : Response) : List Byte :=
  leBytes 1 (r.op + 128) ++ leBytes 1 0 ++ leBytes 2 r.tid ++ leBytes 3 (r.target % 2 ^ 19) ++ leBytes 1 r.status.code
    ++ leBytes 2 (keyIndex r.key) ++ leBytes 1 (keySub r.key) ++ leBytes 1 0 ++ leBytes 4 r.param ++ r.data

/-- A status from its code (R68); an unknown code is REFUSED. -/
def statusOfCode (n : Nat) : Status :=
  (([.ok, .noObject, .noSubindex, .access, .role, .length, .range, .state, .busy, .sealed, .sequence, .tooLarge, .unreachable, .timeout,
    .snapshotLost, .aborted, .digest, .media, .sessionLimit, .notBroadcast, .pending, .notActive, .mapping] : List Status)[n]?).getD .refused

/-- The responses of the last `n` TIDs of a list, newest first; `seen` holds the TIDs met so far (R62). -/
def lastTids (n : Nat) : List Nat → List Response → List Response
  | _, [] => []
  | seen, x :: t =>
    if seen.contains x.tid then x :: lastTids n seen t
    else if seen.length < n then x :: lastTids n (x.tid :: seen) t
    else lastTids n seen t

/-- A session keeps a response with those of its last 64 TIDs (R62). -/
def Session.keep (x : Session) (r : Response) : Session :=
  { x with done := lastTids 64 [] (r :: x.done.filter fun y => !(y.tid == r.tid && y.op == r.op)) }

/-- An answer leaves the node (R57, R59): a session's in a UDP datagram on both LANs, another node's up in a SERVICE frame. -/
def State.sendAnswer (s : State) (r : Response) : State :=
  match r.via with
  | .session id => if s.isStation then s.ethSend (.udp id (respBytes r)) else s
  | .port _ => if s.isStation then s else s.sendUp .service (stationAddr false) true (respBytes r)

/-- Answer a request (R52): a STATION member's session keeps the response (R62). -/
def State.respond (s : State) (r : Response) : State :=
  (s.upDict fun d => { d with
    responses := r :: d.responses
    sessions := d.sessions.map fun x => if r.via == .session x.id then x.keep r else x }).sendAnswer r

/-- Note a request that waits for its result (R62). -/
def State.await (s : State) (w : Waiting) : State := s.upDict fun d => { d with waiting := d.waiting ++ [w] }

/-- A waiting request is answered and waits no longer. -/
def State.answer (s : State) (w : Waiting) (st : Status) (param : Nat) (data : List Byte) : State :=
  (s.upDict fun d => { d with waiting := d.waiting.filter (· != w) }).respond
    { via := w.via, tid := w.tid, op := w.op, status := st, param := param, target := w.target, key := w.key, data := data }

/-- Answer a write with its JSN (R52, R64). -/
def State.answerJsn (s : State) (w : Waiting) (st : Status) : State := s.answer w st 0 (leBytes 8 w.jsn)

/-- A result arrives for the CONFIRM write of a JSN (R64). -/
def State.confirmResult (s : State) (jsn : Nat) (st : Status) : State :=
  match s.dict.waiting.find? fun w => w.jsn == jsn && w.jsn != 0 && w.confirm with
  | some w => s.answerJsn w st
  | none => s

/-- The opcodes of R52. -/
def knownOp (op : Nat) : Bool := (1 ≤ op && op ≤ 7) || op == 15

/-- A request with an opcode that R52 does not list is refused as ACCESS at its target. -/
def State.unknownOp (s : State) (via : Via) (op tid key : Nat) : State :=
  (s.refuse Status.access.code key 0).respond { via := via, tid := tid, op := op, status := .access, target := s.addr, key := key }

/-- A SERVICE request comes in a frame at port `p` (R52, R59): on a down port it is discarded and counted; on an up port an opcode that
is not listed is refused, and any other is a command of its own. -/
def State.serviceRequest (s : State) (p : Nat) (f : Frame) : State :=
  let at' (i n : Nat) := leNat ((f.payload.drop i).take n)
  if 2 ≤ p then s.upDict fun d => { d with refusedCount := satAdd 32 d.refusedCount 1 }
  else if knownOp (at' 0 1) || at' 4 3 % 2 ^ 19 != s.addr then { s with inbox := f :: s.inbox }
  else s.unknownOp (.port p) (at' 0 1) (at' 2 2) (at' 8 2 * 256 + at' 10 1)

/-- A SERVICE frame holds a request (R51). -/
def isRequest (f : Frame) : Bool := f.cls == .service && 16 ≤ f.payload.length && leNat (f.payload.take 1) < 128

/-- A SERVICE frame with a response reaches a STATION member (R59, R62, R64): a read or a transfer is matched by its TID and target, a
CONFIRM result by its JSN. -/
def State.serviceIn (s : State) (f : Frame) : State :=
  let at' (i n : Nat) := leNat ((f.payload.drop i).take n)
  if !s.isStation || f.cls != .service || f.payload.length < 16 || at' 0 1 < 128 then s
  else
    let op := at' 0 1 - 128
    let st := statusOfCode (at' 7 1)
    if op == 2 then s.confirmResult (at' 16 8) st
    else match s.dict.waiting.find? fun w => w.jsn == 0 && w.tid == at' 2 2 && w.op == op && w.target == f.src with
      | some w => s.answer w st (at' 12 4) (f.payload.drop 16)
      | none => s

end Sys2Proof.Machine
end

