-- ==== Sys2Proof/Machine/System.lean ====
section
/-!
DEFINITION. Sys2Proof/Machine/System.lean: supplies, resets, power fail, VCORE, the operator certificate, debug access, firmware
activation and hibernation (R49, R418 to R442).
-/
namespace Sys2Proof.Machine

/-! ### Supplies and resets (R426, R431 to R434, R461) -/

/-- Internal reset is released once the supplies have been valid for 2 ms (R426): cause 1 after a brownout, else 0. -/
def State.suppliesUp (s : State) (vinMv vddaMv : Nat) : State :=
  if s.powered || s.sys.hibernating || vinMv < 830 || vddaMv < 1710 then s
  else (s.resetTo (if s.sys.pendingReset == some 1 then 1 else 0)).upSys fun y => { y with vin := vinMv, vdda := vddaMv }

/-- SUPPLIES_VALID (R426). -/
def execSuppliesValid (vinMv vddaMv : Nat) (s : State) : Result := .next (s.suppliesUp vinMv vddaMv)

/-- The device loses its supplies, hibernating or not; the keep area is lost with VIN (R432). -/
def State.loseSupplies (s : State) (cause : Option Nat) : State :=
  s.toOff.upSys fun y => { y with hibernating := false, flushing := false, pendingReset := cause,
                                  keep := { y.keep with valid := false } }

/-- BROWNOUT (R426): a power-on reset with cause 1 follows once the supplies are valid again. -/
def execBrownout (s : State) : Result := .next (if s.powered || s.sys.hibernating then s.loseSupplies (some 1) else s)

/-- VIN_LOSS (R29): any state to OFF. -/
def execVinLoss (s : State) : Result := .next (if s.powered || s.sys.hibernating then s.loseSupplies none else s)

/-- RST_N_ASSERT (R431 cause 3, R461). -/
def execRstNAssert (s : State) : Result := .next (s.onPower (s.warmReset 3))

/-- A write of RESET_REQUEST (R77, R431 cause 5). -/
def State.applyResetRequest (s : State) (value : Nat) : Applied := s.ownWrite value (s.warmReset 5).yes

/-- RESET_REQUEST (R77). -/
def execResetRequest (value : Nat) (s : State) : Result :=
  .next (s.onPower (settle Obj.RESET_REQUEST 0 (s.applyResetRequest value)))

/-- JTAG_STATE (R439): 0 OPEN, 1 LOCKED, 2 UNLOCKED. -/
def State.jtagState (s : State) : Nat := if !s.sys.jtagLocked then 0 else if s.sys.jtagUnlocked then 2 else 1

/-- JTAG_RESET (R431 cause 7): not while LOCKED. -/
def execJtagReset (s : State) : Result := .next (s.onPower (if s.jtagState == 1 then s else s.warmReset 7))

/-- The watchdog expires (R434): a warm reset with cause 4, and F2 SYS_WDOG in BOOT. -/
def State.wdExpire (s : State) : State := if s.sys.wdRun then s.warmReset 4 else s

/-- WDOG_TIMEOUT in taps (R434). -/
def State.wdTaps (s : State) : Nat := s.objEff Obj.WDOG_TIMEOUT * tapsMs

/-- WATCHDOG_EXPIRY (R434): the watchdog has not been kicked within WDOG_TIMEOUT. -/
def execWatchdogExpiry (s : State) : Result :=
  .next (s.onPower (if s.elapsed s.sys.wdKickTap s.wdTaps then s.wdExpire else s))

/-- Half the timeout has passed (R434). -/
def State.wdWarn (s : State) : State :=
  if s.sys.wdRun && s.elapsed s.sys.wdKickTap (s.wdTaps / 2) then s.upSys fun y => { y with evt := setBit32 y.evt 4 } else s

/-- WATCHDOG_WARNING (R434). -/
def execWatchdogWarning (s : State) : Result := .next (s.onPower s.wdWarn)

/-- A write of SYS.WDKICK (R434): the key restarts the watchdog, any other value expires it at once. -/
def State.wdKick (s : State) (key : Nat) : State :=
  if !s.sys.wdRun then s
  else if key % 2 ^ 32 == 0xA5C3 then s.upSys fun y => { y with wdKickTap := s.tb.taps }
  else s.wdExpire

/-- WATCHDOG_KICK (R434). -/
def execWatchdogKick (key : Nat) (s : State) : Result := .next (s.onPower (s.wdKick key))

/-! ### Hibernation (R436, R437) -/

/-- A write of HIBERNATE (R436): close the open record, flush, save the keep area, darken, and remove the supplies. -/
def State.applyHibernate (s : State) (value : Nat) : Applied :=
  s.ownWrite value
    (if s.node.nodeState == .ready || s.node.nodeState == .block then
      let s1 := (s.upRecd (Rec.close false)).flushStore
      let s2 := s1.upLink fun l => { l with ports := l.ports.map fun p => { p with txDark := true, state := .disabled, queue := [] } }
      (s2.toOff.upSys fun y => { y with hibernating := true }).yes
    else s.no .state)

/-- HIBERNATE (R436). -/
def execHibernate (value : Nat) (s : State) : Result :=
  .next (s.onPower (settle Obj.HIBERNATE 0 (s.applyHibernate value)))

/-- WAKE (R437): a reset with cause 2. -/
def execWake (s : State) : Result := .next (if s.sys.hibernating then s.resetNow 2 else s)

/-! ### Power fail (R428 to R430) -/

/-- RAM commits are allowed (R315, R410, R428). -/
def State.holdupOk (s : State) : Bool :=
  s.objEff Obj.PFAIL_USED != 0 && !s.sys.pfailLow && (s.bob.mounted || s.recd.media) && s.sys.keep.clean == false && s.bob.flushUs ≤ 1200

/-- Bring JRN.STAT.HOLDUP in step (R315, R428). -/
def State.syncHoldup (s : State) : State := s.upJrn fun j => { j with holdup := s.holdupOk }

/-- A filtered fall of PFAIL_N (R428, R429): commits stop, the open record closes with PFAIL, SUPPLY_PFAIL is raised, and the flush
runs. -/
def State.pfailStart (s : State) : State :=
  if s.objEff Obj.PFAIL_USED == 0 || s.sys.pfailLow then s
  else
    let s1 := s.upSys fun y => { y with pfailLow := true, flushing := s.bob.mounted,
                                        pfails := satAdd 32 y.pfails 1, evt := setBit32 y.evt 0 }
    let s2 := (s1.upRecd (Rec.close true)).upBob fun b => { b with work := if s1.sys.flushing then 1 :: b.work.filter (· ≤ 5) else b.work }
    s2.syncHoldup.raise .supplyPfail

/-- PFAIL_FALL (R429). -/
def execPfailFall (s : State) : Result := .next (s.onPower s.pfailStart)

/-- The flush completes (R410, R429): everything to be flushed is in flash with the clean-flush mark, and a warm reset that waited
takes effect (R433). -/
def State.flushDone (s : State) : State :=
  if !s.sys.flushing then s
  else
    let s1 := (s.flushStore.upSys fun y => { y with flushing := false, clean := true, pendingReset := none,
                                                    evt := setBit32 y.evt 2 }).upBob fun b => { b with work := b.work.filter (· != 1) }
    match s.sys.pendingReset with
    | some c => s1.resetNow c
    | none => s1

/-- PFAIL_FLUSH_DONE (R410). -/
def execPfailFlushDone (s : State) : Result := .next (s.onPower s.flushDone)

/-- PFAIL_N has been high for 10 ms (R430): the flush area is erased and RAM commits are allowed again. -/
def State.pfailEnd (s : State) : State :=
  if !s.sys.pfailLow || s.sys.flushing then s
  else
    (((s.upSys fun y => { y with pfailLow := false, clean := false, keep := { y.keep with clean := false },
                                 evt := setBit32 y.evt 1 }).upBob fun b => { b with flushed := Vector.replicate 2 0 }).syncHoldup)

/-- PFAIL_RECOVER (R430). -/
def execPfailRecover (s : State) : Result := .next (s.onPower s.pfailEnd)

/-! ### VCORE (R427) -/

/-- The setting that VIN supports: VCORE follows VIN − 150 mV downward. -/
def State.vcoreReach (s : State) : Nat := min (s.obj Obj.VCORE) (s.sys.vin - 150)

/-- A write of VCORE (R427) with the measured VIN, which carries the new value: the ramp to it starts, and VIN limits VCORE no longer. -/
def State.applyVcore (s : State) (value vinMv jsn : Nat) : Applied :=
  if value < 600 || 1000 < value || value % 10 != 0 then s.no .range
  else if value < s.vcoreMin || vinMv < value + 150 then s.no .refused
  else (((s.setObj Obj.VCORE value jsn).upSys fun y => { y with
    ramp := true, rampAt := s.tb.taps, rampFrom := s.vcoreBound, vin := vinMv, headroom := false }).endRun .vcoreHeadroom 0).yes

/-- VCORE_WRITE (R427). -/
def execVcoreWrite (value vinMv : Nat) (s : State) : Result :=
  .next (s.onPower (settle Obj.VCORE 0 (s.applyVcore value vinMv 0)))

/-- The taps of a ramp at 2 mV/µs from the measured VCORE (R427). -/
def State.rampTaps (s : State) : Nat :=
  ((s.vcoreReach - s.sys.vcoreNow) + (s.sys.vcoreNow - s.vcoreReach)) * tapsUs / 2

/-- The converter has reached the new setting (R427). -/
def State.rampDone (s : State) : State :=
  if s.sys.ramp && s.elapsed s.sys.rampAt s.rampTaps then
    s.upSys fun y => { y with ramp := false, vcoreNow := s.vcoreReach, evt := setBit32 y.evt 3 }
  else s

/-- VCORE_RAMP_DONE (R427). -/
def execVcoreRampDone (s : State) : Result := .next (s.onPower s.rampDone)

/-- VIN sags (R427): VCORE follows VIN − 150 mV, with F1 VCORE_HEADROOM once per run. -/
def State.vinSag (s : State) (vinMv : Nat) : State :=
  let s1 := s.upSys fun y => { y with vin := vinMv }
  if vinMv < s.obj Obj.VCORE + 150 then
    (s1.upSys fun y => { y with headroom := true, vcoreNow := vinMv - 150, evt := setBit32 y.evt 5 }).raiseRun .vcoreHeadroom
  else s1

/-- VCORE_HEADROOM (R427). -/
def execVcoreHeadroom (vinMv : Nat) (s : State) : Result := .next (s.onPower (s.vinSag vinMv))

/-- The stored setting is in force at the end of BOOT, as far as VIN carries it (R427, R443). -/
def State.vcoreBoot (s : State) : State :=
  if s.sys.vin < s.obj Obj.VCORE + 150 then s.vinSag s.sys.vin else s.upSys fun y => { y with vcoreNow := s.obj Obj.VCORE }

/-- VIN recovers (R427): VCORE returns to the setting. -/
def State.vinBack (s : State) (vinMv : Nat) : State :=
  let s1 := s.upSys fun y => { y with vin := vinMv }
  if s.sys.headroom && s.obj Obj.VCORE + 150 ≤ vinMv then
    (s1.upSys fun y => { y with headroom := false, vcoreNow := s.obj Obj.VCORE }).endRun .vcoreHeadroom 0
  else if s.sys.headroom then s1.upSys fun y => { y with vcoreNow := s1.vcoreReach }
  else s1

/-- VIN_RECOVERS (R427). -/
def execVinRecovers (vinMv : Nat) (s : State) : Result := .next (s.onPower (s.vinBack vinMv))

/-! ### Certificates (R418, R419) -/

/-- UTC in seconds by NT and UTC_OFFSET (R250, R418). -/
def State.utcNow (s : State) : Int := (s.tb.ntNs / 1000000000 : Nat) - s.tb.utcOffset

/-- OP_CERT_STATUS and OP_CERT_REASON: the first failed check of R418. -/
def State.certCheck (s : State) : Nat × Nat :=
  let f := s.sys.certFacts
  if s.obj Obj.OP_CERT == 0 then (0, 0)
  else if !f.parses then (2, 1)
  else if !f.keyIsDevice then (2, 2)
  else if s.obj Obj.OP_ROOT == 0 then (2, 6)
  else if !f.chainOk then (2, 3)
  else if s.tb.state == .locked && s.utcNow < f.notBefore then (2, 4)
  else if s.tb.state == .locked && (f.notAfter : Int) < s.utcNow then (2, 5)
  else (1, 0)

/-- Check OP_CERT (R418): F1 OP_CERT_INVALID where it does not hold. -/
def State.checkCert (s : State) : State :=
  let c := s.certCheck
  let s1 := s.upSys fun y => { y with certStatus := c.1, certReason := c.2 }
  if c.1 == 2 then s1.raise .opCertInvalid else s1

/-- The bytes of the device certificate or the operator certificate (R417). -/
def State.certBytes (s : State) (op : Bool) : List Byte :=
  if op then leBytes 2048 (s.obj Obj.OP_CERT) else leBytes 1024 (Config.factoryValue Obj.DEVICE_CERT)

/-- The bytes of DER in one CERT segment. DESIGN CHOICE(10): at most 1,000 by R419; 480 fit the TIME queue beside other frames. -/
abbrev certSegBytes : Nat := 480

/-- One CERT segment (R419), from an offset. -/
def State.certSegment (s : State) (op : Bool) (off : Nat) : List Byte :=
  let all := s.certBytes op
  let part := (all.drop off).take certSegBytes
  leBytes 1 4 ++ leBytes 1 (b2n (decide (all.length ≤ off + certSegBytes)) + 2 * b2n op) ++ leBytes 2 off ++ leBytes 2 all.length
    ++ leBytes 2 0 ++ part

/-- Send a certificate to the neighbour on a port: its first segment now, each further one when the one before has left (R419). -/
def State.sendCert (s : State) (p : Nat) (op : Bool) : State := s.sendLocal p .time (s.certSegment op 0)

/-- Send the operator certificate again on every port after a change (R419). -/
def State.resendCert (s : State) : State :=
  if s.sys.certStatus == 1 then [0, 1, 2, 3, 4, 5].foldl (fun t p => t.sendCert p true) s else s

/-- OP_CERT or OP_ROOT is applied (R418): applied whatever the check finds. -/
def State.applyCert (s : State) (root : Bool) (value : Nat) (facts : CertFacts) (jsn : Nat) : Applied :=
  let s1 := (s.setObj (if root then Obj.OP_ROOT else Obj.OP_CERT) value jsn).upSys fun y => { y with certFacts := facts }
  s1.checkCert.resendCert.yes

/-- OP_CERT_WRITE (R418). -/
def execOpCertWrite (root : Bool) (value : Nat) (facts : CertFacts) (s : State) : Result :=
  .next (s.onPower (settle (if root then Obj.OP_ROOT else Obj.OP_CERT) 0 (s.applyCert root value facts 0)))

/-- OP_CERT is checked when TIME_STATE first becomes LOCKED and then every hour (R418). -/
def State.certDue (s : State) : Bool :=
  match s.sys.certAt with
  | none => s.tb.state == .locked
  | some t => s.elapsed t (3600 * tapsS)

/-- OP_CERT_PERIODIC_CHECK (R418). -/
def execOpCertPeriodicCheck (s : State) : Result :=
  .next (s.onPower (if s.certDue then (s.upSys fun y => { y with certAt := some s.tb.taps }).checkCert else s))

/-! ### Debug access (R439, R440) -/

/-- A write of JTAG_LOCK (R440). -/
def State.applyJtagLock (s : State) (value : Nat) : Applied :=
  s.ownWrite value
    (if s.node.nodeState == .ready || s.node.nodeState == .block then (s.upSys fun y => { y with jtagLocked := true }).yes
    else s.no .state)

/-- JTAG_LOCK (R440). -/
def execJtagLock (value : Nat) (s : State) : Result :=
  .next (s.onPower (settle Obj.JTAG_LOCK 0 (s.applyJtagLock value)))

/-- A TAP challenge (R440): a good signature unlocks, sets the SPB latch with cause 11 and raises F2 DEBUG_UNLOCKED. -/
def State.tapUnlock (s : State) (sigOk : Bool) : State :=
  if s.jtagState == 1 && sigOk then
    (((s.upSys fun y => { y with jtagUnlocked := true }).upSel fun l => { l with jtagHold := true }).setCause 11).raise .debugUnlocked
  else s

/-- JTAG_UNLOCK (R440). -/
def execJtagUnlock (sigOk : Bool) (s : State) : Result := .next (s.onPower (s.tapUnlock sigOk))

/-! ### Firmware activation and restore of defaults (R49, R423) -/

/-- The slot that is staged: the one that does not run (R423). -/
def State.stagedSlot (s : State) : Nat := 1 - s.sys.slot

/-- A write of IMAGE_ACTIVATE (R423). -/
def State.applyImageActivate (s : State) (value jsn : Nat) : Applied :=
  if 1 < value then s.no .range
  else if value == 0 then (s.setObj Obj.IMAGE_ACTIVATE 0 jsn).yes
  else if s.sys.imageStatus != 2 then s.no .state
  else match vget s.sys.slots s.stagedSlot none with
    | some f =>
      if f.svn < s.sys.minSvn then s.no .refused
      else ((s.setObj Obj.IMAGE_ACTIVATE 1 jsn).upSys fun y => { y with keep := { y.keep with trialCount := 0 } }).yes
    | none => s.no .state

/-- IMAGE_ACTIVATE (R423). -/
def execImageActivate (value : Nat) (s : State) : Result :=
  .next (s.onPower (settle Obj.IMAGE_ACTIVATE 0 (s.applyImageActivate value 0)))

/-- A write of RESTORE_DEFAULTS (R49): RWS objects only from a SAFETY ENGINEER session. -/
def State.applyRestore (s : State) (value : Nat) (role : SessRole) : Applied :=
  s.ownWrite value (s.upDict fun d => { d with
    restore := if role == .safetyEngineer || d.restore == .all then .all else .keepRws }).yes

/-- RESTORE_DEFAULTS (R49). -/
def execRestoreDefaults (value : Nat) (role : SessRole) (s : State) : Result :=
  .next (s.onPower (settle Obj.RESTORE_DEFAULTS 0 (s.applyRestore value role)))

end Sys2Proof.Machine
end

