-- ==== Sys2Proof/Machine/Island.lean ====
section
/-!
DEFINITION. Sys2Proof/Machine/Island.lean: the Selvedge island: its inputs, comparators, enables, safety frames, dual-network mode,
channel monitoring, the safety parameter set and the release of the SPB latch (R345 to R384, R190).
-/
namespace Sys2Proof.Machine

/-! ### The safety parameter set and the SCV (R374 to R376) -/

/-- The 64 bytes of the safety parameter set (R374). -/
def State.spsImage (s : State) : List Byte :=
  let o (n k : Nat) := leBytes n (s.obj k)
  leBytes 1 1 ++ leBytes 1 (roleCode s.node.role) ++ o 1 Obj.SIN_MODE ++ o 1 Obj.SIN_FWD ++ o 2 Obj.SIN_FILT_B ++ o 2 Obj.SIN_DISC
    ++ o 2 Obj.TEXP ++ o 2 Obj.SF_PERIOD ++ o 1 Obj.DEG_HOURS ++ o 1 Obj.DNM_WAIVE ++ o 1 Obj.OFFPULSE_EN ++ leBytes 1 0
    ++ ([0, 1, 2, 3].flatMap fun n =>
      o 2 (Obj.WC_LOW + 256 * n) ++ o 2 (Obj.WC_HIGH + 256 * n) ++ o 1 (Obj.WC_USE + 256 * n) ++ leBytes 1 0 ++ o 2 (Obj.WC_FILT + 256 * n))
    ++ o 2 Obj.SDI_TIME ++ o 1 Obj.GO_POL ++ o 1 Obj.GO4_MODE ++ o 2 Obj.BYP_PULSE_W ++ o 2 Obj.BYP_PULSE_P ++ leBytes 8 0

/-- The island computes the SCV (R375). -/
def State.computeScv (s : State) : State := s.upSel fun l => { l with scv := Crc.scrc s.spsImage }

/-- The SCV counts as confirmed: confirmed, or in legacy seal mode (R376, R378). -/
def State.scvGood (s : State) : Bool := s.sel.sealEn || s.sel.scvOk

/-- The SCV becomes unconfirmed by an RWS write (R46). -/
def State.unconfirm (s : State) : State := s.upSel fun l => { l with scvOk := false }

/-! ### Inputs (R352) -/

/-- The levels the safety core has taken are discrepant by SIN_MODE (R352). -/
def State.sinDiscrepant (s : State) : Bool :=
  let l0 := vget s.sel.sinC 0 false
  let l1 := vget s.sel.sinC 1 false
  match s.obj Obj.SIN_MODE with
  | 0 => false
  | 1 => l0 != l1
  | _ => l0 == l1

/-- An ARM master's own demand begins or ends to be forwarded (R365): the demand's identifier is set at its start. -/
def State.noteArmDemand (s : State) : State :=
  let b := s.isArm && s.objB Obj.SIN_FWD && s.sinActive
  if b == s.sel.demanding then s
  else s.upSel fun l => { l with demanding := b, demandId := if b then s.optNow % 2 ^ 32 else l.demandId }

/-- Bring cause 0 in step with the SAFE_IN demand, with F2 (F3, F4) SAFE_TRIP at its start (R348, R352, R365, R368). -/
def State.sinUpdate (s : State) : State :=
  let s0 := if s.sel.discrepant && !s.sinDiscrepant then
      (s.upSel fun l => { l with discrepant := false }).endCause 1
    else s
  let s0 := s0.noteArmDemand
  let act := s0.sinActive
  if act && !bitOf s0.sel.causes 0 then (s0.setCause 0).tripUpdate.raise .safeTrip
  else if !act && bitOf s0.sel.causes 0 then (s0.endCause 0).tripUpdate
  else s0

/-- Badger takes the level of an input after its filter (R352). -/
def State.badgerTakes (s : State) (n : Nat) (level : Bool) : State :=
  (s.upSel fun l => { l with sinB := vset l.sinB n level }).sinUpdate

/-- SAFE_IN_FILTER (R352); without VDDIO_B the input reads low (R455). -/
def execSafeInFilter (n : Nat) (level : Bool) (s : State) : Result :=
  .next (s.onPower (if n < 2 then s.badgerTakes n (level && s.sys.vddioB) else s))

/-- SIN_DISCREPANCY (R352): the levels have been discrepant for SIN_DISC. -/
def State.sinDisc (s : State) : State :=
  if s.sinDiscrepant && s.lasted s.sel.sinDiscAt (s.obj Obj.SIN_DISC * tapsMs) && !s.sel.discrepant && !s.sel.failedC then
    ((s.upSel fun l => { l with discrepant := true }).setCause 1).raise .safeInDiscrepancy
  else s

/-- SIN_DISCREPANCY (R352). -/
def execSinDiscrepancy (s : State) : Result := .next (s.onPower s.sinDisc)

/-! ### Comparators (R190, R350, R356) -/

/-- Comparator `n`. -/
def State.wcAt (s : State) (n : Nat) : Wc := vget s.sel.wc n {}

/-- Change comparator `n`. -/
def State.upWc (s : State) (n : Nat) (f : Wc → Wc) : State := s.upSel fun l => { l with wc := vset l.wc n (f (vget l.wc n {})) }

/-- The use of comparator `n` (R356). -/
def State.wcUse (s : State) (n : Nat) : Nat := s.obj (Obj.WC_USE + 256 * n)

/-- The comparator is in the state its use acts on (R356): 1 and 2 on ABOVE, 3 on BELOW. -/
def wcActs (use : Nat) (c : WcState) : Bool := ((use == 1 || use == 2) && c == .above) || (use == 3 && c == .below)

/-- The state after the input lies at `uv` microvolts, with 6 mV of hysteresis (R190). A code is 1.5625 mV. -/
def wcNext (cur : WcState) (low high uv : Nat) : WcState :=
  let v := 2 * uv
  let vl := 3125 * low
  let vh := 3125 * high
  let fresh : WcState := if v < vl then .below else if vh ≤ v then .above else .inside
  match cur with
  | .inside => fresh
  | .above => if v + 12000 < vh then fresh else .above
  | .below => if vl + 12000 ≤ v then fresh else .below

/-- SDI is indicated (R350): a comparator with use SDI has been BELOW for SDI_TIME, with no comparator fault. -/
def State.sdiNow (s : State) : Bool :=
  [0, 1, 2, 3].any fun n => s.wcUse n == 4 && (s.wcAt n).belowSdi && (s.wcAt n).state == .below && !(s.wcAt n).fault

/-- Bring SDI in step; F0 SDI_INDICATED is recorded at each change (R350, R382). -/
def State.sdiUpdate (s : State) : State :=
  let b := s.sdiNow
  if b == s.sel.sdi then s else (s.upSel fun l => { l with sdi := b }).raise .sdiIndicated (b2n b)

/-- A comparator with use SPB acts at a channel that has not failed, or has a fault (R356, R371). -/
def State.wcSpb (s : State) : Bool :=
  [0, 1, 2, 3].any fun n =>
    let c := s.wcAt n
    (s.wcUse n == 2 || s.wcUse n == 3) && ((c.tripped && !s.sel.failedB) || (c.coreTrip && !s.sel.failedC) || c.fault)

/-- Bring cause 5 in step with the comparators' trips. -/
def State.wcUpdate (s : State) : State :=
  if s.wcSpb then (if bitOf s.sel.causes 5 then s else s.setCause 5) else s.endCause 5

/-- A comparator fires the bypass with a cause of SBY_CAUSE (R349), with F2 SBY_FIRED. DEDUCED(41): a firmware request has a fault or a
command of its own and raises no SBY_FIRED beside it. -/
def State.fireSby (s : State) (cause : Nat) : State :=
  if s.isCell && s.powered && !s.sel.sby then (s.latchSby cause).raise .sbyFired else s

/-- The comparator's input changes (R190): its state, and what ends with it. -/
def State.wcInput (s : State) (n uv : Nat) : State :=
  let c := s.wcAt n
  let s := s.upWc n fun c => { c with uv := uv }
  let st := wcNext c.state (s.obj (Obj.WC_LOW + 256 * n)) (s.obj (Obj.WC_HIGH + 256 * n)) uv
  if st == c.state then s
  else
    let s1 := s.upWc n fun c => { c with state := st, since := s.tb.taps, tripped := c.tripped && wcActs (s.wcUse n) st, belowSdi := false }
    s1.wcUpdate.sdiUpdate

/-- WC_STATE_CHANGE (R190). -/
def execWcStateChange (n microvolts : Nat) (s : State) : Result := .next (s.onPower (if n < 4 then s.wcInput n microvolts else s))

/-- The least time of Badger's filter WC_FILTn: IOSC runs within 15 % of 40 MHz (R345, R352, R356). -/
def State.wcFiltTaps (s : State) (n : Nat) : Nat := s.obj (Obj.WC_FILT + 256 * n) * 272 / 25

/-- Badger's filter has run on an acting comparator (R356): SBY or SPB by its use. -/
def State.wcFiltered (s : State) (n : Nat) : State :=
  let use := s.wcUse n
  let c := s.wcAt n
  if !wcActs use c.state || !s.elapsed c.since (s.wcFiltTaps n) || s.sel.failedB || c.tripped then s
  else
    let s1 := s.upWc n fun c => { c with tripped := true }
    if use == 1 then s1.fireSby 1 else s1.wcUpdate.raise .wcTrip n

/-- WC_FILTER_EXPIRY (R356). -/
def execWcFilterExpiry (n : Nat) (s : State) : Result := .next (s.onPower (if n < 4 then s.wcFiltered n else s))

/-- SDI_TIMER (R350): a comparator with use SDI has been BELOW for SDI_TIME. -/
def State.sdiTimed (s : State) (n : Nat) : State :=
  if s.wcUse n == 4 && (s.wcAt n).state == .below && s.elapsed (s.wcAt n).since (s.obj Obj.SDI_TIME * tapsMs) then (s.upWc n fun c => { c with belowSdi := true }).sdiUpdate else s

/-- SDI_TIMER (R350). -/
def execSdiTimer (n : Nat) (s : State) : Result := .next (s.onPower (if n < 4 then s.sdiTimed n else s))

/-- The safety core's sample of comparator `n` (R356): its trip follows three equal consecutive samples. -/
def State.coreWc (s : State) (n : Nat) : State :=
  let use := s.wcUse n
  let c := s.wcAt n
  let a := wcActs use c.state
  if a == c.coreTrip then s.upWc n fun c => { c with coreRun := 0 }
  else if c.coreRun + 1 < 3 then s.upWc n fun c => { c with coreRun := c.coreRun + 1 }
  else
    let s1 := s.upWc n fun c => { c with coreTrip := a, coreRun := 0 }
    if s.sel.failedC then s1
    else if a && use == 1 then (if s.sel.failedB then s1.fireSby 2 else s1)
    else if a then (if c.tripped then s1.wcUpdate else s1.wcUpdate.raise .wcTrip n)
    else s1.wcUpdate

/-- A sample of one input: the level and how many equal samples in a row (R352). -/
def sampleIn (old : Bool × Nat) (level : Bool) : Bool × Nat := if old.1 == level then (level, min (old.2 + 1) 3) else (level, 1)

/-- The safety core samples its inputs (R352, R356) every 10 µs on its own grid. A core that has passed its self-test samples also while
degraded mode keeps it from acting (R373). -/
def State.coreSample (s : State) (level0 level1 : Bool) : State :=
  if !s.sel.testedC || !s.elapsed s.sel.coreAt (10 * tapsUs) then s
  else
    let c0 := sampleIn (vget s.sel.coreSamp 0 (false, 0)) level0
    let c1 := sampleIn (vget s.sel.coreSamp 1 (false, 0)) level1
    let s1 := s.upSel fun l => { l with
      coreAt := s.tb.taps
      coreSamp := #v[c0, c1]
      sinC := #v[if c0.2 == 3 then c0.1 else vget l.sinC 0 false, if c1.2 == 3 then c1.1 else vget l.sinC 1 false] }
    [0, 1, 2, 3].foldl State.coreWc s1.sinUpdate

/-- SAFETY_CORE_SAMPLE (R352); without VDDIO_B the inputs read low (R455). -/
def execSafetyCoreSample (level0 level1 : Bool) (s : State) : Result :=
  .next (s.onPower (s.coreSample (level0 && s.sys.vddioB) (level1 && s.sys.vddioB)))

/-! ### Enables and their test (R353, R354) -/

/-- The permits that the enables need (R353, R372): both channels', or in degraded mode the healthy channel's. -/
def Selvedge.permits (l : Selvedge) : Bool :=
  if l.degraded && l.failedB then l.permitC
  else if l.degraded && l.failedC then l.permitB
  else l.permitB && l.permitC

/-- SAFE_ENn is commanded active (R353, R354). -/
def State.enActive (s : State) (n : Nat) : Bool :=
  s.powered && s.sel.permits && !s.sel.spb && !vget s.sel.enPulse n false

/-- The last commanded edge of SAFE_ENn (R354). -/
def State.lastEnEdge (s : State) (n : Nat) : Nat :=
  let e := vget s.sel.enSeen n (false, 0)
  if s.enActive n == e.1 then e.2 else s.tb.taps

/-- An instant of the grid of off-pulses passes (R354): the next one comes 100 ms later, and a pulse is sent where the enable is active. -/
def State.pulseStart (s : State) (n : Nat) : State :=
  let s1 := s.upSel fun l => { l with pulseAt := vset l.pulseAt n (vget l.pulseAt n 0 + 100 * tapsMs) }
  if s.objB Obj.OFFPULSE_EN && !s.sel.spb && s.enActive n then
    s1.upSel fun l => { l with enPulse := vset l.enPulse n true, pulses := satAdd 32 l.pulses 1 }
  else s1

/-- An off-pulse begins at its instant of the grid, or ends 300 ns later (R354): a pulse that falls while SPB is applied is not sent. -/
def State.pulse (s : State) (n : Nat) (active : Bool) : State :=
  if active then (if s.elapsed (vget s.sel.pulseAt n 0) 0 then s.pulseStart n else s)
  else if vget s.sel.enPulse n false && s.elapsed (s.lastEnEdge n) (nsTaps 300) then
    s.upSel fun l => { l with enPulse := vset l.enPulse n false }
  else s

/-- The feedback is compared (R354): from 1 µs after each commanded edge, and in a pulse from 200 ns after its start. -/
def State.fbDue (s : State) (n : Nat) : Bool :=
  s.elapsed (s.lastEnEdge n) (if vget s.sel.enPulse n false then nsTaps 200 else tapsUs)

/-- OFFPULSE (R354). -/
def execOffpulse (n : Nat) (active : Bool) (s : State) : Result := .next (s.onPower (if n < 2 then s.pulse n active else s))

/-- SAFE_FBn is compared with the commanded level (R354): a wrong reading sets cause 6 and raises F2 SAFE_FB_FAULT. -/
def State.fbCheck (s : State) (n : Nat) (level : Bool) : State :=
  let bad := level != s.enActive n
  let was := vget s.sel.fbBad n false
  let s1 := s.upSel fun l => { l with fb := vset l.fb n level, fbBad := vset l.fbBad n bad }
  if bad then (if was then s1.setCause 6 else (s1.setCause 6).raise .safeFbFault n)
  else if vget s1.sel.fbBad 0 false || vget s1.sel.fbBad 1 false then s1
  else s1.endCause 6

/-- OFFPULSE_CHECK (R354); without VDDIO_B the feedback reads low (R455). -/
def execOffpulseCheck (n : Nat) (level : Bool) (s : State) : Result := .next (s.onPower (if n < 2 && s.fbDue n then s.fbCheck n (level && s.sys.vddioB) else s))

/-- PERMIT_WITHDRAW (R353): a channel stops toggling its permit; `core` names channel C. -/
def execPermitWithdraw (core : Bool) (s : State) : Result :=
  .next (s.onPower (s.upSel fun l => if core then { l with permitC := false } else { l with permitB := false }))

/-! ### Safety frames (R358 to R365) -/

/-- The ports on which parent connections stand (R358, R364): none at a STATION. -/
def State.parentPorts (s : State) : List Nat := if s.isStation then [] else [0, 1]

/-- The connection of a port. -/
def State.conn (s : State) (p : Nat) : Conn := vget s.sel.conns p {}

/-- Change the connection of a port. -/
def State.upConn (s : State) (p : Nat) (f : Conn → Conn) : State :=
  s.upSel fun l => { l with conns := vset l.conns p (f (vget l.conns p {})) }

/-- Dual-network mode (R366). -/
def State.dnm (s : State) : Bool :=
  !s.isStation && (s.node.nodeState == .join || s.node.nodeState == .ready || s.node.nodeState == .block || s.objB Obj.SAFETY_TEST)

/-- A valid frame from either parent carries SPB_DEM (R365). -/
def State.parentDemand (s : State) : Option Nat :=
  s.parentPorts.findSome? fun p => if (s.conn p).carries (·.spbDem) then (s.conn p).last.map (·.demandId) else none

/-- SPB_DEM in the DOWN frames of this node, with its DEMAND_ID (R365). -/
def State.downDemand (s : State) : Option Nat :=
  match s.parentDemand with
  | some d => some d
  | none =>
    if (s.isStation && s.sel.sysTrip) || (s.isArm && s.objB Obj.SIN_FWD && s.sinActive) then some s.sel.demandId else none

/-- The SDATA this node sends on a port (R360, R365). -/
def State.sdata (s : State) (p : Nat) : SafetyFrame :=
  let down := 2 ≤ p
  let dem := if down then s.downDemand else none
  { spbDem := dem.isSome, tripUp := !down && (s.sel.f4Req || s.childTrip), spb := s.sel.spb, sby := s.sel.sby, sdi := s.sel.sdi,
    deg := s.sel.degraded, dnm := s.dnm, nstate := nodeCode s.node.nodeState, demandId := dem.getD 0 }

/-- The SDATA bytes of a frame (R360). -/
def safetyData (f : SafetyFrame) : List Byte :=
  leBytes 1 (b2n f.spbDem + 2 * b2n f.tripUp + 4 * b2n f.spb + 8 * b2n f.sby + 16 * b2n f.sdi + 32 * b2n f.deg + 64 * b2n f.dnm)
    ++ leBytes 1 f.nstate ++ leBytes 4 f.demandId ++ leBytes 2 0

/-- The 22 bytes of a safety frame (R359, R361). -/
def safetyBytes (f : SafetyFrame) : List Byte :=
  let b := leBytes 1 1 ++ leBytes 1 (b2n f.init) ++ leBytes 4 f.connId ++ leBytes 2 f.seq ++ leBytes 2 f.texp ++ safetyData f
  b ++ leBytes 4 (Crc.scrc b)

/-- A safety frame from its bytes (R359, R360). -/
def safetyOfBytes (bs : List Byte) : SafetyFrame :=
  let at' (i n : Nat) := leNat ((bs.drop i).take n)
  let b := at' 10 1
  { init := bitOf (at' 1 1) 0, connId := at' 2 4, seq := at' 6 2, texp := at' 8 2, spbDem := bitOf b 0, tripUp := bitOf b 1,
    spb := bitOf b 2, sby := bitOf b 3, sdi := bitOf b 4, deg := bitOf b 5, dnm := bitOf b 6, nstate := at' 11 1,
    demandId := at' 12 4 }

/-- The form of a safety frame: length, KIND and SCRC (R359, R364). -/
def safetyFormOk (bs : List Byte) : Bool :=
  bs.length == 22 && leNat (bs.take 1) == 1 && leNat (bs.drop 18) == Crc.scrc (bs.take 18)

/-- The CONN_ID of a connection (R362). -/
def connIdOf (pkSender pkReceiver : Nat) : Nat := leNat ((Crc.sha256 (leBytes 32 pkSender ++ leBytes 32 pkReceiver)).take 4)

/-- The own device key (R417). -/
def ownKey : Nat := Config.factoryValue Obj.DEVICE_PUBKEY

/-- Two frames carry the same SDATA (R363). -/
def sameSdata (a b : SafetyFrame) : Bool :=
  a.spbDem == b.spbDem && a.tripUp == b.tripUp && a.spb == b.spb && a.sby == b.sby && a.sdi == b.sdi && a.deg == b.deg
    && a.dnm == b.dnm && a.nstate == b.nstate && a.demandId == b.demandId

/-- Send a safety frame on the connection of a port (R358, R363). -/
def State.sendSafety (s : State) (p : Nat) : State :=
  match vget s.sys.admitted p none with
  | some pk =>
    if !s.lit p || s.sel.failedC then s
    else
      let c := s.conn p
      let f := { s.sdata p with init := !c.gotValid, connId := connIdOf ownKey pk, seq := c.txSeq, texp := s.obj Obj.TEXP }
      let s1 := s.upConn p fun c => { c with txSeq := (c.txSeq + 1) % 65536, txLast := some f }
      let dst := (s.port p).peer.addr
      if p < 2 then s1.sendUpOn p .safety dst false (safetyBytes f) else s1.sendDownOn p .safety dst (safetyBytes f)
  | none => s

/-- The ports with a connection (R358). -/
def State.connPorts (s : State) : List Nat := if s.isStation then [2, 3, 4, 5] else [0, 1, 2, 3, 4, 5]

/-- One frame on each connection every SF_PERIOD (R363). -/
def State.sendPeriodic (s : State) : State :=
  if s.elapsed s.sel.sfAt (s.obj Obj.SF_PERIOD * 10 * tapsUs) then
    s.connPorts.foldl State.sendSafety (s.upSel fun l => { l with sfAt := s.tb.taps })
  else s

/-- SAFETY_FRAME_SEND (R363). -/
def execSafetyFrameSend (s : State) : Result := .next (s.onLane s.sendPeriodic)

/-- Send a frame where the SDATA has changed since the last one (R363). -/
def State.sendChanged (s : State) (p : Nat) : State :=
  match (s.conn p).txLast with
  | some f => if sameSdata f (s.sdata p) then s else s.sendSafety p
  | none => s.sendSafety p

/-- SAFETY_FRAME_CHANGE_SEND (R363). -/
def execSafetyFrameChangeSend (s : State) : Result := .next (s.onLane (s.connPorts.foldl State.sendChanged s))

/-- Bring cause 3 in step with the demands of the parents (R348, R365), with F1 SPB_REMOTE once per run. -/
def State.demandUpdate (s : State) : State :=
  if s.parentDemand.isSome then
    (if bitOf s.sel.causes 3 then s else (s.setCause 3).raiseRun .spbRemote 3)
  else (s.endCause 3).endRun .spbRemote 3

/-- The value of SDATA that R367 compares. -/
def dnmValue (f : SafetyFrame) : Bool × Bool × Nat := (f.spbDem, f.tripUp, f.demandId)

/-- A parent's frame enters the agreement of dual-network mode (R367): its value is accepted where a frame of the other parent has carried it within
200 µs; in normal mode no agreement is sought (R366). -/
def State.dnmFrame (s : State) (p : Nat) (f : SafetyFrame) : State :=
  if !s.dnm then s.upSel fun l => { l with dnmAcc := false, dnmSeen := [] }
  else
    let seen := s.sel.dnmSeen.filter fun x => inWindow x.2.1 (200 * tapsUs) s.tb.taps
    let agreed := seen.any fun x => x.1 != p && x.2.2 == dnmValue f
    s.upSel fun l => { l with dnmSeen := (p, s.tb.taps, dnmValue f) :: seen, dnmAcc := (agreed || l.dnmAcc) && !f.spbDem }

/-- The latest frames of the two parents agree (R367). -/
def State.dnmAgree (s : State) : Bool :=
  match (s.conn 0).last, (s.conn 1).last with
  | some a, some b => dnmValue a == dnmValue b
  | _, _ => true

/-- A frame is accepted on a connection (R364, R365, R367). -/
def State.acceptSafety (s : State) (p : Nat) (f : SafetyFrame) : State :=
  let c := s.conn p
  let gap := !c.start && (f.seq + 65536 - c.lastSeq) % 65536 != 1
  let s1 := s.upConn p fun c => { c with
    valid := true, start := false, dem := f.spbDem || f.tripUp, lastSeq := f.seq, lastTap := s.tb.taps, last := some f,
    mismatch := false, gotValid := true }
  let s2 := if gap then s1.upSel fun l => { l with seqGap := satAdd 32 l.seqGap 1 } else s1
  let s3 := (s2.endRun .safetyConnLost p).endRun .safetyParam p
  if s3.parentPorts.contains p then
    let s4 := s3.dnmFrame p f
    let s5 := if s4.dnmAgree then s4.endRun .safetyDnmDisagree 0 else s4
    (s5.endCause 4).demandUpdate
  else s3.tripUpdate

/-- A safety frame arrives on a port (R364). -/
def State.safetyRx (s : State) (p : Nat) (bs : List Byte) : State :=
  match vget s.sys.admitted p none with
  | none => s
  | some pk =>
    if !s.connPorts.contains p || s.sel.failedC then s
    else if !safetyFormOk bs then s.upSel fun l => { l with frameErr := satAdd 32 l.frameErr 1 }
    else
      let f := safetyOfBytes bs
      let c := s.conn p
      if f.connId != connIdOf pk ownKey || f.texp != s.obj Obj.TEXP then
        (s.upConn p fun c => { c with mismatch := true, mismatchAt := if c.mismatch then c.mismatchAt else s.tb.taps }).upSel fun l => { l with frameErr := satAdd 32 l.frameErr 1 }
      else
        let d := (f.seq + 65536 - c.lastSeq) % 65536
        if (1 ≤ d && d ≤ 16) || (c.start && f.init) then s.acceptSafety p f
        else s.upSel fun l => { l with seqGap := satAdd 32 l.seqGap 1 }

/-- SAFETY_FRAME_RECEIVE (R364). -/
def execSafetyFrameReceive (port : Nat) (payload : List Byte) (s : State) : Result := .next (s.onLane (s.safetyRx port payload))

/-- TEXP in taps (R359). -/
def State.texpTaps (s : State) : Nat := s.obj Obj.TEXP * 10 * tapsUs

/-- The window of a connection ends (R364): F1 SAFETY_CONN_LOST, and what dual-network mode has accepted from the parents is void (R367); without a valid parent connection, cause 4 and F2
SAFETY_FRAMES_LOST. The safety core acts on connections (R348): while it has failed, the connection ends with no more than that. -/
def State.connExpire (s : State) (p : Nat) : State :=
  if !(s.conn p).valid || !s.connPorts.contains p || !s.elapsed (s.conn p).lastTap s.texpTaps then s
  else if s.sel.failedC then s.upConn p fun c => { c with valid := false }
  else
    let s1 := s.upConn p fun c => { c with valid := false }
    let s2 := s1.raiseRun .safetyConnLost p
    if s2.parentPorts.contains p then
      let s3 := (s2.upSel fun l => { l with dnmAcc := false, dnmSeen := [] }).demandUpdate
      if s3.parentPorts.any (fun q => (s3.conn q).valid) then s3
      else (s3.setCause 4).raise .safetyFramesLost
    else s2.tripUpdate

/-- SAFETY_CONN_EXPIRY (R364). -/
def execSafetyConnExpiry (port : Nat) (s : State) : Result := .next (s.onPower (s.connExpire port))

/-- A CONN_ID or TEXP mismatch has persisted for TEXP (R364): F2 SAFETY_PARAM, which requests the SPB latch (R382). -/
def State.paramPersists (s : State) (p : Nat) : State :=
  let c := s.conn p
  if c.mismatch && s.elapsed c.mismatchAt s.texpTaps then s.raiseRun .safetyParam p else s

/-- SAFETY_PARAM_PERSIST (R364). -/
def execSafetyParamPersist (port : Nat) (s : State) : Result := .next (s.onPower (s.paramPersists port))

/-- The parents' latest frames have disagreed for TEXP (R367). -/
def State.dnmDisagree (s : State) : State :=
  if s.dnm && !s.dnmAgree && s.lasted s.sel.dnmDisAt s.texpTaps then s.raiseRun .safetyDnmDisagree else s

/-- DNM_DISAGREE (R367). -/
def execDnmDisagree (s : State) : Result := .next (s.onPower s.dnmDisagree)

/-! ### Supply, clock and channel monitoring (R369 to R373) -/

/-- SUPPLY_MONITOR (R370): a supply has been outside its limits for 1 µs. -/
def execSupplyMonitor (s : State) : Result :=
  .next (s.onPower (let s1 := s.upSel fun l => { l with supOk := false }
    if bitOf s.sel.causes 9 then s1 else (s1.setCause 9).raise .safetySupply))

/-- SUPPLY_RETURN (R370). -/
def execSupplyReturn (s : State) : Result :=
  .next (s.onPower ((s.upSel fun l => { l with supOk := true }).endCause 9))

/-- The degraded mode and its minutes are written to the keep area and SNAPSHOT (R372). -/
def State.saveDeg (s : State) : State :=
  let f := b2n s.sel.failedB + 2 * b2n s.sel.failedC
  (s.upSys fun y => { y with keep := { y.keep with degraded := s.sel.degraded, degFailed := f, degMin := s.sel.degMin } }).upBob
    fun b => { b with snap := { b.snap with degraded := s.sel.degraded, degFailed := f, degMin := s.sel.degMin, degStage := s.sel.degStage } }

/-- Both channels have failed, or one while the node is degraded (R371): cause 7 and F2 SAFETY_DUAL_FAIL. -/
def State.dualFail (s : State) : State :=
  ((s.upSel fun l => { l with
    failedB := true, failedC := true, badgOk := false, coreOk := false, discPending := false,
    missB := false, missC := false, testedB := false, testedC := false }).saveDeg.setCause 7).raise .safetyDualFail

/-- The comparators that the safety core has tripped with use SBY fire the bypass once Badger has failed (R349, R356). -/
def State.coreSby (s : State) : State :=
  if s.sel.failedB && !s.sel.failedC && [0, 1, 2, 3].any (fun n => s.wcUse n == 1 && (s.wcAt n).coreTrip) then s.fireSby 2 else s

/-- A channel is declared failed (R371, R372); `core` names channel C. A channel that had failed before has not passed every check since. -/
def State.channelFail (s : State) (core : Bool) : State :=
  if (if core then s.sel.failedC else s.sel.failedB) then
    s.upSel fun l => { l with testedC := l.testedC && !core, testedB := l.testedB && core }
  else if s.sel.degraded || s.sel.failedB || s.sel.failedC then s.dualFail
  else
    let s1 := s.upSel fun l => { l with
      degraded := true, degMin := 0, degStage := 0, degAt := s.tb.taps, discPending := false, missB := false, missC := false,
      failedC := core, failedB := !core, coreOk := l.coreOk && !core, badgOk := l.badgOk && core,
      testedC := l.testedC && !core, testedB := l.testedB && core }
    (s1.saveDeg.raise .safetyDegraded).sinUpdate.wcUpdate.coreSby

/-- HEARTBEAT_MISS (R371): three heartbeats of the core missed. -/
def execHeartbeatMiss (s : State) : Result := .next (s.onPower (s.channelFail true))

/-- CORE_LOCKSTEP_ERROR (R371). -/
def execCoreLockstepError (s : State) : Result := .next (s.onPower (s.channelFail true))

/-- The injection test of Badger (R371). With a decision discrepancy pending, the channel that missed the cause fails if its test
fails too; otherwise both fail. -/
def State.injection (s : State) (ok : Bool) : State :=
  if s.sel.discPending then (if s.sel.missB && !ok then s.channelFail false else s.dualFail)
  else if ok then s else s.channelFail false

/-- INJECTION_TEST (R371). -/
def execInjectionTest (ok : Bool) (s : State) : Result := .next (s.onPower (s.injection ok))

/-- A comparator's use sets a latch (R356): SBY or SPB. -/
def wcLatches (use : Nat) : Bool := use == 1 || use == 2 || use == 3

/-- What channel B and channel C see as a cause that both act on: SAFE_IN and the comparators (R348, R371). -/
def State.channelSees (s : State) : Bool × Bool :=
  let m := s.obj Obj.SIN_MODE
  (sinDemand m (vget s.sel.sinB 0 false) (vget s.sel.sinB 1 false)
      || [0, 1, 2, 3].any fun n => (s.wcAt n).tripped && wcLatches (s.wcUse n),
    sinDemand m (vget s.sel.sinC 0 false) (vget s.sel.sinC 1 false)
      || [0, 1, 2, 3].any fun n => (s.wcAt n).coreTrip && wcLatches (s.wcUse n))

/-- DECISION_DISCREPANCY (R371): the channels' decisions have differed for 100 µs. DEDUCED(196): in degraded mode it is the failed channel that differs;
it has then not passed every check since its self-test (R373). -/
def State.decisionDisc (s : State) : State :=
  let v := s.channelSees
  if v.1 == v.2 || !s.lasted s.sel.decAt (100 * tapsUs) then s
  else if s.sel.degraded then s.upSel fun l => { l with testedB := l.testedB && !l.failedB, testedC := l.testedC && !l.failedC }
  else (s.upSel fun l => { l with discPending := true, missB := !v.1, missC := !v.2 }).raiseRun .safetyDiscrepancy

/-- DECISION_DISCREPANCY (R371). -/
def execDecisionDiscrepancy (s : State) : Result := .next (s.onPower s.decisionDisc)

/-- WC_STAGE_DISAGREE (R371): F2 WC_FAULT, and the comparator's use is treated as active. -/
def State.stageFault (s : State) (n : Nat) : State :=
  if (s.wcAt n).fault then s
  else
    let s1 := (s.upWc n fun c => { c with fault := true }).upSel fun l => { l with wcOk := if bitOf l.wcOk n then l.wcOk - 2 ^ n else l.wcOk }
    let s2 := (s1.raise .wcFault n).sdiUpdate
    if s2.wcUse n == 1 then s2.fireSby 2 else s2.wcUpdate

/-- WC_STAGE_DISAGREE (R371). -/
def execWcStageDisagree (n : Nat) (s : State) : Result := .next (s.onPower (if n < 4 then s.stageFault n else s))

/-- IOSC_CHECK (R371): a frequency outside ±25 % fails Badger. -/
def execIoscCheck (ok : Bool) (s : State) : Result := .next (s.onPower (if ok then s else s.channelFail false))

/-- The row of R372 that DEG_ELAPSED has reached: 1 to 3, or 0. -/
def State.degRow (s : State) : Nat :=
  let h := s.obj Obj.DEG_HOURS
  if !s.sel.degraded then 0
  else if 60 * h ≤ s.sel.degMin then 3 else if 54 * h ≤ s.sel.degMin then 2 else if 30 * h ≤ s.sel.degMin then 1 else 0

/-- DEG_ELAPSED is judged against DEG_HOURS (R372): each row newly reached raises its fault, and cause 8 stands in the last one. -/
def State.degJudge (s : State) : State :=
  let n := s.degRow
  let old := s.sel.degStage
  let s1 := s.upSel fun l => { l with degStage := n }
  let s2 := if n == 3 then (if bitOf s1.sel.causes 8 then s1 else s1.setCause 8) else s1.endCause 8
  let evs := [(1, FaultName.safetyDeg50), (2, FaultName.safetyDeg90), (3, FaultName.safetyDegExpired)].filter fun e => decide (old < e.1 ∧ e.1 ≤ n)
  if evs.isEmpty then s2 else s2.raiseAll (evs.map fun e => { name := e.2 })

/-- A minute of degraded mode passes (R372), counted from its entry. -/
def State.degTick (s : State) : State :=
  if !s.sel.degraded || !s.elapsed s.sel.degAt (60 * tapsS) then s
  else (s.upSel fun l => { l with degMin := satAdd 16 l.degMin 1, degAt := s.tb.taps }).degJudge.saveDeg

/-- VIN is present also in HIBERNATE (R436): the keep area counts the minute, and no channel acts on it. -/
def State.degSleep (s : State) : State :=
  if s.sys.hibernating && s.sel.degraded then
    let m := satAdd 16 s.sel.degMin 1
    (s.upSel fun l => { l with degMin := m }).upSys fun y => { y with keep := { y.keep with degMin := m } }
  else s

/-- DEG_MINUTE (R372). -/
def execDegMinute (s : State) : Result := .next (if s.powered then s.degTick else s.degSleep)

/-- An RWS write needs the target in READY or BLOCK (R45). -/
def State.rwsState (s : State) : Bool := s.node.nodeState == .ready || s.node.nodeState == .block

/-- A write of DEG_CLEAR (R373): refused unless both channels have passed the self-test of this boot and every check of R371 since, the
comparison of their decisions and of the comparators' stages among them; degraded mode ends, the channel that had failed gives its permit again
(R353), and the SCV becomes unconfirmed. -/
def State.applyDegClear (s : State) (value : Nat) : Applied :=
  s.ownWrite value
    (if !s.rwsState then s.no .state
    else if !s.sel.testedB || !s.sel.testedC || s.sel.discPending || s.sel.wc.any (·.fault) then s.no .refused
    else
      let s1 := s.upSel fun l => { l with
        degraded := false, failedB := false, failedC := false, degMin := 0, degStage := 0, badgOk := true, coreOk := true
        permitB := l.permitB || l.failedB, permitC := l.permitC || l.failedC }
      (((s1.endCause 7).endCause 8).unconfirm.saveDeg.sinUpdate.wcUpdate).yes)

/-- DEG_CLEAR (R373). -/
def execDegClear (value : Nat) (s : State) : Result := .next (s.onPower (settle Obj.DEG_CLEAR 0 (s.applyDegClear value)))

/-! ### SPS writes and confirmation (R374 to R376) -/

/-- A write of SCV_CONFIRM (R363, R376 to R378): a node whose SCV differs from the broadcast value refuses it and raises SCV_MISMATCH. -/
def State.applyScvConfirm (s : State) (value : Nat) : Applied :=
  if s.sel.sealEn then s.no .sealed
  else if !s.rwsState then s.no .state
  else if s.obj Obj.TEXP < 3 * s.obj Obj.SF_PERIOD then s.no .refused
  else
    let s1 := s.unconfirm
    if value == s1.sel.scv then
      let s2 := s1.upSel fun l => { l with scvOk := true, scvConfirmed := value, scvTime := nt96 s1.tb.ntF }
      ((s2.upSys fun y => { y with keep := { y.keep with scvConfirmed := value } }).upBob
        fun b => { b with snap := { b.snap with scvConfirmed := value } }).yes
    else (s1.raise .scvMismatch).no .refused

/-- SCV_CONFIRM (R376). -/
def execScvConfirm (value : Nat) (s : State) : Result := .next (s.onPower (settle Obj.SCV_CONFIRM 0 (s.applyScvConfirm value)))

/-- A comparator takes a changed set into use (R350, R356, R371, R375): its thresholds, and its use and times on what it has taken. -/
def State.wcTake (s : State) (n : Nat) : State :=
  let use := s.wcUse n
  let s1 := (s.wcInput n (s.wcAt n).uv).upWc n fun c => { c with
    tripped := c.tripped && wcActs use c.state, coreTrip := c.coreTrip && wcActs use c.state
    belowSdi := c.belowSdi && use == 4 && s.elapsed c.since (s.obj Obj.SDI_TIME * tapsMs) }
  if use == 1 && (s1.wcAt n).fault then s1.fireSby 2
  else if use == 1 && (s1.wcAt n).tripped && !s.sel.failedB then s1.fireSby 1
  else s1.coreSby

/-- The island takes a changed set into use (R375). -/
def State.takeSps (s : State) : State := ([0, 1, 2, 3].foldl State.wcTake s.computeScv.sinUpdate).wcUpdate.sdiUpdate.degJudge

/-- A write of an object of the safety parameter set (R46, R374, R375, R470). -/
def State.applySps (s : State) (key value jsn : Nat) : Applied :=
  if !isSpsKey key then s.no .noObject
  else match s.objRow s.node.role key with
    | none => s.no .noObject
    | some r =>
      if s.sel.sealEn then s.no .sealed
      else if !rangeOk s.node.role s.addr r key value || !s.partnerOk key value then s.no .range
      else if !s.rwsState then s.no .state
      else ((s.setObj key value jsn).unconfirm.takeSps).yes

/-- SPS_WRITE (R375). -/
def execSpsWrite (key value : Nat) (s : State) : Result := .next (s.onPower (settle key 0 (s.applySps key value 0)))

/-! ### Release of the SPB latch (R351) -/

/-- A comparator with use SPB is inactive at both channels for its filter (R351). -/
def State.wcQuiet (s : State) (n : Nat) : Bool :=
  let c := s.wcAt n
  let use := s.wcUse n
  !(use == 2 || use == 3) || (!wcActs use c.state && c.since + s.obj (Obj.WC_FILT + 256 * n) * 64 / 5 ≤ s.tb.taps && (!c.coreTrip || s.sel.failedC) && !c.fault)

/-- The filter time in taps for which a cause must have been inactive (R348, R351). Causes 0, 2, 3, 5 to 8 and 13 act on levels that
are filtered already. -/
def State.causeFilter (s : State) (i : Nat) : Nat :=
  match i with
  | 1 => s.obj Obj.SIN_DISC * tapsMs
  | 4 => s.obj Obj.TEXP * 10 * tapsUs
  | 9 | 10 => tapsUs
  | _ => 0

/-- The causes that stand until the release itself: the request of firmware and the power-up latch. -/
def latchCauses : List Nat := [11, 12]

/-- Cause `i` has been inactive for its filter time (R351). -/
def State.causeQuiet (s : State) (i : Nat) : Bool :=
  latchCauses.contains i
    || (!bitOf s.sel.causes i && (vget s.sel.causeEnd i 0 == 0 || vget s.sel.causeEnd i 0 + s.causeFilter i ≤ s.tb.taps))

/-- The release is accepted in dual-network mode (R351, R367). -/
def State.dnmOk (s : State) : Bool :=
  s.isStation ||
  (let v := s.parentPorts.filter fun p => (s.conn p).valid
   if v.length == 2 then s.sel.dnmAcc
   else if v.length == 1 then s.objB Obj.DNM_WAIVE && s.parentDemand.isNone
   else false)

/-- Every condition of R351 for a release of the SPB latch. -/
def State.releaseOk (s : State) : Bool :=
  (List.range 14).all s.causeQuiet && [0, 1, 2, 3].all s.wcQuiet && !s.sinActive && s.scvGood
    && s.gate.goPol == s.obj Obj.GO_POL && s.dnmOk && !s.sel.discPending && !s.sel.jtagHold

/-- Release the SPB latch (R351); none where it is refused. -/
def State.releaseSpb (s : State) : Option State :=
  if s.releaseOk then some (s.upSel fun l => { l with spb := false, causes := 0, powerUpDone := true }) else none

/-- A refused release (R351): counted, with an F0 SPB_CLEAR_REFUSED record. -/
def State.releaseRefused (s : State) : State :=
  (s.upSel fun l => { l with refused := satAdd 32 l.refused 1 }).raise .spbClearRefused s.sel.causes

end Sys2Proof.Machine
end

