-- ==== Sys2Proof/Machine/Twill.lean ====
section
/-!
DEFINITION. Sys2Proof/Machine/Twill.lean: the place of a node, its parents and children, its primary parent, and orphans (R24 to
R39); the certificates of a neighbour (R420); the hand-over of an arm's values (R78).
-/
namespace Sys2Proof.Machine

/-! ### Where a node stands (R24 to R28) -/

/-- What one parent gives: nothing yet, a wrong connection, or a place and an arm (R24, R25). -/
inductive Derived where
  | nothing
  | wrong
  | found (place : Place) (arm : Nat)
  deriving DecidableEq, Repr

/-- The place below the parent (L − 1, j) on its port `d` (R21, R24). An A-parent on DN2 or DN3 and a B-parent on DN0 or DN1 are
wrong. -/
def placeBelow (fromB : Bool) (par : Place) (d : Nat) : Option Place :=
  let l := par.level + 1
  if fromB then (if 4 ≤ d then some ⟨l, 2 * ((par.index + 2 ^ (l - 1)) % 2 ^ l) + (d - 4)⟩ else none)
  else if d < 4 then some ⟨l, 2 * par.index + (d - 2)⟩ else none

/-- The place below a pair of masters: ARM-A and STATION-A stand on UPA, their partners on UPB (R21). -/
def placeBelowMaster (fromB memberB : Bool) (d arm : Nat) : Derived :=
  if fromB == memberB then .found ⟨1, d - 2⟩ arm else .wrong

/-- The place below a node that is no master. -/
def placeBelowNode (fromB : Bool) (par : Place) (d arm : Nat) : Derived :=
  match placeBelow fromB par d with
  | some p => .found p arm
  | none => .wrong

/-- What the parent on up port `p` gives (R24, R25, R28). -/
def State.derived (s : State) (p : Nat) : Derived :=
  let l := (s.port p).peer
  let b := p == 1
  if !s.lit p || !l.avalid then .nothing
  else if l.port < 2 || 5 < l.port || addrReserved l.addr then .wrong
  else match s.node.role, addrRole l.addr with
    | .cell, .arm => placeBelowMaster b (memberBit l.addr) l.port (addrArm l.addr)
    | .cell, .cell => placeBelowNode b (posPlace (l.addr % 2 ^ 14)) l.port (addrArm l.addr)
    | .arm, .station | .relay, .station => placeBelowMaster b (memberBit l.addr) l.port 0
    | .arm, .relay | .relay, .relay => placeBelowNode b (relayPlace (l.addr / 4 % 4096) (memberBit l.addr)) l.port 0
    | _, _ => .wrong

/-- The derived place that a parent gives, if any. -/
def Derived.place? : Derived → Option Place
  | .found p _ => some p
  | .nothing | .wrong => none

/-- Two derivations contradict each other or the wiring rule (R25). -/
def wiringWrong (a b : Derived) : Bool :=
  match a, b with
  | .wrong, _ | _, .wrong => true
  | .found p m, .found q n => p != q || m != n
  | _, _ => false

/-- The place and the arm of a node from what its parents give. -/
def derivedAny (a b : Derived) : Option (Place × Nat) :=
  match a, b with
  | .found p m, _ => some (p, m)
  | _, .found p m => some (p, m)
  | _, _ => none

/-- A derived place is unexpected at this node (R25, R28). -/
def State.placeUnexpected (s : State) (p : Place) : Bool :=
  let ua := s.objEff Obj.ARM_LEVEL
  let ac := s.objEff Obj.ARM_COUNT
  match s.node.role with
  | .cell => 12 < p.level || (s.weft.handed && s.weft.population ≤ placePos p)
  | .arm => ua == 0 || ac == 0 || p.level != ua || ac ≤ p.index % 2 ^ ua
  | .relay => ua == 0 || ac == 0 || ua ≤ p.level
  | .station => false

/-- The address of a node at its place (R5, R27, R28). -/
def State.addrAt (s : State) (p : Place) (arm : Nat) : Nat :=
  match s.node.role with
  | .cell => cellAddr arm (placePos p)
  | .arm => armAddr (p.index % 2 ^ p.level) (2 ^ p.level ≤ p.index)
  | .relay => relayAddr (relayNumber p) (2 ^ p.level ≤ p.index)
  | .station => stationAddr (s.objEff Obj.STATION_MEMBER == 1)

/-- The arm of a node at its place (R24, R28). -/
def State.armAt (s : State) (p : Place) (arm : Nat) : Nat := if s.isArm then p.index % 2 ^ p.level else arm

/-- A parent is lit and free of UPLOST (R33, R36). -/
def State.upGood (s : State) (p : Nat) : Bool := s.lit p && !(s.port p).peer.uplost

/-- The PRIMARY notice of a node of upper level 1 to its new primary STATION member (R332). -/
def State.sendPrimary (s : State) : State :=
  match s.primaryPort with
  | some p =>
    if s.node.joined && s.atLevel1 && !s.isCell then
      s.sendUpOn p .journal (s.port p).peer.addr false (s.jrnHead 0x0B 0 0xFFFF 0 ++ leBytes 1 p)
    else s
  | none => s

/-- Make a parent primary (R33, R34): the Weft acts by R103, the time source follows and its SYNCs are
compared afresh (R253, R255), and a STATION member learns of it. -/
def State.setPrimary (s : State) (x : Parent) : State :=
  let s1 := (s.upNode fun n => { n with primary := x }).upTb fun t => { t with prevTx := .replicate 6 none, lastSeq := .replicate 6 none }
  (if s1.isCell then (s1.event 0x44).failover else s1.event 0x44).sendPrimary

/-- The primary parent after the links have changed (R33, R38): kept while it is good, else the other one, else none. -/
def choosePrimary (cur : Parent) (a b : Bool) : Parent :=
  match cur with
  | .a => if a then .a else if b then .b else .none
  | .b => if b then .b else if a then .a else .none
  | .none => if a then .a else if b then .b else .none

/-- ARM_LEVEL or ARM_COUNT in effect is 0 at an ARM or RELAY node (R28). -/
def State.upperUnset (s : State) : Bool :=
  (s.isArm || s.node.role == .relay) && (s.objEff Obj.ARM_LEVEL == 0 || s.objEff Obj.ARM_COUNT == 0)

/-- A derivation that differs from the place the node has already taken (R25, R26). -/
def State.offPlace (s : State) (d : Derived) : Bool :=
  match d with
  | .found p m => s.node.joined && (p != s.node.place || s.armAt p m != s.node.arm)
  | .nothing | .wrong => false

/-- A node takes the place that its parents give, once (R24, R26): from one lit parent alone with F1 SINGLE_PARENT_JOIN, whose run ends
with the second derivation. DESIGN CHOICE(184): with both parents lit and a valid address from one only, that one gives the place, without the
fault. -/
def State.takePlace (s : State) (p : Place) (m : Nat) (both : Bool) : State :=
  if s.node.joined then (if both then s.endRun .singleParentJoin 0 else s)
  else
    let s1 := s.upNode fun n => { n with joined := true, place := p, arm := s.armAt p m, address := s.addrAt p m }
    if both || (s.lit 0 && s.lit 1) then s1 else s1.raiseRun .singleParentJoin

/-- A node derives its place from what its parents give (R24 to R28): a fault leaves it where it is, in JOIN. -/
def State.derivePlace (s : State) : State :=
  if s.isStation || s.node.nodeState == .off || s.node.nodeState == .boot then s
  else
    let a := s.derived 0
    let b := s.derived 1
    let s1 := s.upNode fun n => { n with aDerived := a.place?, bDerived := b.place? }
    let s2 := if s.upperUnset then s1.raiseRun .placeUnexpected else s1
    if wiringWrong a b || s.offPlace a || s.offPlace b then s2.raiseRun .twillWiring
    else match derivedAny a b with
      | none => s2
      | some (p, m) =>
        let s3 := s2.endRun .twillWiring 0
        if s3.placeUnexpected p then s3.raiseRun .placeUnexpected
        else (s3.endRun .placeUnexpected 0).takePlace p m (a.place?.isSome && b.place?.isSome)

/-! ### Parents, children and orphans (R33 to R39) -/

/-- The kind of an orphan, from the states both ports have after the step (R36, R39). -/
def State.orphanKind (s : State) : OrphanKind :=
  if s.isCell && 2 ≤ s.node.place.level && !s.lit 0 && !s.lit 1 && (s.node.nodeState == .service || s.node.nodeState == .hold)
  then .localOrphan else .inherited

/-- The node stops being an orphan (R38): it withdraws UPLOST and restarts the HOLD ladder. -/
def Node.recover (n : Node) : Node :=
  { n with orphan := .none, uplostSent := false, holdCount := if n.nodeState == .hold then 0 else n.holdCount }

/-- A parent goes dark, or comes to advertise UPLOST (R33). -/
def State.parentFalls (o s : State) (p : Nat) : Bool :=
  (o.lit p && !s.lit p) || (s.lit p && (s.port p).peer.uplost && !(o.lit p && (o.port p).peer.uplost))

/-- The node becomes an orphan (R36): UPLOST, F2 ORPHAN, and at an ARM master F3 ARM_ORPHAN. An inherited orphan that is no cell in SERVICE or
HOLD goes to BLOCK. DESIGN CHOICE(122): the kind stays the one that holds now, whatever its ports do later. -/
def State.becomeOrphan (s : State) (evs : List Ev) : State :=
  let k := s.orphanKind
  let s1 := (s.upNode fun n => { n with orphan := k, uplostSent := true }).raiseAll
    (evs ++ { name := .orphan } :: (if s.isArm then [{ name := .armOrphan }] else []))
  if k == .inherited && !(s.isCell && (s.node.nodeState == .service || s.node.nodeState == .hold)) then s1.blockRequest else s1

/-- What the up ports deliver has changed from `o` (R33, R36, R38, R39). A node without a place has nothing to make primary; it is an orphan
from its JOIN on while no parent is good. DEDUCED(123). -/
def State.parentsSettle (o s : State) : State :=
  if s.isStation || s.node.nodeState == .boot || s.node.nodeState == .off then s
  else
    let lost := [0, 1].filter (o.parentFalls s)
    let s1 := [0, 1].foldl (fun t p =>
      if s.upGood p && !o.upGood p then t.upPort p fun q => { q with goodSince := s.tb.taps } else t) s
    let s2 := s1.upNode fun n => { n with
      aParent := if s.lit 0 && (s.port 0).peer.avalid then (s.port 0).peer.addr else n.aParent
      bParent := if s.lit 1 && (s.port 1).peer.avalid then (s.port 1).peer.addr else n.bParent }
    let evs := lost.map fun p => ({ name := .parentLost, arg := p } : Ev)
    let want := choosePrimary s2.node.primary (s2.upGood 0) (s2.upGood 1)
    let s3 := if !s2.node.joined || want == s2.node.primary then s2 else s2.setPrimary want
    if want == .none && s3.node.orphan == .none then s3.becomeOrphan evs
    else (if want != .none && s3.node.orphan != .none then s3.upNode Node.recover else s3).raiseAll evs

/-- The node on a down port that has completed JOIN (R35, R40 CHILD_DN0 to CHILD_DN3). -/
def State.childAddr (s : State) (p : Nat) : Nat :=
  let l := (s.port p).peer
  if s.lit p && l.avalid && 3 ≤ l.nstate then l.addr else 0x7FFFF

/-- A child port has gone dark (R35): F1 CHILD_LOST, and the merge waits for it no longer. -/
def State.childLost (s : State) (p : Nat) : State :=
  let s1 := (s.childDark p).raise .childLost p
  if s1.weft.tw == 0 then s1 else s1.tryTally s1.weft.k

/-- What the down ports deliver has changed from `o` (R35). -/
def State.childrenSettle (o s : State) : State :=
  let s1 := s.upNode fun n => { n with children := Vector.ofFn fun i => s.childAddr (i.val + 2) }
  ([2, 3, 4, 5].filter fun p => o.lit p && !s.lit p).foldl State.childLost s1

/-- The links of a node have changed from what they were in `o` (R24, R33 to R39). -/
def State.linksSettle (o s : State) : State := o.parentsSettle (o.childrenSettle s).derivePlace

/-- The parent to which R34 returns: A, or at level 1 the active member (R87). -/
def State.homeParent (s : State) : Parent := if s.atLevel1 then s.node.home else .a

/-- The instant is a t₀: it lies in the present period of REFCLK (R34, R78). DESIGN CHOICE(180): at a node without a Weft every instant
counts as one. -/
def State.atT0 (s : State) : Bool := s.weft.tw == 0 || decide (s.tb.ntNs ≤ s.t0 s.cycleNow + 10)

/-- Return to the home parent (R34): at the first t₀ after it has been lit, and free of UPLOST, for REVERT_TIME. -/
def State.revert (s : State) : State :=
  let h := s.homeParent
  let p := if h == .b then 1 else 0
  if s.isStation || !s.node.joined || s.node.primary == h || s.node.primary == .none || !s.upGood p || !s.atT0
    || s.tb.taps < (s.port p).goodSince + s.obj Obj.REVERT_TIME * tapsMs then s
  else s.setPrimary h

/-- PRIMARY_REVERT (R34). -/
def execPrimaryRevert (s : State) : Result := .next (s.onPower s.revert)

/-- The bypass of a local orphan in BLOCK at T_exec of the cycle that follows its entry, which no returning parent cancels (R37). -/
def State.orphanFires (s : State) : State :=
  if s.node.nodeState == .block && s.node.orphanBypassDue && decide (s.texec s.node.orphanDueK ≤ s.tb.ntNs) then s.latchSby 3 else s

/-- ORPHAN_BYPASS (R37). -/
def execOrphanBypass (s : State) : Result := .next (s.onPower s.orphanFires)

/-! ### Admission of a neighbour (R362, R420) -/

/-- A neighbour's operator certificate verifies under the own OP_ROOT by the checks of R418. -/
def State.peerOpOk (s : State) (f : CertFacts) : Bool :=
  f.parses && f.keyIsDevice && s.obj Obj.OP_ROOT != 0 && f.chainOk
    && (s.tb.state != .locked || (decide ((f.notBefore : Int) ≤ s.utcNow) && decide (s.utcNow ≤ f.notAfter)))

/-- The key under which a neighbour is admitted (R420). -/
def State.admittedKey (s : State) (p : Nat) : Option Nat :=
  match vget s.sys.peerDev p none with
  | some f => if s.obj Obj.PEER_POLICY == 1 && !vget s.sys.peerOp p false then none else some f.pubKey
  | none => none

/-- A neighbour is admitted, or is not, by what is verified; an admitted key gives the connections their CONN_ID (R362). -/
def State.settleAdmission (s : State) (p : Nat) : State :=
  let k := s.admittedKey p
  let s1 := s.upSys fun y => { y with admitted := vset y.admitted p k }
  match k with
  | some pk => s1.upConn p fun c => { c with idExp := connIdOf pk ownKey }
  | none => s1

/-- PEER_POLICY has changed (R420): each neighbour is admitted, or is not, by what has been verified of it. -/
def State.policyChanged (s : State) : State := s.linksSettle ([0, 1, 2, 3, 4, 5].foldl State.settleAdmission s)

/-- A certificate of the neighbour on a port has been checked (R420); the run of failures ends with the admission. -/
def State.certRx (s : State) (p : Nat) (op : Bool) (f : CertFacts) : State :=
  let l := (s.port p).state
  if 6 ≤ p || (p < 2 && s.isStation) || !(l == .measure || l == .up) then s
  else
    let ok := if op then s.peerOpOk f else f.parses && f.chainOk
    let s1 := s.upSys fun y => if op then { y with peerOp := vset y.peerOp p ok }
      else { y with peerDev := vset y.peerDev p (if ok then some f else none) }
    let s2 := if ok || (op && s.obj Obj.PEER_POLICY == 0) then s1
      else (s1.upSys fun y => { y with peerRejects := satAdd 32 y.peerRejects 1 }).raiseRun .peerCert p
    let s3 := s2.settleAdmission p
    s.linksSettle (if (s3.admittedKey p).isSome then s3.endRun .peerCert p else s3)

/-- CERT_RECEIVE (R420). -/
def execCertReceive (port : Nat) (op : Bool) (facts : CertFacts) (s : State) : Result := .next (s.onLane (s.certRx port op facts))

/-! ### The hand-over of an arm's values (R25, R78) -/

/-- A cell takes the values its ARM master hands over (R78): its place is held against the population (R25), the carrier grid follows
a new population (R149, R151), and its converter cores can run (R177). -/
def State.handover (s : State) (tw lead fibreExtra depth population : Nat) (carrier : Bool) : State :=
  if !s.isCell || s.node.nodeState == .boot then s
  else
    let s1 := s.upWeft fun w => { w with
      handed := true, tw := tw, lead := lead, fibreExtra := fibreExtra, depth := depth, population := population,
      armCarrier := carrier }
    let s2 := if s1.phaseInUse == s.phaseInUse then s1 else s1.regrid
    let s3 := if s2.node.joined && s2.placeUnexpected s2.node.place then s2.raiseRun .placeUnexpected else s2
    s3.adcHandover

/-- HANDOVER_RECEIVE (R78). -/
def execHandoverReceive (tw lead fibreExtra depth population : Nat) (carrier : Bool) (s : State) : Result :=
  .next (s.onLane (s.handover tw lead fibreExtra depth population carrier))

end Sys2Proof.Machine
end

