-- ==== Sys2Proof/Machine/Link.lean ====
section
/-!
DEFINITION. Sys2Proof/Machine/Link.lean: the Floen ports: bring-up and loss, link status and BLK, frames received, forwarded and
sent, duplicate removal, link delay, transceivers and check units (R197 to R229, R460).
-/
namespace Sys2Proof.Machine

/-! ### Ports (R197, R202, R221) -/

/-- A Floen port: UPA and UPB of a STATION are station ports (R197). -/
def State.floen (s : State) (p : Nat) : Bool := p < 6 && (2 ≤ p || !s.isStation)

/-- BOOT has ended: the watchdog runs from its end onward (R31, R434). -/
def State.pastBoot (s : State) : Bool := s.powered && s.sys.wdRun

/-- Port `p` is enabled in PORT_ENABLE (R224). -/
def State.portEnabled (s : State) (p : Nat) : Bool := bitOf (s.obj Obj.PORT_ENABLE) p

/-- The code of a link state, as LINKp.STAT.LSTATE (R238). -/
def LinkState_code : LinkState → Nat
  | .down => 0
  | .lock => 1
  | .hello => 2
  | .measure => 3
  | .up => 4
  | .disabled => 5

/-- The port has a signal: LOCK or a later state (R222). -/
def Port.alive (p : Port) : Bool := p.state == .lock || p.state == .hello || p.state == .measure || p.state == .up

/-- The LS block that this node sends on a port (R202, R219, R329): BLK and UPLOST on down ports only. -/
def State.lsOut (s : State) (p : Nat) : LsBlock :=
  { blk := 2 ≤ p && s.link.blkOut, uplost := 2 ≤ p && (s.node.uplostSent || s.jrn.upLostTx),
    lstate := if (s.port p).state == .disabled then 0 else LinkState_code (s.port p).state, port := p, role := roleCode s.node.role,
    nstate := nodeCode s.node.nodeState, addr := s.addr, avalid := s.node.joined }

/-! ### BLK (R218, R219) -/

/-- The BLK states of the up ports reach the down ports and the island (R219, R348 cause 2); a STATION's come from its island. -/
def State.blkUpdate (s : State) : State :=
  if s.isStation then s
  else
    let b := (s.port 0).blk || (s.port 1).blk
    let s1 := s.setBlkOut b
    if b then
      let s2 := s1.upLink fun l => { l with blkSeen := true }
      if bitOf s2.sel.causes 2 then s2 else (s2.setCause 2).raiseRun .spbRemote 2
    else (s1.endCause 2).endRun .spbRemote 2

/-- The BLK state of an up port is what its latest LS block or DOWN header says (R218). -/
def State.takeBlk (s : State) (p : Nat) (b : Bool) : State :=
  if p < 2 && !s.isStation && (s.port p).state == .up && (s.port p).blk != b then
    (s.upPort p fun q => { q with blk := b }).blkUpdate
  else s

/-- The STATION's BLK has been 1 for 50 µs, and its island demands it no longer (R219). -/
def State.blkEnd (s : State) : State :=
  if s.isStation && s.link.blkOrig && !s.sel.sysTrip && s.link.blkSince + 50 * tapsUs ≤ s.tb.taps then
    (s.upLink fun l => { l with blkOrig := false }).setBlkOut false
  else s

/-- BLK_MIN_HOLD_END (R219). -/
def execBlkMinHoldEnd (s : State) : Result := .next (s.onPower s.blkEnd)

/-! ### Loss of a port (R216, R222 to R224) -/

/-- A frame moves to the other up port when its own goes dark (R216). -/
def QEntry.moves (q : QEntry) : Bool := q.frame.dir != .localDir && 2 ≤ q.frame.cls.code

/-- A frame joins another port's queue behind what stands there, with the instant at which it queued (R216). -/
def State.requeue (s : State) (p : Nat) (q : QEntry) : State :=
  if !s.carries p q.frame then s
  else if (s.port p).fits q.frame then s.upPort p fun x => { x with queue := x.queue ++ [q] }
  else s.dropFrame p

/-- The frames queued on a port that has gone dark (R216). -/
def State.dropQueue (s : State) (p : Nat) : State :=
  let q := (s.port p).queue
  let s1 := s.upPort p fun x => { x with queue := [] }
  if p < 2 then (q.filter QEntry.moves).foldl (fun t e => t.requeue (1 - p) e) s1
  else s1.upLink fun l => { l with noRoute := satAdd 32 l.noRoute q.length }

/-- The port leaves what it was in: its neighbour is no longer admitted, its exchange is void, and its BLK state is 0. -/
def Port.lose (p : Port) (st : LinkState) (los : Bool) : Port :=
  { p with state := st, txDark := st == .disabled, los := los, blk := false, reqXid := none, exchanges := 0, portOk := false,
           hseqRx := none, peer := {} }

/-- A port leaves UP or an earlier state for `st` (R216, R222, R224): leaving UP counts and is an F0 LINK_DOWN, unless the port was
disabled. What follows at the node is settled with all ports together (R39). -/
def State.portDrop (s : State) (p : Nat) (st : LinkState) (los : Bool) : State :=
  let up := (s.port p).state == .up
  let s1 := ((s.upPort p fun x => x.lose st los).upSys fun y => { y with
    admitted := vset y.admitted p none, peerDev := vset y.peerDev p none, peerOp := vset y.peerOp p false }).dropQueue p
  let s2 := if up then s1.upLink fun l => { l with evt := setBit32 l.evt p } else s1
  if up && st != .disabled then
    (s2.upPort p fun x => { x with losses := satAdd 32 x.losses 1, lossTaps := (s.tb.taps :: x.lossTaps).take 4 }).raise .linkDown p
  else s2

/-- One port is lost, and the node settles. -/
def State.portLost (s : State) (p : Nat) (st : LinkState) (los : Bool) : State := s.linksSettle (s.portDrop p st los).blkUpdate

/-- LINK_DOWN (R222, R238): a loss of signal, invalid blocks, missing LS blocks, or the peer's state; with the level of FL_LOSp, which a port that
is down already reads as well. -/
def execLinkDown (port : Nat) (los : Bool) (s : State) : Result :=
  .next (s.onPower (if s.floen port && (s.port port).alive then s.portLost port .down los
    else if port < 6 then s.upPort port fun x => { x with los := los } else s))

/-- LINK_FLAP (R223): four losses within 1 s. -/
def State.flap (s : State) (p : Nat) : State :=
  if s.floen p && 4 ≤ ((s.port p).lossTaps.filter fun t => inWindow t tapsS s.tb.taps).length then
    (s.upPort p fun x => { x with flapHold := true }).raise .linkFlap p
  else s

/-- LINK_FLAP (R223). -/
def execLinkFlap (port : Nat) (s : State) : Result := .next (s.onPower (s.flap port))

/-- FLAP_HOLDOFF_RESTORE (R223): 10 s without a loss. -/
def execFlapHoldoffRestore (port : Nat) (s : State) : Result :=
  .next (s.onPower (if s.floen port && (s.port port).lossTaps.headD 0 + 10 * tapsS ≤ s.tb.taps then
    s.upPort port fun x => { x with flapHold := false } else s))

/-! ### Bring-up (R221, R419) -/

/-- An enabled port without a module (R199). -/
def State.noteAbsent (s : State) (p : Nat) : State :=
  if (s.port p).modAbs && s.portEnabled p then (s.upLink fun l => { l with evt := setBit32 l.evt 15 }).raiseRun .xcvrAbsent p
  else s.endRun .xcvrAbsent p

/-- An enabled station port of a STATION past BOOT lights its transmitter, and without link it is an F1 LAN_LOST (R230). -/
def State.lanEnable (s : State) (p : Nat) : State :=
  if s.isStation && p < 2 && s.portEnabled p && s.pastBoot && (s.port p).txDark then
    let s1 := (s.upPort p fun x => { x with txDark := false }).noteAbsent p
    if vget s1.link.lan.up p false then s1 else s1.raiseRun .lanLost p
  else s

/-- An enabled port of a node past BOOT lights its transmitter (R31, R221). -/
def State.portEnable (s : State) (p : Nat) : State :=
  if !s.floen p then s.lanEnable p
  else if s.portEnabled p && s.pastBoot && (s.port p).state == .disabled then
    (s.upPort p fun x => { x with state := .down, txDark := false }).noteAbsent p
  else s

/-- LINK_PORT_ENABLE (R221). -/
def execLinkPortEnable (port : Nat) (s : State) : Result := .next (s.onPower (s.portEnable port))

/-- LINK_LOCK (R221): 64 valid sync headers with FL_LOSp low, at a port with a module. -/
def execLinkLock (port : Nat) (s : State) : Result :=
  .next (s.onLane (if s.floen port && (s.port port).state == .down && !(s.port port).modAbs then
    s.upPort port fun x => { x with state := .lock, los := false } else s))

/-- The port check (R221): one end is an up port, the other a down port. -/
def portCheck (p peer : Nat) : Bool := decide (p < 2) != decide (peer < 2)

/-- The port check of a port in HELLO, once its peer's LS block has come (R221). -/
def State.checkPort (s : State) (p : Nat) : State :=
  if (s.port p).state == .hello && (s.port p).peer != {} then
    (if portCheck p (s.port p).peer.port then s.upPort p fun x => { x with portOk := true }
    else (s.upPort p fun x => { x with portOk := false }).raiseRun .twillWiring)
  else s

/-- LINK_HELLO (R221): 8 LS blocks in a row with a valid CHK. -/
def execLinkHello (port : Nat) (s : State) : Result :=
  .next (s.onLane (if s.floen port && (s.port port).state == .lock then
    (s.upPort port fun x => { x with state := .hello }).checkPort port else s))

/-- The holdoff of a port has elapsed since its last loss (R221, R223). -/
def State.heldOff (s : State) (p : Nat) : Bool :=
  match (s.port p).lossTaps with
  | [] => true
  | t :: _ => decide (t + (if (s.port p).flapHold then tapsS else s.obj Obj.HOLDOFF * tapsMs) ≤ s.tb.taps)

/-- Entry into MEASURE (R221, R226, R419): the delay filter starts, and the certificates are sent. -/
def State.enterMeasure (s : State) (p : Nat) : State :=
  let s1 := s.upPort p fun x => { x with state := .measure, delays := [], outRun := 0, exchanges := 0, reqXid := none, reqAt := none }
  let s2 := s1.sendCert p false
  if s2.sys.certStatus == 1 then s2.sendCert p true else s2

/-- LINK_MEASURE (R221). -/
def execLinkMeasure (port : Nat) (s : State) : Result :=
  .next (s.onLane (if s.floen port && (s.port port).state == .hello && 2 ≤ (s.port port).peer.lstate && (s.port port).portOk
      && s.heldOff port then s.enterMeasure port else s))

/-- 5 µs in picoseconds: the largest DELAY of a port in UP (R226). -/
abbrev delayMaxPs : Nat := 5000000

/-- Entry into UP (R207, R218, R221, R364): HSEQ restarts, the BLK state of the latest LS block counts, and the safety connection of the port
enters START. -/
def State.enterUp (s : State) (p : Nat) : State :=
  let s1 := ((s.upPort p fun x => { x with state := .up, hseqTx := 0, hseqRx := some 65535 }).upLink
    fun l => { l with evt := setBit32 l.evt (6 + p) }).upConn p fun c => { c with start := true, gotValid := false }
  (s.linksSettle s1).takeBlk p (s.port p).peer.blk

/-- LINK_UP (R221): 8 valid exchanges, the peer in MEASURE or UP, and a DELAY of at most 5 µs. -/
def execLinkUp (port : Nat) (s : State) : Result :=
  .next (s.onLane (if s.floen port && (s.port port).state == .measure && 8 ≤ (s.port port).exchanges
      && 3 ≤ (s.port port).peer.lstate && (s.port port).delay ≤ delayMaxPs then s.enterUp port else s))

/-- A disabled port raises no fault of its module (R199): what it raised is over. -/
def State.endXcvr (s : State) (p : Nat) : State := (s.endRun .xcvrAbsent p).endRun .xcvrDiag p

/-- A port that PORT_ENABLE no longer enables (R199, R224): its transmitter is dark, and it raises no fault. -/
def State.portDisable (s : State) (p : Nat) : State :=
  if !s.floen p then
    (((s.upPort p fun x => { x with txDark := true }).upLink fun l => { l with lan := { l.lan with up := vset l.lan.up p false } }).endRun .lanLost p).endXcvr p
  else if (s.port p).state == .disabled then s
  else (s.portDrop p .disabled (s.port p).los).endXcvr p

/-- A write of PORT_ENABLE (R39, R224): all the ports of the write change in one step. -/
def State.applyPortEnable (s : State) (value jsn : Nat) : State :=
  let s1 := s.setObj Obj.PORT_ENABLE value jsn
  let s2 := [0, 1, 2, 3, 4, 5].foldl (fun t p => if t.portEnabled p then t.portEnable p else t.portDisable p) s1
  s1.linksSettle s2.blkUpdate

/-- The entries of the last 1 ms (R238 LINKp.UTIL). -/
def lastMs (now : Nat) (l : List (Nat × Nat)) : List (Nat × Nat) := l.filter fun e => inWindow e.1 tapsMs now

/-- The taps of `n` blocks of 10.56 ns (R200). -/
def blockTaps (n : Nat) : Nat := n * 16896 / 125

/-- The blocks that `n` blocks of a frame make the lane carry after an LS block `run` blocks ago (R203): an LS block after every 32 others. -/
def withLs (run n : Nat) : Nat := n + (run + n) / 32

/-- The lane carries `n` blocks from `start` on (R203, R238), with the LS blocks between: an idle LS block stands before them where the lane was
free. Answers all blocks it carries. -/
def LaneUse.carry (u : LaneUse) (start n now : Nat) : Nat × LaneUse :=
  let run := if u.endAt + blockTaps 1 ≤ start then 0 else u.run
  let m := withLs run n
  (m, { u with blocks := (now, m) :: lastMs now u.blocks, run := (run + n) % 32 })

/-- The latest row of express frames has not ended. -/
def LaneUse.inExpress (u : LaneUse) (now : Nat) : Bool := match u.express with | e :: _ => decide (now < e.2) | [] => false

/-- An express frame from `a` to `b` (R204): in one row with the one before where no other block stands between. -/
def LaneUse.addExpress (u : LaneUse) (a b : Nat) : LaneUse :=
  { u with express := match u.express with
    | e :: es => if a < e.2 + blockTaps 1 then (e.1, max b e.2) :: es else (a, b) :: (e :: es).filter fun x => inWindow x.2 tapsMs b
    | [] => [(a, b)] }

/-- A frame sent at `now`: an express frame suspends a normal one in progress, which goes on with one RESUME behind the whole row (R204). -/
def LaneUse.send (u : LaneUse) (express : Bool) (n now : Nat) : LaneUse :=
  let cuts := express && decide (now < u.normalEnd)
  let start := if cuts then (if u.inExpress now then ((u.express.head?).map (·.2)).getD now else now) else max now u.endAt
  let c := u.carry start (n + b2n (cuts && !u.inExpress now)) now
  let d := blockTaps c.1
  let v := { c.2 with
    endAt := if cuts then u.endAt + d else start + d
    normalEnd := if cuts then u.normalEnd + d else if express then u.normalEnd else start + d }
  if express then v.addExpress start (start + d) else v

/-- The rows of express frames that have interrupted a normal frame of `rest` taps which ended at `e` (R204). -/
def rowsWithin : List (Nat × Nat) → Nat → Nat → Nat
  | [], _, _ => 0
  | r :: rs, rest, e => if rest ≤ e - r.2 then 0 else 1 + rowsWithin rs (rest - (e - r.2)) r.1

/-- A frame received to its end at `now`: a normal one came with a RESUME for every row of express frames that interrupted it (R204). -/
def LaneUse.receive (u : LaneUse) (express : Bool) (n now : Nat) : LaneUse :=
  let start := now - blockTaps n
  let c := u.carry start (if express then n else n + rowsWithin u.express (blockTaps n) now) now
  let v := { c.2 with endAt := now, normalEnd := if express then u.normalEnd else now }
  if express then v.addExpress start now else v

/-- An LS block other than an idle one (R203 item 1, R238). -/
def LaneUse.addLs (u : LaneUse) (now : Nat) : LaneUse := { u with blocks := (now, 1) :: lastMs now u.blocks, run := 0 }

/-- An LS block arrives (R202, R218, R222): it takes effect at once; a peer that reports an earlier state than MEASURE takes an UP port
down. -/
def State.lsRx (s : State) (p : Nat) (x : LsBlock) : State :=
  if !s.floen p || !(s.port p).alive then s
  else if (s.port p).state == .up && x.lstate < 3 then s.portLost p .down (s.port p).los
  else
    let fresh := (s.port p).peer.blk != x.blk || (s.port p).peer.uplost != x.uplost
    let s1 := (s.upPort p fun q => { q with peer := x, rx := if fresh then q.rx.addLs s.tb.taps else q.rx }).checkPort p
    (s.linksSettle s1).takeBlk p x.blk

/-- LS_RECEIVE (R202). -/
def execLsReceive (port : Nat) (ls : LsBlock) (s : State) : Result := .next (s.onLane (s.lsRx port ls))

/-! ### Check units (R227 to R229) -/

/-- The parameters of a check unit: an object of unit `u`. -/
def State.cuObj (s : State) (u k : Nat) : Nat := s.obj (k + 256 * u)

/-- The CRC register of unit `u` after bytes, from INIT (R227). -/
def State.cuRun (s : State) (u crc : Nat) (bs : List Byte) : Nat :=
  Crc.run (s.cuObj u Obj.CU_WIDTH) (s.cuObj u Obj.CU_POLY) (bitOf (s.cuObj u Obj.CU_REFLECT) 0) crc bs

/-- The result of a CRC register after REFOUT and XOROUT (R227). -/
def State.cuFinish (s : State) (u crc : Nat) : Nat :=
  Crc.finish (s.cuObj u Obj.CU_WIDTH) (bitOf (s.cuObj u Obj.CU_REFLECT) 1) (s.cuObj u Obj.CU_XOROUT) crc

/-- The CRC of unit `u` over bytes (R227). -/
def State.cuCrc (s : State) (u : Nat) (bs : List Byte) : Nat := s.cuFinish u (s.cuRun u (s.cuObj u Obj.CU_INIT) bs)

/-- The bytes that a unit appends: ⌈WIDTH/8⌉ (R227). -/
def State.cuBytes (s : State) (u : Nat) : Nat := (s.cuObj u Obj.CU_WIDTH + 7) / 8

/-- A frame is one that BIND selects (R228). -/
def bindSelects (bind : Nat) (f : Frame) : Bool :=
  bind % 8 == f.cls.code &&
    (match f.payload with
    | b :: _ => (b.toNat ^^^ bitsOf bind 15 8) &&& bitsOf bind 23 16 == 0
    | [] => bitsOf bind 23 16 == 0)

/-- The unit of a mode that is bound to a frame (R227, R228). -/
def State.boundUnit (s : State) (mode : Nat) (f : Frame) : Option Nat :=
  [0, 1, 2, 3].find? fun u => s.cuObj u Obj.CU_MODE == mode && bindSelects (s.cuObj u Obj.CU_BIND) f

/-- Change check unit `u`. -/
def State.upCu (s : State) (u : Nat) (f : Cu → Cu) : State := s.upLink fun l => { l with cu := vset l.cu u (f (vget l.cu u {})) }

/-- A unit in APPEND acts on a frame that this node originates (R227, R228); none where the frame is dropped. -/
def State.cuAppend (s : State) (f : Frame) : Option Frame × State :=
  match s.boundUnit 1 f with
  | none => (some f, s)
  | some u =>
    let n := s.cuBytes u
    if 1024 < f.payload.length + n then (none, s.upCu u fun c => { c with fails := satAdd 32 c.fails 1 })
    else (some { f with payload := f.payload ++ leBytes n (s.cuCrc u f.payload) }, s)

/-- A unit in CHECK_STRIP acts on a frame delivered here (R227); none where the frame is discarded. -/
def State.cuStrip (s : State) (f : Frame) : Option Frame × State :=
  match s.boundUnit 2 f with
  | none => (some f, s)
  | some u =>
    let n := s.cuBytes u
    let l := f.payload.length - n
    if n ≤ f.payload.length && leNat (f.payload.drop l) == s.cuCrc u (f.payload.take l) then
      (some { f with payload := f.payload.take l }, s.endRun .cuCheck u)
    else (none, (s.upCu u fun c => { c with fails := satAdd 32 c.fails 1 }).raiseRun .cuCheck u)

/-- Two bindings select an overlapping set of frames (R228). -/
def bindOverlap (a b : Nat) : Bool :=
  a % 8 == b % 8 && (bitsOf a 15 8 ^^^ bitsOf b 15 8) &&& bitsOf a 23 16 &&& bitsOf b 23 16 == 0

/-- A write of CU_MODE (R228): refused as RANGE, whatever the mode, while CLASS names WEFT, SAFETY, MIRROR or TIME. -/
def State.applyCuMode (s : State) (u value jsn : Nat) : Applied :=
  let key := Obj.CU_MODE + 256 * u
  let bind := s.cuObj u Obj.CU_BIND
  if 4 ≤ u || 3 < value || !cuClassOk bind then s.no .range
  else if (value == 1 || value == 2) && [0, 1, 2, 3].any (fun v =>
      v != u && s.cuObj v Obj.CU_MODE == value && bindOverlap (s.cuObj v Obj.CU_BIND) bind) then s.no .refused
  else (s.setObj key value jsn).yes

/-- CU_MODE_WRITE (R228). -/
def execCuModeWrite (u value : Nat) (s : State) : Result :=
  .next (s.onPower (settle (Obj.CU_MODE + 256 * u) 0 (s.applyCuMode u value 0)))

/-- A write of CUu.CTRL (R229): START loads INIT; BYTES takes 1 to 4. -/
def State.cuCtrl (s : State) (u value : Nat) : State :=
  if 4 ≤ u || s.cuObj u Obj.CU_MODE != 3 then s
  else
    let b := bitsOf value 10 8
    s.upCu u fun c =>
      let crc := if bitOf value 0 then s.cuObj u Obj.CU_INIT else c.crc
      { c with bytes := if 1 ≤ b && b ≤ 4 then b else c.bytes, crc := crc,
               result := if bitOf value 0 then s.cuFinish u crc else c.result }

/-- CU_START (R229). -/
def execCuStart (u value : Nat) (s : State) : Result := .next (s.onPower (s.cuCtrl u value))

/-- A write of CUu.DATA (R229): the unit takes BYTES bytes, low byte first. -/
def State.cuTake (s : State) (u value : Nat) : State :=
  if 4 ≤ u || s.cuObj u Obj.CU_MODE != 3 then s
  else s.upCu u fun c =>
    let crc := s.cuRun u c.crc (leBytes c.bytes value)
    { c with crc := crc, result := s.cuFinish u crc }

/-- CU_DATA (R229). -/
def execCuData (u value : Nat) (s : State) : Result := .next (s.onPower (s.cuTake u value))

/-! ### Frames received (R207, R210 to R215) -/

/-- The blocks that a frame occupies on the lane: 2 + ⌊(F − 7) / 8⌋; one that is cut off has the block that ends it in place of its terminate. -/
def frameBlocks (size : Nat) : Nat := 2 + (size - 7) / 8

/-- A frame fails a check of R207 on a port: F1 LINK_ERRORS at more than ERR_LIMIT in a window of 1 s (R237). -/
def State.frameFails (s : State) (p : Nat) : State :=
  let w := s.tb.taps :: (s.port p).errTaps.filter fun t => inWindow t tapsS s.tb.taps
  let s1 := ((s.upPort p fun x => { x with errTaps := w }).upLink fun l => { l with evt := setBit32 l.evt 14 }).event (0x36 + p)
  if s.obj Obj.ERR_LIMIT < w.length then s1.raiseRun .linkErrors p else s1.endRun .linkErrors p

/-- The missing values of HSEQ (R207). -/
def State.takeHseq (s : State) (p h : Nat) : State :=
  s.upPort p fun x => match x.hseqRx with
    | some l => { x with hseqRx := some h, hseqGap := satAdd 32 x.hseqGap ((h + 131071 - l % 65536) % 65536) }
    | none => { x with hseqRx := some h }

/-- A CROSS arrival is allowed: on the up ports of a node of level 1, and on the down ports of a master or STATION (R211). -/
def State.crossAllowed (s : State) (p : Nat) : Bool := if p < 2 then s.atLevel1 else s.isMember

/-- A CROSS copy by R212 of a class that R208 sends UP or DOWN. DEDUCED(14). -/
def crossCopyOf (f : Frame) : Bool := f.dir == .cross && f.anym && (f.cls == .event || f.cls == .telemetry)

/-- Check 2 of R207: the direction for the class and the port (R208, R211). -/
def State.dirOk (s : State) (p : Nat) (f : Frame) : Bool :=
  (f.cls.allows f.dir || crossCopyOf f) &&
    (match f.dir with
    | .up => 2 ≤ p
    | .down => p < 2
    | .cross => s.crossAllowed p
    | .localDir => true)

/-- Check 3 of R207: no reserved address (R6), and the arm broadcast only as R208 allows. -/
def addrsOk (f : Frame) : Bool :=
  !addrReserved f.src && !dstReserved f.dst && (!isArmBroadcast f.dst || f.cls.broadcast)

/-- DST names this node (R210). -/
def State.named (s : State) (f : Frame) : Bool := f.dst == s.addr || (f.anym && partnerAddr f.dst == s.addr)

/-- The frame is delivered at this node (R210). -/
def State.deliveredHere (s : State) (f : Frame) : Bool :=
  match f.dir with
  | .up => s.named f
  | .down => s.named f || (isArmBroadcast f.dst && s.isCell && addrArm f.dst == s.node.arm)
  | .cross => s.isMember && s.named f
  | .localDir => true

/-- A copy is new to an entry: above its highest ESEQ, or among the 64 below it and not seen (R215). -/
def DupEntry.fresh (e : DupEntry) (q : Nat) : Bool :=
  let up := (q + 65536 - e.high) % 65536
  let dn := (e.high + 65536 - q) % 65536
  (1 ≤ up && up ≤ 32767) || (1 ≤ dn && dn ≤ 64 && !bitOf e.seen (dn - 1))

/-- An entry takes an ESEQ (R215). -/
def DupEntry.take (e : DupEntry) (q : Nat) : DupEntry :=
  let up := (q + 65536 - e.high) % 65536
  let dn := (e.high + 65536 - q) % 65536
  if 1 ≤ up && up ≤ 32767 then { e with high := q, seen := (e.seen * 2 ^ up + 2 ^ (up - 1)) % 2 ^ 64 }
  else if bitOf e.seen (dn - 1) then e else { e with seen := e.seen + 2 ^ (dn - 1) }

/-- A copy with TWIN or by CROSS passes the duplicate filter (R215); the state with its entry used. -/
def State.dupFilter (s : State) (f : Frame) : Bool × State :=
  let mine (e : DupEntry) := e.src == f.src && e.cls == f.cls
  match s.link.dup.find? mine with
  | some e =>
    if e.fresh f.eseq then (true, s.upLink fun l => { l with dup := l.dup.filter (fun x => !mine x) ++ [e.take f.eseq] })
    else (false, s.upLink fun l => { l with dup := l.dup.filter (fun x => !mine x) ++ [e], dups := satAdd 32 l.dups 1 })
  | none =>
    let old := if 32 ≤ s.link.dup.length then s.link.dup.drop 1 else s.link.dup
    (true, s.upLink fun l => { l with dup := old ++ [{ src := f.src, cls := f.cls, high := f.eseq, seen := 0 }] })

/-- The duplicate filter applies to a frame (R215). -/
def dupFiltered (f : Frame) : Bool := (f.twin || f.dir == .cross) && f.cls != .safety && f.cls != .weft

/-- A frame discarded for want of a route (R213, R214). -/
def State.countNoRoute (s : State) : State := s.upLink fun l => { l with noRoute := satAdd 32 l.noRoute 1 }

/-- A forwarded copy has one hop less (R205). -/
def frameHop (f : Frame) : Frame := { f with hops := f.hops - 1 }

/-- Forward a frame on one port, which must be lit (R213). -/
def State.forwardOn (s : State) (p : Nat) (f : Frame) : State := if s.lit p then s.enqueue p (frameHop f) else s.countNoRoute

/-- Forward a DOWN frame on a tree (R213). -/
def State.forwardDown (s : State) (treeB : Bool) (f : Frame) : State :=
  if isArmBroadcast f.dst then (s.routeDown treeB f.dst).foldl (fun t p => if t.lit p then t.enqueue p (frameHop f) else t) s
  else match s.routeDown treeB f.dst with
    | [] => s.countNoRoute
    | ps => ps.foldl (fun t p => t.forwardOn p f) s

/-- A node's forwarding of a frame that it does not keep (R210, R213, R214). -/
def State.forward (s : State) (p : Nat) (f : Frame) : State :=
  match f.dir with
  | .up => (match s.primaryPort with
    | some q => if s.isStation then s.countNoRoute else s.forwardOn q f
    | none => s.countNoRoute)
  | .down => s.forwardDown (if s.isArm then s.memberB else p == 1) f
  | .cross => if p < 2 then s.forwardOn (1 - p) f else s.forwardDown s.memberB { f with dir := .down }
  | .localDir => s

/-- A JOURNAL frame of a KIND that R312 does not list. -/
def badKind (f : Frame) : Bool := f.cls == .journal && !(1 ≤ leNat (f.payload.take 1) && leNat (f.payload.take 1) ≤ 0x0D)

/-- The frame of port `p` is handed to the firmware, after a check unit that is bound to it (R59, R210, R227); a JOURNAL frame of no known
KIND is discarded and counted (R312), and an ENTRY is put together from its frames (R313). -/
def State.toFirmware (s : State) (p : Nat) (f : Frame) : State :=
  match s.cuStrip f with
  | (some g, t) => if badKind g then t.upPort p fun x => { x with addrErr := satAdd 32 x.addrErr 1 } else if isRequest g then t.serviceRequest p g else
      let t1 := { t with inbox := g :: t.inbox }
      if g.cls == .journal then t1.entryPart g.payload else t1.serviceIn g
  | (none, t) => t

/-- A pair member copies a frame with ANYM to its partner (R212). -/
def State.crossCopy (s : State) (f : Frame) : State :=
  if s.isMember && f.anym && f.dir != .cross && !f.twin then s.enqueueAll s.litDown { frameHop f with dir := .cross } else s

/-- Deliver and forward a frame that has passed every check (R210 to R215). -/
def State.route (s : State) (p : Nat) (f : Frame) : State :=
  let here := s.deliveredHere f
  let s1 := if f.dir == .down && isArmBroadcast f.dst && f.hops != 0 then s.forward p f else s
  if here then
    (if dupFiltered f then
      (match s1.dupFilter f with
      | (true, t) => (t.toFirmware p f).crossCopy f
      | (false, t) => t)
    else (s1.toFirmware p f).crossCopy f)
  else if f.dir == .down && isArmBroadcast f.dst then s1
  else if f.dir == .cross && s.isMember && dupFiltered f && 2 ≤ p then
    (match s1.dupFilter f with
    | (true, t) => t.forward p f
    | (false, t) => t)
  else s1.forward p f

/-- The neighbour of a port is admitted, or the frame is one that passes without (R419, R420). -/
def State.frameAllowed (s : State) (p : Nat) (f : Frame) : Bool := s.lit p || (f.cls == .time && f.dir == .localDir)

/-- Count a failed check on a port (R207). -/
def State.failPort (s : State) (p : Nat) (f : Port → Port) : State := (s.upPort p f).frameFails p

/-- Count a failed check of the block (R207). -/
def State.failLink (s : State) (p : Nat) (f : Link → Link) : State := (s.upLink f).frameFails p

/-- Checks 2 to 5 of R207, and what follows them; a frame that ended before its last byte is an ABORT (R204). -/
def State.frameChecked (s : State) (p : Nat) (bs : List Byte) (f : Frame) : State :=
  if !s.dirOk p f then s.failLink p fun l => { l with dirErr := satAdd 32 l.dirErr 1 }
  else if !addrsOk f then s.failPort p fun x => { x with addrErr := satAdd 32 x.addrErr 1 }
  else if !s.deliveredHere f && f.hops == 0 then s.failLink p fun l => { l with hopsExp := satAdd 32 l.hopsExp 1 }
  else if Frame.cutOff bs then s.upPort p fun x => { x with aborts := satAdd 32 x.aborts 1 }
  else if !Frame.crcOk bs then s.failPort p fun x => { x with crcErr := satAdd 32 x.crcErr 1 }
  else (s.event (0x30 + p)).route p f

/-- A frame arrives on a port (R207): the first failing check decides. -/
def State.frameRx (s : State) (p : Nat) (bs : List Byte) : State :=
  if !s.floen p || !((s.port p).state == .up || (s.port p).state == .measure) then s
  else
    let s0 := s.upPort p fun x => { x with rx := x.rx.receive ((leNat (bs.take 1)) % 8 == 0) (frameBlocks bs.length) s.tb.taps }
    if bs.length < 16 then s0.upPort p fun x => { x with aborts := satAdd 32 x.aborts 1 }
    else if !Frame.hcsOk bs then s0.failPort p fun x => { x with hcsErr := satAdd 32 x.hcsErr 1 }
    else
      let f := Frame.ofBytes bs
      let s1 := s0.takeHseq p f.hseq
      let s2 := if f.dir == .down then s1.takeBlk p f.blk else s1
      if s2.frameAllowed p f then s2.frameChecked p bs f else s2

/-- FRAME_RECEIVE (R207). -/
def execFrameReceive (port : Nat) (bytes : List Byte) (s : State) : Result := .next (s.onLane (s.frameRx port bytes))

/-- FRAME_STALL_ABORT (R204): the frame being received gets no block for 64 block times, and is discarded. DESIGN CHOICE(181): how many of its
blocks have come is free. -/
def execFrameStallAbort (port : Nat) (s : State) : Result :=
  .next (s.onLane (if s.floen port && ((s.port port).state == .up || (s.port port).state == .measure) then
    let f := s.drawFree 130
    f.2.upPort port fun x => { x with aborts := satAdd 32 x.aborts 1, rx := x.rx.receive false (f.1 + 1) (s.tb.taps - 64 * blockTaps 1) } else s))

/-! ### Frames sent (R203, R208, R209) -/

/-- The oldest of some queued frames: the earliest to queue, and of equal ones the first in the queue. -/
def oldest : List QEntry → Option QEntry
  | [] => none
  | q :: qs => match oldest qs with
    | some r => if r.since < q.since then some r else some q
    | none => some q

/-- The frame that a port sends next, and whether aging chose it (R203, R209). -/
def State.choose (s : State) (p : Nat) : Option (QEntry × Bool) :=
  let q := (s.port p).queue
  let first (c : FloenClass) := q.find? fun e => e.frame.cls == c
  let aged := q.filter fun e => 2 ≤ e.frame.cls.code && decide (e.since + s.obj Obj.AGING * tapsUs ≤ s.tb.taps)
  match first .weft, first .safety, oldest aged with
  | some e, _, _ => some (e, false)
  | none, some e, _ => some (e, false)
  | none, none, some e => some (e, true)
  | none, none, none =>
    ([FloenClass.journal, .mirror, .time, .telemetry, .event, .service].findSome? first).map fun e => (e, false)

/-- Remove the first entry equal to one from a queue. -/
def dropEntry (e : QEntry) : List QEntry → List QEntry
  | [] => []
  | q :: qs => if q == e then qs else q :: dropEntry e qs

/-- What hardware inserts as a LOCAL TIME frame leaves at the tap `c` (R225, R254): t3 of a DRSP, T_TX of a SYNC. -/
def State.stamp (s : State) (c : Nat) (f : Frame) : Frame :=
  if f.cls == .time && f.dir == .localDir then
    (match f.payload with
    | b :: _ =>
      if b == 2 then { f with payload := f.payload.take 12 ++ leBytes 8 c }
      else if b == 3 then { f with payload := f.payload.take 4 ++ leBytes 12 (nt96 (s.tb.ntFAt c)) ++ f.payload.drop 16 }
      else f
    | [] => f)
  else f

/-- What follows when a LOCAL TIME frame has left at the tap `c`: t1 of a DREQ (R225), and the next segment of a certificate (R419). -/
def State.afterSend (s : State) (p : Nat) (f : Frame) (c : Nat) : State :=
  if f.cls == .time && f.dir == .localDir then
    (match f.payload with
    | b :: d :: _ =>
      if b == 1 then s.upPort p fun x => { x with reqT1 := c }
      else if b == 4 && d.toNat % 2 == 0 then
        s.sendLocal p .time (s.certSegment (bitOf d.toNat 1) (leNat ((f.payload.drop 2).take 2) + certSegBytes))
      else s
    | _ => s)
  else s

/-- Send the chosen frame on a port (R203, R205, R209): it takes the hop's HSEQ and, going DOWN, the BLK state. -/
def State.transmit (s : State) (p : Nat) : State :=
  if !s.floen p || !((s.port p).state == .up || (s.port p).state == .measure) then s
  else match s.choose p with
    | none => s
    | some (e, aged) =>
      let s1 := s.upPort p fun x => { x with queue := dropEntry e x.queue, aged := if aged then satAdd 32 x.aged 1 else x.aged }
      let (fo, s2) := if e.frame.src == s.addr then s1.cuAppend e.frame else (some e.frame, s1)
      match fo with
      | none => s2
      | some f =>
        let (c, s2) := if f.cls == .time && f.dir == .localDir then s2.tapNow else (s2.tb.taps, s2)
        let g := s2.stamp c { f with hseq := (s2.port p).hseqTx, blk := f.dir == .down && s2.link.blkOut }
        (s2.upPort p fun x => { x with
          hseqTx := (x.hseqTx + 1) % 65536, lastTx := some g
          tx := x.tx.send (g.cls == .weft) (frameBlocks g.size) s.tb.taps }).afterSend p g c

/-- FRAME_TRANSMIT (R209). -/
def execFrameTransmit (port : Nat) (s : State) : Result := .next (s.onLane (s.transmit port))

/-! ### Link delay (R225, R226) -/

/-- The port runs delay exchanges (R221, R225). -/
def State.measures (s : State) (p : Nat) : Bool := s.floen p && ((s.port p).state == .measure || (s.port p).state == .up)

/-- The interval between exchanges in taps (R225): DELAY_INTERVAL in UP, 10 µs in MEASURE. -/
def State.delayEvery (s : State) (p : Nat) : Nat := if (s.port p).state == .up then s.obj Obj.DELAY_INTERVAL * tapsUs else 10 * tapsUs

/-- An exchange is due on a port (R225). -/
def State.dreqDue (s : State) (p : Nat) : Bool :=
  s.measures p && (match (s.port p).reqAt with
    | some t => !inWindow t (s.delayEvery p) s.tb.taps
    | none => true)

/-- DELAY_REQUEST_SEND (R225): a DREQ with a new XID. -/
def State.sendDreq (s : State) (p : Nat) : State :=
  if s.dreqDue p then
    let x := (s.port p).nextXid
    (s.upPort p fun q => { q with nextXid := (x + 1) % 65536, reqXid := some x, reqT1 := s.tb.taps, reqAt := some s.tb.taps }).sendLocal p .time
      (leBytes 1 1 ++ leBytes 1 0 ++ leBytes 2 x ++ leBytes 16 0)
  else s

/-- DELAY_REQUEST_SEND (R225). -/
def execDelayRequestSend (port : Nat) (s : State) : Result := .next (s.onLane (s.sendDreq port))

/-- DELAY_REQUEST_RECEIVE (R225): a DRSP with t2; t3 is inserted as it leaves. -/
def execDelayRequestReceive (port xid : Nat) (s : State) : Result :=
  .next (s.onLane (if s.measures port then
    s.tapNow.2.sendLocal port .time (leBytes 1 2 ++ leBytes 1 0 ++ leBytes 2 xid ++ leBytes 8 s.tapNow.1 ++ leBytes 8 0) else s))

/-- The values in rising order. -/
def insertInt (x : Int) : List Int → List Int
  | [] => [x]
  | y :: ys => if x ≤ y then x :: y :: ys else y :: insertInt x ys

/-- The median of some delays, in half taps, as picoseconds. DESIGN CHOICE(15): of an even number of values the mean of the two middle
ones, rounded down; a negative one counts as 0. -/
def medianPs (l : List Int) : Nat :=
  let m := l.foldr insertInt []
  let n := m.length
  if n == 0 then 0
  else ((m.getD ((n - 1) / 2) 0 + m.getD (n / 2) 0) * 625 / 32).toNat

/-- A measured delay of `d` half taps is an outlier in UP: more than 5 ns from DELAY (R226). -/
def Port.outlier (p : Port) (d : Int) : Bool := p.state == .up && p.delays.length == 8 && decide (80000 < (d * 625 - 16 * p.delay).natAbs)

/-- A measured delay enters the filter (R226). -/
def Port.takeDelay (p : Port) (d : Int) : Port :=
  if p.outlier d then
    (if p.outRun + 1 == 8 then { p with outliers := satAdd 32 p.outliers 1, outRun := 0, delays := [] }
    else { p with outliers := satAdd 32 p.outliers 1, outRun := p.outRun + 1 })
  else
    let l := (d :: p.delays).take 8
    { p with delays := l, outRun := 0, delay := medianPs l, exchanges := if p.state == .measure then p.exchanges + 1 else p.exchanges }

/-- A DRSP arrives (R225, R226): the exchange in progress completes within 10 µs. -/
def State.drspRx (s : State) (p xid t2 t3 : Nat) : State :=
  let x := s.port p
  if !s.measures p || x.reqXid != some xid then s
  else
    let s1 := s.upPort p fun q => { q with reqXid := none }
    let (t4, s1) := s1.tapNow
    if !inWindow x.reqT1 (10 * tapsUs) t4 then s1
    else
      let d : Int := ((t4 : Int) - x.reqT1) - ((t3 : Int) - t2)
      let s2 := s1.upPort p fun q => q.takeDelay d
      let y := s2.port p
      if delayMaxPs < y.delay then s2.raiseRun .linkDelay p
      else s2.endRun .linkDelay p

/-- DELAY_RESPONSE_RECEIVE (R226). -/
def execDelayResponseReceive (port xid t2 t3 : Nat) (s : State) : Result := .next (s.onLane (s.drspRx port xid t2 t3))

/-- DELAY_EXCHANGE_VOID (R225): no DRSP within 10 µs. -/
def execDelayExchangeVoid (port : Nat) (s : State) : Result :=
  .next (s.onPower (if inWindow (s.port port).reqT1 (10 * tapsUs) s.tb.taps then s else s.upPort port fun x => { x with reqXid := none }))

/-! ### Transceivers (R199, R460) -/

/-- XCVR_DIAG_POLL (R199): every DIAG_INTERVAL the read of a present module's diagnostics starts. -/
def execXcvrDiagPoll (port : Nat) (s : State) : Result :=
  .next (s.onPower (
    let x := s.port port
    let early := match x.diagAt with | some t => inWindow t (s.obj Obj.DIAG_INTERVAL * tapsMs) s.tb.taps | none => false
    if x.modAbs || x.i2cBusy || early then s
    else s.upPort port fun x => { x with i2cBusy := true, i2cAt := s.tb.taps, diagAt := some s.tb.taps }))

/-- The vendor name of the present module (R240 XCVR_VENDOR), read once: bytes 20 to 35 of its address 0xA0. DESIGN CHOICE(182): what the module
holds there is a free value. -/
def State.readVendor (s : State) (p : Nat) : State :=
  match (s.port p).xVendor with
  | some _ => s
  | none =>
    let f := s.drawFree (2 ^ 128)
    f.2.upPort p fun x => { x with xVendor := some f.1 }

/-- The diagnostics have been read (R199): an alarm flag is an F1 XCVR_DIAG at an enabled port. DEDUCED(144): the readings are those that the scaling
by the module's calibration gives, of which the manual states no formula. -/
def State.xcvrRead (s : State) (p : Nat) (temp : Int) (vcc bias tx rx flags : Nat) : State :=
  if !(s.port p).i2cBusy then s
  else
    let s1 := (s.readVendor p).upPort p fun x => { x with
      i2cBusy := false, xTemp := temp, xVcc := vcc, xBias := bias, xTx := tx, xRx := rx, xFlags := flags }
    if flags % 65536 == 0 then s1.endRun .xcvrDiag p
    else if s1.portEnabled p then (s1.upLink fun l => { l with evt := setBit32 l.evt 15 }).raiseRun .xcvrDiag p
    else s1

/-- XCVR_DIAG_DONE (R199). -/
def execXcvrDiagDone (port : Nat) (temp : Int) (vcc bias txpwr rxpwr flags : Nat) (s : State) : Result :=
  .next (s.onPower (s.xcvrRead port temp vcc bias txpwr rxpwr flags))

/-- I2C_STRETCH_TIMEOUT (R460): stretched beyond 10 ms, the transaction is abandoned. -/
def execI2cStretchTimeout (port : Nat) (s : State) : Result :=
  .next (s.onPower (if inWindow (s.port port).i2cAt (10 * tapsMs) s.tb.taps then s else s.upPort port fun x => { x with i2cBusy := false }))

/-- FL_MODABSp changes (R199): an enabled port without a module stays DOWN. -/
def State.moduleChange (s : State) (p : Nat) (gone : Bool) : State :=
  let s1 := s.upPort p fun x => { x with modAbs := gone, i2cBusy := x.i2cBusy && !gone, xVendor := if gone then none else x.xVendor }
  (if gone && s1.floen p && (s1.port p).alive then s1.portLost p .down (s1.port p).los else s1).noteAbsent p

/-- MODULE_ABSENT (R199). -/
def execModuleAbsent (port : Nat) (gone : Bool) (s : State) : Result :=
  .next (s.onPower (if port < 6 then s.moduleChange port gone else s))

end Sys2Proof.Machine
end

