-- ==== Sys2Proof/Machine/Read.lean ====
section
/-!
DEFINITION. Sys2Proof/Machine/Read.lean: what a read of an object returns (R47, R48): the live value of each object that the device
measures or derives, and the stored value of every other one.
-/
namespace Sys2Proof.Machine

/-- The i-th value of a short list. -/
def nth (l : List Nat) (i : Nat) : Nat := l.getD i 0

/-- A signed value as the unsigned number of its bytes. -/
def sgn (bytes : Nat) (i : Int) : Nat := ofSigned (8 * bytes) i

/-- A signed value saturated to 32 bits. -/
def sat32 (i : Int) : Nat := sgn 4 (clampI i (-(2 ^ 31)) (2 ^ 31 - 1))

/-- The key lies `i` places after `base` in sub-index, below `n`. -/
def subAt (base key n : Nat) : Option Nat := if base ≤ key && key < base + n then some (key - base) else none

/-- The key is the object `base` of channel `i`, below `n`. -/
def chanAt (base key n : Nat) : Option Nat :=
  if base ≤ key && (key - base) % 256 == 0 && (key - base) / 256 < n then some ((key - base) / 256) else none

/-! ### Role and topology (R40), dictionary (R69, R75, R77) and identity (R443) -/

/-- A firmware slot is valid (R422). -/
def slotValid (minSvn : Nat) (f : Option FwSlot) : Bool :=
  match f with
  | some x => x.headerOk && x.keyOk && x.sigOk && x.sizeOk && x.digestOk && minSvn ≤ x.svn
  | none => false

/-- FW_VERSION of a slot, 0 where it is invalid (R443). -/
def State.slotVersion (s : State) (i : Nat) : Nat :=
  let f := vget s.sys.slots i none
  if slotValid s.sys.minSvn f then ((f.map (·.version)).getD 0) else 0

/-- The code of the orphan kind (R40 ORPHAN). -/
def orphanCode : OrphanKind → Nat
  | .none => 0
  | .localOrphan => 1
  | .inherited => 2

/-- PARENT_STATUS (R40). -/
def State.parentStatus (s : State) : Nat :=
  b2n (s.lit 0) + 2 * b2n (s.port 0).peer.uplost + 4 * b2n (s.lit 1) + 8 * b2n (s.port 1).peer.uplost

/-- PRIMARY (R40). -/
def primaryCode : Parent → Nat
  | .a => 0
  | .b => 1
  | .none => 2

/-- Live objects of 01_twill_roles. -/
def State.live01 (s : State) (key : Nat) : Option Nat :=
  let n := s.node
  if key == Obj.STRAP_ROLE then some (roleCode n.role)
  else if key == Obj.LEVEL then some n.place.level
  else if key == Obj.INDEX then some n.place.index
  else if key == Obj.ADDRESS then some n.address
  else if key == Obj.A_PARENT then some n.aParent
  else if key == Obj.B_PARENT then some n.bParent
  else if key == Obj.PRIMARY then some (primaryCode n.primary)
  else if key == Obj.PARENT_STATUS then some s.parentStatus
  else if key == Obj.POPULATION then
    some (if s.isArm then populationOf (s.objEff Obj.ARM_DEPTH) (s.objEff Obj.LAST_LEVEL_COUNT) else 0)
  else if key == Obj.NODE_STATE then some (nodeCode n.nodeState)
  else if key == Obj.HOLD_COUNT then some n.holdCount
  else if key == Obj.ORPHAN then some (orphanCode n.orphan)
  else if key == Obj.NODE_COMMAND then some n.lastCommand
  else (subAt Obj.CHILD_DN0 key 4).map fun i => vget n.children i 0x7FFFF

/-- The octets of CLOCK_IDENTITY (R261): MAC_ADDRESS as EUI-64. -/
def clockIdentity : List Byte :=
  let m := leBytes 6 (Config.factoryValue Obj.MAC_ADDRESS)
  m.take 3 ++ [0xFF, 0xFE] ++ m.drop 3

/-- Live objects of 02_object_dictionary. -/
def State.live02 (s : State) (key : Nat) : Option Nat :=
  if key == Obj.FW_VERSION then some (((vget s.sys.slots s.sys.slot none).map (·.version)).getD 0)
  else if key == Obj.FW_SLOT then some s.sys.slot
  else if key == Obj.FW_DIGEST then some s.fwDigest
  else if key == Obj.RESET_PENDING then some (b2n s.resetPending)
  else if key == Obj.OP_CERT_STATUS then some s.sys.certStatus
  else if key == Obj.SESSIONS_OPEN then some s.dict.sessions.length
  else if key == Obj.REFUSED_COUNT then some s.dict.refusedCount
  else if key == Obj.LAST_REFUSAL then some s.dict.lastRefusal
  else if key == Obj.TID_REPLAYS then some s.dict.tidReplays
  else if [Obj.SILICON_REV, Obj.SERIAL, Obj.DICT_VERSION, Obj.DEVICE_PUBKEY, Obj.DEVICE_CERT, Obj.CSR, Obj.MAC_ADDRESS].contains key then some (Config.factoryValue key)
  else (chanAt Obj.RPD_STATUS key 8).map fun i =>
    let c := vget s.dict.rpd i {}
    b2n c.timedOut + 2 * b2n c.mapBad

/-- The bytes of the keep area (R438). -/
def keepBytes (k : Keep) : List Byte :=
  let b := leBytes 4 k.rsn ++ leBytes 5 k.opt ++ leBytes 3 k.pcc
    ++ leBytes 1 (b2n k.media + 2 * b2n k.bypass + 4 * b2n k.sby + 8 * b2n k.degraded + 16 * b2n k.clean)
    ++ leBytes 1 (k.prefSlot % 2 + 2 * (k.trialCount % 8)) ++ leBytes 2 k.degFailed ++ leBytes 4 k.degMin ++ leBytes 4 k.scvConfirmed
    ++ leBytes 8 k.applied ++ leBytes 220 0
  b ++ leBytes 4 (Crc.crc32c b)

/-- The IDCODE of the TAP (R439): SILICON_REV, 0x6208, 0x2C5 and 1. -/
def jtagIdcode : Nat := Config.factoryValue Obj.SILICON_REV % 16 * 2 ^ 28 + 0x6208 * 2 ^ 12 + 0x2C5 * 2 + 1

/-- Live objects of 13_identity_power_reset. -/
def State.live13 (s : State) (key : Nat) : Option Nat :=
  let y := s.sys
  if key == Obj.IMAGE_STATUS then some y.imageStatus
  else if key == Obj.SLOT_A_VERSION then some (s.slotVersion 0)
  else if key == Obj.SLOT_A_VERSION + 1 then some (s.slotVersion 1)
  else if key == Obj.MIN_SVN then some y.minSvn
  else if key == Obj.OP_CERT_REASON then some y.certReason
  else if key == Obj.PEER_REJECTS then some y.peerRejects
  else if key == Obj.VCORE_NOW then some y.vcoreNow
  else if key == Obj.VIN_NOW then some y.vin
  else if key == Obj.VDDA_NOW then some y.vdda
  else if key == Obj.TJ then some (sgn 2 y.tj)
  else if key == Obj.PFAIL_COUNT then some y.pfails
  else if key == Obj.RESET_CAUSE then some y.resetCause
  else if key == Obj.WARM_RESETS then some y.warmResets
  else if key == Obj.JTAG_STATE then some s.jtagState
  else if key == Obj.JTAG_IDCODE then some jtagIdcode
  else if key == Obj.KEEP_IMAGE then some (leNat (keepBytes s.keepNow))
  else none

/-! ### Weft (R108), Treadle (R138), Gate (R168) and measurement (R193, R195) -/

/-- Live objects of 03_weft_selection. -/
def State.live03 (s : State) (key : Nat) : Option Nat :=
  let w := s.weft
  let a := s.arm
  if key == Obj.WEFT_PERIOD && s.isCell then some w.tw
  else if key == Obj.LEAD && s.isCell then some w.lead
  else if key == Obj.ADJ then some (sgn 2 a.adj)
  else if key == Obj.CYCLE then some w.k
  else if key == Obj.LAST_C then some (a.lastC % 2 ^ 16)
  else if key == Obj.LAST_E then some (sgn 2 a.lastE)
  else if key == Obj.LAST_N then some (sgn 2 a.lastN)
  else if key == Obj.LAST_BBIN then some w.lastDec.bbin
  else if key == Obj.LAST_ALLOC then some w.lastDec.alloc
  else if key == Obj.LAST_FLAGS then some (shuttleFlags w.lastDec)
  else if key == Obj.LAST_VMIN then some a.lastVmin
  else if key == Obj.LAST_VMAX then some a.lastVmax
  else if key == Obj.LAST_CURRENT then some (sgn 2 a.lastI)
  else if key == Obj.WINDOW then
    some (match s.window w.k with
      | some x => x.wb + 2 ^ 16 * winByte x
      | none => 0)
  else (subAt Obj.KEEPS key 8).map
    (nth [w.keeps, w.cmisses, w.lates, w.shorts, w.misses, w.sats, w.adopts, w.sensConflicts])

/-- The code of a run mode (R137 TRDL.CTRL.MODE). -/
def runModeCode : RunMode → Nat
  | .stop => 0
  | .track => 1
  | .run => 2
  | .shadow => 3

/-- Live objects of 04_treadle_control. -/
def State.live04 (s : State) (key : Nat) : Option Nat :=
  let t := s.trdl
  if key == Obj.RUN_MODE then some (runModeCode s.runMode)
  else if key == Obj.PROGRAM_DIGEST then some s.programDigest
  else if key == Obj.FAST_PATH then some s.fastPath
  else if key == Obj.SLOW_PATH then some s.slowPath
  else if key == Obj.VCORE_MIN then some s.vcoreMin
  else if key == Obj.N_OUT then some (sgn 2 t.nOut)
  else if key == Obj.H_INDEX then some (sgn 2 t.h)
  else if key == Obj.I_REF then some t.iRef.toNat
  else if key == Obj.U_FF then some t.uFf.toNat
  else if key == Obj.V_FILT then some t.vFilt.toNat
  else if key == Obj.DUTY then some t.duty.toNat
  else match subAt Obj.TRDL_OVERRUNS key 3 with
    | some i => some (nth [t.overruns, t.fpes, t.slowSkips] i)
    | none => match chanAt Obj.PI_OUTPUT key 8, chanAt Obj.INTEGRATOR key 8, chanAt Obj.RAMP_OUTPUT key 8, chanAt Obj.STATE key 8 with
      | some i, _, _, _ => some (vget t.pi i {}).u.toNat
      | _, some i, _, _ => some (vget t.pi i {}).i.toNat
      | _, _, some i, _ => some (vget t.ramp i {}).r.toNat
      | _, _, _, some i => some (b2n (vget t.ramp i {}).run)
      | _, _, _, _ => none

/-- Eight flags as a number. -/
def flagBits (n : Nat) (f : Nat → Bool) : Nat := (List.range n).foldl (fun a i => a + 2 ^ i * b2n (f i)) 0

/-- The image of GATE.OUT (R167). DEDUCED(152): no force is applied while the outputs are high-impedance, as the reset value 0 of SPB says. -/
def State.outImage (s : State) : Nat :=
  let g := s.gate
  let fltf := [0, 1, 2, 3, 4, 5].any fun n => (vget g.flt n {}).latched && bitsOf (s.obj (Obj.FLT_CFG0 + n)) 3 2 != 0
  flagBits 8 (fun i => !g.hiz && s.goRead i) + 2 ^ 8 * flagBits 8 s.goActive
    + 2 ^ 16 * b2n (g.ins == .pos || g.ins == .neg) + 2 ^ 17 * b2n (g.ins == .neg) + 2 ^ 18 * b2n g.hiz
    + (if g.hiz then 0 else 2 ^ 19 * b2n s.sel.spb + 2 ^ 20 * b2n s.sel.sby + 2 ^ 21 * b2n fltf)

/-- Live objects of 05_gate_outputs. -/
def State.live05 (s : State) (key : Nat) : Option Nat :=
  let g := s.gate
  if key == Obj.FLT_LATCHED then some (flagBits 6 fun n => (vget g.flt n {}).latched)
  else if key == Obj.CAL_SPAN then some (g.calSpan + 140)
  else if key == Obj.OUT_STATE then some s.outImage
  else (subAt Obj.MISMATCHES key 7).map
    (nth [g.mismatch, g.realign, g.clearRefused, g.forces, g.minpulse, g.readback, g.cals])

/-- The image of ADCn.RES (R195). -/
def AdcCore.resImage (c : AdcCore) : Nat :=
  c.resVal % 2 ^ 16 + 2 ^ 16 * (c.resCh % 16) + 2 ^ 20 * (c.resEntry % 16) + 2 ^ 24 * b2n c.resUrg + 2 ^ 30 * b2n c.resOvr
    + 2 ^ 31 * b2n c.resValid

/-- The code of a comparator's state (R193). -/
def wcCode : WcState → Nat
  | .inside => 0
  | .below => 1
  | .above => 2

/-- Live objects of 06_measurement. -/
def State.live06 (s : State) (key : Nat) : Option Nat :=
  let a := s.adc
  if key == Obj.REF_READY then some (b2n a.refReady)
  else if key == Obj.CAL_STATUS then some (b2n a.cal0Ok + 2 * b2n a.cal1Ok + 4 * b2n a.calBusy)
  else if key == Obj.VCAP_CODE then some a.vcapCode
  else if key == Obj.ISENS_CODE then some (sgn 2 a.isensCode)
  else if key == Obj.ISENS_STATUS then some (b2n a.isensValid + 2 * b2n a.isensOver)
  else if key == Obj.WC_STATE then some ([0, 1, 2, 3].foldl (fun v n => v + 4 ^ n * wcCode (s.wcAt n).state) 0)
  else match subAt Obj.RESULT0 key 2 with
    | some i => some (vget a.cores i {}).resImage
    | none => (subAt Obj.ADC_OVERRUNS key 4).map (nth [a.overruns, a.trigLosts, a.aborts, a.refWaits])

/-! ### Links (R238 to R241) and time (R272) -/

/-- LINKp.UTIL of one direction (R238): blocks of the last 1 ms, of 10.56 ns each, in 1/65,536 of all blocks. -/
def utilOf (now : Nat) (l : List (Nat × Nat)) : Nat :=
  min 65535 ((lastMs now l).foldl (fun n e => n + e.2) 0 * 65536 * 1056 / 100000000)

/-- Live objects of one port (R240). -/
def State.livePort (s : State) (p sub : Nat) : Option Nat :=
  let x := s.port p
  if sub == 1 then some (LinkState_code x.state)
  else if sub == 2 then some x.peer.addr
  else if sub == 3 then some x.peer.port
  else if sub == 4 then some x.delay
  else if 6 ≤ sub && sub ≤ 0x0D then
    some (nth [x.crcErr, x.hcsErr, x.hseqGap, x.aborts, x.drops, x.losses, x.aged, x.addrErr] (sub - 6))
  else if sub == 0x0E then some x.outliers
  else if sub == 0x0F then some (utilOf s.tb.taps x.tx.blocks + 2 ^ 16 * utilOf s.tb.taps x.rx.blocks)
  else none

/-- Live objects of one transceiver (R240). -/
def State.liveXcvr (s : State) (p sub : Nat) : Option Nat :=
  let x := s.port p
  if sub == 1 then some (b2n !x.modAbs)
  else if sub == 2 then some (sgn 2 x.xTemp)
  else if sub == 3 then some x.xVcc
  else if sub == 4 then some x.xBias
  else if sub == 5 then some x.xTx
  else if sub == 6 then some x.xRx
  else if sub == 7 then some x.xFlags
  else if sub == 8 then some (x.xVendor.getD 0)
  else none

/-- Live objects of 07_floen_links. -/
def State.live07 (s : State) (key : Nat) : Option Nat :=
  let l := s.link
  let idx := keyIndex key
  if 0x4010 ≤ idx && idx < 0x4016 then s.livePort (idx - 0x4010) (keySub key)
  else if 0x4020 ≤ idx && idx < 0x4026 then s.liveXcvr (idx - 0x4020) (keySub key)
  else if key == Obj.BLK_STATE then some (b2n (s.port 0).blk + 2 * b2n (s.port 1).blk + 4 * b2n l.blkOut + 8 * b2n s.sel.sysTrip)
  else if key == Obj.BLK_COUNT then some l.blkCount
  else if key == Obj.LAN_STATE then some (b2n (vget l.lan.up 0 false) + 2 * b2n (vget l.lan.up 1 false))
  else if key == Obj.PRP_DUPLICATES then some l.lan.duplicates
  else if key == Obj.PRP_DUPLICATES + 1 then some l.lan.wrongLan
  else match subAt Obj.NOROUTE key 4 with
    | some i => some (nth [l.noRoute, l.hopsExp, l.dirErr, l.dups] i)
    | none => match chanAt Obj.GS_STATUS key 32, chanAt Obj.SV_STATUS key 4, chanAt Obj.SV_MISSED key 4, chanAt Obj.CU_FAILS key 4 with
      | some i, _, _, _ => some (vget l.lan.gs i {}).status
      | _, some i, _, _ => some (vget l.lan.sv i {}).status
      | _, _, some i, _ => some (vget l.lan.sv i {}).missed
      | _, _, _, some i => some (vget l.cu i {}).fails
      | _, _, _, _ => none

/-- The code of a time state (R252). -/
def timeCode : TimeState → Nat
  | .free => 0
  | .acquire => 1
  | .locked => 2
  | .holdover => 3

/-- The grandmaster that a STATION follows (R261). -/
def Ptp_master (p : Ptp) : Option PtpMaster := if p.port == 1 then p.masterA else if p.port == 2 then p.masterB else none

/-- Live objects of 08_time_base. -/
def State.live08 (s : State) (key : Nat) : Option Nat :=
  let t := s.tb
  if key == Obj.TIME_STATE then some (timeCode t.state)
  else if key == Obj.NETWORK_TIME then some (nt96 t.ntF)
  else if key == Obj.THETA then some (sat32 ((t.theta * 1000).tdiv 65536))
  else if key == Obj.RATE_PPB then some (sat32 ((t.rate * 1000000000).tdiv (2 ^ 40)))
  else if key == Obj.SOURCE then some s.timeSource
  else if key == Obj.TIME_DEPTH then some t.depth
  else if key == Obj.LAST_STEP then some (sgn 8 t.lastStep)
  else if key == Obj.PENDING_STEP then some (if t.sstep.armed then t.sstep.id else 0)
  else if key == Obj.GM_IDENTITY then some (leNat (leBytes 8 (((Ptp_master t.ptp).map (·.identity)).getD 0)).reverse)
  else if key == Obj.CLOCK_IDENTITY then some (leNat clockIdentity)
  else if key == Obj.PTP_PORT then some t.ptp.port
  else if key == Obj.UTC_OFFSET then some (sgn 2 t.utcOffset)
  else if key == Obj.PTP_OFFSET then some (sat32 t.ptp.offset)
  else if key == Obj.PDELAY_A then some (sgn 4 t.ptp.pdelayA)
  else if key == Obj.PDELAY_A + 1 then some (sgn 4 t.ptp.pdelayB)
  else match subAt Obj.STEPS key 3 with
    | some i => some (nth [t.steps, t.stepRefused, t.sSteps] i)
    | none => match chanAt Obj.TSI_LAST key 4, chanAt Obj.TSI_CAPTURES key 4, chanAt Obj.TSI_OVERFLOWS key 4 with
      | some i, _, _ => some (nt96 (vget t.tsi i {}).last)
      | _, some i, _ => some (vget t.tsi i {}).captures
      | _, _, some i => some (vget t.tsi i {}).overflows
      | _, _, _ => none

/-! ### Heddle (R305, R306), journal (R343, R344), island (R383), recorder (R414), store (R415) -/

/-- Live objects of 09_cores_heddle. -/
def State.live09 (s : State) (key : Nat) : Option Nat :=
  let h := s.hdl
  if key == Obj.GRAPH_DIGEST then some s.graphDigest
  else if key == Obj.GRAPH_OPS then some h.ops.length
  else if key == Obj.GRAPH_ARCS then some h.arcs.length
  else if key == Obj.SYS_OPS then some (s.graph.ops.filter (·.sys)).length
  else if key == Obj.GRAPH_STATE then some (if h.activating then 2 else b2n h.run)
  else if key == Obj.MEM_CE then some h.memCe
  else if key == Obj.MEM_UE then some h.memUe
  else if key == Obj.MEM_UE_ADDR then some h.memUeAddr
  else if key == Obj.MEM_SCRUB_LAST then some h.scrubMs
  else match subAt Obj.QDEPTH0 key 8, subAt Obj.CORE_LOAD0 key 8, subAt Obj.DLY_FILL0 key 4, subAt Obj.DISPATCHES key 8 with
    | some i, _, _, _ => some (s.queueDepth i % 2 ^ 16 + 2 ^ 16 * vget h.qmax i 0)
    | _, some i, _, _ => some (vget h.cores i {}).load
    | _, _, some i, _ => some ((vget h.delay i {}).fill % 2 ^ 16 + 2 ^ 16 * (vget h.delay i {}).maxFill)
    | _, _, _, some i => some (nth [h.dispatches, h.cancelRace, h.arcFull, h.opFault, h.budget, h.dlyRefused, h.memCe, h.memUe] i)
    | _, _, _, _ =>
      match chanAt Obj.EC_VALUE key 16, chanAt Obj.EC_CAPTURE key 16, chanAt Obj.EC_FENCE_VALUE key 16, chanAt Obj.EC_FENCE_ID key 16 with
      | some i, _, _, _ => some (vget s.evc.ec i {}).value
      | _, some i, _, _ => some (vget s.evc.ec i {}).cap
      | _, _, some i, _ => some (vget s.evc.ec i {}).fsn
      | _, _, _, some i => some (vget s.evc.ec i {}).fid
      | _, _, _, _ => none

/-- Live objects of 10_journal_redundancy. -/
def State.live10 (s : State) (key : Nat) : Option Nat :=
  let j := s.jrn
  let l := s.laneOf s.ownLane
  if key == Obj.PAIR_STATE then some (pairCode j.pstate)
  else if key == Obj.HEALTH then some s.healthBits
  else if key == Obj.PARTNER_STATE then
    some (if s.partnerFresh then (match j.partner with | some m => pairCode m.pstate | none => 0) else 0)
  else if key == Obj.PAIR_EPOCH then some j.epoch
  else if key == Obj.APPLIED_JSN then some l.applied
  else if key == Obj.HEAD_JSN then some l.head
  else if key == Obj.TRIM_JSN then some l.trim
  else if key == Obj.JOURNAL_BYTES then some j.journalBytes
  else if key == Obj.FENCE then some j.fenceRead
  else if key == Obj.LAST_FENCE then some j.lastFence
  else if key == Obj.LAST_FENCE_JSN then some j.lastFenceJsn
  else if key == Obj.LAST_SWITCH_CAUSE then some j.lastCause
  else if key == Obj.LAST_SWITCH_TIME then some j.lastTime
  else if key == Obj.LAST_RESYNC_MS then some j.resyncMs
  else if key == Obj.SNAPSHOT_BYTES then some j.snapSize
  else (subAt Obj.SWITCHES key 8).map
    (nth [j.switches, j.discarded, j.catchups, j.transfers, j.dups, j.resyncs, j.resyncAborts, j.busyRefusals])

/-- The image of SEL.STAT (R383). -/
def State.selStat (s : State) : Nat :=
  let l := s.sel
  flagBits 13 fun i => [l.spb, l.sby, l.sdi, l.degraded, s.dnm, l.sealEn, s.scvGood, s.enActive 0, s.enActive 1, vget l.fb 0 false,
    vget l.fb 1 false, vget l.sinB 0 false, vget l.sinB 1 false].getD i false

/-- The image of SEL.CHAN (R383). -/
def State.selChan (s : State) : Nat :=
  let l := s.sel
  b2n l.coreOk + 2 * b2n l.badgOk + 4 * b2n l.supOk + 8 * b2n l.clkIosc + 16 * (l.wcOk % 16)

/-- Live objects of 11_selvedge_safety. -/
def State.live11 (s : State) (key : Nat) : Option Nat :=
  let l := s.sel
  if key == Obj.SAFE_STATE then some s.selStat
  else if key == Obj.CHANNELS then some s.selChan
  else if key == Obj.SPB_CAUSES then some l.causes
  else if key == Obj.SBY_CAUSE then some l.sbyCause
  else if key == Obj.DEG_ELAPSED then some l.degMin
  else if key == Obj.SAFETY_FW_DIGEST then some (((vget s.sys.slots s.sys.slot none).map (·.safetyDigest)).getD 0)
  else if key == Obj.SEAL_SET then some (256 * b2n l.sealEn + l.sealSel % 256)
  else if key == Obj.SCV then some l.scv
  else if key == Obj.SCV_STATE then some (if l.sealEn then 2 else b2n l.scvOk)
  else if key == Obj.SCV_CONFIRMED then some l.scvConfirmed
  else if key == Obj.SCV_CONFIRM_TIME then some l.scvTime
  else if key == Obj.SPS_IMAGE then some (leNat s.spsImage)
  else match chanAt Obj.CONN_STATE key 6, chanAt Obj.CONN_ID_EXP key 6 with
    | some p, _ => some (let c := s.conn p; b2n c.valid + 2 * b2n c.start + 4 * b2n c.dem + 2 ^ 16 * c.lastSeq)
    | _, some p => some (s.conn p).idExp
    | _, _ => (subAt Obj.REFUSED key 4).map (nth [l.refused, l.frameErr, l.seqGap, l.pulses])

/-- The code of a Den slot's state (DEN_IMAGE). -/
def denCode : DenState → Nat
  | .opened => 0
  | .closed => 1
  | .stored => 2
  | .pinned => 3

/-- The 52 bytes of a Den slot (DEN_IMAGE). -/
def denSlotBytes (d : DenSlot) : List Byte := d.record.bytes ++ leBytes 4 (denCode d.state + 4 * b2n d.relayed + 8 * b2n d.sent)

/-- An own record stands above the last clear (R404); RSN values are compared modulo 2^32 (R388). -/
def Rec.shows (r : Rec) (rsn : Nat) : Bool := (rsn + 2 ^ 32 - r.firstRsn) % 2 ^ 32 < 2 ^ 31

/-- The RSNs of the own records that can be read (R403, R404): closed, and neither cleared, overwritten nor lost. -/
def Rec.readable (r : Rec) : List Nat :=
  (r.den.filter fun d => !d.relayed && d.state != .opened && (r.shows d.record.rsn || d.state == .pinned)).map (·.record.rsn)
    ++ (r.events.filter fun e => e.arn.isNone && !e.lost && r.shows e.record.rsn).map (·.record.rsn)

/-- The lowest readable own RSN (R403, R414 REC.FIRST); the next RSN where none can be read. -/
def Rec.first (r : Rec) : Nat :=
  match r.readable with
  | [] => r.nextRsn
  | x :: l => l.foldl (fun m n => if (m + 2 ^ 32 - n) % 2 ^ 32 < 2 ^ 31 then n else m) x

/-- A size in bytes in MiB, rounded up (DESIGN CHOICE(27)). -/
def mibOf (bytes : Nat) : Nat := (bytes + 2 ^ 20 - 1) / 2 ^ 20

/-- What a partition holds in MiB (R407, R416 PART_USED). DESIGN CHOICE(199): SNAPSHOT, DICT and USER, whose contents take less, show 1 MiB
while they hold something. -/
def State.partUsed (s : State) (i : Nat) : Nat :=
  if i < 2 then (match vget s.sys.slots i none with | some f => mibOf (f.size + 256) | none => 0)
  else if i == 2 then mibOf s.jrn.journalBytes
  else if i == 3 then b2n s.bob.snap.valid
  else if i == 4 then mibOf ((s.recd.events.length + eventsPerSector - 1) / eventsPerSector * 1024)
  else if i == 5 then b2n (s.bob.dict != 0)
  else b2n (s.obj Obj.USER_FILE != 0)

/-- Closed Den slots not yet stored (R414 REC.STAT.DENCLOSED). -/
def State.denClosed (s : State) : Nat := (s.recd.den.filter fun d => d.state == .closed).length

/-- The highest erase count of a block (R412). -/
def erMaxOf (l : List (Nat × Nat)) : Nat := l.foldl (fun m e => max m e.2) 0

/-- The average erase count of the blocks erased at least once. DESIGN CHOICE(28): R415 does not say over which blocks. -/
def erAvgOf (l : List (Nat × Nat)) : Nat := l.foldl (fun n e => n + e.2) 0 / max 1 l.length

/-- The image of BOB.STAT (R415). -/
def State.bobStat (s : State) : Nat :=
  let b := s.bob
  b2n b.mounted + 2 * b2n s.recd.media + 4 * (b.type0 % 4) + 16 * (b.type1 % 4) + 64 * b2n b.inner0 + 128 * b2n b.inner1
    + 256 * b2n b.scrubbing + 512 * b2n s.foreground

/-- Live objects of 12_recorder_storage. -/
def State.live12 (s : State) (key : Nat) : Option Nat :=
  let r := s.recd
  let b := s.bob
  if key == Obj.REC_NEXT_RSN then some r.nextRsn
  else if key == Obj.REC_FIRST_RSN then some r.first
  else if key == Obj.OPT then some s.optNow
  else if key == Obj.PCC then some r.pcc
  else if key == Obj.MEDIA_FAULT then some (b2n r.media)
  else if key == Obj.REC_NEXT_ARN then some r.nextArn
  else if key == Obj.DEN_IMAGE then some (leNat (r.den.flatMap denSlotBytes))
  else if key == Obj.DEN_CLOSED then some s.denClosed
  else if key == Obj.BOB_STATE then some s.bobStat
  else if key == Obj.DICT_IMAGE then some (Config.recordDict b.dict)
  else if key == Obj.SPARE_LEFT then some b.spareLeft
  else if key == Obj.ERASE_MAX then some (erMaxOf b.erases)
  else if key == Obj.ERASE_AVG then some (erAvgOf b.erases)
  else if key == Obj.REC_SCRUB_LAST then some b.scrubLast
  else if key == Obj.FLUSH_US then some b.flushUs
  else match subAt Obj.PART_USED_FW_A key 7, subAt Obj.RECORDS key 8, subAt Obj.CORRSECT key 8 with
    | some i, _, _ => some (s.partUsed i)
    | _, some i, _ => some (nth [r.records, r.repeats, r.denDrops, r.denBad, r.overwritten, r.relayedCnt, r.fwdGaps, r.fwdLost] i)
    | _, _, some i => some (nth [b.corrSect, b.corrBits, b.uncorr, b.reloc, b.progFail, b.eraseFail, b.timeouts, b.preempts] i)
    | _, _, _ => none

/-! ### A read (R43, R47, R48) -/

/-- The live value of an object; none for one that is stored. The index's range names its chapter (R42). -/
def State.live (s : State) (key : Nat) : Option Nat :=
  let c := keyIndex key / 0x400
  if c == 4 || c == 5 then (s.live02 key).or (s.live13 key)
  else if c == 8 then s.live01 key
  else if c == 0xC then s.live03 key
  else if c == 0xD then s.live04 key
  else if c == 0xE then s.live05 key
  else if c == 0xF then s.live06 key
  else if c == 0x10 then (s.live07 key).or (s.live02 key)
  else if c == 0x11 then (s.live08 key).or (s.live02 key)
  else if c == 0x12 || c == 0x16 then s.live09 key
  else if c == 0x13 then s.live10 key
  else if c == 0x14 then (s.live11 key).or (s.live02 key)
  else if c == 0x15 then (s.live12 key).or (s.live02 key)
  else if c == 0x17 then s.live07 key
  else if c == 0x18 then s.live02 key
  else none

/-- The value of an object, windows apart (R48): the stored value where it is not live. -/
def State.readObj (s : State) (key : Nat) : Nat :=
  if keySub key == 0 && (if isUserKey key then !s.userKeys.contains key else (tableRow key).isNone) then s.maxSub s.node.role (keyIndex key)
  else (s.live key).getD (s.obj key)

/-- A requester's cursor (R47). -/
def State.cursor (s : State) (via : Via) (key : Nat) : Nat :=
  ((s.dict.cursors.find? fun c => c.1 == via && c.2.1 == key).map (·.2.2)).getD 0

/-- Set a requester's cursor (R47). -/
def State.setCursor (s : State) (via : Via) (key v : Nat) : State :=
  s.upDict fun d => { d with cursors := (via, key, v) :: d.cursors.filter fun c => !(c.1 == via && c.2.1 == key) }

/-- An object is a cursor (R47). -/
def isCursor (key : Nat) : Bool := [Obj.OPWAIT_CURSOR, Obj.TARGET_CURSOR, Obj.REC_STREAM, Obj.REC_CURSOR].contains key

/-- An operation's waiting times, as HDL.OPWAIT (R299). -/
def State.opWait (s : State) (n : Nat) : Nat :=
  let o := s.opRun n
  o.waitLast % 2 ^ 16 + 2 ^ 16 * (o.waitMax % 2 ^ 16)

/-- A record of a stream by its number: closed, and neither cleared nor overwritten (R403); 0 where there is none. -/
def State.recordAt (s : State) (relayed : Bool) (n : Nat) : Nat :=
  let r := s.recd
  if relayed then
    (if n < r.firstArn then 0
    else match r.events.find? (fun e => e.arn == some n && !e.lost) with
    | some e => leNat e.record.bytes
    | none => match r.den.find? (fun d => d.relayed && d.arn == n && d.state != .opened) with
      | some d => leNat d.record.bytes
      | none => 0)
  else
    match r.den.find? (fun d => !d.relayed && d.record.rsn == n && d.state != .opened) with
    | some d => if r.shows n || d.state == .pinned then leNat d.record.bytes else 0
    | none => match r.events.find? (fun e => e.arn.isNone && e.record.rsn == n && !e.lost) with
      | some e => if r.shows n then leNat e.record.bytes else 0
      | none => 0

/-- Equal cells of a window, the first lowest. -/
def cells (n width : Nat) (f : Nat → Nat) : Nat := (List.range n).foldl (fun v i => v + 2 ^ (8 * width * i) * (f i % 2 ^ (8 * width))) 0

/-- The node state of a target that is a neighbour below, as its LS blocks give it (R202); of any other the value of its registration. -/
def State.targetState (s : State) (t : Target) : Nat :=
  match [2, 3, 4, 5].find? fun p => s.lit p && (s.port p).peer.avalid && (s.port p).peer.addr == t.addr with
  | some p => (s.port p).peer.nstate
  | none => t.nstate

/-- One entry of TARGET_TABLE (R323). -/
def State.targetCell (s : State) (t : Target) : Nat :=
  t.addr % 2 ^ 32 + 2 ^ 32 * (t.applied % 2 ^ 64) + 2 ^ 96 * (s.targetState t % 256)

/-- The value of an object for a requester: its windows stand at its cursors (R47, R299, R403). -/
def State.readFor (s : State) (via : Via) (key : Nat) : Nat :=
  if isCursor key then s.cursor via key
  else if key == Obj.OPWAIT then cells 32 4 fun i => s.opWait (s.cursor via Obj.OPWAIT_CURSOR + i)
  else if key == Obj.TARGET_TABLE then
    cells 32 16 fun i => ((s.jrn.targets[s.cursor via Obj.TARGET_CURSOR + i]?).map s.targetCell).getD 0
  else if key == Obj.REC_WINDOW then
    cells 8 48 fun i => s.recordAt (s.cursor via Obj.REC_STREAM == 1) ((s.cursor via Obj.REC_CURSOR + i) % 2 ^ 32)
  else s.readObj key

end Sys2Proof.Machine
end

