-- ==== Sys2Proof/Machine/Clock.lean ====
section
/-!
DEFINITION. Sys2Proof/Machine/Clock.lean: the time base (R242 to R272): REFCLK, RATE and steps, synchronisation and the servo, PTP, pulse
outputs and capture inputs.
-/
namespace Sys2Proof.Machine

/-! ### REFCLK (R243, R369) -/

/-- REFCLK is lost (R243, R369): REFOK reads 0, Badger sets cause 10, and the safety core moves to the internal oscillator. -/
def State.refLost (s : State) : State :=
  if !s.tb.refOk then s
  else
    let s1 := (s.upTb fun t => { t with refOk := false, evt := setBit32 t.evt 14 }).upSel fun l => { l with clkIosc := true }
    (s1.setCause 10).raise .refclkLost

/-- REFCLK_LOST (R243). -/
def execRefclkLost (s : State) : Result := .next (s.onPower s.refLost)

/-- REFCLK_RETURN (R243): TRAW goes on from the value it held. -/
def execRefclkReturn (s : State) : Result :=
  .next (s.onPower (if s.tb.refOk then s else s.upTb fun t => { t with refOk := true, refBackTap := t.taps }))

/-- REFCLK_STABLE (R369): cause 10 ends once REFCLK has been back for 1 ms. -/
def execRefclkStable (s : State) : Result :=
  .next (s.onPower (if s.tb.refOk && s.sel.clkIosc && s.tb.refBackTap + tapsMs ≤ s.tb.taps then
    (s.upSel fun l => { l with clkIosc := false }).endCause 10 else s))

/-! ### RATE, steps and the latch (R245 to R249) -/

/-- RATE is clamped to ±500 ppm (R245). -/
def clampRate (r : Int) : Int := clampI r (-549755814) 549755814

/-- The RATE term of R245 at a tap count. -/
def rateTerm (c : Nat) (r : Int) : Int := ((c * 5120 : Nat) * r).fdiv (2 ^ 40)

/-- Write RATE (R247): only the slope changes. -/
def TimeBase.setRate (tb : TimeBase) (r : Int) : TimeBase :=
  let n := clampRate r
  { tb with rate := n, offset := tb.offset + rateTerm tb.taps tb.rate - rateTerm tb.taps n }

/-- RATE_WRITE (R247). -/
def execRateWrite (value : Nat) (s : State) : Result := .next (s.onPower (s.upTb fun t => t.setRate (toSigned 32 value)))

/-- TB.CTRL.RUNLOCK (R248). -/
def State.runLock (s : State) : Bool :=
  if s.isCell then s.node.nodeState == .service || s.node.nodeState == .hold else s.node.nodeState.isJoined

/-- The payload of a TIME_STEP record (R391): Δ in ns, STEP_ID, and seconds bits 47 to 32 before the step. -/
def stepPayload (delta : Int) (id ns : Nat) : Nat :=
  ofSigned 64 delta + 2 ^ 64 * (id % 2 ^ 16) + 2 ^ 80 * (ns / 1000000000 / 2 ^ 32 % 2 ^ 16)

/-- A cycle number moved by q cycles (R265). -/
def moveCycle (q : Int) (k : Nat) : Nat := ((k : Int) + q).toNat

/-- The lags of the cycles sampled before a step by q cycles and `d` ns (R265): what of the step is no whole number of cycles adds to them. -/
def Weft.lagAfter (q d : Int) (w : Weft) : List (Nat × Nat) :=
  let r := (d - q * w.tw).toNat
  let old (k : Nat) : Nat := match w.lag.find? (·.1 == k) with | some e => e.2 | none => 0
  if w.begun then ((w.k :: w.prev.map (·.k)).map fun k => (moveCycle q k, old k + r)).filter (·.2 != 0) else []

/-- The Weft's cycles after a step by q cycles and `d` ns (R265): rec[k], the held windows and what else is held for a cycle. -/
def Weft.rekey (q d : Int) (w : Weft) : Weft :=
  let m := moveCycle q
  { w with
    lag := w.lagAfter q d
    k := m w.k
    wins := w.wins.map fun e => { e with k := m e.k }
    ins := w.ins.map fun e => { e with k := m e.k }
    recs := w.recs.map fun e => { e with k := m e.k }
    decisions := w.decisions.map fun e => { e with k := m e.k }
    insHist := w.insHist.map fun e => (m e.1, e.2)
    prev := w.prev.map fun e => { e with k := m e.k }
    foFor := w.foFor.map m
    lateK := w.lateK.map fun x => x.map m
    darkSince := w.darkSince.map fun x => x.map fun t => ((t : Int) + d).toNat }

/-- The master's cycles after a step by q cycles (R265), with those that straddle the step (R266). -/
def WeftArm.rekey (q : Int) (straddled : List Nat) (a : WeftArm) : WeftArm :=
  { a with mergedK := moveCycle q a.mergedK, shuttleSentK := a.shuttleSentK.map (moveCycle q), straddleK := straddled.map (moveCycle q) }

/-- The cycle of a local orphan's bypass after a step (R37, R265). -/
def Node.rekey (q : Int) (n : Node) : Node := if n.orphanBypassDue then { n with orphanDueK := moveCycle q n.orphanDueK } else n

/-- Treadle's cycles after a step (R265). -/
def Treadle.rekey (q : Int) (t : Treadle) : Treadle :=
  { t with fastK := t.fastK.map (moveCycle q), slowK := t.slowK.map (moveCycle q), boundJ := t.boundJ.map (moveCycle q)
           fastBusy := t.fastBusy.map (moveCycle q), slowBusy := t.slowBusy.map (moveCycle q), cycle := moveCycle q t.cycle,
           ovrCycles := t.ovrCycles.map (moveCycle q) }

/-- The Gate unit's cycles and instants of network time after a step by q cycles and `d` taps (R265). -/
def Gate.rekey (q d : Int) (g : Gate) : Gate :=
  { g with edgeK := g.edgeK.map (moveCycle q), gridK := g.gridK.map (moveCycle q), cmptAt := g.cmptAt.map fun x => x.map (· + d)
           carStart := g.carStart + d, carPrev := (g.carPrev.1 + d, g.carPrev.2), sched := g.sched.map fun e => { e with tap := e.tap + d } }

/-- The Gate unit after a step by q cycles and `d` taps (R265): pending edges keep their real instant; a carrier grid that moves against them
realigns by R151. -/
def State.gateShift (s : State) (ref : Option Int) (q d : Int) : State :=
  let s1 := s.upGate fun g => { Gate.rekey q d g with stepRef := ref.map (· + d) }
  if s1.gridRuns && s1.gate.carLen != 0 && d % (s1.gate.act.period : Int) != 0 then s1.regrid else s1

/-- The cycles in progress that straddle a step at `ts` (R266): the instant lies between their t₀ and their T_exec. -/
def State.straddled (s : State) (ts : Nat) : List Nat :=
  if s.isArm && s.weft.tw != 0 then (s.weft.k :: s.weft.prev.map (·.k)).filter fun k => decide (s.t0 k < ts ∧ ts < s.texec k) else []

/-- Network time steps by `df` units of 1/65,536 ns now (R248, R249, R265): recorded in the old scale, then applied, with everything
that is held in network time moved to the new scale. -/
def State.stepTime (s : State) (df : Int) (id : Nat) (sched : Bool) : State :=
  let delta := df.fdiv 65536
  let before := s.tb.ntTap
  let str := if sched then s.straddled s.tb.sstep.ts else []
  let s1 := s.raiseAll [{ name := .timeStep, payload := some (stepPayload delta id s.tb.ntNs) }]
  let s2 := s1.upTb fun t => { t with
    offset := t.offset + df, stepNt := t.ntF + df, lastStep := delta, lockRun := 0, bigRun := 0, quantRun := 0
    appliedDelta := if sched then t.appliedDelta.map (· + delta) else t.appliedDelta
    steps := if sched then t.steps else satAdd 32 t.steps 1
    sSteps := if sched then satAdd 32 t.sSteps 1 else t.sSteps
    evt := setBit32 t.evt (if sched then 1 else 0) }
  let q := if s.weft.tw == 0 then 0 else delta.fdiv s.weft.tw
  let s3 := (((s2.upWeft (Weft.rekey q delta)).upArm (WeftArm.rekey q str)).upNode (Node.rekey q)).upTrdl
    (Treadle.rekey (if s.isStation then delta.fdiv (max 1 (s.objEff Obj.STATION_CYCLE)) else q))
  (s3.tbShift s.tb.ntNs delta).gateShift s.cycleRefs.head? (if s.gateTw == 0 then 0 else delta.fdiv s.gateTw) (s3.tb.ntTap - before)

/-- The signed 96-bit increment in TB.STEP0 to TB.STEP2 (R248). -/
def TimeBase.stepIncrement (t : TimeBase) : Int :=
  toSigned 96 (vget t.stepReg 0 0 + 2 ^ 32 * vget t.stepReg 1 0 + 2 ^ 64 * vget t.stepReg 2 0)

/-- NT after a step is not negative, and its seconds fit 48 bits (R248). -/
def TimeBase.stepFits (t : TimeBase) (df : Int) : Bool :=
  decide (0 ≤ t.ntF + df ∧ t.ntF + df < 2 ^ 48 * 1000000000 * 65536)

/-- An unscheduled step (R248): ignored and counted while RUNLOCK is 1, or where NT would leave its range. -/
def State.stepNow (s : State) (df : Int) : State :=
  if s.runLock || !s.tb.stepFits df then s.upTb fun t => { t with stepRefused := satAdd 32 t.stepRefused 1 }
  else s.stepTime df 0 false

/-- A write of TB.STEP2 (R248). -/
def State.writeStep (s : State) (value : Nat) : State :=
  let s1 := s.upTb fun t => { t with stepReg := vset t.stepReg 2 (value % 2 ^ 32) }
  s1.stepNow s1.tb.stepIncrement

/-- STEP_WRITE (R248). -/
def execStepWrite (value : Nat) (s : State) : Result := .next (s.onPower (s.writeStep value))

/-- The armed step is applied (R249), whatever RUNLOCK is. -/
def State.stepScheduled (s : State) : State :=
  let x := s.tb.sstep
  (s.stepTime (x.delta * 65536) x.id true).upTb fun t => { t with
    sstep := { t.sstep with armed := false }, ann := { t.ann with stepv := false } }

/-- Arm a step (R249): one whose instant has come is applied at once, with LATE set. -/
def State.armStep (s : State) (ts : Nat) (delta : Int) (id : Nat) : State :=
  let d := ofSigned 64 delta
  let s1 := s.upTb fun t => { t with
    sstep := { t.sstep with ts := ts, delta := delta, armed := true, id := id }
    sstepReg := #v[ts / 1000000000 % 2 ^ 32, ts % 1000000000, d % 2 ^ 32, d / 2 ^ 32] }
  if ts ≤ s.tb.ntNs then s1.stepScheduled.upTb fun t => { t with sstep := { t.sstep with late := true } } else s1

/-- 2³² s in nanoseconds. -/
abbrev sec32 : Int := 2 ^ 32 * 1000000000

/-- The nanoseconds that an NT64 value names, its seconds extended (R251): within [−2³¹ s, 2³¹ s) of the own network time `f`, in 1/65,536 ns. -/
def extendNt (f : Int) (sec ns : Nat) : Nat :=
  let b := -((-f).fdiv 65536) - sec32 / 2
  let r := b + (((sec * 1000000000 + ns : Nat) : Int) - b) % sec32
  (if r < 0 then r + sec32 else r).toNat

/-- A write of TB.SSTEPC (R249): ARM, LATE (cleared by 1) and ID. -/
def State.writeSstep (s : State) (value : Nat) : State :=
  let s1 := s.upTb fun t => { t with
    sstep := { t.sstep with late := t.sstep.late && !bitOf value 1, id := bitsOf value 31 16, armed := false } }
  let r (i : Nat) : Nat := vget s.tb.sstepReg i 0
  if bitOf value 0 then s1.armStep (extendNt s.tb.ntF (r 0) (r 1)) (toSigned 64 (r 2 + 2 ^ 32 * r 3)) (bitsOf value 31 16) else s1

/-- SCHEDULED_STEP_ARM (R249). -/
def execScheduledStepArm (value : Nat) (s : State) : Result := .next (s.onPower (s.writeSstep value))

/-- SCHEDULED_STEP_APPLY (R249): NT has reached t_s. -/
def execScheduledStepApply (s : State) : Result :=
  .next (s.onPower (if s.tb.sstep.armed && s.tb.sstep.ts ≤ s.tb.ntNs then s.stepScheduled else s))

/-- A read of TB.NT0 at a tap of the present period (R246): NT, TRAW and the tap of one instant are latched. -/
def TimeBase.latch (t : TimeBase) (tap : Nat) : TimeBase :=
  let c := t.taps / 128 * 128 + tap % 128
  { t with latTraw := c / 128, latTap := c % 128, latNt := nt96 (t.ntFAt c) }

/-- NT_READ_LATCH (R246). -/
def execNtReadLatch (tap : Nat) (s : State) : Result := .next (s.onPower (s.upTb fun t => t.latch tap))

/-! ### Sending SYNCs (R253, R254, R259) -/

/-- The root of the node's time is an active STATION that is LOCKED to PTP (R254). -/
def State.rootPtpOut (s : State) : Bool :=
  if s.followsPtp then s.tb.state == .locked && s.tb.ptp.port != 0 else s.tb.rootPtp

/-- The STEP_QUANTUM a node sends (R254): the STATION's own, or the one received. -/
def State.quantum (s : State) : Nat := if s.isStation then s.objEff Obj.STEP_QUANTUM else s.tb.syncQuantum

/-- The payload of a SYNC on a port (R254); T_TX is inserted when the frame leaves. -/
def State.syncPayload (s : State) (p : Nat) (ret : Bool) : List Byte :=
  let t := s.tb
  let v := t.ann.stepv
  leBytes 1 3
    ++ leBytes 1 (b2n (t.state == .locked) + 2 * b2n (t.state == .holdover) + 4 * b2n ret + 8 * b2n v + 16 * b2n s.rootPtpOut)
    ++ leBytes 2 (vget t.syncSeqTx p 0) ++ leBytes 12 0 ++ leBytes 1 (if s.followsPtp then 0 else t.depth) ++ leBytes 1 0
    ++ leBytes 2 (if v then t.ann.stepId else 0)
    ++ (if v then leBytes 4 (t.ann.stepAt / 1000000000) ++ leBytes 4 (t.ann.stepAt % 1000000000) else leBytes 8 0)
    ++ leBytes 8 (if v then ofSigned 64 t.ann.stepDelta else 0) ++ leBytes 4 s.quantum ++ leBytes 8 0

/-- Queue one SYNC (R253). -/
def State.sendSync (ret : Bool) (s : State) (p : Nat) : State :=
  (s.sendLocal p .time (s.syncPayload p ret)).upTb fun t => { t with syncSeqTx := vset t.syncSeqTx p ((vget t.syncSeqTx p 0 + 1) % 65536) }

/-- The up port that leads to the parent that is not primary (R259). -/
def State.otherUp (s : State) : Option Nat :=
  match s.node.primary with
  | .a => some 1
  | .b => some 0
  | .none => none

/-- A multiple of SYNC_INTERVAL on the own network time lies in the period of REFCLK that ends now (R253). -/
def State.syncGrid (s : State) : Bool :=
  let i := s.obj Obj.SYNC_INTERVAL * 1000
  decide (((s.tb.ntFAt (s.tb.taps - 128)).fdiv 65536).fdiv i < (s.tb.ntF.fdiv 65536).fdiv i)

/-- SYNCs are due (R253): the first on the grid of network time, each later one SYNC_INTERVAL after the one before on TRAW. -/
def State.syncDue (s : State) : Bool :=
  match s.tb.syncAt with
  | some t => !inWindow t (s.obj Obj.SYNC_INTERVAL * tapsUs) s.tb.taps
  | none => s.syncGrid

/-- A joined node with time sends its SYNCs when they are due (R253): down on every lit port, and back up from upper level 1. -/
def State.syncAll (s : State) : State :=
  if !s.node.joined || s.tb.state == .free || !s.syncDue then s
  else
    let s1 := s.litDown.foldl (State.sendSync false) (s.upTb fun t => { t with syncAt := some t.taps })
    if s.isCell || s.isStation || !s.atLevel1 then s1
    else match s1.otherUp with
      | some p => if s1.lit p then s1.sendSync true p else s1
      | none => s1

/-- SYNC_SEND (R253). -/
def execSyncSend (s : State) : Result := .next (s.onLane s.syncAll)

/-! ### Receiving SYNCs and the servo (R251 to R259) -/

/-- The node takes SYNCs from a port (R253, R255, R259). -/
def State.takesSync (s : State) (p : Nat) (ret : Bool) : Bool :=
  if s.isStation then ret && 2 ≤ p && p < 6 && !s.followsPtp && s.portUp p
  else !ret && s.primaryPort == some p && s.portUp p

/-- A SYNC's T_TX lies within 10 µs of what is expected (R255). -/
def State.syncExpected (s : State) (p : Nat) (m : SyncMsg) : Bool :=
  match vget s.tb.prevTx p none with
  | none => true
  | some x =>
    let want := x + (s.obj Obj.SYNC_INTERVAL * 1000 : Nat) * 65536 + vget s.tb.appliedDelta p 0 * 65536
    decide ((m.tTx - want).natAbs ≤ 10000 * 65536)

/-- θ in units of 1/65,536 ns (R225, R256): t_rx − (T_TX + DELAY + ASYM/2), t_rx at tap resolution and the link's part rounded down. -/
def State.syncTheta (s : State) (p : Nat) (m : SyncMsg) : Int :=
  let link : Int := 2 * ((s.port p).delay : Int) + s.objI (Obj.ASYM + 256 * p) 32
  s.tb.ntFAt (s.tb.taps / 128 * 128 + m.rxTap % 128) - (m.tTx + (link * 65536).fdiv 2000)

/-- |θ| is at least a limit in ns. -/
def beyond (theta : Int) (ns : Nat) : Bool := decide (ns * 65536 ≤ theta.natAbs)

/-- The servo of R257 for an interval of `ts` ns: the integral and RATE. DESIGN CHOICE(23): the corrections are binary32 values. -/
def State.servo (s : State) (theta : Int) (ts : Nat) : F32 × Int :=
  let x := F32.ofRat theta (65536 * max 1 ts)
  let i := ((F32.mul (s.objF Obj.SERVO_KI) x).bind (F32.sub s.tb.servoI)).getD s.tb.servoI
  let f := ((F32.mul (s.objF Obj.SERVO_KP) x).bind (F32.sub i)).getD i
  (i, (F32.roundAway ((F32.mul f (F32.ofInt! (2 ^ 40))).getD 0)).getD 0)

/-- The RATE that a STATION may set once it is READY (R262): within SLEW_MAX of its free-running rate. DESIGN CHOICE(22): that rate is the
uncorrected one, 0. -/
def State.slew (s : State) (r : Int) : Int :=
  if s.isStation && s.node.nodeState.isJoined then
    let m : Int := (s.obj Obj.SLEW_MAX * 2 ^ 40 / 1000000 : Nat)
    clampI r (-m) m
  else r

/-- The limit of R252 or R261 under which a node locks, in ns. -/
def State.lockLimit (s : State) : Nat := s.obj (if s.followsPtp then Obj.PTP_LOCK else Obj.LOCK_LIMIT)

/-- An accepted offset θ moves the time state and disciplines RATE (R252, R257, R258, R262). `ts` is the servo's interval. -/
def State.discipline (s : State) (theta : Int) (ts : Nat) : State :=
  let thr := s.obj Obj.STEP_THRESHOLD
  let s1 := s.upTb fun t => { t with
    theta := theta
    state := if t.state == .free then .acquire else t.state
    lastSyncTap := t.taps
    lockRun := if beyond theta s.lockLimit then 0 else t.lockRun + 1
    bigRun := if beyond theta thr then t.bigRun + 1 else 0
    alignRun := if beyond theta (s.obj Obj.ALIGN_LIMIT) then t.alignRun + 1 else 0
    quantRun := if decide (s.quantum * 65536 ≤ 2 * theta.natAbs) then t.quantRun + 1 else 0 }
  let s2 := if 8 ≤ s1.tb.bigRun && !s1.runLock && (s1.tb.state == .locked || s1.tb.state == .holdover) then
    s1.upTb fun t => { t with state := .acquire, lockRun := 0 } else s1
  let s3 := if s2.tb.state == .acquire && beyond theta thr then
    (s2.upTb fun t => { t with servoI := 0 }).stepNow (-theta)
  else
    let (i, r) := s2.servo theta ts
    s2.upTb fun t => { t.setRate (s2.slew r) with servoI := i, slewEnd := none }
  s3.healthCheck

/-- The instant that an announcement names, its 32-bit seconds extended by the own network time (R251, R254). -/
def State.announcedAt (s : State) (m : SyncMsg) : Nat :=
  extendNt s.tb.ntF (m.stepAt / 1000000000 % 2 ^ 32) (m.stepAt % 1000000000)

/-- A step announcement is taken once (R263): it arms the own scheduled step and goes into the own SYNCs. The same identifier with another
instant or increment is another announcement, since identifiers begin again. -/
def State.takeAnnouncement (s : State) (m : SyncMsg) : State :=
  let at' := s.announcedAt m
  if m.stepv && !(s.tb.ann.stepId == m.stepId && s.tb.ann.stepAt == at' && s.tb.ann.stepDelta == m.stepDelta) then
    (s.upTb fun t => { t with ann := { m with stepAt := at' } }).armStep at' m.stepDelta m.stepId
  else s

/-- The values of the sorted list, their median (R259): DESIGN CHOICE(15) for an even number. -/
def medianI (l : List Int) : Int :=
  let s := l.foldr insertInt []
  let n := s.length
  if n % 2 == 1 then s.getD (n / 2) 0 else (s.getD (n / 2 - 1) 0 + s.getD (n / 2) 0).fdiv 2

/-- The θ that a node acts on (R256, R259): its own, or the median of the latest values of a standby STATION's lit ports. -/
def State.actingTheta (s : State) (theta : Int) : Int :=
  if s.isStation then
    medianI (([2, 3, 4, 5].filter s.lit).filterMap fun p => vget s.tb.retTheta (p - 2) none)
  else theta

/-- A SYNC arrives (R254 to R259, R263, R264). -/
def State.syncRx (s : State) (p : Nat) (m : SyncMsg) : State :=
  if !s.takesSync p m.ret || vget s.tb.lastSeq p none == some m.seq then s
  else
    let ok := s.syncExpected p m
    let s1 := s.upTb fun t => { t with
      prevTx := vset t.prevTx p (some m.tTx), lastSeq := vset t.lastSeq p (some m.seq), appliedDelta := vset t.appliedDelta p 0 }
    if !ok then s1
    else
      let theta := s.syncTheta p m
      let s2 := s1.upTb fun t => { t with
        depth := min 255 (m.depth + 1), rootPtp := m.rootptp, syncQuantum := m.stepQuantum
        retTheta := if 2 ≤ p then vset t.retTheta (p - 2) (some theta) else t.retTheta }
      let s3 := (s2.takeAnnouncement m).discipline (s2.actingTheta theta) (s.obj Obj.SYNC_INTERVAL * 1000)
      if s3.isArm && s3.node.nodeState == .join then
        (if m.stepQuantum % max 1 (s3.objEff Obj.WEFT_PERIOD) == 0 then s3.endRun .timeQuantum 0 else s3.raiseRun .timeQuantum)
      else s3

/-- SYNC_RECEIVE (R255). -/
def execSyncReceive (port : Nat) (m : SyncMsg) (s : State) : Result := .next (s.onLane (s.syncRx port m))

/-- The node locks (R252, R261): eight consecutive offsets within the limit. -/
def State.timeLocks (s : State) : State :=
  if 8 ≤ s.tb.lockRun && (s.tb.state == .acquire || s.tb.state == .holdover) then
    ((s.upTb fun t => { t with state := .locked }).endRun .timeHoldover 0).healthCheck
  else s

/-- TIME_LOCK (R252). -/
def execTimeLock (s : State) : Result := .next (s.onPower s.timeLocks)

/-- TIME_ALIGN (R258): three consecutive offsets beyond ALIGN_LIMIT; a cell only in SERVICE or HOLD. -/
def execTimeAlign (s : State) : Result :=
  .next (s.onPower (
    if 3 ≤ s.tb.alignRun && (!s.isCell || s.node.nodeState == .service || s.node.nodeState == .hold) then
      (s.upTb fun t => { t with alignRun := 0 }).raise .timeAlign
    else s))

/-- The node passes to HOLDOVER (R252): F1 TIME_HOLDOVER once per run; it stays in the state it has reached. -/
def State.toHoldover (s : State) : State :=
  if s.tb.state == .locked then
    ((s.upTb fun t => { t with state := .holdover, lockRun := 0 }).raiseRun .timeHoldover).healthCheck
  else s

/-- TIME_HOLDOVER_TIMEOUT (R252): no valid sync for 3 × SYNC_INTERVAL, at a node that takes SYNCs. -/
def execTimeHoldoverTimeout (s : State) : Result :=
  .next (s.onPower (
    if s.followsPtp || inWindow s.tb.lastSyncTap (3 * s.obj Obj.SYNC_INTERVAL * tapsUs) s.tb.taps then s else s.toHoldover))

/-! ### PTP (R261 to R263) -/

/-- The STATION runs PTP (R261). -/
def State.ptpRuns (s : State) : Bool := s.isStation && s.pastBoot && s.objEff Obj.PTP_ENABLE != 0

/-- The order of two data sets. PRESUMED(24): the default data set comparison of IEEE 1588. -/
def ptpRank (m : PtpMaster) : List Nat :=
  [m.priority1, m.clockClass, m.clockAccuracy, m.variance, m.priority2, m.identity, m.stepsRemoved]

/-- A list of numbers comes first in lexicographic order. -/
def listLt : List Nat → List Nat → Bool
  | [], _ => false
  | _ :: _, [] => false
  | a :: as, b :: bs => a < b || (a == b && listLt as bs)

/-- The LAN whose master the STATION follows (R261): the better one, LAN A when equal; 0 for none. -/
def ptpChoose (a b : Option PtpMaster) : Nat :=
  match a, b with
  | none, none => 0
  | some _, none => 1
  | none, some _ => 2
  | some x, some y => if listLt (ptpRank y) (ptpRank x) then 2 else 1

/-- The STATION's own data set, as a master (R261). -/
def State.ptpOwn (s : State) : PtpMaster :=
  { identity := leNat clockIdentity.reverse, priority1 := s.obj Obj.PRIORITY1, priority2 := s.obj (Obj.PRIORITY1 + 1) }

/-- Choose again what to follow (R261): a better own data set makes the STATION a master unless SLAVE_ONLY is 1. -/
def State.ptpSettle (s : State) : State :=
  let p := s.tb.ptp
  let n := ptpChoose p.masterA p.masterB
  let best := if n == 2 then p.masterB else p.masterA
  let own := s.obj (Obj.PRIORITY1 + 2) == 0 && (match best with
    | some m => listLt (ptpRank s.ptpOwn) (ptpRank m)
    | none => true)
  let n' := if own then 0 else n
  let s1 := s.upTb fun t => { t with
    ptp := { t.ptp with port := n', asMaster := own, run := 0 }
    utcOffset := match best with
      | some m => if own then t.utcOffset else m.utcOffset
      | none => t.utcOffset }
  if n == 0 then s1 else s1.endRun .ptpLost 0

/-- The best master of a LAN after an Announce from `m` (R261): the one held stands until a better one, or its own next Announce, comes. -/
def ptpBetter (held : Option PtpMaster) (m : PtpMaster) : Bool :=
  match held with
  | some x => x.identity == m.identity || listLt (ptpRank m) (ptpRank x)
  | none => true

/-- The Announce of a LAN's best master, with its instant (R261). -/
def Ptp.take (p : Ptp) (lan : Nat) (m : PtpMaster) (now : Nat) : Ptp :=
  if lan == 0 then (if ptpBetter p.masterA m then { p with masterA := some m, annA := now } else p)
  else (if ptpBetter p.masterB m then { p with masterB := some m, annB := now } else p)

/-- An Announce arrives (R261): one of another domain is not for the STATION. -/
def State.ptpAnnounceRx (s : State) (lan : Nat) (m : PtpMaster) : State :=
  if s.ptpRuns && lan < 2 && m.domain == s.objEff Obj.DOMAIN then (s.upTb fun t => { t with ptp := t.ptp.take lan m t.taps }).ptpSettle else s

/-- PTP_ANNOUNCE_RECEIVE (R261). -/
def execPtpAnnounceReceive (lan : Nat) (m : PtpMaster) (s : State) : Result := .next (s.onLane (s.ptpAnnounceRx lan m))

/-- The master of a LAN is gone (R252, R261, R271): without any, F1 PTP_LOST; a LOCKED STATION that follows PTP holds over. -/
def State.ptpGone (s : State) (lan : Nat) : State :=
  let s1 := (s.upTb fun t => { t with
    ptp := if lan == 0 then { t.ptp with masterA := none } else { t.ptp with masterB := none } }).ptpSettle
  if s1.tb.ptp.masterA.isSome || s1.tb.ptp.masterB.isSome then s1
  else
    let s2 := s1.raiseRun .ptpLost
    if !s2.followsPtp then s2
    else if s2.tb.state == .acquire then s2.upTb fun t => { t with state := .free, lockRun := 0 }
    else s2.toHoldover

/-- The instant of the latest Announce of a LAN's master. -/
def Ptp.annAt (p : Ptp) (lan : Nat) : Nat := if lan == 0 then p.annA else p.annB

/-- PTP_ANNOUNCE_TIMEOUT (R261): announceReceiptTimeout, three intervals of 1 s, without an Announce. -/
def execPtpAnnounceTimeout (lan : Nat) (s : State) : Result :=
  .next (s.onPower (if s.ptpRuns && lan < 2 && !inWindow (s.tb.ptp.annAt lan) (3 * tapsS) s.tb.taps then s.ptpGone lan else s))

/-- The master that a LAN's Announces name, if it has that identity (R261). -/
def Ptp.follows (p : Ptp) (lan sender : Nat) : Bool :=
  p.port == lan + 1 && (if lan == 0 then p.masterA else p.masterB).any fun m => m.identity == sender

/-- A PTP Sync with its offset θ in 1/65,536 ns (R261, R262), of the own domain and from the master that the STATION follows: the active member
disciplines itself, another one only monitors. -/
def State.ptpRx (s : State) (lan : Nat) (m : PtpSyncMsg) : State :=
  let theta := m.theta
  if !s.ptpRuns || 2 ≤ lan || m.domain != s.objEff Obj.DOMAIN || !s.tb.ptp.follows lan m.sender then s
  else
    let s1 := s.upTb fun t => { t with ptp := { t.ptp with offset := theta.fdiv 65536 } }
    if s1.followsPtp then s1.discipline theta 1000000000 else s1

/-- PTP_SYNC_RECEIVE (R261). -/
def execPtpSyncReceive (lan : Nat) (m : PtpSyncMsg) (s : State) : Result := .next (s.onLane (s.ptpRx lan m))

/-- The peer delay of a LAN (R261). -/
def State.ptpPdelayRx (s : State) (lan : Nat) (ps : Int) : State :=
  if s.ptpRuns then
    s.upTb fun t => { t with ptp := if lan == 0 then { t.ptp with pdelayA := ps } else if lan == 1 then { t.ptp with pdelayB := ps } else t.ptp }
  else s

/-- A neighbour asks for the peer delay (R261): the answer goes back on the same LAN, with its Follow_Up where the clock is two-step. -/
def State.ptpPdelayReqRx (s : State) (lan domain requester : Nat) : State :=
  if s.ptpRuns && lan < 2 && domain == s.objEff Obj.DOMAIN then
    let two := s.objB Obj.TWO_STEP
    let s1 := s.ptpSendOn lan (.pdelayResp domain requester two)
    if two then s1.ptpSendOn lan (.pdelayFollowUp domain requester) else s1
  else s

/-- PTP_PDELAY (R261). -/
def execPtpPdelay (lan : Nat) (ps : Int) (s : State) : Result := .next (s.onLane (s.ptpPdelayRx lan ps))

/-- Round to a multiple of `q`, ties away from zero (R263). -/
def roundTo (x : Int) (q : Nat) : Int :=
  let n : Int := ((2 * x.natAbs + q) / (2 * max 1 q) : Nat)
  (if x < 0 then -n else n) * q

/-- The increment of a step that corrects an offset θ in 1/65,536 ns (R263): −round(θ / Q) × Q. -/
def State.stepDelta (s : State) (theta : Int) : Int := -((roundTo theta (max 1 s.quantum * 65536)).fdiv 65536)

/-- The instant of a step that is decided now (R263): the first multiple of Q not earlier than STEP_NOTICE from now. -/
def State.stepInstant (s : State) : Nat :=
  let q := max 1 s.quantum
  (((s.tb.ntF + 65535).fdiv 65536).toNat + s.obj Obj.STEP_NOTICE * 1000000 + q - 1) / q * q

/-- A STATION schedules the step that corrects an offset θ (R262, R263): the active member announces it in its SYNCs from now on. DESIGN
CHOICE(149): another member arms its own step alone, under the identifier 0, since only the active one announces. -/
def State.scheduleStep (s : State) (theta : Int) : State :=
  let delta := s.stepDelta theta
  let at' := s.stepInstant
  let id := s.tb.nextStepId
  if delta == 0 then s
  else if !s.isActive then s.armStep at' delta 0
  else
    (s.upTb fun t => { t with
      nextStepId := if id == 65535 then 1 else id + 1, quantRun := 0
      ann := { t.ann with stepv := true, stepId := id, stepAt := at', stepDelta := delta } }).armStep at' delta id

/-- STEP_SCHEDULE (R262, R263): eight consecutive offsets of at least Q/2 at the active STATION, READY or later. -/
def execStepSchedule (s : State) : Result :=
  .next (s.onPower (
    if s.isStation && s.isActive && s.node.nodeState.isJoined && 8 ≤ s.tb.quantRun then
      s.scheduleStep s.tb.theta
    else s))

/-- An NT96 value in nanoseconds of network time. -/
def nt96Ns (v : Nat) : Nat := v / 2 ^ 48 * 1000000000 + v / 2 ^ 16 % 2 ^ 32

/-- An NT96 value in units of 1/65,536 ns. -/
def nt96F (v : Nat) : Int := ((nt96Ns v * 65536 + v % 65536 : Nat) : Int)

/-- A remainder of `rem` units of 1/65,536 ns is corrected through RATE (R262, R263). DESIGN CHOICE(148): without a servo that follows, at SLEW_MAX
until it is gone; the idle step then returns RATE to 0. -/
def State.slewAway (s : State) (rem : Int) : State :=
  let ppm := max 1 (s.obj Obj.SLEW_MAX)
  if rem == 0 then s
  else s.upTb fun t => { t.setRate ((if rem < 0 then -1 else 1) * (ppm * 2 ^ 40 / 1000000 : Nat)) with
    slewEnd := some (t.taps + rem.natAbs * 1000000 / (5120 * ppm)) }

/-- A write of TIME_SET (R261, R262): refused as STATE while PTP is LOCKED; at once before the STATION is READY, and afterwards as a scheduled step with
its remainder corrected through RATE. -/
def State.applyTimeSet (s : State) (value : Nat) : Applied :=
  if !s.isStation then s.no .noObject
  else if 999999999 < value / 2 ^ 16 % 2 ^ 32 || 2 ^ 96 ≤ value then s.no .range
  else if s.tb.state == .locked && s.tb.ptp.port != 0 then s.no .state
  else
    let df := nt96F value - s.tb.ntF
    if !s.runLock then (s.stepNow df).yes
    else ((s.scheduleStep (-df)).slewAway (df - s.stepDelta (-df) * 65536)).yes

/-- TIME_SET (R262). -/
def execTimeSet (value : Nat) (s : State) : Result := .next (s.onPower (settle Obj.TIME_SET 0 (s.applyTimeSet value)))

/-! ### Pulse outputs and capture inputs (R269, R270) -/

/-- An object of TPOn or TSIn. -/
def State.tpObj (s : State) (n k : Nat) : Nat := s.obj (k + 256 * n)

/-- TPOn runs (R269): while the node is LOCKED or in HOLDOVER, or with TPO_FREE. -/
def State.tpoRuns (s : State) (n : Nat) : Bool :=
  n < 4 && (s.tb.state == .locked || s.tb.state == .holdover || s.tpObj n Obj.TPO_FREE != 0)

/-- Change TPOn. -/
def State.upTpo (s : State) (n : Nat) (f : Tpo → Tpo) : State := s.upTb fun t => { t with tpo := vset t.tpo n (f (vget t.tpo n {})) }

/-- Change TSIn. -/
def State.upTsi (s : State) (n : Nat) (f : Tsi → Tsi) : State := s.upTb fun t => { t with tsi := vset t.tsi n (f (vget t.tsi n {})) }

/-- The latest instant START + n × PERIOD of a periodic output that is not later than `now`, all in 1/65,536 ns (R269). -/
def gridInstant (start period now : Int) : Option Int :=
  if now < start || period ≤ 0 then none else some (start + (now - start) / period * period)

/-- The instant at which a pulse of TPOn is due now (R269): ONE_SHOT, once, at START where it lies in the period of REFCLK that ends now, and now where
a step has passed it or it has been passed already; PERIODIC at an instant of the grid that lies in that period, and not before the latest step. -/
def State.tpoDue (s : State) (n : Nat) : Option Int :=
  let start := nt96F (s.tpObj n Obj.TPO_START)
  let m := s.tpObj n Obj.TPO_MODE
  if m == 1 then
    (if start ≤ s.tb.ntF && !(vget s.tb.tpo n {}).fired then
      some (if s.tb.ntFAt (s.tb.taps - 128) < start && s.tb.stepNt ≤ start then start else s.tb.ntF) else none)
  else if m == 2 then
    (gridInstant start ((s.tpObj n Obj.TPO_PERIOD : Int) * 65536) s.tb.ntF).filter fun g =>
      decide (s.tb.ntFAt (s.tb.taps - 128) < g ∧ s.tb.stepNt ≤ g)
  else none

/-- A pulse starts (R269), at its tap; none while one is in progress. -/
def State.tpoStart (s : State) (n : Nat) : State :=
  match s.tpoDue n with
  | some g =>
    if s.tpoRuns n && !(vget s.tb.tpo n {}).active then
      ((s.upTpo n fun y => { y with
        active := true, fired := true, startTap := (s.tb.taps : Int) - (s.tb.ntF - g).fdiv 5120, count := satAdd 32 y.count 1 }).upTb
        fun t => { t with evt := setBit32 t.evt (2 + n) }).event (0x58 + n)
    else s
  | none => s

/-- TPO_PULSE_START (R269). -/
def execTpoPulseStart (n : Nat) (s : State) : Result := .next (s.onLane (s.tpoStart n))

/-- The level at TPOn (R269): active high or, with POL, active low. -/
def State.tpoLevel (s : State) (n : Nat) : Bool := (vget s.tb.tpo n {}).active != (s.tpObj n Obj.TPO_POL != 0)

/-- TPO_PULSE_END (R269): a pulse completes its WIDTH, whatever steps come. -/
def execTpoPulseEnd (n : Nat) (s : State) : Result :=
  .next (s.onLane (
    let x := vget s.tb.tpo n {}
    if n < 4 && x.active && decide (x.startTap + (s.tpObj n Obj.TPO_WIDTH * 64 / 5 : Nat) ≤ (s.tb.taps : Int)) then
      s.upTpo n fun y => { y with active := false }
    else s))

/-- TSIn captures an edge of this direction at the tap `c` (R270). -/
def State.tsiTakes (s : State) (n : Nat) (falling : Bool) (c : Nat) : Bool :=
  let e := s.tpObj n Obj.TSI_EDGE
  (e == 3 || e == (if falling then 2 else 1)) && (match (vget s.tb.tsi n {}).lastTap with
    | some t => t + 512 ≤ c
    | none => true)

/-- An edge at TSIn at the tap `c` (R270). -/
def State.tsiEdge (s : State) (n : Nat) (falling : Bool) (c : Nat) : State :=
  if 4 ≤ n then s
  else
    let s1 := s.upTsi n fun x => { x with level := !falling }
    if !s.tsiTakes n falling c then s1
    else if 4 ≤ (vget s.tb.tsi n {}).fifo.length then
      ((s1.upTsi n fun x => { x with ovf := true, overflows := satAdd 32 x.overflows 1 }).upTb fun t => { t with
        evt := setBit32 t.evt (10 + n) }).raiseRun .tsiOverflow n
    else
      (((s1.upTsi n fun x => { x with
        fifo := x.fifo ++ [⟨s.tb.ntFAt c, falling⟩], captures := satAdd 32 x.captures 1, last := s.tb.ntFAt c, lastTap := some c }).upTb
        fun t => { t with evt := setBit32 t.evt (6 + n) }).event (0x54 + n)).endRun .tsiOverflow n

/-- TSI_CAPTURE (R270): the edge comes at some tap of the present period of REFCLK; without VDDIO_B the input reads inactive (R455). -/
def execTsiCapture (n : Nat) (falling : Bool) (s : State) : Result :=
  .next (s.onLane (if s.sys.vddioB then s.tapNow.2.tsiEdge n falling s.tapNow.1 else s))

/-- TSI_FIFO_POP (R270): a read of TSIn.TS2 removes the head entry. -/
def execTsiFifoPop (n : Nat) (s : State) : Result :=
  .next (s.onPower (if n < 4 then s.upTsi n fun x => { x with fifo := x.fifo.drop 1 } else s))

end Sys2Proof.Machine
end

