-- ==== Sys2Proof/Machine/Cycle.lean ====
section
/-!
DEFINITION. Sys2Proof/Machine/Cycle.lean: the instants of a cycle at which several units act: t₀(k) (R80), the Tally deadline with the
checks of a pair at TD(0) (R86, R332, R336, R337), and the station-cycle boundary (R115, R332, R336).
-/
namespace Sys2Proof.Machine

/-- t₀(k) (R80, R156, R189, R294): the class of the cycle, the bin of the last code until a new one comes, the CYCLE tokens, and in
DIRECT mode the load boundary; at a node without a Weft, that boundary alone. -/
def State.cycleStart (s : State) (k : Nat) : State :=
  if !(s.isCell || s.isArm) then s.gridStart k
  else if !s.t0Due k then s
  else
    let s1 := (s.weftT0 k).sensorAtT0
    let s2 := (s1.upWeft fun w => { w with bin := s1.ownBin k w.vcode }).cycleTokens k
    if s.obj Obj.GATE_MODE == 2 then s2.loadPlain else s2

/-- CYCLE_START (R80). -/
def execCycleStart (k : Nat) (s : State) : Result := .next (s.onPower (s.cycleStart k))

/-! ### Who the level below follows (R332, R336) -/

/-- The member that a lit down port names as its primary: by its aggregate of cycle k in the ARM role, by its latest PRIMARY notice in
the STATION role; none where it has named nobody. -/
def State.namedBy (s : State) (k p : Nat) : Option Bool :=
  if s.isArm then (s.weft.ins.find? fun e => e.k == k && e.port == p).map (·.primary)
  else (vget s.jrn.primaryNotice (p - 2) none).map (· == b2n s.memberB)

/-- An active member is deposed (R336): every lit down port names the partner, or none is lit. -/
def State.deposed (s : State) (k : Nat) : Bool := s.litDown.all fun p => s.namedBy k p == some false

/-- Primacy (R332): in the ARM role at least one lit port has named a member, and all that have, this one; in the STATION role at least
one port is lit, and all of them name this member. -/
def State.primacy (s : State) (k : Nat) : Bool :=
  let l := s.litDown
  if s.isArm then (l.any fun p => (s.namedBy k p).isSome) && l.all fun p => s.namedBy k p != some false
  else !l.isEmpty && l.all fun p => s.namedBy k p == some true

/-- A take-over trigger is there (R332). -/
def State.takeoverTrigger (s : State) (k : Nat) : Bool := s.jrn.yieldCause.isSome || s.primacy k

/-- A member that stands beside the active one (R329). -/
def State.standsBy (s : State) : Bool :=
  s.isMember && (s.jrn.pstate == .standby || s.jrn.pstate == .unhealthy || s.jrn.pstate == .resync)

/-- The checks of a pair at TD(0) or at a station-cycle boundary (R332, R336, R337): a trigger that meets a healthy standby is noted for
TAKEOVER in the same step. A YIELD counts at the first of them that follows it. -/
def State.pairChecks (s : State) (k : Nat) : State :=
  if s.isActive then (if s.deposed k then (s.toYielded 5).raise .jrnDeposed else s)
  else
    let s1 := s.upJrn fun j => { j with yieldCause := none }
    if !s.standsBy then s1
    else if !s.takeoverTrigger k then s1.endRun .jrnNoStandby 0
    else if s.healthy && s.jrn.pstate == .standby then
      s1.upJrn fun j => { j with triggerAt := some s.tb.taps, triggerCause := s.jrn.yieldCause.getD 3 }
    else s1.raiseRun .jrnNoStandby

/-- TD(L) of cycle k has come (R86): what has arrived is merged and sent; an ARM member then looks at its pair. -/
def State.tallyDue (s : State) (k : Nat) : State :=
  if s.weft.tw == 0 || !s.holdsCycle k || s.tb.ntNs < s.tallyAt k then s
  else
    let s1 := s.tally k
    if s1.isArm then s1.pairChecks k else s1

/-- TALLY_DEADLINE (R86). -/
def execTallyDeadline (k : Nat) (s : State) : Result := .next (s.onPower (s.tallyDue k))

/-- The station-cycle boundary s_j has come, once (R115). -/
def State.boundaryDue (s : State) (j : Nat) : Bool :=
  s.isStation && j == s.tb.ntNs / max 1 s.trdlT && laterThan j s.trdl.boundJ

/-- The station-cycle boundary s_j (R115, R294, R336, R337). -/
def State.stationBoundary (s : State) (j : Nat) : State :=
  if !s.boundaryDue j then s
  else (((s.upTrdl fun t => { t with boundJ := some j }).slowStart j).stationTokens j).pairChecks j

/-- STATION_CYCLE_BOUNDARY (R115). -/
def execStationCycleBoundary (j : Nat) (s : State) : Result := .next (s.onPower (s.stationBoundary j))

end Sys2Proof.Machine
end

