-- ==== Sys2Proof/Machine/ProcessData.lean ====
section
/-!
DEFINITION. Sys2Proof/Machine/ProcessData.lean: the process-data channels (R70 to R75): mappings and their checks, sending,
reception, application and timeout.
-/
namespace Sys2Proof.Machine

/-- The key that a mapping entry names: index in bits 31 to 16, sub-index in bits 15 to 8 (R71). -/
def mapKey (e : Nat) : Nat := e / 256

/-- The size in bytes that a mapping entry gives (R71). -/
def mapSize (e : Nat) : Nat := e % 256

/-- The valid entries of a channel's mapping (R75). -/
def State.pdMap (s : State) (tx : Bool) (ch : Nat) : List Nat :=
  let base := (if tx then Obj.TPD_MAP else Obj.RPD_MAP) + 256 * ch
  (List.range (s.obj (base - 1))).map fun i => s.obj (base + i)

/-- Objects whose Description says "RPD": REFIN0 to REFIN7, the TARGETs, M_REF, V_AVG and I_ARM (R71, R138). -/
def pdTarget (key : Nat) : Bool :=
  (Obj.REFIN0 ≤ key && key < Obj.REFIN0 + 8) || (chanAt Obj.TARGET key 8).isSome
    || [Obj.M_REF, Obj.V_AVG, Obj.I_ARM].contains key

/-- A mapping entry is right (R71): its object exists, may be mapped and has the size given. -/
def State.mapEntryOk (s : State) (tx : Bool) (e : Nat) : Bool :=
  match s.objRow s.node.role (mapKey e) with
  | some r => mapSize e == r.ty.size && (if tx then r.acc != .wo && r.ty.size ≤ 8 else pdTarget (mapKey e))
  | none => false

/-- The bytes that a mapping carries. -/
def mapBytes (l : List Nat) : Nat := l.foldl (fun n e => n + mapSize e) 0

/-- A channel's mapping is right (R71). -/
def State.pdMapOk (s : State) (tx : Bool) (ch : Nat) : Bool :=
  let l := s.pdMap tx ch
  l.all (s.mapEntryOk tx) && mapBytes l ≤ 256

/-- Receive channel `ch`. -/
def State.rpdAt (s : State) (ch : Nat) : RpdChan := vget s.dict.rpd ch {}

/-- Change receive channel `ch`. -/
def State.upRpd (s : State) (ch : Nat) (f : RpdChan → RpdChan) : State :=
  s.upDict fun d => { d with rpd := vset d.rpd ch (f (vget d.rpd ch {})) }

/-- A channel is enabled. -/
def State.pdEnabled (s : State) (tx : Bool) (ch : Nat) : Bool := s.objB ((if tx then Obj.TPD_ENABLE else Obj.RPD_ENABLE) + 256 * ch)

/-- The REFINs that a receive channel maps (R71, R123). -/
def State.pdRefins (s : State) (ch : Nat) : List Nat := (s.pdMap false ch).filterMap fun e => subAt Obj.REFIN0 (mapKey e) 8

/-- A receive channel that is switched off leaves its REFINs where they stand (R123). -/
def State.freeRefins (s : State) (ch : Nat) : State := 
  (s.pdRefins ch).foldl (fun t n => (t.upTrdl fun x => { x with refin := vset x.refin n {} }).endRun .refFallback n) s

/-- A write of ENABLE (R71): 1 is refused as MAPPING while an entry is wrong. A receive channel that was off
starts afresh, but never takes the cycle it took last (R73); one that is switched off drops the payload that waits, and a REFIN
of it is no longer held and does not move (R123). DEDUCED(133): STATUS bit 1 stands from a check that found the mapping
wrong to the next one that finds it right. -/
def State.applyPdEnable (s : State) (tx : Bool) (ch value jsn : Nat) : Applied :=
  if 8 ≤ ch then s.no .noObject
  else if 1 < value then s.no .range
  else if value == 1 && !s.pdMapOk tx ch then (.mapping, if tx then s else s.upRpd ch fun c => { c with mapBad := true })
  else
    let was := s.pdEnabled tx ch
    let s1 := s.setObj ((if tx then Obj.TPD_ENABLE else Obj.RPD_ENABLE) + 256 * ch) value jsn
    (if tx then s1
    else (if value == 0 then s1.freeRefins ch else s1).upRpd ch fun c =>
      if value == 0 then { c with timedOut := false, pendingVals := none }
      else if was then c
      else { c with mapBad := false, fresh := true }).yes

/-- PD_ENABLE (R71). -/
def execPdEnable (tx : Bool) (ch value : Nat) (s : State) : Result :=
  .next (s.onPower (settle ((if tx then Obj.TPD_ENABLE else Obj.RPD_ENABLE) + 256 * ch) 0 (s.applyPdEnable tx ch value 0)))

/-! ### Sending (R70, R72) -/

/-- The length in ns of a node's process-data cycle (R72): the Weft period of a cell or an ARM master, the station cycle of a STATION.
DESIGN CHOICE(131): a RELAY has the station cycle too. -/
def State.pdCycleNs (s : State) : Nat := if s.isCell || s.isArm then s.weft.tw else s.objEff Obj.STATION_CYCLE

/-- The producer cycle (R72): the Weft cycle of a cell or an ARM master, the station cycle of any other role. -/
def State.pdCycle (s : State) : Nat :=
  if s.isCell || s.isArm then s.weft.k else s.tb.ntNs / max 1 (s.objEff Obj.STATION_CYCLE)

/-- A process-data payload (R70). -/
def State.tpdPayload (s : State) (ch : Nat) : List Byte :=
  leBytes 1 ch ++ leBytes 1 0 ++ leBytes 2 s.pdCycle ++ (s.pdMap true ch).flatMap fun e => leBytes (mapSize e) (s.readObj (mapKey e))

/-- Send a TELEMETRY frame to an address (R72, R210): down where it stands below this master, else up; a master is named with its
partner. DESIGN CHOICE(187): a TPD_DEST that names a master with member bit 1, which R72 says must be 0, is sent as it stands. -/
def State.sendTelemetry (s : State) (dst : Nat) (pl : List Byte) : State :=
  let anym := addrRole dst != .cell
  if !s.isCell && (isArmBroadcast dst || !(s.routeDown s.memberB dst).isEmpty) then s.sendDown .telemetry dst anym pl
  else s.sendUp .telemetry dst anym pl

/-- A transmit channel is due in this cycle (R72): every PERIOD cycles, at PHASE. -/
def State.tpdDue (s : State) (ch : Nat) : Bool :=
  s.pdEnabled true ch && s.obj (Obj.TPD_DEST + 256 * ch) != 0x7FFFF
    && s.pdCycle % max 1 (s.obj (Obj.TPD_PERIOD + 256 * ch)) == s.obj (Obj.TPD_PHASE + 256 * ch)

/-- Send a transmit channel that is due (R72). -/
def State.tpdSend (s : State) (ch : Nat) : State :=
  if ch < 8 && s.node.joined && s.tpdDue ch then s.sendTelemetry (s.obj (Obj.TPD_DEST + 256 * ch)) (s.tpdPayload ch) else s

/-- TPD_SEND (R72). -/
def execTpdSend (ch : Nat) (s : State) : Result := .next (s.onPower (s.tpdSend ch))

/-! ### Receiving (R73, R74) -/

/-- The values of a payload by the channel's mapping: the key and the value of each entry, in order. -/
def mapValues : List Nat → List Byte → List (Nat × Nat)
  | [], _ => []
  | e :: es, bs => (mapKey e, leNat (bs.take (mapSize e))) :: mapValues es (bs.drop (mapSize e))

/-- Every value of a payload is within its type (R44): the F32 values are finite. DESIGN CHOICE(132): the range that an object's
Description states binds a write, and not a value that process data brings. -/
def State.pdValuesOk (s : State) (l : List (Nat × Nat)) : Bool :=
  l.all fun x => match s.objRow s.node.role x.1 with
    | some r => typeRange r.ty x.2
    | none => false

/-- A producer cycle count is that of a later payload (R73). -/
def RpdChan.later (c : RpdChan) (cnt : Nat) : Bool :=
  match c.lastCycle with
  | none => true
  | some l => (c.timedOut || c.fresh) && cnt != l || decide (0 < (cnt + 2 ^ 16 - l) % 2 ^ 16 ∧ (cnt + 2 ^ 16 - l) % 2 ^ 16 < 2 ^ 15)

/-- A process-data payload from `src` (R70, R73): taken by the channel it names where SOURCE is the sender, the length is that of
the mapping, and it is the first copy of its cycle. It waits for the next t₀. -/
def State.rpdRx (s : State) (src : Nat) (pl : List Byte) : State :=
  let ch := leNat (pl.take 1)
  let cnt := leNat ((pl.drop 2).take 2)
  let vals := pl.drop 4
  let m := s.pdMap false ch
  if ch < 8 && s.pdEnabled false ch && s.obj (Obj.RPD_SOURCE + 256 * ch) == src && pl.length == mapBytes m + 4
    && (s.rpdAt ch).later cnt && s.pdValuesOk (mapValues m vals) then
    (if s.pdMapOk false ch then
      (s.upRpd ch fun c => { c with lastCycle := some cnt, pendingVals := some vals, timedOut := false, mapBad := false, fresh := false, since := s.tb.taps }).endRun
        .pdTimeout ch
    else s.upRpd ch fun c => { c with mapBad := true })
  else s

/-- RPD_RECEIVE (R73). -/
def execRpdReceive (src : Nat) (payload : List Byte) (s : State) : Result := .next (s.onLane (s.rpdRx src payload))

/-- One mapped value is applied: it is no journaled write, so the object keeps the JSN of its last one; a REFIN takes it at once
(R73, R123). -/
def State.pdWrite (s : State) (x : Nat × Nat) : State :=
  let s1 := s.setObj x.1 x.2 (s.objJsn x.1)
  match subAt Obj.REFIN0 x.1 8 with
  | some n => s1.refinBack n
  | none => s1

/-- Apply the waiting payload of a channel, whole (R73). -/
def State.rpdApplyOne (s : State) (ch : Nat) : State :=
  match (s.rpdAt ch).pendingVals with
  | some vals =>
    ((mapValues (s.pdMap false ch) vals).foldl State.pdWrite s).upRpd ch fun c => { c with pendingVals := none }
  | none => s

/-- Apply every waiting payload at t₀ (R73). -/
def State.rpdApply (s : State) : State := (List.range 8).foldl State.rpdApplyOne s

/-- RPD_APPLY (R73). -/
def execRpdApply (s : State) : Result := .next (s.onPower s.rpdApply)

/-- The window of EXPECT cycles that began at the last valid payload has ended (R74). -/
def State.rpdExpired (s : State) (ch : Nat) : Bool :=
  let c := s.rpdAt ch
  c.lastCycle.isSome && !c.fresh && decide (c.since + nsTaps (s.obj (Obj.RPD_EXPECT + 256 * ch) * s.pdCycleNs) ≤ s.tb.taps)

/-- A receive channel times out (R74): its status bit, F1 PD_TIMEOUT, and its REFINs are held (R123). -/
def State.rpdTimeout (s : State) (ch : Nat) : State :=
  if ch < 8 && s.pdEnabled false ch && s.rpdExpired ch && !(s.rpdAt ch).timedOut then
    let s1 := s.upRpd ch fun c => { c with timedOut := true }
    ((s.pdRefins ch).foldl State.refinHold s1).raiseRun .pdTimeout ch
  else s

/-- RPD_TIMEOUT (R74). -/
def execRpdTimeout (ch : Nat) (s : State) : Result := .next (s.onPower (s.rpdTimeout ch))

end Sys2Proof.Machine
end

