-- ==== Sys2Proof/Machine/Lan.lean ====
section
/-!
DEFINITION. Sys2Proof/Machine/Lan.lean: the station ports (R230 to R236): link, PRP supervision, GOOSE publishing and subscriptions, Sampled Values.
-/
namespace Sys2Proof.Machine

/-- Change GOOSE dataset `n`. -/
def State.upGp (s : State) (n : Nat) (f : GoosePub → GoosePub) : State := s.upLan fun l => { l with gp := vset l.gp n (f (vget l.gp n {})) }

/-- Change GOOSE subscription `m`. -/
def State.upGs (s : State) (m : Nat) (f : GooseSub → GooseSub) : State := s.upLan fun l => { l with gs := vset l.gs m (f (vget l.gs m {})) }

/-- Change Sampled Values subscription `n`. -/
def State.upSv (s : State) (n : Nat) (f : SvSub → SvSub) : State := s.upLan fun l => { l with sv := vset l.sv n (f (vget l.sv n {})) }

/-- The station ports run (R197, R230): the STATION role, past BOOT. -/
def State.lanRuns (s : State) : Bool := s.isStation && s.pastBoot

/-! ### Link and PRP (R230, R231) -/

/-- The link of a LAN changes (R224, R230): an enabled port without link raises F1 LAN_LOST, once per run; a disabled one is dark and raises
none. -/
def State.lanChange (s : State) (lan : Nat) (up : Bool) : State :=
  if !s.lanRuns || 2 ≤ lan || (s.port lan).txDark then s
  else
    let s1 := (s.upLan fun l => { l with up := vset l.up lan up }).upPort lan fun x => { x with los := x.los && !up }
    if up then s1.endRun .lanLost lan else s1.raiseRun .lanLost lan

/-- LAN_LINK_CHANGE (R230). -/
def execLanLinkChange (lan : Nat) (linkUp : Bool) (s : State) : Result := .next (s.onLane (s.lanChange lan linkUp))

/-- An interval of `ms` milliseconds has passed since a held instant, or there is none yet. -/
def State.msPassed (s : State) (since : Option Nat) (ms : Nat) : Bool :=
  match since with
  | some t => !inWindow t (ms * tapsMs) s.tb.taps
  | none => true

/-- PRP_SUPERVISION (R231): a supervision frame every PRP_SUP_INTERVAL. -/
def execPrpSupervision (s : State) : Result :=
  .next (s.onPower (if s.lanRuns && s.msPassed s.link.lan.supAt (s.obj Obj.PRP_SUP_INTERVAL) then
    (s.ethSend .supervision).upLan fun l => { l with supAt := some s.tb.taps } else s))

/-! ### GOOSE publishing (R233, R234) -/

/-- Some node's MEDIA_FAULT flag is raised (R234, R399). -/
def State.anyMedia (s : State) : Bool := s.recd.media || !s.recd.mediaSources.isEmpty

/-- The mapping entries of dataset `n` (R233). -/
def State.gpMap (s : State) (n : Nat) : List Nat :=
  (List.range (s.obj (Obj.GP_COUNT + 256 * n))).map fun i => s.obj (Obj.GP_MEMBER + 256 * n + i)

/-- An F4 is active in the system (R234, R368): the system trip stands, or the STATION has an F4 that is not cleared. -/
def State.systemTrip (s : State) : Bool := s.sel.sysTrip || s.node.faults.any (·.cls == .f4)

/-- The values of dataset `n` now (R233); the six fixed members of dataset 0 (R234). -/
def State.gpValues (s : State) (n : Nat) : List Nat :=
  let l := s.link.lan
  if n == 0 then [b2n s.systemTrip, b2n s.anyMedia, l.ds0Class, l.ds0Type, l.ds0Src, l.ds0Rsn]
  else (s.gpMap n).map fun e => s.readObj (mapKey e)

/-- A value as the BER type of its object's type (R233); none where GOOSE carries no such type. -/
def gooseVal (t : OType) (v : Nat) : Option GooseVal :=
  match t with
  | .bool => some (.boolean (v % 2 == 1))
  | .f32 => some (.float (BitVec.ofNat 32 v))
  | .u n => if n == 1 || n == 2 || n == 4 then some (.unsigned v) else none
  | .i n => if n == 2 || n == 4 then some (.integer (toSigned (8 * n) v)) else none
  | .nt96 | .octets _ | .string _ => none

/-- The members of dataset `n` can be published (R233). -/
def State.gpMapOk (s : State) (n : Nat) : Bool :=
  n == 0 || (s.gpMap n).all fun e => match s.objRow s.node.role (mapKey e) with
    | some r => mapSize e == r.ty.size && r.acc != .wo && (gooseVal r.ty 0).isSome
    | none => false

/-- Only the active STATION member publishes an enabled dataset (R233). -/
def State.gpRuns (s : State) (n : Nat) : Bool := n < 8 && s.lanRuns && s.isActive && s.objB (Obj.GP_ENABLE + 256 * n)

/-- The types of the members of dataset `n` (R233, R234). -/
def State.gpTypes (s : State) (n : Nat) : List OType :=
  if n == 0 then [.bool, .bool, .u 1, .u 2, .u 4, .u 4]
  else (s.gpMap n).map fun e => match s.objRow s.node.role (mapKey e) with
    | some r => r.ty
    | none => .u 4

/-- The message of dataset `n` with its values, numbers and timeAllowedToLive (R233). -/
def State.gooseMsg (s : State) (n stNum sqNum ttlMs : Nat) (vals : List Nat) : GooseOut :=
  let o (k : Nat) : Nat := s.obj (k + 256 * n)
  { dataset := n, dstMac := o Obj.GP_DST_MAC, appid := o Obj.GP_APPID, gocbRef := o Obj.GP_GOCB_REF, datSet := o Obj.GP_DATSET
    goId := o Obj.GP_GO_ID, ttlMs := ttlMs, stNum := stNum, sqNum := sqNum, confRev := o Obj.GP_CONF_REV
    members := ((s.gpTypes n).zip vals).filterMap fun e => gooseVal e.1 e.2 }

/-- Publish a change of dataset `n` (R233): the next stNum, sqNum 0, and MIN_T to the next message. Every record of R234 is a change
of dataset 0. -/
def State.gpChange (s : State) (n : Nat) : State :=
  let g := vget s.link.lan.gp n {}
  let v := s.gpValues n
  let t := s.obj (Obj.GP_MIN_T + 256 * n)
  if !s.gpRuns n || (n != 0 && g.lastVals == v) then s
  else
    (s.upGp n fun g => { g with stNum := (g.stNum + 1) % 2 ^ 32, sqNum := 0, intervalMs := t, sentTap := s.tb.taps, lastVals := v }).ethSend
      (.goose (s.gooseMsg n ((g.stNum + 1) % 2 ^ 32) 0 (2 * t) v))

/-- GOOSE_PUBLISH (R233). -/
def execGoosePublish (n : Nat) (s : State) : Result := .next (s.onPower (s.gpChange n))

/-- Send dataset `n` again once its interval has passed (R233): the interval doubles up to MAX_T. -/
def State.gpAgain (s : State) (n : Nat) : State :=
  let g := vget s.link.lan.gp n {}
  let t := min (2 * g.intervalMs) (s.obj (Obj.GP_MAX_T + 256 * n))
  if !s.gpRuns n || g.lastVals.isEmpty || inWindow g.sentTap (g.intervalMs * tapsMs) s.tb.taps then s
  else
    (s.upGp n fun g => { g with sqNum := (g.sqNum + 1) % 2 ^ 32, intervalMs := t, sentTap := s.tb.taps }).ethSend
      (.goose (s.gooseMsg n g.stNum ((g.sqNum + 1) % 2 ^ 32) (2 * t) g.lastVals))

/-- GOOSE_RETRANSMIT (R233). -/
def execGooseRetransmit (n : Nat) (s : State) : Result := .next (s.onPower (s.gpAgain n))

/-! ### GOOSE subscriptions (R235) -/

/-- An object of subscription `m`. -/
def State.gsObj (s : State) (m k : Nat) : Nat := s.obj (k + 256 * m)

/-- The target entries of subscription `m`. -/
def State.gsMap (s : State) (m : Nat) : List Nat :=
  (List.range (s.gsObj m Obj.GS_COUNT)).map fun i => s.gsObj m (Obj.GS_TARGET + i)

/-- The targets of subscription `m` may be written by it (R235). -/
def State.gsMapOk (s : State) (m : Nat) : Bool :=
  (s.gsMap m).all fun e => match s.objRow s.node.role (mapKey e) with
    | some r => mapSize e == r.ty.size && (pdTarget (mapKey e) || isUserKey (mapKey e))
    | none => false

/-- Subscription `m` takes the frame (R235). -/
def State.gsMatches (s : State) (m : Nat) (g : GooseMsg) : Bool :=
  m < 32 && s.lanRuns && s.objB (Obj.GS_ENABLE + 256 * m) && g.appid == s.gsObj m Obj.GS_APPID
    && g.gocbRef == s.gsObj m Obj.GS_GOCB_REF && (s.gsObj m Obj.GS_SRC_MAC == 0 || g.srcMac == s.gsObj m Obj.GS_SRC_MAC)

/-- A frame's members fit the targets of subscription `m`. -/
def State.gsFits (s : State) (m : Nat) (vals : List Nat) : Bool :=
  vals.length == (s.gsMap m).length && s.pdValuesOk (((s.gsMap m).map mapKey).zip vals)

/-- A frame reaches subscription `m` (R235). -/
def State.gooseRx (s : State) (m : Nat) (g : GooseMsg) : State :=
  if !s.gsMatches m g then s
  else if g.confRev != s.gsObj m Obj.GS_CONF_REV then
    (s.upGs m fun x => { x with status := x.status % 4 + 4 }).raise .gooseConfig m
  else if s.gsFits m g.members then
    s.upGs m fun _ => { status := 1, lastTap := s.tb.taps, ttlMs := g.ttlMs, stored := some g.members }
  else s

/-- GOOSE_RECEIVE (R235). -/
def execGooseReceive (m : Nat) (g : GooseMsg) (s : State) : Result := .next (s.onLane (s.gooseRx m g))

/-- Apply the stored values of one subscription, all together (R235). -/
def State.gooseApplyOne (s : State) (m : Nat) : State :=
  match (vget s.link.lan.gs m {}).stored with
  | some v => ((((s.gsMap m).map mapKey).zip v).foldl State.pdWrite s).upGs m fun x => { x with stored := none }
  | none => s

/-- Apply what the subscriptions hold at a station-cycle boundary (R235). -/
def State.gooseApply (s : State) : State := (List.range 32).foldl State.gooseApplyOne s

/-- GOOSE_APPLY (R235). -/
def execGooseApply (s : State) : Result := .next (s.onPower s.gooseApply)

/-- Subscription `m` times out (R235): its timeAllowedToLive has passed. -/
def State.gooseExpire (s : State) (m : Nat) : State :=
  let x := vget s.link.lan.gs m {}
  if m < 32 && s.lanRuns && s.objB (Obj.GS_ENABLE + 256 * m) && bitOf x.status 0 && !inWindow x.lastTap (x.ttlMs * tapsMs) s.tb.taps then
    (s.upGs m fun y => { y with status := y.status / 4 * 4 + 2 }).raise .gooseTimeout m
  else s

/-- GOOSE_TIMEOUT (R235). -/
def execGooseTimeout (m : Nat) (s : State) : Result := .next (s.onPower (s.gooseExpire m))

/-! ### Sampled Values (R236) -/

/-- An object of stream `n`. -/
def State.svObj (s : State) (n k : Nat) : Nat := s.obj (k + 256 * n)

/-- RING_ADDR of stream `n` is 8-byte aligned, with its 64 entries of 80 bytes in shared SRAM (R236). -/
def State.svRingOk (s : State) (n : Nat) : Bool :=
  let a := s.svObj n Obj.RING_ADDR
  a % 8 == 0 && 0x20000000 ≤ a && a + 5120 ≤ 0x20400000

/-- Stream `n` takes the frame (R236). -/
def State.svMatches (s : State) (n appid svid mac : Nat) (l : List SvAsdu) : Bool :=
  n < 4 && s.lanRuns && s.objB (Obj.SV_ENABLE + 256 * n) && appid == s.svObj n Obj.SV_APPID && svid == s.svObj n Obj.SV_ID
    && (s.svObj n Obj.SV_SRC_MAC == 0 || mac == s.svObj n Obj.SV_SRC_MAC)
    && l.length == (if s.svObj n Obj.SV_SPC == 256 then 8 else 1) && l.all (·.values.length == 8)

/-- NT64 of a time in ns: 32-bit seconds, then nanoseconds (R251). -/
def nt64Bytes (ns : Nat) : List Byte := leBytes 4 (ns / 1000000000) ++ leBytes 4 (ns % 1000000000)

/-- The 80 bytes of a ring entry (R236). -/
def State.svEntry (s : State) (a : SvAsdu) : List Byte :=
  leBytes 2 a.smpCnt ++ leBytes 2 (b2n a.smpSynch) ++ nt64Bytes s.tb.ntNs
    ++ a.values.flatMap (fun v => leBytes 4 v.1 ++ leBytes 4 v.2) ++ leBytes 4 0

/-- The samples missing between two sample counts, which wrap each second at SV_SPC × SV_FNOM (PRESUMED(19)). -/
def svMissing (perS last cnt : Nat) : Nat := if perS == 0 then 0 else (cnt + perS - (last + 1) % perS) % perS

/-- One ASDU is written to the ring of stream `n` (R236). -/
def State.svWrite (n : Nat) (s : State) (a : SvAsdu) : State :=
  let at' := s.svObj n Obj.RING_ADDR + 80 * (a.smpCnt % 64)
  let perS := s.svObj n Obj.SV_SPC * s.svObj n Obj.SV_FNOM
  let gap := match (vget s.link.lan.sv n {}).lastCnt with
    | some l => svMissing perS l a.smpCnt
    | none => 0
  let s1 := s.upMem fun m => (List.range 20).foldl (fun x i => x.heal (at' + 4 * i)) (m.writeBytes at' (s.svEntry a))
  (s1.upSv n fun x => { x with missed := satAdd 32 x.missed gap, lastCnt := some a.smpCnt }).upLink
    fun l => { l with evt := setBit32 l.evt 16 }

/-- A frame reaches stream `n` (R236). -/
def State.svRx (s : State) (n appid svid mac : Nat) (l : List SvAsdu) : State :=
  if s.svMatches n appid svid mac l then
    ((l.foldl (State.svWrite n) s).upSv n fun x => { x with status := 1, lastTap := s.tb.taps }).endRun .svLost n
  else s

/-- SV_RECEIVE (R236). -/
def execSvReceive (n appid svid srcMac : Nat) (asdus : List SvAsdu) (s : State) : Result :=
  .next (s.onLane (s.svRx n appid svid srcMac asdus))

/-- Stream `n` is lost (R236): no valid frame for 3 sample periods. -/
def State.svLose (s : State) (n : Nat) : State :=
  let x := vget s.link.lan.sv n {}
  let w := 3 * tapsS / max 1 (s.svObj n Obj.SV_SPC * s.svObj n Obj.SV_FNOM)
  if n < 4 && s.lanRuns && s.objB (Obj.SV_ENABLE + 256 * n) && x.status == 1 && !inWindow x.lastTap w s.tb.taps then
    (s.upSv n fun y => { y with status := 2 }).raiseRun .svLost n
  else s

/-- SV_TIMEOUT (R236). -/
def execSvTimeout (n : Nat) (s : State) : Result := .next (s.onPower (s.svLose n))

end Sys2Proof.Machine
end

