-- ==== Sys2Proof/Machine/Node.lean ====
section
/-!
DEFINITION. Sys2Proof/Machine/Node.lean: the commands of NODE_COMMAND, BYPASS_COMMAND and MAINT_RELEASE (R10, R12, R17, R29, R41), with the
question whether a fault's cause is still active.
-/
namespace Sys2Proof.Machine

/-! ### The cause of a fault (R10, R17) -/

/-- The MODE of the Gate unit differs from the mode handed to the cell (R153). -/
def State.modeMismatch (s : State) : Bool := s.isCell && s.obj Obj.GATE_MODE != b2n s.weft.armCarrier

/-- EXPECTED_ROLE names another role (R20). -/
def State.roleWrong (s : State) : Bool :=
  let e := s.objEff Obj.EXPECTED_ROLE
  e != 0xFF && e != roleCode s.node.role

/-- The partner's digest of this kind differs (R133, R285). -/
def State.digestDiffers (s : State) (f : PairMsg → Nat) (own : Nat) : Bool :=
  match s.jrn.partner with
  | some m => s.partnerFresh && f m != digest4 own
  | none => false

/-- The cause of a fault with a level of its own is active, or has not been inactive for its filter time (R17, R41). Faults of an instant, as a reset or a switch-over, have no cause that
lasts. DESIGN CHOICE(183): the cause of FLT_TRIP stands while the input's latch does, until FLT_RELEASE or the filter lets it go. -/
def State.causeActive (s : State) (f : ActiveFault) : Bool :=
  match f.name with
  | .orphan | .armOrphan => s.node.orphan != .none
  | .roleMismatch => s.roleWrong
  | .weftConfig => s.isArm && s.weftConfigBad
  | .twillWiring | .placeUnexpected | .bridgeMismatch | .timeQuantum => s.inRun f.name f.arg
  | .safetyDiscrepancy => s.channelSees.1 != s.channelSees.2
  | .safetyParam => (s.conn f.arg).mismatch
  | .trdlProgramDiffers => s.digestDiffers (·.progDigest) s.programDigest
  | .hdlGraphDiffers => s.digestDiffers (·.graphDigest) s.graphDigest
  | .weftAdjLimit => s.arm.adjOver
  | .weftStall => decide (s.obj Obj.STALL_LIMIT ≤ s.arm.stallRun)
  | .trdlNoCurrent => decide (s.obj Obj.CUR_LOST_LIMIT ≤ s.trdl.noCurRun)
  | .trdlOverrun => s.ovrDue
  | .fltTrip => (vget s.gate.flt f.arg {}).latched || (vget s.gate.flt f.arg {}).act
  | .gateCal => !s.gate.calOk
  | .goReadback => s.rbDiffers f.arg
  | .gateModeMismatch => s.modeMismatch
  | .adcRef => s.adc.refBad
  | .adcCal => !(if f.arg == 0 then s.adc.cal0Ok else s.adc.cal1Ok)
  | .adcConfig => s.isCell && !s.adcReadyForEnable
  | .refclkLost => !s.tb.refOk || !s.causeQuiet 10
  | .timeAlign => beyond s.tb.theta (s.obj Obj.ALIGN_LIMIT)
  | .hdlOpQuarantine => (s.opRun f.arg).quarantined
  | .jrnNoStandby => s.inRun .jrnNoStandby 0
  | .safeTrip => s.sinActive
  | .safeInDiscrepancy => s.sel.discrepant || !s.causeQuiet 1
  | .safetyFramesLost => !s.causeQuiet 4
  | .safeFbFault => vget s.sel.fbBad f.arg false
  | .wcTrip => !s.wcQuiet f.arg
  | .wcFault => (s.wcAt f.arg).fault
  | .sbyFired => s.sel.sby
  | .safetyDegExpired => bitOf s.sel.causes 8
  | .safetyDualFail => s.sel.failedB && s.sel.failedC
  | .safetySupply => !s.causeQuiet 9
  | .debugUnlocked => s.sys.jtagUnlocked
  | .supplyPfail => s.sys.pfailLow
  | _ => false

/-! ### The conditions of R10 -/

/-- A trip input is active: SAFE_IN, or a fault input whose action is a trip (R10, R160). DESIGN CHOICE(124): an input that is not enabled
is no trip input. -/
def State.tripActive (s : State) : Bool :=
  s.sinActive || [0, 1, 2, 3, 4, 5].any fun n => (vget s.gate.flt n {}).act && bitOf (s.obj (Obj.FLT_CFG0 + n)) 0 && bitsOf (s.obj (Obj.FLT_CFG0 + n)) 3 2 != 0

/-- The conditions of R10 other than the deblock. -/
def State.r10 (s : State) : Bool := s.scvGood && !s.tripActive && s.node.faults.isEmpty

/-! ### NODE_COMMAND (R41) -/

/-- Note the command that has been applied (R40 NODE_COMMAND). -/
def State.commanded (s : State) (c : Nat) : Applied := (s.upNode fun n => { n with lastCommand := c }).yes

/-- READY to SERVICE (R29): HOLD_COUNT starts at 0, and the ZERO state begins with its top legs (R142). -/
def State.toService (s : State) : State :=
  ((s.upNode fun n => { n with nodeState := .service, holdCount := 0 }).upGate fun g => { g with zeroTop := true }).upJrn fun j => { j with
    activeFrom := max j.activeFrom (s.pairCycle + 1) }

/-- ENABLE (R41): the checks of R10, of R153 and of R188, and the release of the power-up SPB latch (R351). -/
def State.applyEnable (s : State) : Applied :=
  if s.node.nodeState != .ready then s.no .state
  else if s.modeMismatch || (s.isCell && !s.adcReadyForEnable) then
    (.refused, s.raiseAll ((if s.modeMismatch then [{ name := .gateModeMismatch }] else [])
      ++ (if s.isCell && !s.adcReadyForEnable then [{ name := .adcConfig }] else [])))
  else if !s.sel.spb then (if s.r10 then s.toService.commanded 1 else s.no .refused)
  else match s.releaseSpb with
    | some t => if s.r10 then t.toService.commanded 1 else s.no .refused
    | none => (.refused, s.releaseRefused)

/-- BLOCK (R41): the island latches SPB with cause 11; nothing more at a node that is in BLOCK. -/
def State.applyBlock (s : State) : Applied :=
  match s.node.nodeState with
  | .bypass => s.no .state
  | .block => s.commanded 2
  | .off | .boot | .join | .ready | .service | .hold => (s.setCause 11).commanded 2

/-- BLOCK to READY (R29): what waited for the end of BLOCK is over. -/
def State.toReady (s : State) : State :=
  s.upNode fun n => { n with nodeState := .ready, holdCount := 0, orphanBypassDue := false, armBlocked := false }

/-- DEBLOCK (R41): with R10 and R351 met. -/
def State.applyDeblock (s : State) : Applied :=
  if s.node.nodeState != .block then s.no .state
  else match s.releaseSpb with
    | some t => if s.r10 then t.toReady.commanded 3 else s.no .refused
    | none => (.refused, s.releaseRefused)

/-- Clear the faults whose causes have ended (R17). -/
def State.clearFaults (s : State) : State :=
  s.upNode fun n => { n with faults := n.faults.filter s.causeActive }

/-- After a trip reset of all faults, firmware asks for no trip any longer, and a YIELDED member starts again (R17, R329, R368). -/
def State.tripCleared (s : State) : State :=
  let s1 := (s.upSel fun l => { l with f4Req := false }).tripUpdate
  let s2 := if s1.jrn.pstate == .yielded then s1.upJrn fun j => { j with pstate := .init, yieldCause := none } else s1
  s2.healthCheck

/-- TRIP_RESET (R41): REFUSED, and counted, while some fault is still active (R17). -/
def State.applyTripReset (s : State) : Applied :=
  let s1 := s.clearFaults
  if s1.node.faults.isEmpty then s1.tripCleared.commanded 4
  else (.refused, s1.upNode fun n => { n with tripRefusals := n.tripRefusals + 1 })

/-- A write of NODE_COMMAND (R41). -/
def State.applyNodeCommand (s : State) (value : Nat) : Applied :=
  match value with
  | 1 => s.applyEnable
  | 2 => s.applyBlock
  | 3 => s.applyDeblock
  | 4 => s.applyTripReset
  | _ => s.no .range

/-- ENABLE (R41). -/
def execEnable (s : State) : Result := .next (s.onPower (settle Obj.NODE_COMMAND 0 s.applyEnable))

/-- BLOCK (R41). -/
def execBlock (s : State) : Result := .next (s.onPower (settle Obj.NODE_COMMAND 0 s.applyBlock))

/-- DEBLOCK (R41). -/
def execDeblock (s : State) : Result := .next (s.onPower (settle Obj.NODE_COMMAND 0 s.applyDeblock))

/-- TRIP_RESET (R41). -/
def execTripReset (s : State) : Result := .next (s.onPower (settle Obj.NODE_COMMAND 0 s.applyTripReset))

/-! ### BYPASS_COMMAND and MAINT_RELEASE (R12, R41) -/

/-- A write of BYPASS_COMMAND (R41): a cell latches SBY with the firmware cause; another role refuses it. -/
def State.applyBypass (s : State) (value : Nat) : Applied :=
  if !s.isCell then s.no .state else s.ownWrite value (s.latchSby 3).yes

/-- BYPASS_COMMAND (R41). -/
def execBypassCommand (value : Nat) (s : State) : Result :=
  .next (s.onPower (settle Obj.BYPASS_COMMAND 0 (s.applyBypass value)))

/-- A write of MAINT_RELEASE (R12, R349): accepted only while SDI is indicated; the mark and the SBY latch are released, and the node goes
to BOOT through a warm reset. -/
def State.applyMaint (s : State) (value : Nat) : Applied :=
  s.ownWrite value
    (if s.node.nodeState != .bypass then s.no .state
    else if !s.sel.sdi then s.no .refused
    else (((s.keepBypass false).upSel fun l => { l with sby := false, sbyCause := 0 }).warmReset 6).yes)

/-- MAINT_RELEASE (R12). -/
def execMaintRelease (value : Nat) (s : State) : Result :=
  .next (s.onPower (settle Obj.MAINT_RELEASE 0 (s.applyMaint value)))

end Sys2Proof.Machine
end

