-- ==== Sys2Proof/Machine/Pair.lean ====
section
/-!
DEFINITION. Sys2Proof/Machine/Pair.lean: the moves of a pair member that no journal entry is needed for: the start of a resync, a
commanded switch-over, the pulse watchdog, notices, and the end of a verification (R329, R330, R332, R335, R339, R341, R344).
-/
namespace Sys2Proof.Machine

/-! ### Resynchronising (R339 to R341) -/

/-- Ask the partner for its snapshot from an offset (R312 SNAP_REQ, R339). -/
def State.sendSnapReq (s : State) (off : Nat) : State :=
  (s.sendPartner .journal (s.jrnHead 0x0D 0 s.ownLane 0 ++ leBytes 4 off)).upJrn fun j => { j with snapAskAt := s.tb.taps }

/-- Enter RESYNC (R329, R339): the exposure window begins with SNAP_REQ (R340). -/
def State.startResync (s : State) : State :=
  (s.upJrn fun j => { j with
    pstate := .resync, upLostTx := true, resyncs := satAdd 32 j.resyncs 1, snapTap := s.tb.taps, abortAt := none
    snapParts := [], snapSize := 0, snapDone := false, snapStored := [], verifyRun := 0, verified := false
    epochRx := [], missRun := 0 }).sendSnapReq 0

/-- RESYNC_START is written (R344). -/
def State.applyResyncStart (s : State) (value : Nat) : Applied :=
  if !s.isMember then s.no .noObject
  else s.ownWrite value (if s.jrn.pstate != .unhealthy then s.no .state else s.startResync.yes)

/-- RESYNC_START (R344). -/
def execResyncStart (value : Nat) (s : State) : Result := .next (s.onPower (settle Obj.RESYNC_START 0 (s.applyResyncStart value)))

/-- The cause of UNHEALTHY is gone (R330): PAIR frames arrive, the partner is ACTIVE, and JOINED, DIGESTS and NOFAULT are 1. -/
def State.resyncReady (s : State) : Bool :=
  s.partnerActive && bitOf s.healthBits 0 && bitOf s.healthBits 4 && bitOf s.healthBits 5

/-- An UNHEALTHY member tries again (R329, R341). -/
def State.autoResync (s : State) : State :=
  if s.isMember && s.jrn.pstate == .unhealthy && s.objB Obj.AUTO_RESYNC && s.resyncReady then s.startResync else s

/-- RESYNC_RETRY (R341): 1 s after an aborted resync. -/
def execResyncRetry (s : State) : Result :=
  .next (s.onPower (match s.jrn.abortAt with
    | some t => if t + tapsS ≤ s.tb.taps then s.autoResync else s
    | none => s))

/-- The offsets held of a snapshot that follow one another from 0: where the first missing byte is. -/
def firstMissing : Nat → List (Nat × List Byte) → Nat → Nat
  | 0, _, at' => at'
  | n + 1, parts, at' =>
    match parts.find? fun p => p.1 == at' && !p.2.isEmpty with
    | some p => firstMissing n parts (at' + p.2.length)
    | none => at'

/-- SNAP_REQ_RETRY (R339): an offset still missing after 2 ms is asked for again. -/
def execSnapReqRetry (s : State) : Result :=
  .next (s.onPower (
    if s.jrn.pstate == .resync && !s.jrn.snapDone && s.jrn.snapAskAt + 2 * tapsMs ≤ s.tb.taps then
      s.sendSnapReq (firstMissing (s.jrn.snapParts.length + 1) s.jrn.snapParts 0)
    else s))

/-- RESYNC_TIMEOUT (R341): 160 ms for each MiB of the snapshot, the first MiB where its size is not yet known. -/
def execResyncTimeout (s : State) : Result :=
  .next (s.onPower (
    if s.jrn.pstate == .resync && !s.jrn.snapDone
        && s.jrn.snapTap + max 1 ((s.jrn.snapSize + 1048575) / 1048576) * 160 * tapsMs ≤ s.tb.taps then s.resyncAbort else s))

/-- The verified member passes to STANDBY (R339, R340). -/
def State.resyncDone (s : State) : State :=
  (s.upJrn fun j => { j.putHealth 1 true with
    pstate := .standby, upLostTx := false, verified := true, resyncMs := (s.tb.taps - j.snapTap) / tapsMs }).commitTrial.healthCheck

/-- RESYNC_VERIFIED (R339): VERIFY_CYCLES cycles in a row were equal. -/
def execResyncVerified (s : State) : Result :=
  .next (s.onPower (
    if s.isMember && s.jrn.pstate == .resync && s.jrn.snapDone && s.obj Obj.VERIFY_CYCLES ≤ s.jrn.verifyRun then s.resyncDone else s))

/-! ### Switch-over, notices and the pulse watchdog (R332, R335, R344) -/

/-- SWITCHOVER is written (R335, R344): the active member sends YIELD, then advertises UPLOST. -/
def State.applySwitchover (s : State) (value : Nat) : Applied :=
  if !s.isMember then s.no .noObject
  else s.ownWrite value
    (if !s.isActive then s.no .state
    else if !s.partnerHealthy then s.no .refused
    else ((s.sendYield 2).toYielded 2).yes)

/-- SWITCHOVER (R344). -/
def execSwitchover (value : Nat) (s : State) : Result := .next (s.onPower (settle Obj.SWITCHOVER 0 (s.applySwitchover value)))

/-- YIELD_RECEIVE (R332): the take-over waits for the next TD(0) or station-cycle boundary. -/
def execYieldReceive (cause : Nat) (s : State) : Result :=
  .next (s.onLane (if s.isMember && !s.isActive then s.upJrn fun j => { j with yieldCause := some (cause % 256) } else s))

/-- PRIMARY_RECEIVE (R332): the notice of an upper-level-1 node on a down port of a STATION member. -/
def execPrimaryReceive (port member : Nat) (s : State) : Result :=
  .next (s.onLane (
    if s.isStation && 2 ≤ port && port < 6 && member ≤ 1 then
      s.upJrn fun j => { j with primaryNotice := vset j.primaryNotice (port - 2) (some member) }
    else s))

/-- The latest cycle whose Shuttle is due by T_exec − T_G (R335), among those a node holds. -/
def State.pulseK (s : State) : Option Nat :=
  [s.weft.k, s.weft.k - 1, s.weft.k - 2, s.weft.k - 3].find? fun k => decide (s.texec k ≤ s.tb.ntNs + 250)

/-- The Shuttle of a cycle, or the epoch of a station cycle, is missing (R335): of one that the member has had to decide as the active one.
DEDUCED(31): the watchdog of an ARM member runs while Shuttles are due by R88, in SERVICE. -/
def State.pulseMissing (s : State) : Bool :=
  if s.isArm then
    s.node.nodeState == .service && s.weft.begun && (match s.pulseK with
      | some k => s.jrn.activeFrom ≤ k && laterThan k s.arm.shuttleSentK
      | none => false)
  else s.node.nodeState.isJoined && s.jrn.activeFrom < s.pairCycle && laterThan (s.pairCycle - 1) s.jrn.epochSentK

/-- The pulse watchdog fires (R335): UPLOST is advertised, F3 JRN_PULSE is raised, and the member is YIELDED. -/
def State.pulseFire (s : State) : State :=
  let ok := s.partnerHealthy && !s.jrn.busy
  let s1 := (s.recordEv { name := .jrnPulse }).toYielded 4
  if ok || s1.isStation then s1 else (s1.upNode fun n => { n with armBlocked := true }).blockRequest

/-- PULSE_WATCHDOG (R335). -/
def execPulseWatchdog (s : State) : Result :=
  .next (s.onPower (if s.isActive && s.pulseMissing then s.pulseFire else s))

/-- HEALTH_JOURNAL_LOST (R330): an entry has awaited the standby's commit for more than 1 ms. -/
def execHealthJournalLost (s : State) : Result :=
  .next (s.onPower (
    if s.isMember && s.jrn.pstate == .standby
        && s.jrn.lanes.any (fun l => l.entries.any fun h => !h.committed && h.since + tapsMs < s.tb.taps) then
      (s.upJrn fun j => j.putHealth 1 false).healthCheck
    else s))

end Sys2Proof.Machine
end

