-- ==== Sys2Proof/Machine/Sector.lean ====
section
/-!
DEFINITION. Sys2Proof/Machine/Sector.lean: the bytes of a sector in the flash, its outer code and the decoder of that code (R406). The flash itself
is outside the device: a command that reports a read carries the bytes that the flash gave (R411).
-/
namespace Sys2Proof.Machine

/-- The product of two polynomials over GF(2), held as the bits of a number; `b` has less than `n` bits. -/
def polyMul (n a b : Nat) : Nat := (List.range n).foldl (fun r i => if b.testBit i then r ^^^ (a <<< i) else r) 0

/-- The remainder of a polynomial of less than `n` bits by one of degree `d`. -/
def polyMod (d m n a : Nat) : Nat :=
  (List.range (n - d)).foldr (fun i r => if r.testBit (i + d) then r ^^^ (m <<< i) else r) a

/-- The product in GF(2^14) with the primitive polynomial x^14 + x^10 + x^6 + x + 1 (R406). -/
def gfMul (a b : Nat) : Nat := polyMod 14 0x4443 27 (polyMul 14 a b)

/-- α to the power `n`, for n below 2^14. -/
def gfPow (n : Nat) : Nat :=
  ((List.range 14).foldl (fun (p : Nat × Nat) i => (gfMul p.1 p.1, if n.testBit i then gfMul p.2 p.1 else p.2)) (2, 1)).2

/-- A polynomial over GF(2^14), lowest coefficient first, times x + r. -/
def timesRoot (p : List Nat) (r : Nat) : List Nat := List.zipWith (· ^^^ ·) (0 :: p) (p.map (gfMul r) ++ [0])

/-- The minimal polynomial of α^i, where its 14 conjugates are distinct. -/
def minimalPoly (i : Nat) : Nat :=
  let cs := (List.range 14).foldl (fun p j => timesRoot p (gfPow (i * 2 ^ j % (2 ^ 14 - 1)))) [1]
  cs.foldr (fun c n => 2 * n + c) 0

/-- The generator of the outer code (R406): the product of the minimal polynomials of α, α^3, …, α^47, of degree 336. -/
def bchGenerator : Nat := (List.range 24).foldl (fun g i => polyMul 15 g (minimalPoly (2 * i + 1))) 1

/-- Bytes as one number, the first byte and the most significant bit first (R406). -/
def bigEndian (bs : List Byte) : Nat := bs.foldl (fun n b => n * 256 + b.toNat) 0

/-- The bytes of a number, the most significant first. -/
def bigBytes (n v : Nat) : List Byte := (leBytes n v).reverse

/-- The 42 bytes of parity over bytes 0 to 1,039 (R406). -/
def bchParity (message : List Byte) : List Byte :=
  bigBytes 42 (polyMod 336 bchGenerator (8 * message.length + 336) (bigEndian message <<< 336))

/-- What a sector carries (R406). -/
structure SectorId where
  lsn : Nat
  part : Nat
  copy : Nat
  wseq : Nat
  deriving DecidableEq, Repr

/-- Bytes 0 to 1,039 of a sector of 1,024 bytes of data (R406). -/
def sectorMessage (data : List Byte) (i : SectorId) : List Byte :=
  let b := data ++ leBytes 4 i.lsn ++ leBytes 1 i.part ++ leBytes 1 i.copy ++ leBytes 2 0 ++ leBytes 4 i.wseq
  b ++ leBytes 4 (Crc.crc32c b)

/-- The 1,088 bytes of a sector (R406). -/
def sectorBytes (data : List Byte) (i : SectorId) : List Byte :=
  sectorMessage data i ++ bchParity (sectorMessage data i) ++ List.replicate 6 0xFF

/-- A sector whose bytes are all 0xFF is blank (R406). -/
def sectorBlank (bs : List Byte) : Bool := bs.length == 1088 && bs.all (· == 0xFF)

/-! ### The decoder (R406) -/

/-- The inverse in GF(2^14): the power 2^14 - 2. -/
def gfInv (a : Nat) : Nat :=
  ((List.range 13).foldl (fun (p : Nat × Nat) _ => (gfMul p.1 p.1, gfMul p.2 (gfMul p.1 p.1))) (a, 1)).2

/-- The value at α^j of a polynomial over GF(2) of less than `n` bits. -/
def bitsAt (n w j : Nat) : Nat := (List.range n).foldr (fun i v => gfMul v (gfPow j) ^^^ b2n (w.testBit i)) 0

/-- The value of a polynomial over GF(2^14), lowest coefficient first. -/
def polyAt (p : List Nat) (x : Nat) : Nat := p.foldr (fun c v => gfMul v x ^^^ c) 0

/-- The sum of two polynomials over GF(2^14). -/
def polyAdd : List Nat → List Nat → List Nat
  | [], q => q
  | p, [] => p
  | a :: p, b :: q => (a ^^^ b) :: polyAdd p q

/-- The error locator as it grows from syndrome to syndrome: `loc` for `len` errors so far, and the last one that was shorter, with its
discrepancy and its age. -/
structure Locator where
  loc : List Nat := [1]
  prev : List Nat := [1]
  len : Nat := 0
  age : Nat := 1
  disc : Nat := 1

/-- One step of the decoder: syndrome n, counted from 0, of the list `syn`. -/
def Locator.step (syn : List Nat) (l : Locator) (n : Nat) : Locator :=
  let d := (List.range (l.len + 1)).foldl (fun v i => v ^^^ gfMul (l.loc.getD i 0) (if i ≤ n then syn.getD (n - i) 0 else 0)) 0
  if d == 0 then { l with age := l.age + 1 }
  else
    let c := polyAdd l.loc (List.replicate l.age 0 ++ l.prev.map (gfMul (gfMul d (gfInv l.disc))))
    if 2 * l.len ≤ n then { loc := c, prev := l.loc, len := n + 1 - l.len, age := 1, disc := d }
    else { l with loc := c, age := l.age + 1 }

/-- The bits of a sector's bytes 0 to 1,081. -/
abbrev sectorBits : Nat := 8656

/-- Correct up to 24 errors in bytes 0 to 1,081 read as one number: how many there were, and the corrected number; none where decoding fails. -/
def bchCorrect (w : Nat) : Option (Nat × Nat) :=
  let r := polyMod 336 bchGenerator sectorBits w
  if r == 0 then some (0, w)
  else
    let syn := (List.range 48).map fun j => bitsAt 336 r (j + 1)
    let l := (List.range 48).foldl (Locator.step syn) {}
    let errs := (List.range sectorBits).filter fun i => polyAt l.loc (gfPow (2 ^ 14 - 1 - i)) == 0
    if 24 < l.len || errs.length != l.len then none else some (l.len, errs.foldl (fun v i => v ^^^ 2 ^ i) w)

/-- The bits that a read of a sector corrects (R406): none where the sector is uncorrectable, since decoding fails or the CRC does not match after
correction. A blank sector has nothing to correct. -/
def sectorErrors (bs : List Byte) : Option Nat :=
  if bs.length != 1088 then none
  else if sectorBlank bs then some 0
  else match bchCorrect (bigEndian (bs.take 1082)) with
    | none => none
    | some (n, w) =>
      let m := (bigBytes 1082 w).take 1040
      if leNat ((m.drop 1036).take 4) == Crc.crc32c (m.take 1036) then some n else none

/-- A sector written anew stands for every older one of the same partition, copy and LSN (R406): the highest WSEQ is current. -/
def writeSector (l : List SectorAt) (x : SectorAt) : List SectorAt :=
  l.filter (fun y => !(y.part == x.part && y.copy == x.copy && y.lsn == x.lsn)) ++ [x]

end Sys2Proof.Machine
end

