-- ==== Sys2Proof/Machine/Store.lean ====
section
/-!
DEFINITION. Sys2Proof/Machine/Store.lean: the event recorder's commands (R392 to R404) and the Bobbin store's (R399, R400, R405 to
R412).
-/
namespace Sys2Proof.Machine

/-! ### MEDIA_FAULT (R399) -/

/-- Raise or lower the MEDIA_FAULT flag, in the keep area as well (R399). -/
def State.setMedia (s : State) (b : Bool) : State :=
  (s.upRecd fun r => { r with media := b, mediaAt := s.tb.taps, evt := setBit32 r.evt 1 }).upSys fun y => { y with keep := { y.keep with media := b } }

/-- MEDIA_FAULT is raised on its first cause (R399) at a physical block of a partition. While the store can still be written, its superblock and
SNAPSHOT hold the flag as well. -/
def State.mediaFault (s : State) (cause : Nat) (place : PhysBlock) (part : Nat) : State :=
  if s.recd.media then s
  else
    let can := s.bob.mounted && (cause == 2 || cause == 3 || cause == 4)
    let s1 := (s.setMedia true).upBob fun b => { b with
      evt := setBit32 b.evt 2, sbMark := b.sbMark || can, mounted := can, snap := { b.snap with media := b.snap.media || can } }
    s1.raiseAll [{ name := .mediaFault, payload := some (cause + place.cs * 2 ^ 8 + place.block % 2 ^ 32 * 2 ^ 32 + part * 2 ^ 64) }]

/-- A mount finds the flag in the keep area or the superblock (R399): it is raised, and the record that EVENTS holds of it is pinned again.
DESIGN CHOICE(200): where EVENTS holds none, a new MEDIA_FAULT record is made, whose cause is a free value. -/
def State.mediaAgain (s : State) : State :=
  let s1 := s.setMedia true
  match (s1.recd.ownEvents.filter (·.typ == FaultName.mediaFault.typ)).getLast? with
  | some x =>
    (match s1.recd.place { record := x, state := .pinned, sent := s1.noSend x } with
    | some r => s1.upRecd fun _ => r
    | none => s1)
  | none =>
    let (c, s2) := s1.drawFree 6
    s2.raiseAll [{ name := .mediaFault, payload := some (c + 1) }]

/-! ### The recorder (R392 to R398) -/

/-- FOLD_WINDOW_END (R393): the fold window of the open record ends. -/
def execFoldWindowEnd (s : State) : Result :=
  .next (s.onPower (if s.recd.openSlot.isSome && !inWindow s.recd.openAt tapsS s.tb.taps then s.upRecd (Rec.close false) else s))

/-- A value of an association list. -/
def assoc (l : List (Nat × Nat)) (k : Nat) : Option Nat := (l.find? (·.1 == k)).map (·.2)

/-- Put a value first in an association list. -/
def putAssoc (l : List (Nat × Nat)) (k v : Nat) : List (Nat × Nat) := (k, v) :: l.filter (·.1 != k)

/-- The payload of an EVENT frame (R397). -/
def eventPayload (fseq : Nat) (l : List Record) : List Byte :=
  leBytes 1 1 ++ leBytes 1 l.length ++ leBytes 2 fseq ++ l.flatMap (·.bytes)

/-- The next FSEQ for a destination (R397). -/
def State.takeFseq (s : State) (dst : Nat) : Nat × State :=
  let n := (assoc s.recd.fseqTx dst).getD 0
  (n, s.upRecd fun r => { r with fseqTx := putAssoc r.fseqTx dst ((n + 1) % 65536) })

/-- Send records to a destination on one up port (R397). -/
def State.sendEventOn (s : State) (l : List Record) (dst : Nat) (anym : Bool) (p : Nat) : State :=
  if l.isEmpty || !s.lit p then s
  else
    let (n, s1) := s.takeFseq dst
    s1.sendUpOn p .event dst anym (eventPayload n l)

/-- The address of STATION-A (R398). -/
abbrev stationA : Nat := 0x7FFFC

/-- The up ports on which own records go: the primary parent's, or before the node has joined every lit parent's (R25, R397). -/
def State.eventPorts (s : State) : List Nat :=
  if s.node.joined then s.primaryPort.toList else [0, 1].filter s.lit

/-- A closed slot that waits to be sent. -/
def DenSlot.unsent (d : DenSlot) : Bool := !d.sent && d.state != .opened

/-- The records that go into the next frame, at most 21, the oldest first. -/
def State.toSend (s : State) (relayed : Bool) : List DenSlot := (s.recd.byAge.filter fun d => d.unsent && d.relayed == relayed).take 21

/-- A record of R25, which goes to every lit parent. -/
def Record_place (r : Record) : Bool := r.typ == FaultName.twillWiring.typ || r.typ == FaultName.placeUnexpected.typ

/-- Mark slots as sent. -/
def Rec.markSent (l : List DenSlot) (r : Rec) : Rec := { r with den := r.den.map fun d => if l.contains d then { d with sent := true } else d }

/-- Send the own records to the parent, those of R25 to each lit parent, and the records received for the STATION onward (R397, R398). -/
def State.eventSend (s : State) : State :=
  let ps := s.eventPorts.filter s.lit
  if s.isStation || ps.isEmpty then s
  else
    let own := s.toSend false
    let rel := if s.node.joined then s.toSend true else []
    let s1 := ([0, 1].filter s.lit).foldl (fun t p => t.sendEventOn ((own.map (·.record)).filter fun r => ps.contains p || Record_place r)
      (t.port p).peer.addr false p) s
    let s2 := ps.foldl (fun t p => t.sendEventOn (rel.map (·.record)) stationA true p) s1
    s2.upRecd (Rec.markSent (own ++ rel))

/-- EVENT_FRAME_SEND (R397). -/
def execEventFrameSend (s : State) : Result := .next (s.onLane s.eventSend)

/-- A record goes onward to the STATION (R398). -/
def Record_onward (r : Record) : Bool := 2 ≤ r.cls.code || r.typ == 0x0C01 || r.typ == 0x0005

/-- The relayed stream holds the record already (R398). -/
def Rec.holdsRelayed (r : Rec) (x : Record) : Bool :=
  (r.events.any fun e => !e.lost && (match e.arn with | some a => decide (r.firstArn ≤ a) | none => false) && e.record.source == x.source && e.record.rsn == x.rsn)
    || r.den.any fun d => d.relayed && r.firstArn ≤ d.arn && d.record.source == x.source && d.record.rsn == x.rsn

/-- Store a received record in the relayed stream by R401; each stored copy takes the next arrival number (R403). -/
def State.storeRelayed (s : State) (x : Record) : State :=
  let r := s.recd
  let d : DenSlot := { record := x, relayed := true, state := .closed, sent := s.isStation || !Record_onward x, arn := r.nextArn }
  match r.place d with
  | some r2 => s.upRecd fun _ => { r2 with nextArn := (r.nextArn + 1) % 2 ^ 32, relayedCnt := satAdd 32 r2.relayedCnt 1 }
  | none => (s.upRecd fun _ => { r with denDrops := satAdd 32 r.denDrops 1, evt := setBit32 r.evt 2 }).raiseRun .recDrop

/-- A STATION member takes note of a record of R398: dataset 0 and its set of raised MEDIA_FAULT flags (R234, R399). -/
def State.stationNotes (s : State) (x : Record) : State :=
  let src := x.source % 2 ^ 19
  let s1 := if x.typ == 0x0005 then s else s.noteDs0 x.cls.code x.typ src x.rsn
  s1.upRecd fun r => { r with
    mediaSources := if x.typ == 0x0C01 then putAssoc r.mediaSources src s.tb.taps
      else if x.typ == 0x0005 then r.mediaSources.filter (·.1 != src) else r.mediaSources }

/-- Send one received record onward at once (R398). -/
def State.sendOnward (s : State) (x : Record) : State := s.eventPorts.foldl (fun t p => t.sendEventOn [x] stationA true p) s

/-- One received record (R398): a stored one goes onward with the Den; one that found no slot, and a repeat of MEDIA_FAULT, at once. -/
def State.takeRecord (s : State) (bs : List Byte) : State :=
  if !Record.checkOk bs then s
  else
    let x := Record.ofBytes bs
    let s1 := if s.isStation && Record_onward x then s.stationNotes x else s
    if !s1.recd.holdsRelayed x then
      let s2 := s1.storeRelayed x
      if s2.recd.nextArn == s1.recd.nextArn && Record_onward x && !s1.isStation then s2.sendOnward x else s2
    else if x.typ == 0x0C01 && !s1.isStation then s1.sendOnward x
    else s1

/-- Cut a payload into records of 48 bytes. -/
def recordsOf : Nat → List Byte → List (List Byte)
  | 0, _ => []
  | n + 1, bs => bs.take 48 :: recordsOf n (bs.drop 48)

/-- Count the FSEQ values missing from a sender, and remember 64 senders (R397). -/
def Rec.takeFseq (src fseq : Nat) (r : Rec) : Rec :=
  let gap := match assoc r.fseqRx src with
    | some l => (fseq + 65535 - l) % 65536
    | none => 0
  { r with fwdGaps := satAdd 32 r.fwdGaps gap, fseqRx := (putAssoc r.fseqRx src fseq).take 64 }

/-- An EVENT frame for this node (R397, R398). -/
def State.eventRx (s : State) (src : Nat) (pl : List Byte) : State :=
  let n := leNat ((pl.drop 1).take 1)
  if leNat (pl.take 1) != 1 || n == 0 || 21 < n || pl.length != 4 + 48 * n then s
  else (recordsOf n (pl.drop 4)).foldl State.takeRecord (s.upRecd (Rec.takeFseq src (leNat ((pl.drop 2).take 2))))

/-- EVENT_FRAME_RECEIVE (R398). -/
def execEventFrameReceive (src : Nat) (payload : List Byte) (s : State) : Result := .next (s.onLane (s.eventRx src payload))

/-- The pinned MEDIA_FAULT record is sent again, unchanged, every 10 s while the flag is raised (R399). -/
def State.mediaRepeat (s : State) : State :=
  if s.recd.media && s.elapsed s.recd.mediaAt (10 * tapsS) then
    (s.upRecd fun r => { r with
      mediaAt := s.tb.taps, den := r.den.map fun d => if d.state == .pinned then { d with sent := s.isStation } else d }).eventSend
  else s

/-- MEDIA_REPEAT (R399). -/
def execMediaRepeat (s : State) : Result := .next (s.onLane s.mediaRepeat)

/-- A STATION member removes a source whose MEDIA_FAULT record has not been repeated for 60 s (R399). -/
def State.mediaExpire (s : State) (src : Nat) : State :=
  s.upRecd fun r => { r with mediaSources := r.mediaSources.filter fun e => e.1 != src || !s.elapsed e.2 (60 * tapsS) }

/-- MEDIA_FLAG_EXPIRY (R399). -/
def execMediaFlagExpiry (src : Nat) (s : State) : Result := .next (s.onPower (s.mediaExpire src))

/-- A write of REC.UGO (R396). -/
def State.userRecord (s : State) (value : Nat) : State :=
  let r := s.recd
  if value % 2 == 0 then s
  else if r.utype < 0x8000 || 1 < r.uclass then s.upRecd fun x => { x with evt := setBit32 x.evt 3 }
  else
    s.record r.utype 17 (if r.uclass == 1 then .f1 else .f0)
      (vget r.upay 0 0 + 2 ^ 32 * vget r.upay 1 0 + 2 ^ 64 * vget r.upay 2 0 + 2 ^ 96 * vget r.upay 3 0)

/-- USER_RECORD (R396). -/
def execUserRecord (value : Nat) (s : State) : Result := .next (s.onPower (s.userRecord value))

/-- The own records that a clear takes (R391, R404): all that can be read, and the open one, but not the pinned one. -/
def Rec.ownHeld (r : Rec) : Nat :=
  (r.den.filter fun d => !d.relayed && d.state != .pinned && r.shows d.record.rsn).length
    + (r.events.filter fun e => e.arn.isNone && !e.lost && r.shows e.record.rsn
        && !r.den.any fun d => !d.relayed && d.record.rsn == e.record.rsn).length

/-- The relayed copies that a clear takes (R391, R404). -/
def Rec.relayedHeld (r : Rec) : Nat :=
  (r.den.filter fun d => d.relayed && d.state != .opened && r.firstArn ≤ d.arn).length
    + (r.events.filter fun e => !e.lost && (match e.arn with
        | some a => decide (r.firstArn ≤ a) && !r.den.any fun d => d.relayed && d.arn == a
        | none => false)).length

/-- The EVENTS sectors that a list of records fills (DESIGN CHOICE(25)). -/
def sectorsOf (n : Nat) : Nat := (n + eventsPerSector - 1) / eventsPerSector

/-- A write of REC_CLEAR (R404): an ENGINEER session, the own address, and no MEDIA_FAULT. EVENTS keeps none of its records; the erase of its
blocks is queued as background work. -/
def State.applyRecClear (s : State) (value : Nat) (role : SessRole) : Applied :=
  if role == .observer || role == .operator then s.no .role
  else
    s.ownWrite value
      (if s.recd.media then s.no .media
      else
        let r := s.recd
        let pay := r.firstRsn + (r.nextRsn + 2 ^ 32 - 1) % 2 ^ 32 * 2 ^ 32 + r.ownHeld % 2 ^ 32 * 2 ^ 64 + r.relayedHeld % 2 ^ 32 * 2 ^ 96
        (((s.raiseAll [{ name := .cleared, payload := some pay }]).upRecd fun x => { x with
          firstRsn := r.nextRsn, firstArn := r.nextArn, events := [], evLsn := x.evLsn + sectorsOf x.events.length, evt := setBit32 x.evt 4 }).storeWork 9).yes)

/-- REC_CLEAR (R404). -/
def execRecClear (value : Nat) (role : SessRole) (s : State) : Result :=
  .next (s.onPower (settle Obj.REC_CLEAR 0 (s.applyRecClear value role)))

/-- TRAW stands at a multiple of 100,000,000 (R389). -/
def State.atSecond (s : State) : Bool := s.tb.taps / 128 % 100000000 == 0

/-- Next RSN, OPT and PCC go to the keep area and to SNAPSHOT once per second (R389). -/
def State.optSave (s : State) : State :=
  if !s.atSecond then s
  else
  let s1 := s.upSys fun y => { y with keep := { y.keep with rsn := s.recd.nextRsn, opt := s.optNow, pcc := s.recd.pcc } }
  if s.storeTakes then
    (s1.upBob fun b => { b with snap := { b.snap with
      valid := true, rsn := s.recd.nextRsn, opt := s.optNow, pcc := s.recd.pcc, arn := s.recd.nextArn } }).storeWork 3
  else s1

/-- OPT_SAVE (R389). -/
def execOptSave (s : State) : Result := .next (s.onPower s.optSave)

/-! ### Storing records (R401, R412) -/

/-- The records that EVENTS holds. DESIGN CHOICE(25): 21 to a sector of 1,024 data bytes. -/
def State.eventsCap (s : State) : Nat := vget s.bob.partSize 4 0 * 1024 * eventsPerSector

/-- Reclaim the oldest blocks of EVENTS when it is full (R412): as many sectors as are missing, and as many more as the last block holds, which
is a free value. -/
def State.eventsWrap (s : State) : State :=
  if s.recd.events.length ≤ s.eventsCap || s.eventsCap == 0 then s.endRun .recWrap 0
  else
    let (more, s1) := s.drawFree (vget s.bob.partSize 4 0 * 1024)
    let k := sectorsOf (s.recd.events.length - s.eventsCap) + more
    let s2 := s1.upRecd fun r => { r with
      events := r.events.drop (eventsPerSector * k), evLsn := r.evLsn + k, evt := setBit32 r.evt 5
      overwritten := satAdd 32 r.overwritten ((r.events.take (eventsPerSector * k)).filter (!·.lost)).length }
    s2.raiseRun .recWrap

/-- Closed slots go to EVENTS while the store is mounted (R401). -/
def State.denStore (s : State) : State :=
  if s.storeTakes then
    let s1 := if s.denClosed == 0 then s else s.storeWork 4
    (s1.upRecd (Rec.storeDen false)).eventsWrap
  else s

/-- DEN_STORE (R401). -/
def execDenStore (s : State) : Result := .next (s.onPower s.denStore)

/-! ### The store's layout (R407, R408) -/

/-- JOURNAL, EVENTS and USER may shrink (R408). -/
def shrinks (i : Nat) : Bool := i == 2 || i == 4 || i == 6

/-- A layout fits the devices, of `c0` and `c1` MiB (R407): FW_A on CS0; FW_B and the second copies of JOURNAL and SNAPSHOT on CS1 if fitted,
else on CS0; EVENTS, DICT and USER each on either. -/
def layoutFits (two : Bool) (c0 c1 : Nat) (l : List Nat) : Bool :=
  let g (i : Nat) : Nat := l.getD i 0
  let pair := g 2 + g 3
  let at0 := g 0 + pair + (if two then 0 else g 1 + pair)
  let at1 := if two then g 1 + pair else 0
  (List.range (if two then 8 else 1)).any fun m =>
    let on1 := b2n (bitOf m 0) * g 4 + b2n (bitOf m 1) * g 5 + b2n (bitOf m 2) * g 6
    at0 + (g 4 + g 5 + g 6 - on1) ≤ c0 && at1 + on1 ≤ c1

/-- A layout with JOURNAL, EVENTS and USER at `k` 1,024ths of what is asked, and not below their minimums (R408). -/
def layoutAt (want : List Nat) (k : Nat) : List Nat :=
  (List.range 7).map fun i => if shrinks i then max (partMin (i + 1)) (want.getD i 0 * k / 1024) else want.getD i 0

/-- The largest layout that fits, from `k` 1,024ths down to the minimums (R408). DESIGN CHOICE(27): the steps of a 1,024th. -/
def layoutFrom (fits : List Nat → Bool) (want : List Nat) : Nat → Option (List Nat)
  | 0 => if fits (layoutAt want 0) then some (layoutAt want 0) else none
  | k + 1 => if fits (layoutAt want (k + 1)) then some (layoutAt want (k + 1)) else layoutFrom fits want k

/-- The MiB of data that the blocks of a device hold, less 3 % of them for the spare pool (R406, R407): a NOR block holds whole sectors of
1,088 bytes, a NAND page its data in full. -/
def State.deviceMib (s : State) (cs : Nat) : Nat :=
  let cap := vget s.pins.flashCap cs 0
  match vget s.pins.flashType cs 0 with
  | 0 => 0
  | 2 => cap * 1024 / 1088 * 97 / 100
  | _ => cap * 97 / 100

/-- Lay the partitions out on the fitted devices (R407, R408): none where not even the minimums fit. -/
def State.layoutFit (s : State) (want : List Nat) : Option (List Nat) :=
  layoutFrom (layoutFits (vget s.pins.flashType 1 0 != 0) (s.deviceMib 0) (s.deviceMib 1)) want 1024

/-- The size asked of a partition at a format (R408): FW_A, FW_B and SNAPSHOT keep theirs except in a blank store. -/
def State.partWanted (s : State) (blank : Bool) (i : Nat) : Nat :=
  if !blank && (i == 0 || i == 1 || i == 3) then vget s.bob.partSize i 0 else s.obj (Obj.PART_SIZE_FW_A + i)

/-- DICT is written from the running image (R390, R407), as background work. -/
def State.writeDict (s : State) : State :=
  (s.upBob fun b => { b with dict := ((vget s.sys.slots s.sys.slot none).map (·.digest)).getD 0 }).storeWork 6

/-- A format erases this partition (R408). -/
def erasedBy (blank : Bool) (i : Nat) : Bool := blank || shrinks i || i == 5

/-- Format the store (R408): lay out the partitions, write both copies of the superblock, and erase JOURNAL, EVENTS, DICT and USER; a blank store
loses its firmware slots and SNAPSHOT as well. The number of spare blocks that are left beside the factory bad blocks is a free value: the
manual gives no block size. -/
def State.format (s : State) (blank : Bool) : State :=
  match s.layoutFit ((List.range 7).map (s.partWanted blank)) with
  | none => s.mediaFault 6 {} 0
  | some l =>
    let (n, s1) := s.drawFree 65536
    let s2 := s1.upBob fun b => { b with
      superblock := Vector.replicate 2 true, partSize := Vector.ofFn fun i => l.getD i.val 0
      sectors := b.sectors.filter fun x => !erasedBy blank (x.part - 1)
      spareLeft := n, spareInit := n
      snap := if blank then { bypass := s.node.bypassMark, sby := s.sel.sby, degraded := b.snap.degraded, degFailed := b.snap.degFailed, degMin := b.snap.degMin, degStage := b.snap.degStage } else b.snap }
    let s3 := s2.upRecd fun r => { r with events := [], evLsn := 0 }
    let s4 := s3.upJrn fun j => { j with lanes := j.lanes.map fun x => { x with entries := [], gapped := [] }, journalBytes := 0, ramBytes := 0 }
    let s5 := s4.setObj Obj.USER_FILE 0 (s4.objJsn Obj.USER_FILE)
    ((if blank then s5.upSys fun y => { y with slots := Vector.replicate 2 none } else s5).storeWork 9).writeDict

/-- A write of BOB_FORMAT (R408). -/
def State.applyFormat (s : State) (value : Nat) : Applied :=
  s.ownWrite value
    (if s.node.nodeState == .service || s.node.nodeState == .hold || (s.isMember && s.jrn.pstate != .unhealthy) then s.no .state
    else (s.format false).yes)

/-- BOB_FORMAT (R408). -/
def execBobFormat (value : Nat) (s : State) : Result := .next (s.onPower (settle Obj.BOB_FORMAT 0 (s.applyFormat value)))

/-- The RSN of the pinned MEDIA_FAULT record. -/
def State.pinnedRsn (s : State) : Nat := ((s.recd.den.find? fun d => d.state == .pinned).map (·.record.rsn)).getD 0

/-- What discovery finds (R405, R408). -/
def State.discover (s : State) : State :=
  s.upBob fun b => { b with
    type0 := vget s.pins.flashType 0 0, type1 := vget s.pins.flashType 1 0
    inner0 := vget s.pins.flashInner 0 false, inner1 := vget s.pins.flashInner 1 false
    cap0 := vget s.pins.flashCap 0 0, cap1 := vget s.pins.flashCap 1 0 }

/-- A mount succeeds (R389, R409, R410): the flush area is erased again, the dummy flush has been timed, a scrub period begins, and a base is
restored. -/
def State.mounted (s : State) (flushUs : Nat) : State :=
  let s1 := (s.upBob fun b => { b with
    mounted := true, flushUs := flushUs, flushed := Vector.replicate 2 0, scrubFrom := s.tb.taps, tries := [] }).storeWork 5
  (if 1000 < flushUs then s1.raise .bobFlushSlow else s1).restoreBase

/-- The flag falls (R400): MEDIA_CLEARED, and the Den's records are stored. -/
def State.mediaEnd (s : State) : State :=
  let rsn := s.pinnedRsn
  let s1 := (s.setMedia false).upRecd fun r => { r with
    den := r.den.map fun d => if d.state == .pinned then { d with state := .closed } else d }
  (s1.raiseAll [{ name := .mediaCleared, payload := some rsn }]).denStore

/-- A write of MEDIA_SERVICE (R400): the devices are reset, discovered and mounted again, a blank store is formatted, and every device is tested;
the flag falls only when the test passes. DESIGN CHOICE(201): the time that the dummy flush of this mount takes is a free value. -/
def State.applyMedia (s : State) (value : Nat) (testOk blank : Bool) : Applied :=
  s.ownWrite value
    (let s1 := s.discover
    if s1.bob.type0 == 0 then ((s1.upBob fun b => { b with mounted := false }).mediaFault 1 {} 0).no .media
    else
      let s2 := if blank || !s1.bob.hasSuperblock then (s1.upBob fun b => { b with superblock := Vector.replicate 2 false }).format true else s1
      if !s2.bob.hasSuperblock then (s2.upBob fun b => { b with mounted := false }).no .media
      else if !testOk then s2.no .media
      else
        let (us, s3) := s2.drawFree 65536
        let s4 := ((s3.upBob fun b => { b with sbMark := false, snap := { b.snap with media := false } }).mounted us).syncHoldup
        if s4.recd.media then s4.mediaEnd.yes else s4.yes)

/-- MEDIA_SERVICE (R400). -/
def execMediaService (value : Nat) (testOk blank : Bool) (s : State) : Result :=
  .next (s.onPower (settle Obj.MEDIA_SERVICE 0 (s.applyMedia value testOk blank)))

/-! ### Flash work (R399, R409, R411, R412) -/

/-- A bad block is replaced from the spare pool (R412): F1 BOB_WORN below 25 %, MEDIA_FAULT where the pool is empty. -/
def State.takeSpare (s : State) (cause : Nat) (place : PhysBlock) (part : Nat) : State :=
  if s.bob.spareLeft == 0 then s.mediaFault cause place part
  else
    let s1 := s.upBob fun b => { b with spareLeft := b.spareLeft - 1 }
    if 4 * s1.bob.spareLeft < s1.bob.spareInit then (s1.upBob fun b => { b with evt := setBit32 b.evt 4 }).raiseRun .bobWorn else s1

/-- The records of an EVENTS sector that is lost, own and relayed, read as empty (R403, R411); the other sectors keep their places. -/
def Rec.loseSector (lsn : Nat) (r : Rec) : Rec :=
  { r with events := r.events.mapIdx fun i e => if r.evLsn + i / eventsPerSector == lsn then { e with lost := true } else e }

/-- A sector is relocated to a fresh block, as background work (R409, R411). -/
def State.relocate (s : State) : State := (s.upBob fun b => { b with reloc := satAdd 32 b.reloc 1 }).storeWork 7

/-- An uncorrectable sector (R411), by its partition code. -/
def State.uncorrectable (s : State) (part : Nat) (sec : SectorRef) (otherBad : Bool) : State :=
  let s1 := s.upBob fun b => { b with uncorr := satAdd 32 b.uncorr 1, evt := setBit32 b.evt 1 }
  if part == 3 || part == 4 then (if otherBad then s1.mediaFault 4 sec.place part else s1.relocate)
  else if part == 1 || part == 2 then
    s1.upSys fun y => { y with slots := vset y.slots (part - 1) ((vget y.slots (part - 1) none).map fun f => { f with digestOk := false }) }
  else if part == 5 then s1.upRecd (Rec.loseSector sec.lsn)
  else if part == 6 then s1.writeDict
  else if part == 7 then
    s1.setObj Obj.USER_FILE (leNat ((leBytes 65536 (s1.obj Obj.USER_FILE)).mapIdx fun i b => if i / 1024 == sec.lsn then 0 else b))
      (s1.objJsn Obj.USER_FILE)
  else s1

/-- A sector has been corrected (R411): it is relocated where it is due. -/
def State.corrected (s : State) (bits : Nat) (refresh : Bool) : State :=
  let s1 := s.upBob fun b => { b with
    corrSect := if bits == 0 then b.corrSect else satAdd 32 b.corrSect 1
    corrBits := satAdd 32 b.corrBits bits
    evt := if bits == 0 then b.evt else setBit32 b.evt 0 }
  if refresh || s.obj Obj.REFRESH_THRESHOLD ≤ bits then s1.relocate else s1

/-- A sector has been read (R406, R411): decoded from what the flash gave, corrected, relocated where it is due, or uncorrectable. -/
def State.sectorRead (s : State) (part : Nat) (sec : SectorRef) (data : List Byte) (refresh unread : Bool) (other : List Byte) : State :=
  match (if unread then none else sectorErrors data) with
  | none => s.uncorrectable part sec (sectorErrors other).isNone
  | some bits => s.corrected bits refresh

/-- Background work waits for foreground work, and counts PREEMPTS (R409). -/
def State.preempt (s : State) : State := s.upBob fun b => { b with preempts := satAdd 32 b.preempts 1 }

/-- The place of a sector in a scrub pass. DESIGN CHOICE(26): the partitions in the order of their codes, each copy from its first sector on. -/
def scrubKey (part copy lsn : Nat) : Nat := (part * 2 + copy) * 2 ^ 32 + lsn

/-- How far a scrub pass over the written sectors has come with a sector, in 1/65,536, and whether that one is the last (R411). -/
def State.scrubPlace (s : State) (part : Nat) (sec : SectorRef) : Nat × Bool :=
  let key := scrubKey part sec.copy sec.lsn
  let before := (s.bob.sectors.filter fun x => scrubKey x.part x.copy x.lsn < key).length
  (before * 65536 / max 1 s.bob.sectors.length, !s.bob.sectors.any fun x => key < scrubKey x.part x.copy x.lsn)

/-- A scrub read (R409, R411): the pass begins with the first one and ends with the last written sector, and then the next period begins. -/
def State.scrubSector (s : State) (part : Nat) (sec : SectorRef) (data : List Byte) (refresh unread : Bool) (other : List Byte) : State :=
  if !s.bob.mounted || s.flashStopped then s
  else if s.foreground then s.preempt
  else
    let (pos, last) := s.scrubPlace part sec
    let start := if s.bob.scrubbing then s.bob.scrubAt else s.tb.taps
    let s1 := if last then s.endRun .bobScrubLate 0 else s
    (s1.sectorRead part sec data refresh unread other).upBob fun b => { b with
      scrubbing := !last, scrubAt := start, scrubPos := pos
      scrubFrom := if last then s.tb.taps else b.scrubFrom
      scrubLast := if last then (s.tb.taps - start) / tapsS else b.scrubLast
      evt := if last then setBit32 b.evt 3 else b.evt }

/-- BOB_SCRUB_READ (R411). -/
def execBobScrubRead (partition : Nat) (sector : SectorRef) (data : List Byte) (refresh unread : Bool) (other : List Byte) (s : State) : Result :=
  .next (s.onPower (s.scrubSector partition sector data refresh unread other))

/-- A pass, begun or not, has not completed within SCRUB_PERIOD (R409): F1 BOB_SCRUB_LATE, once for the pass. -/
def State.bobLate (s : State) : State :=
  if s.bob.mounted && s.elapsed s.bob.scrubFrom (s.obj Obj.BOB_SCRUB_PERIOD * 3600 * tapsS) then
    (s.upBob fun b => { b with evt := setBit32 b.evt 5 }).raiseRun .bobScrubLate
  else s

/-- BOB_SCRUB_LATE (R409). -/
def execBobScrubLate (s : State) : Result := .next (s.onPower s.bobLate)

/-- CHIP_TIMEOUT (R399): a fitted chip select does not answer within 50 ms, or after three resets. -/
def execChipTimeout (cs : Nat) (s : State) : Result :=
  .next (s.onPower (if cs < 2 && vget s.pins.flashType cs 0 != 0 then
    (s.upBob fun b => { b with timeouts := satAdd 32 b.timeouts 1 }).mediaFault 5 { cs := cs } 0 else s))

/-- The key of a block in the erase counts. -/
def PhysBlock_key (p : PhysBlock) : Nat := p.cs * 2 ^ 32 + p.block

/-- A block's erase count (R412). -/
def Bob.eraseCount (b : Bob) (p : PhysBlock) : Nat := (assoc b.erases (PhysBlock_key p)).getD 0

/-- A block has been erased (R412): it holds no sector, and its count rises. -/
def Bob.erased (p : PhysBlock) (b : Bob) : Bob :=
  { b with erases := putAssoc b.erases (PhysBlock_key p) (b.eraseCount p + 1), sectors := b.sectors.filter (·.place != p) }

/-- The erase counts of a device. -/
def Bob.device (b : Bob) (cs : Nat) : List (Nat × Nat) := b.erases.filter (·.1 / 2 ^ 32 == cs)

/-- Wear levelling is due on a device (R412): its highest and lowest erase counts differ by more than WL_DELTA, and this block is least worn. A block
that was never erased counts 0. -/
def State.wearDue (s : State) (p : PhysBlock) : Bool :=
  let l := s.bob.device p.cs
  s.bob.eraseCount p + s.obj Obj.WL_DELTA < erMaxOf l && l.all fun e => s.bob.eraseCount p ≤ e.2

/-- Wear levelling moves the static data of the least-worn block and erases it (R412). -/
def State.wearMove (s : State) (p : PhysBlock) : State :=
  if !s.bob.mounted || s.flashStopped || !s.wearDue p then s
  else if s.foreground then s.preempt
  else s.upBob (Bob.erased p)

/-- WEAR_LEVEL_MOVE (R412). -/
def execWearLevelMove (place : PhysBlock) (s : State) : Result := .next (s.onPower (s.wearMove place))

end Sys2Proof.Machine
end

