-- ==== Sys2Proof/Machine/Apply.lean ====
section
/-!
DEFINITION. Sys2Proof/Machine/Apply.lean: a journaled write at its target (R50, R63, R66, R69, R470): the checks, the objects that
have a behaviour of their own, the counter clears (R107, R137, R167, R195, R238, R239, R272, R299, R300, R343, R383, R414, R415, R442),
and the writes of registers and memories by the worker cores (R276 to R278).
-/
namespace Sys2Proof.Machine

/-! ### Static checks (R45, R46, R58, R63) -/

/-- The rank of a session role (R45). -/
def SessRank : SessRole → Nat
  | .observer => 0
  | .operator => 1
  | .engineer => 2
  | .safetyEngineer => 3

/-- The role that a write of an access class asks for (R45). -/
def OAccess_rank : OAccess → Nat
  | .ro | .rx => 0
  | .rw | .wo => 1
  | .rwc => 2
  | .rws => 3

/-- The class may be written at all (R45). -/
def OAccess_writes : OAccess → Bool
  | .ro | .rx => false
  | .rw | .wo | .rwc | .rws => true

/-- The fixed members of GOOSE dataset 0 (R234): its mapping objects are read-only. -/
def gpFixed (key : Nat) : Bool := keyIndex key == keyIndex Obj.GP_COUNT && Obj.GP_COUNT ≤ key && key < Obj.GP_MEMBER + 32

/-- A ROLE_MAP entry that grants SAFETY ENGINEER (R58): the byte after the 20 of the identifier. -/
def grantsSafety (key value : Nat) : Bool := Obj.ROLE_MAP ≤ key && key < Obj.ROLE_MAP + 32 && value / 2 ^ 160 % 256 == 3

/-- What R63 checks of a write once its object is found: ROLE, ACCESS, SEALED. -/
def State.writeRights (s : State) (r : ObjRow) (key value : Nat) (by' : SessRole) : Status :=
  if SessRank by' < OAccess_rank r.acc || (grantsSafety key value && by' != .safetyEngineer) then .role
  else if !OAccess_writes r.acc || gpFixed key then .access
  else if s.sel.sealEn && (isSpsKey key || key == Obj.SCV_CONFIRM) then .sealed
  else .ok

/-- The checks of a write before its length, in the order of R63: NO_OBJECT, NO_SUBINDEX, ROLE, ACCESS, SEALED. -/
def State.writeCheck (s : State) (role : Role) (key value : Nat) (by' : SessRole) : Status :=
  match s.objRow role key with
  | none => if s.hasIndex role (keyIndex key) then .noSubindex else .noObject
  | some r => s.writeRights r key value by'

/-- The static RANGE check of a write (R44, R63). -/
def State.writeRange (s : State) (role : Role) (target key value : Nat) : Bool :=
  match s.objRow role key with
  | some r => rangeOk role target r key value
  | none => false

/-! ### Counter clears -/

/-- The counters of one block, cleared by the block's COUNTER_CLEAR object; none where the key is no such object. -/
def State.clearFor (s : State) (key : Nat) : Option State :=
  if key == Obj.WEFT_COUNTER_CLEAR then
    some (s.upWeft fun w => { w with keeps := 0, cmisses := 0, lates := 0, shorts := 0, misses := 0, sats := 0, adopts := 0, sensConflicts := 0 })
  else if key == Obj.TRDL_COUNTER_CLEAR then
    some (s.upTrdl fun t => { t with overruns := 0, fpes := 0, slowSkips := 0, fastMax := 0, slowMax := 0 })
  else if key == Obj.GATE_COUNTER_CLEAR then
    some (s.upGate fun g => { g with mismatch := 0, realign := 0, clearRefused := 0, forces := 0, minpulse := 0, readback := 0, cals := 0 })
  else if key == Obj.ADC_COUNTER_CLEAR then
    some (s.upAdc fun a => { a with overruns := 0, trigLosts := 0, aborts := 0, refWaits := 0 })
  else if key == Obj.LINK_COUNTER_CLEAR then
    some (s.upLink fun l => { l with
      noRoute := 0, hopsExp := 0, dirErr := 0, dups := 0
      ports := l.ports.map fun p => { p with
        crcErr := 0, hcsErr := 0, hseqGap := 0, aborts := 0, drops := 0, losses := 0, aged := 0, addrErr := 0 } })
  else if key == Obj.CU_COUNTER_CLEAR then some (s.upLink fun l => { l with cu := l.cu.map fun c => { c with fails := 0 } })
  else if key == Obj.TB_COUNTER_CLEAR then
    some (s.upTb fun t => { t with
      steps := 0, stepRefused := 0, sSteps := 0, tsi := t.tsi.map fun i => { i with captures := 0, overflows := 0 } })
  else if key == Obj.HDL_COUNTER_CLEAR then
    some (s.upHdl fun h => { h with
      dispatches := 0, cancelRace := 0, arcFull := 0, opFault := 0, budget := 0, dlyRefused := 0, memCe := 0, memUe := 0
      qmax := Vector.ofFn fun i => s.queueDepth i
      ops := h.ops.map fun o => { o with waitMax := 0 }
      delay := h.delay.map fun d => { d with maxFill := d.fill } })
  else if key == Obj.EC_CLEAR then
    some (s.upEvc fun v => { v with ec := v.ec.map fun e => { e.clear s.tb.taps with cap := 0 }, evt := v.evt &&& 0xFFFF#32 })
  else if key == Obj.JRN_COUNTER_CLEAR then
    some (s.upJrn fun j => { j with
      switches := 0, discarded := 0, catchups := 0, transfers := 0, dups := 0, resyncs := 0, resyncAborts := 0, busyRefusals := 0 })
  else if key == Obj.SEL_COUNTER_CLEAR then some (s.upSel fun l => { l with refused := 0, frameErr := 0, seqGap := 0, pulses := 0 })
  else if key == Obj.REC_COUNTER_CLEAR then
    some (s.upRecd fun r => { r with
      records := 0, repeats := 0, denDrops := 0, denBad := 0, overwritten := 0, relayedCnt := 0, fwdGaps := 0, fwdLost := 0 })
  else if key == Obj.BOB_COUNTER_CLEAR then
    some (s.upBob fun b => { b with
      corrSect := 0, corrBits := 0, uncorr := 0, reloc := 0, progFail := 0, eraseFail := 0, timeouts := 0, preempts := 0 })
  else if key == Obj.SYS_COUNTER_CLEAR then some (s.upSys fun y => { y with pfails := 0, warmResets := 0, peerRejects := 0 })
  else none

/-- A write of a block's COUNTER_CLEAR object: the own address clears the block's counters. -/
def State.applyClear (s : State) (key value : Nat) : Applied :=
  match s.objRow s.node.role key, s.clearFor key with
  | some _, some t => s.ownWrite value t.yes
  | _, _ => s.no .noObject

/-- COUNTER_CLEAR (R107, and the like rule of every block). -/
def execCounterClear (key value : Nat) (s : State) : Result := .next (s.onPower (settle key 0 (s.applyClear key value)))

/-! ### Objects with a behaviour of their own -/

/-- The channel, unit or core of a key whose base object repeats at `n` consecutive indices. -/
def chan? (base key n : Nat) : Option Nat := chanAt base key n

/-- Dynamic STATE and MAPPING checks of objects that only hold a value (R71, R153, R172, R178, R233, R235, R236). -/
def State.dynCheck (s : State) (key value : Nat) : Status :=
  let idx := keyIndex key
  if 0x6000 ≤ idx && idx < 0x6008 && s.objB (idx * 256 + 1) then .state
  else if 0x6200 ≤ idx && idx < 0x6208 && s.objB ((idx - 0x200) * 256 + 1) then .state
  else if 0x6400 ≤ idx && idx < 0x6408 && s.objB (idx * 256 + 1) then .state
  else if 0x6600 ≤ idx && idx < 0x6608 && s.objB ((idx - 0x200) * 256 + 1) then .state
  else if key == Obj.GATE_MODE && (s.node.nodeState == .service || s.node.nodeState == .hold) then .state
  else if key == Obj.REF_EN && value == 0 && (s.node.nodeState == .service || s.node.nodeState == .hold) then .state
  else if ((0x3C10 ≤ idx && idx < 0x3C12) || (0x3C20 ≤ idx && idx < 0x3C22)) && s.adcLocked then .state
  else if value == 1 && (chan? Obj.GP_ENABLE key 8).any (fun n => !s.gpMapOk n) then .mapping
  else if value == 1 && (chan? Obj.GS_ENABLE key 32).any (fun n => !s.gsMapOk n) then .mapping
  else if value == 1 && (chan? Obj.SV_ENABLE key 4).any (fun n => !s.svRingOk n) then .range
  else if s.isStation && key == Obj.STATION_CYCLE && s.obj Obj.STEP_QUANTUM % max 1 value != 0 then .range
  else .ok

/-- The reference buffer is switched (R172): off, it is not ready; enabled anew, its 3 ms begin. -/
def State.refSwitch (s : State) (value : Nat) : State :=
  s.upAdc fun a => { a with refReady := a.refReady && value != 0, refSince := s.tb.taps }

/-- A change of MODE (R149, R154): the carrier grid begins anew; in DIRECT mode GO6 and GO7 follow GATE.AUX. -/
def State.gateMode (s : State) (value : Nat) : State :=
  s.upGate fun g =>
    let g1 := { g with carStart := 0, carLen := 0, carRun := false, carPrev := (0, 0), sched := g.sched.filter (4 ≤ ·.out) }
    if value == 2 then { g1 with go6 := bitOf g.aux 0, go7 := bitOf g.aux 1 } else g1

/-- The value changes nothing that its object switches: REF_EN and MODE as they are (R149, R172). -/
def State.switchKept (s : State) (key value : Nat) : Bool := (key == Obj.REF_EN || key == Obj.GATE_MODE) && s.obj key == value

/-- What else a stored value does at once. -/
def State.afterSet (s : State) (key value : Nat) : State :=
  let tpo := (chan? Obj.TPO_MODE key 4).or ((chan? Obj.TPO_START key 4).or (chan? Obj.TPO_PERIOD key 4))
  if key == Obj.REF_EN then s.refSwitch value
  else if key == Obj.GATE_MODE then s.gateMode value
  else if key == Obj.SAFETY_TEST then s.demandUpdate
  else if key == Obj.PEER_POLICY then s.policyChanged
  else match tpo with
    | some n =>
      let off := keySub key == Obj.TPO_MODE % 256 && value == 0
      s.upTb fun t => { t with tpo := vset t.tpo n { vget t.tpo n {} with fired := false, active := (vget t.tpo n {}).active && !off } }
    | none => s.gateShadow key value

/-- A write that stores a value and has no refusal of its own but those of `dynCheck` and R470. DESIGN CHOICE(186): of two dynamic checks that
fail, the one that R63 lists first gives the status. -/
def State.applyPlain (s : State) (key value jsn : Nat) : Applied :=
  let st := s.dynCheck key value
  if st != .ok then s.no st
  else if !s.partnerOk key value then s.no .range
  else
    let s1 := s.setObj key value jsn
    (if s.switchKept key value then s1 else s1.afterSet key value).yes

/-- A write of an RWS object outside the safety parameter set (R45, R46). -/
def State.applyRws (s : State) (key value jsn : Nat) : Applied :=
  if !s.rwsState then s.no .state
  else if !s.partnerOk key value then s.no .range
  else ((s.setObj key value jsn).unconfirm).yes

/-- An operation that lists the user object is running (R292). -/
def State.userBusy (s : State) (key : Nat) : Bool :=
  s.hdl.cores.toList.any fun c => match c.opened with
    | some n => (s.gop n).any fun g => g.objects.contains key
    | none => false

/-- A command is due and waits (R292): behind those that wait already. -/
def State.park (s : State) (e : JEntry) : State := s.upDict fun d => { d with userPending := d.userPending ++ [e] }

/-- A command to a user object (R292): it waits while an operation that lists the object is running. -/
def State.applyUser (s : State) (key value jsn : Nat) : Applied :=
  if s.userBusy key || s.dict.userPending.any (fun e => e.index * 256 + e.sub == key) then
    (s.park { jsn := jsn, index := keyIndex key, sub := keySub key, value := value, target := s.addr }).yes
  else (s.setObj key value jsn).yes

/-- Commands of the node and its resets (R41, R49, R77, R423, R427, R436, R440). -/
def State.apply1 (s : State) (key value jsn : Nat) (role : SessRole) : Option Applied :=
  if key == Obj.NODE_COMMAND then some (s.applyNodeCommand value)
  else if key == Obj.BYPASS_COMMAND then some (s.applyBypass value)
  else if key == Obj.MAINT_RELEASE then some (s.applyMaint value)
  else if key == Obj.RESTORE_DEFAULTS then some (s.applyRestore value role)
  else if key == Obj.RESET_REQUEST then some (s.applyResetRequest value)
  else if key == Obj.IMAGE_ACTIVATE then some (s.applyImageActivate value jsn)
  else if key == Obj.OP_CERT then some (s.applyCert false value (Config.certFacts (s.obj Obj.OP_ROOT) value) jsn)
  else if key == Obj.OP_ROOT then some (s.applyCert true value (Config.certFacts value (s.obj Obj.OP_CERT)) jsn)
  else if key == Obj.VCORE then some (s.applyVcore value s.sys.vin jsn)
  else if key == Obj.HIBERNATE then some (s.applyHibernate value)
  else if key == Obj.JTAG_LOCK then some (s.applyJtagLock value)
  else none

/-- Commands of the engines and units (R71, R101, R113, R155, R164, R174, R177, R224, R228, R262, R285, R300). -/
def State.apply2 (s : State) (key value jsn : Nat) : Option Applied :=
  if key == Obj.REBASE then some (s.applyRebase value)
  else if key == Obj.PROGRAM_ACTIVATE then some (s.applyProgramActivate value jsn)
  else if key == Obj.GRAPH_ACTIVATE then some (s.applyGraphActivate value jsn)
  else if key == Obj.FLT_CLEAR then some (s.applyFltClear value)
  else if key == Obj.AUX_LEVEL then some (s.applyAux value jsn)
  else if key == Obj.CAL_START then some (s.applyCalStart value)
  else if key == Obj.TIME_SET then some (s.applyTimeSet value)
  else if key == Obj.PORT_ENABLE then some (s.applyPortEnable value jsn).yes
  else match chan? Obj.RPD_ENABLE key 8, chan? Obj.TPD_ENABLE key 8, chan? Obj.ENABLE key 2, chan? Obj.CU_MODE key 4 with
    | some c, _, _, _ => some (s.applyPdEnable false c value jsn)
    | _, some c, _, _ => some (s.applyPdEnable true c value jsn)
    | _, _, some c, _ => some (s.applyAdcEnable c value jsn)
    | _, _, _, some u => some (s.applyCuMode u value jsn)
    | _, _, _, _ => match chan? Obj.EC_SOURCE key 16, chan? Obj.EC_MODE key 16 with
      | some n, _ => some (s.applyEcConfig n false value jsn)
      | _, some n => some (s.applyEcConfig n true value jsn)
      | _, _ => none

/-- Commands of the journal, the island and the store (R325, R344, R373, R376, R400, R404, R408). FENCE is a request to the active STATION
and never a write at a target. The outcome of the media test is free. -/
def State.apply3 (s : State) (key value : Nat) (role : SessRole) : Option Applied :=
  if key == Obj.SWITCHOVER then some (s.applySwitchover value)
  else if key == Obj.RESYNC_START then some (s.applyResyncStart value)
  else if key == Obj.FENCE then some (s.no .access)
  else if key == Obj.SCV_CONFIRM then some (s.applyScvConfirm value)
  else if key == Obj.DEG_CLEAR then some (s.applyDegClear value)
  else if key == Obj.REC_CLEAR then some (s.applyRecClear value role)
  else if key == Obj.BOB_FORMAT then some (s.applyFormat value)
  else if key == Obj.MEDIA_SERVICE then
    let (test, s1) := s.drawFree 2
    let (blank, s2) := s1.drawFree 2
    some (s2.applyMedia value (test == 1) (blank == 1))
  else none

/-- Carry out a write whose static checks have passed. -/
def State.applyChecked (s : State) (key value jsn : Nat) (role : SessRole) : Applied :=
  if isUserKey key then s.applyUser key value jsn
  else if isSpsKey key then s.applySps key value jsn
  else if (s.clearFor key).isSome then s.applyClear key value
  else match s.apply1 key value jsn role, s.apply2 key value jsn, s.apply3 key value role with
    | some r, _, _ => r
    | _, some r, _ => r
    | _, _, some r => r
    | _, _, _ => if isRws key then s.applyRws key value jsn else s.applyPlain key value jsn

/-- A target applies a write (R50, R63): what its table refuses outright is refused first. -/
def State.applyObject (s : State) (key value jsn : Nat) (role : SessRole) : Applied :=
  let st := s.writeCheck s.node.role key value role
  if st != .ok then s.no st
  else if isCursor key then s.no .access
  else if !s.writeRange s.node.role s.addr key value then s.no .range
  else s.applyChecked key value jsn role

/-- OBJECT_WRITE_APPLY (R50). -/
def execObjectWriteApply (key value jsn : Nat) (role : SessRole) (s : State) : Result :=
  .next (s.onPower (settle key jsn (s.applyObject key value jsn role)))

end Sys2Proof.Machine
end

