-- ==== Sys2Proof/Machine/Journal.lean ====
section
/-!
DEFINITION. Sys2Proof/Machine/Journal.lean: the lanes and their entries (R309 to R320): holding and committing an entry, acceptance by
the commit set, delivery, and applying in JSN order; fences and SWITCH entries (R325 to R328).
-/
namespace Sys2Proof.Machine

/-! ### Lanes (R309, R310) -/

abbrev stationLane : Nat := 0xFFFF
abbrev relayLane : Nat := 0xFFFE

/-- Change a lane, which is added where the node does not hold it yet. -/
def State.upLane (s : State) (code : Nat) (f : Lane → Lane) : State :=
  s.upJrn fun j => { j with
    lanes := if j.lanes.any (·.code == code) then j.lanes.map fun l => if l.code == code then f l else l
             else j.lanes ++ [f { code := code }] }

/-- The last JSN a lane holds. -/
def laneLast (l : Lane) : Nat := match l.entries.getLast? with | some h => h.e.jsn | none => l.trim

/-- The highest JSN committed in order (R312 COMMIT_ACK). -/
def laneCommitted (l : Lane) : Nat := match (l.entries.takeWhile (·.committed)).getLast? with | some h => h.e.jsn | none => l.trim

/-- The highest JSN accepted in order. -/
def laneAccepted (l : Lane) : Nat := match (l.entries.takeWhile (·.accepted)).getLast? with | some h => h.e.jsn | none => l.trim

/-- The arms of a system that has a STATION (R309, R365). -/
def State.armLanes (s : State) : List Nat := List.range (s.objEff Obj.ARM_COUNT)

/-- The lanes in which a STATION member keeps an entry beside the station lane (R309, R325, R328). -/
def State.deliveryLanes (s : State) (e : JEntry) : List Nat :=
  match e.etype with
  | .fence => relayLane :: s.armLanes
  | .switch => if e.swAddr / 4 % 4096 == 4095 then [relayLane] else [addrArm e.swAddr]
  | .write => match addrRole e.target with
    | .cell | .arm => [addrArm e.target]
    | .relay => [relayLane]
    | .station => []

/-! ### Frames (R311 to R313) -/

/-- The command bytes of an entry (R313). -/
def entryCmd (e : JEntry) : List Byte :=
  match e.etype with
  | .write => leBytes 2 e.index ++ leBytes 1 e.sub ++ leBytes 1 (SessRank e.role) ++ leBytes e.len e.value
  | .fence => leBytes 8 e.value
  | .switch => leBytes 4 e.swEpoch ++ leBytes 4 e.swAddr ++ leBytes 1 e.swCause

/-- The code of an entry type (R313). -/
def etypeCode : EType → Nat
  | .write => 0
  | .fence => 1
  | .switch => 2

/-- The bytes of an entry in the journal. -/
def entrySize (e : JEntry) : Nat := 44 + (entryCmd e).length

/-- One ENTRY frame: the command bytes from an offset on, at most 980 of them (R313). -/
def State.entryFrame (s : State) (e : JEntry) (off : Nat) : List Byte :=
  let cmd := entryCmd e
  let tgt := e.target % 2 ^ 19 + 2 ^ 19 * b2n e.anym + 2 ^ 20 * b2n e.system
  s.jrnHead 1 (b2n e.confirm + 2 * b2n e.accepted + 16 * etypeCode e.etype) e.lane e.jsn ++ leBytes 8 e.pjsn ++ leBytes 8 e.applyAt
    ++ leBytes 4 tgt ++ leBytes 4 cmd.length ++ leBytes 4 off ++ (cmd.drop off).take 980

/-- The frames of an entry. -/
def State.entryFrames (s : State) (e : JEntry) : List (List Byte) :=
  (List.range (((entryCmd e).length + 979) / 980)).map fun i => s.entryFrame e (980 * i)

/-- Send a payload to the arm broadcast DOWN with TWIN, and also CROSS, under one ESEQ (R214, R215, R319). -/
def State.sendTwin (s : State) (dst : Nat) (pl : List Byte) : State :=
  let (n, s1) := s.takeEseq .journal
  let f := { s1.mkFrame .journal .down dst false n pl with twin := true }
  (s1.enqueueAll s1.litDown f).enqueueAll s1.litDown { f with dir := .cross }

/-- Send every frame of an entry with one operation. -/
def State.sendEntry (s : State) (e : JEntry) (send : State → List Byte → State) : State := (s.entryFrames e).foldl send s

/-- The pair to which a node's APPLIED and CATCHUP go (R309, R312): the lane's journaling pair, UP with ANYM; a STATION member, and a
member that resynchronises (R339), writes to its partner. -/
def State.sendJournalPair (s : State) (pl : List Byte) : State :=
  if s.isStation || (s.isMember && s.jrn.pstate == .resync) then s.sendPartner .journal pl
  else s.sendUp .journal (if s.isCell then armAddr s.node.arm false else stationAddr false) true pl

/-- CATCHUP (R312, R322). -/
def State.sendCatchup (s : State) (lane : Nat) : State :=
  s.sendJournalPair (s.jrnHead 7 0 lane 0 ++ leBytes 8 (s.laneOf lane).applied ++ leBytes 1 (b2n s.jrn.unclean))

/-- APPLIED (R312, R322), with the result of a CONFIRM entry or none. -/
def State.sendApplied (s : State) (lane confirm status : Nat) : State :=
  s.sendJournalPair (s.jrnHead 5 0 lane 0 ++ leBytes 8 (s.laneOf lane).applied ++ leBytes 8 confirm ++ leBytes 1 status)

/-! ### Applying (R320, R326, R328) -/

/-- An entry concerns this node (R320). -/
def State.concerns (s : State) (e : JEntry) : Bool :=
  e.system || e.target == s.addr || (e.anym && s.isMember && e.target == partnerAddr s.addr)
    || (isArmBroadcast e.target && s.isCell && addrArm e.target == s.node.arm)

/-- The payload of a FENCE record (R391). -/
def fencePay (id jsn : Nat) : Nat := id % 2 ^ 64 + 2 ^ 64 * (jsn % 2 ^ 64)

/-- A fence is applied (R303, R326). -/
def State.applyFence (s : State) (id jsn : Nat) : State :=
  (((s.fenceCounters id).upJrn fun j => { j with lastFence := id, lastFenceJsn := jsn, evt := setBit32 j.evt 4 }).raiseAll
    [{ name := .fence, payload := some (fencePay id jsn) }])

/-- A SWITCH entry is that of this member's pair (R309, R328). -/
def State.ownSwitch (s : State) (e : JEntry) : Bool :=
  e.etype == .switch && s.isMember && (e.swAddr == s.addr || e.swAddr == partnerAddr s.addr)

/-- The epoch of an ARM pair that a SWITCH entry gives, at a STATION member. -/
def State.noteArmEpoch (s : State) (e : JEntry) : State :=
  if s.isStation && addrRole e.swAddr == .arm then
    s.upJrn fun j => { j with armEpochs := (addrArm e.swAddr, max (s.armEpoch (addrArm e.swAddr)) e.swEpoch) :: j.armEpochs.filter (·.1 != addrArm e.swAddr) }
  else s

/-- A SWITCH entry is applied (R328): its FENCE record; in the pair it names, the gap ends before the record. -/
def State.applySwitch (s : State) (e : JEntry) : State :=
  let s1 := (if s.ownSwitch e then s.upRecd fun r => { r with gapOpen := false } else s).noteArmEpoch e
  s1.raiseAll [{ name := .fence, payload := some (fencePay (e.jsn % 2 ^ 63 + 2 ^ 63) e.jsn) }]

/-- A write is applied at its target (R50, R321): a no-op where the object holds the value of this or of a later entry. -/
def State.applyWrite (s : State) (e : JEntry) : Status × State :=
  let key := e.index * 256 + e.sub
  if e.jsn ≤ s.objJsn key && e.jsn != 0 then (.ok, s)
  else
    let r := if key == Obj.BYPASS_COMMAND && isArmBroadcast e.target then s.no .range else s.applyObject key e.value e.jsn e.role
    (r.1, settle key e.jsn r)

/-- Carry out an entry that concerns this node, and report the result of a CONFIRM write (R64). -/
def State.applyEntry (s : State) (lane : Nat) (e : JEntry) : State :=
  match e.etype with
  | .fence => s.applyFence e.value e.jsn
  | .switch => s.applySwitch e
  | .write =>
    let r := s.applyWrite e
    if !e.confirm then r.2
    else if r.2.isActive && r.2.isStation then r.2.confirmResult e.jsn r.1
    else if r.2.isStation then r.2.sendApplied lane e.jsn r.1.code
    else (r.2.sendApplied lane e.jsn r.1.code).sendUp .service (stationAddr false) true
      (respBytes { via := .port 0, tid := 0, op := 2, status := r.1, target := r.2.addr, key := e.index * 256 + e.sub, data := leBytes 8 e.jsn })

/-- Carry out one accepted entry (R320): the effect and APPLIED_JSN change in the same step; of an entry that is applied JRN.EVT tells. -/
def State.processNow (s : State) (lane : Nat) (e : JEntry) : State :=
  let s1 := s.upLane lane fun l => { l with applied := e.jsn }
  if s1.concerns e then (s1.upJrn fun j => { j with evt := setBit32 j.evt 0 }).applyEntry lane e else s1

/-- An entry is a write to a user object that a running operation lists (R292). -/
def State.entryWaits (s : State) (e : JEntry) : Bool :=
  e.etype == .write && s.concerns e && isUserKey (e.index * 256 + e.sub) && s.userBusy (e.index * 256 + e.sub)

/-- Process one accepted entry (R320). One that must wait for an operation (R292) holds up those behind it, which are applied in JSN order. -/
def State.process (s : State) (lane : Nat) (e : JEntry) : State :=
  if !s.dict.userPending.isEmpty || s.entryWaits e then s.park { e with lane := lane, accepted := true } else s.processNow lane e

/-- The JSN of the last entry of a lane that is applied or due (R292, R320). -/
def State.laneDue (s : State) (lane : Nat) : Nat :=
  match (s.dict.userPending.filter fun e => e.accepted && e.lane == lane).getLast? with
  | some e => e.jsn
  | none => (s.laneOf lane).applied

/-- Apply the commands that have waited, in order, up to one that must wait still (R292): by their number. -/
def State.drainDue : Nat → State → State
  | 0, s => s
  | n + 1, s => match s.dict.userPending with
    | [] => s
    | e :: t =>
      if s.entryWaits e then s
      else
        let s1 := s.upDict fun d => { d with userPending := t }
        drainDue n (if e.accepted then s1.processNow e.lane e else s1.setObj (e.index * 256 + e.sub) e.value e.jsn)

/-- USER_OBJECT_APPLY (R292). -/
def execUserObjectApply (s : State) : Result := .next (s.onPower (State.drainDue s.dict.userPending.length s))

/-- A member processes the accepted entries that follow its APPLIED_JSN, in order, up to the first that must wait for its APPLY_AT
(R319): by the number of entries. -/
def State.processMember (lane k : Nat) : Nat → State → State
  | 0, s => s
  | n + 1, s =>
    match (s.laneOf lane).entries.find? fun h => s.laneDue lane < h.e.jsn with
    | none => s
    | some h =>
      if h.accepted && (!s.concerns h.e || h.e.applyAt ≤ k) then processMember lane k n (s.process lane h.e) else s

/-- Process what can be processed of a member's lane now. -/
def State.processLane (s : State) (lane k : Nat) : State := State.processMember lane k (s.laneOf lane).entries.length s

/-! ### Commitment (R315 to R318) -/

/-- Commit entries in order into the RAM buffer while it may hold them (R315). -/
def commitRam (ok : Bool) : Nat → List HeldEntry → List HeldEntry × Nat
  | ram, [] => ([], ram)
  | ram, h :: t =>
    if h.committed then
      let r := commitRam ok ram t
      (h :: r.1, r.2)
    else if ok && ram + entrySize h.e ≤ 32768 then
      let r := commitRam ok (ram + entrySize h.e) t
      ({ h with committed := true, ram := true } :: r.1, r.2)
    else (h :: t, ram)

/-- Hold an entry at the end of a lane and commit it where RAM commits are allowed (R315); its JOURNAL write is queued (R409). -/
def State.hold (s : State) (lane : Nat) (e : JEntry) (accepted : Bool) : State :=
  let s1 := s.upLane lane fun l => { l with entries := l.entries ++ [{ e := e, accepted := accepted, since := s.tb.taps }] }
  let r := commitRam s1.holdupOk s1.jrn.ramBytes (s1.laneOf lane).entries
  let s2 := (s1.upLane lane fun l => { l with entries := r.1, head := laneCommitted { l with entries := r.1 } }).upJrn fun j => { j with
    ramBytes := r.2, journalBytes := j.journalBytes + entrySize e }
  s2.storeWork 2

/-- A standby tells the active member how far it has committed (R317). -/
def State.sendCommitAck (s : State) (lane : Nat) : State :=
  s.sendPartner .journal (s.jrnHead 2 0 lane 0 ++ leBytes 8 (laneCommitted (s.laneOf lane)))

/-- APPLY_AT of an entry accepted now (R319): the first cycle whose start lies at least APPLY_MARGIN ahead. -/
def State.applyAtNow (s : State) : Nat :=
  let t := if s.isStation then s.objEff Obj.STATION_CYCLE else s.weft.tw
  if t == 0 then 0 else (s.tb.ntNs + s.obj Obj.APPLY_MARGIN * 1000 + t - 1) / t

/-- The commit set becomes this member alone (R316): F1 JRN_SINGLE once per run. -/
def State.goAlone (s : State) (drop : Bool) : State :=
  (s.upJrn fun j => { j with alone := true, dropped := j.dropped || drop }).raiseRun .jrnSingle

/-- ACCEPT to the partner (R312, R317). -/
def State.sendAccept (s : State) (lane jsn at' : Nat) : State :=
  s.sendPartner .journal (s.jrnHead 3 0 lane 0 ++ leBytes 8 jsn ++ leBytes 8 at')

/-- ACCEPTED to the STATION pair (R312, R317). -/
def State.sendAccepted (s : State) (lane : Nat) : State :=
  s.sendUp .journal (stationAddr false) true (s.jrnHead 4 0 lane 0 ++ leBytes 8 (laneAccepted (s.laneOf lane)))

/-- An accepted entry as it is delivered to a lane (R313, R319). -/
def delivered (lane pjsn at' : Nat) (e : JEntry) : JEntry := { e with lane := lane, pjsn := pjsn, applyAt := at', accepted := true }

/-- The registered targets that are relays (R319, R323). -/
def State.relays (s : State) : List Nat := (s.jrn.targets.filter fun t => addrRole t.addr == .relay).map (·.addr)

/-- A STATION member keeps an entry in the lane that delivers it, unless it is there, and the active one hands it on: to an ARM pair for its commitment, or to
every relay (R317, R319). -/
def State.handOn (active : Bool) (e : JEntry) (s : State) (lane : Nat) : State :=
  let held := (s.laneOf lane).entries.find? fun h => h.e.jsn == e.jsn
  let x := match held with
    | some h => h.e
    | none => { e with lane := lane, pjsn := laneLast (s.laneOf lane), accepted := lane == relayLane, applyAt := if lane == relayLane then e.applyAt else 0 }
  let s1 := if held.isSome then s else s.upLane lane fun l => { l with
    entries := l.entries ++ [{ e := x, committed := true, accepted := x.accepted, since := s.tb.taps }], head := x.jsn }
  if !active then s1
  else if lane == relayLane then s1.relays.foldl (fun t a => t.sendEntry x fun u b => u.sendDown .journal a false b) s1
  else s1.sendEntry x fun u b => u.sendDown .journal (armAddr lane false) true b

/-- The arms whose pair has an active member (R317). DESIGN CHOICE(161): no frame tells a STATION whether a pair has one, so which arms do is a free
value. -/
def State.activeArms (s : State) : List Nat × State :=
  let f := s.drawFree 65536
  (s.armLanes.filter (bitOf f.1), f.2)

/-- The station lane accepts an entry at the active STATION (R317): the request of an entry of the STATION pair is answered; an ARM pair
still has to commit one of its own. -/
def State.stationAccepts (s : State) (e : JEntry) : State :=
  let lanes := s.deliveryLanes e
  let s1 := lanes.foldl (State.handOn true e) s
  match e.etype with
  | .fence =>
    let (arms, t) := s1.activeArms
    let s2 := t.upJrn fun j => { j with fencePending := j.fencePending ++ arms.map fun a => (e.jsn, a), fenceRead := if arms.isEmpty then e.value else j.fenceRead }
    if arms.isEmpty then (match s2.dict.waiting.find? (·.jsn == e.jsn) with | some w => s2.answerJsn w .ok | none => s2) else s2
  | .switch => s1
  | .write => match s1.dict.waiting.find? fun w => w.jsn == e.jsn && w.jsn != 0 with
    | some w =>
      if !lanes.all (· == relayLane) then s1
      else if !w.confirm then s1.answerJsn w .ok
      else if !w.joined then s1.answerJsn w .pending
      else s1
    | none => s1

/-- The entry of a lane that is next to be accepted by the active member, where its commit set has committed it (R317). -/
def State.acceptNext (s : State) (lane : Nat) : Option HeldEntry :=
  match (s.laneOf lane).entries.dropWhile (·.accepted) with
  | h :: _ => if h.committed && (s.jrn.alone || h.acked) then some h else none
  | [] => none

/-- The active member registers an acceptance (R317, R319): ACCEPT, and delivery. With its SWITCH entry committed the pair's switch-over is
over (R309). -/
def State.accept (s : State) (lane : Nat) (h : HeldEntry) : State :=
  let at' := s.applyAtNow
  let e := { h.e with applyAt := at', accepted := true }
  let s0 := if s.ownSwitch e then s.upJrn fun j => { j with busy := false } else s
  let s1 := s0.upLane lane fun l => { l with
    entries := l.entries.map fun x => if x.e.jsn == h.e.jsn then { x with e := e, accepted := true } else x }
  let s2 := s1.sendAccept lane h.e.jsn at'
  if s2.isStation then s2.stationAccepts e
  else (s2.sendAccepted lane).sendEntry e fun u b => u.sendTwin (cellAddr lane 0x3FFF) b

/-- Accept what can be accepted of a lane, in order: by the number of entries. -/
def State.acceptAll (lane : Nat) : Nat → State → State
  | 0, s => s
  | n + 1, s => match s.acceptNext lane with
    | some h => acceptAll lane n (s.accept lane h)
    | none => s

/-- The lane that a member's pair journals in its own commit set (R309, R317). -/
def State.pairLane (s : State) : Nat := s.ownLane

/-- Bring acceptance and application up to date at an active member (R317, R319). -/
def State.advance (s : State) : State :=
  if !s.isActive then s
  else
    let lane := s.pairLane
    let n := (s.laneOf lane).entries.length
    (State.acceptAll lane n s).processLane lane s.pairCycle

/-- The active STATION journals a new entry (R310, R317): it numbers it, holds it, and sends it to its partner. -/
def State.journal (s : State) (e : JEntry) : State :=
  let jsn := s.jrn.lastJsn + 1
  let x := { e with lane := stationLane, jsn := jsn, pjsn := laneLast (s.laneOf stationLane), accepted := false }
  let s1 := (s.upJrn fun j => { j with lastJsn := jsn }).hold stationLane x false
  (s1.sendEntry x fun u b => u.sendPartner .journal b).advance

/-! ### Entries received (R317, R318, R320) -/

/-- A gap: the entry is held, up to 16 of them, and the missing ones are asked for (R317, R320). -/
def State.gap (s : State) (lane : Nat) (e : JEntry) : State :=
  let s1 := s.upLane lane fun l => { l with
    gapped := if l.gapped.any (·.jsn == e.jsn) || 16 ≤ l.gapped.length then l.gapped else l.gapped ++ [e] }
  let s2 := s1.upJrn fun j => { j with catchups := satAdd 32 j.catchups 1, evt := setBit32 j.evt 1 }
  (s2.sendCatchup lane).raiseAll [{ name := .jrnGap, arg := lane }]

/-- A copy of an entry that is held already (R318, R320). -/
def State.countDup (s : State) : State := s.upJrn fun j => { j with dups := satAdd 32 j.dups 1 }

/-- The entry held beyond a gap that now follows (R320). -/
def Lane_takeGapped (l : Lane) (last : Nat) : Option JEntry := l.gapped.find? (·.pjsn == last)

/-- A target processes the held entries that now follow, in order: by their number. -/
def State.drainTarget (lane : Nat) : Nat → State → State
  | 0, s => s
  | n + 1, s =>
    let l := s.laneOf lane
    match Lane_takeGapped l (s.laneDue lane) with
    | some e => drainTarget lane n ((s.upLane lane fun x => { x with gapped := x.gapped.filter (·.jsn != e.jsn) }).process lane e)
    | none => s

/-- An accepted entry reaches a cell or a relay (R320). -/
def State.targetEntry (s : State) (e : JEntry) : State :=
  if e.jsn ≤ s.laneDue e.lane then s.countDup
  else if e.pjsn == s.laneDue e.lane then State.drainTarget e.lane 16 (s.process e.lane e)
  else s.gap e.lane e

/-- A STATION member keeps its delivery lanes in step with the station lane. -/
def State.mirrorLanes (s : State) (e : JEntry) : State :=
  if s.isStation then (s.deliveryLanes e).foldl (State.handOn false e) s else s

/-- A member holds an entry that follows the last it holds, then those held beyond the gap that now follow: by their number. -/
def State.ingest (lane : Nat) : Nat → JEntry → State → State
  | 0, _, s => s
  | n + 1, e, s =>
    let s1 := (s.hold lane e e.accepted).mirrorLanes e
    let l := s1.laneOf lane
    match Lane_takeGapped l e.jsn with
    | some x => ingest lane n x (s1.upLane lane fun y => { y with gapped := y.gapped.filter (·.jsn != x.jsn) })
    | none => s1

/-- An entry reaches a member (R317, R318): it is held in order and committed; a standby acknowledges. -/
def State.memberEntry (s : State) (e : JEntry) : State :=
  let l := s.laneOf e.lane
  if e.jsn ≤ laneLast l then s.countDup
  else if e.pjsn != laneLast l then s.gap e.lane e
  else
    let s1 := State.ingest e.lane 17 e s
    if s1.isActive then s1.advance
    else if s1.jrn.pstate == .standby then (s1.sendCommitAck e.lane).processLane e.lane s1.pairCycle
    else s1.processLane e.lane s1.pairCycle

/-- A member takes entries into its lane: in every pair state but RESYNC before its snapshot is installed (R317, R320, R339). -/
def State.takesEntries (s : State) : Bool := s.isMember && (s.jrn.pstate != .resync || s.jrn.snapDone)

/-- A complete ENTRY arrives (R317, R320, R339): a member in RESYNC stores it until its snapshot is installed. -/
def State.entryRx (s : State) (e : JEntry) : State :=
  if e.lane != s.ownLane then s
  else if !s.isMember then (if e.accepted then s.targetEntry e else s)
  else if s.takesEntries then s.memberEntry e
  else s.upJrn fun j => { j with snapStored := j.snapStored ++ [e] }

/-- ENTRY_RECEIVE (R320). -/
def execEntryReceive (port : Nat) (e : JEntry) (s : State) : Result := .next (s.onLane (if port < 6 then s.entryRx e else s))

/-- COMMIT_ACK arrives (R317): the partner has committed up to a JSN. -/
def State.commitAck (s : State) (lane jsn : Nat) : State :=
  if !s.isActive || lane != s.pairLane then s
  else (s.upLane lane fun l => { l with entries := l.entries.map fun h => if h.e.jsn ≤ jsn then { h with acked := true } else h }).advance

/-- COMMIT_ACK_RECEIVE (R317). -/
def execCommitAckReceive (lane jsn : Nat) (s : State) : Result := .next (s.onLane (s.commitAck lane jsn))

/-- ACCEPT of an entry that this standby has not committed shows that it is no member of the commit set (R316, R317): HEALTH.JOURNAL falls (R330),
and it is UNHEALTHY (R329). DEDUCED(195): no frame tells it in another way. -/
def State.leftCommitSet (s : State) (lane jsn : Nat) : State :=
  if s.jrn.pstate == .standby && laneCommitted (s.laneOf lane) < jsn then (s.upJrn fun j => j.putHealth 1 false).healthCheck else s

/-- ACCEPT arrives at the partner (R319): entries up to the JSN are accepted, and the one it names has its APPLY_AT. -/
def State.acceptRx (s0 : State) (lane jsn at' : Nat) : State :=
  if !s0.isMember || s0.isActive || lane != s0.pairLane then s0
  else
    let s := s0.leftCommitSet lane jsn
    (s.upLane lane fun l => { l with entries := l.entries.map fun h =>
      if h.e.jsn == jsn then { h with accepted := true, e := { h.e with applyAt := at', accepted := true } }
      else if h.e.jsn < jsn then { h with accepted := true, e := { h.e with accepted := true } } else h }).processLane lane s.pairCycle

/-- ACCEPT_RECEIVE (R319). -/
def execAcceptReceive (lane jsn applyAt : Nat) (s : State) : Result := .next (s.onLane (s.acceptRx lane jsn applyAt))

/-- The entries of an arm lane up to a JSN are accepted by their pair: its waiting writes are answered (R64, R317). A CONFIRM write whose
target has not joined is answered PENDING. -/
def State.armAccepted (lane jsn : Nat) (s : State) (w : Waiting) : State :=
  if w.jsn == 0 || jsn < w.jsn || addrArm w.target != lane || addrRole w.target == .relay || addrRole w.target == .station || (w.confirm && w.joined) then s
  else s.answerJsn w (if w.confirm then .pending else .ok)

/-- A fence that every ARM pair with an active member has accepted is accepted (R317). -/
def State.fenceSettled (s : State) (jsn : Nat) : State :=
  if s.jrn.fencePending.any (·.1 == jsn) then s
  else
    let id := (((s.laneOf stationLane).entries.find? fun h => h.e.jsn == jsn && h.e.etype == .fence).map (·.e.value)).getD s.jrn.fenceRead
    let s1 := s.upJrn fun j => { j with fenceRead := id }
    match s1.dict.waiting.find? (·.jsn == jsn) with
    | some w => s1.answerJsn w .ok
    | none => s1

/-- An ARM pair has a new active member (R332): a higher PAIR_EPOCH in its traffic, and the STATION journals the SWITCH entry. DESIGN
CHOICE(103): the cause stands in no frame to the STATION, so the entry carries 0. -/
def State.armSwitch (s : State) (src lane epoch : Nat) : State :=
  if s.isActive && s.armEpoch lane < epoch then
    (s.upJrn fun j => { j with
      armEpochs := (lane, epoch) :: j.armEpochs.filter (·.1 != lane), busyArms := lane :: j.busyArms.filter (· != lane) }).journal
      { etype := .switch, system := true, target := src, swEpoch := epoch, swAddr := src }
  else s

/-- ACCEPTED arrives from an ARM pair at a STATION member (R64, R317). -/
def State.acceptedRx (s : State) (src lane epoch jsn : Nat) : State :=
  if !s.isStation || 15 < lane then s
  else
    let s1 := s.upLane lane fun l => { l with entries := l.entries.map fun h => if h.e.jsn ≤ jsn then { h with accepted := true } else h }
    let done := s1.jrn.fencePending.filter fun x => x.2 == lane && x.1 ≤ jsn
    let switched := (s1.laneOf lane).entries.any fun h => h.accepted && h.e.etype == .switch && h.e.jsn ≤ jsn
    let s2 := s1.upJrn fun j => { j with
      fencePending := j.fencePending.filter fun x => !(x.2 == lane && x.1 ≤ jsn)
      busyArms := if switched then j.busyArms.filter (· != lane) else j.busyArms }
    let s3 := s2.dict.waiting.foldl (State.armAccepted lane jsn) s2
    (done.foldl (fun t x => t.fenceSettled x.1) s3).armSwitch src lane epoch

/-- ACCEPTED_RECEIVE (R317). -/
def execAcceptedReceive (src lane epoch jsn : Nat) (s : State) : Result := .next (s.onLane (s.acceptedRx src lane epoch jsn))

/-- A target is registered, with its latest report (R323). DESIGN CHOICE(160): no frame of the manual tells a pair the node state of a target
that is no neighbour, so the state TARGET_TABLE shows is a free value of the registration. -/
def State.register (s : State) (src applied : Nat) : State :=
  if s.jrn.targets.any (·.addr == src) then
    s.upJrn fun j => { j with targets := j.targets.map fun t => if t.addr == src then { t with applied := max t.applied applied } else t }
  else
    let (n, s1) := s.drawFree 256
    s1.upJrn fun j => { j with targets := j.targets ++ [⟨src, applied, n⟩] }

/-- APPLIED arrives (R64, R312, R323): the report is kept, and a CONFIRM write that it names is answered. -/
def State.appliedRx (s : State) (src jsn confirm status : Nat) : State :=
  if !s.isMember then s
  else
    let s1 := s.register src jsn
    if s1.isStation && confirm != 0 then s1.confirmResult confirm (statusOfCode status) else s1

/-- APPLIED_RECEIVE (R64). -/
def execAppliedReceive (src jsn confirmJsn status : Nat) (s : State) : Result :=
  .next (s.onLane (s.appliedRx src jsn confirmJsn status))

/-- APPLY_AT_REACHED (R319): a member processes its lane before the execution of cycle k. -/
def execApplyAtReached (k : Nat) (s : State) : Result :=
  .next (s.onPower (if s.takesEntries then s.processLane s.pairLane k else s))

/-! ### Fences (R67, R325) -/

/-- A switch-over is in progress for some pair of the system, as this STATION member sees it (R67, R309). -/
def State.anyBusy (s : State) : Bool := s.jrn.busy || !s.jrn.busyArms.isEmpty

/-- A request that the STATION refuses before journaling (R63, R67, R69). -/
def State.refuseHere (s : State) (st : Status) (key : Nat) : State :=
  (s.countRefusal st.code key).upJrn fun j => { j with busyRefusals := if st == .busy then satAdd 32 j.busyRefusals 1 else j.busyRefusals }

/-- What a FENCE write at this node is answered (R45, R61, R67, R325). -/
def State.fenceStatus (s : State) (id : Nat) (role : SessRole) : Status :=
  if !s.isStation then .noObject
  else if SessRank role < 1 then .role
  else if id == 0 || 2 ^ 64 ≤ id then .range
  else if !s.isActive then .notActive
  else if s.anyBusy then .busy
  else .ok

/-- FENCE is written (R325): the entry goes into every lane, with SYSTEM set. -/
def State.requestFence (s : State) (id : Nat) (role : SessRole) : State :=
  let st := s.fenceStatus id role
  if st == .ok then s.journal { etype := .fence, system := true, value := id, target := s.addr, role := role } else s.refuseHere st Obj.FENCE

/-- FENCE (R325). -/
def execFence (id : Nat) (role : SessRole) (s : State) : Result := .next (s.onPower (s.requestFence id role))

end Sys2Proof.Machine
end

