-- ==== Sys2Proof/Machine/Lanes.lean ====
section
/-!
DEFINITION. Sys2Proof/Machine/Lanes.lean: what keeps the targets of a lane in step with it: HEAD, CATCHUP, the state transfer by IMAGE
(R314, R322, R323), trimming (R323), and the SNAPSHOT partition (R321).
-/
namespace Sys2Proof.Machine

/-! ### The lane image (R323) -/

/-- The addresses whose image an entry's write belongs to. -/
def imageTargets (e : JEntry) : List Nat := if e.anym then [e.target, partnerAddr e.target] else [e.target]

/-- Put a value into an image; writes to VOL objects are not kept. -/
def imagePut (e : JEntry) (img : List ImageVal) (t : Nat) : List ImageVal :=
  let key := e.index * 256 + e.sub
  if isPers key then img.filter (fun v => v.target != t || v.key != key) ++ [⟨t, key, e.jsn, e.value⟩] else img

/-- Fold one trimmed entry into its lane's image (R323). -/
def Lane_fold (l : Lane) (e : JEntry) : Lane :=
  match e.etype with
  | .write => { l with image := (imageTargets e).foldl (imagePut e) l.image, trim := e.jsn }
  | .fence => { l with fenceId := e.value, fenceJsn := e.jsn, trim := e.jsn }
  | .switch => { l with trim := e.jsn }

/-- A value of the image concerns a target, whether written to it or to the broadcast. -/
def ImageVal_concerns (v : ImageVal) (t : Nat) : Bool :=
  v.target == t || (isArmBroadcast v.target && addrRole t == .cell && addrArm v.target == addrArm t)

/-- The image for one target: for each object the value of the latest write. -/
def imageFor (l : Lane) (t : Nat) : List ImageVal :=
  let vs := l.image.filter (ImageVal_concerns · t)
  vs.filter fun v => !(vs.any fun w => w.key == v.key && v.jsn < w.jsn)

/-! ### Trimming (R323) -/

/-- The lane that delivers to an address (R309). -/
def laneOfAddr (a : Nat) : Nat :=
  match addrRole a with
  | .cell | .arm => addrArm a
  | .relay => relayLane
  | .station => stationLane

/-- The lowest APPLIED_JSN that a lane's registered targets report; 0 where none is registered. -/
def State.lowestApplied (s : State) (lane : Nat) : Nat :=
  match s.jrn.targets.filter (fun t => laneOfAddr t.addr == lane) with
  | [] => 0
  | t :: ts => ts.foldl (fun m x => min m x.applied) t.applied

/-- The first entries of a lane that may go: every target has applied them, they are older than RETAIN_TIME, or the partition is fuller
than its limit. An entry that is not accepted stays, and so do those after it. -/
def trimmable (ok : HeldEntry → Bool) (limit : Nat) : Nat → List HeldEntry → List HeldEntry
  | _, [] => []
  | bytes, h :: t => if h.accepted && (ok h || limit < bytes) then h :: trimmable ok limit (bytes - entrySize h.e) t else []

/-- 90 % of the JOURNAL partition in bytes. -/
def State.journalLimit (s : State) : Nat := vget s.bob.partSize 2 0 * 1048576 * 9 / 10

/-- A member trims a lane it holds (R323): what goes is folded into the lane image, and a JOURNAL partition above 90 % raises
F1 JRN_FULL. -/
def State.trimLane (s : State) (lane : Nat) : State :=
  let l := s.laneOf lane
  let full := s.bob.mounted && s.journalLimit < s.jrn.journalBytes
  let low := s.lowestApplied lane
  let ok := fun (h : HeldEntry) => (lane != s.pairLane || h.e.jsn ≤ l.applied)
    && (h.e.jsn ≤ low || h.since + s.obj Obj.RETAIN_TIME * 3600 * tapsS < s.tb.taps)
  let gone := trimmable ok (if full then s.journalLimit else s.jrn.journalBytes) s.jrn.journalBytes l.entries
  let s1 := s.upLane lane fun x => { gone.foldl (fun y h => Lane_fold y h.e) x with entries := x.entries.drop gone.length }
  let freed := (gone.map fun h => entrySize h.e).foldl (· + ·) 0
  let ramFreed := ((gone.filter (·.ram)).map fun h => entrySize h.e).foldl (· + ·) 0
  let s2 := if lane == s.pairLane then s1.upJrn fun j => { j with journalBytes := j.journalBytes - freed, ramBytes := j.ramBytes - ramFreed } else s1
  if full then s2.raiseRun .jrnFull else s2.endRun .jrnFull 0

/-- A node keeps a lane: it is a member that holds one of this code. -/
def State.holdsLane (s : State) (lane : Nat) : Bool := s.isMember && s.jrn.lanes.any (·.code == lane)

/-- TRIM_ADVANCE (R323). -/
def execTrimAdvance (lane : Nat) (s : State) : Result := .next (s.onPower (if s.holdsLane lane then s.trimLane lane else s))

/-! ### HEAD and CATCHUP (R322) -/

/-- The head that a HEAD frame gives: the highest accepted JSN of the lane (R312). -/
def State.headOf (s : State) (lane : Nat) : Nat := laneAccepted (s.laneOf lane)

/-- The payload of HEAD (R312). -/
def State.headBytes (s : State) (lane : Nat) : List Byte :=
  s.jrnHead 6 0 lane 0 ++ leBytes 8 (s.headOf lane) ++ leBytes 8 (s.laneOf lane).trim

/-- Send one JOURNAL frame to one node of a lane: to the partner CROSS, to any other DOWN. -/
def State.sendOne (s : State) (dst : Nat) (pl : List Byte) : State :=
  if dst == partnerAddr s.addr then s.sendPartner .journal pl else s.sendDown .journal dst false pl

/-- A member sends HEAD to a lane (R312, R322): an ARM to its own lane, a STATION to the relays. -/
def State.headsLane (s : State) (lane : Nat) : Bool := if s.isArm then lane == s.node.arm else lane == relayLane

/-- The active member sends HEAD to a lane: to the arm broadcast, or unicast to every relay (R312, R322). -/
def State.sendHead (s : State) (lane : Nat) : State :=
  if !s.isActive || !s.headsLane lane then s
  else if s.isArm then s.sendDown .journal (cellAddr lane 0x3FFF) false (s.headBytes lane)
  else s.relays.foldl (fun t a => t.sendDown .journal a false (s.headBytes lane)) s

/-- HEAD_INTERVAL has passed since the latest HEAD (R322). -/
def State.headDue (s : State) : Bool :=
  match s.jrn.headAt with
  | some t => decide (t + s.obj Obj.HEAD_INTERVAL * tapsMs ≤ s.tb.taps)
  | none => true

/-- HEAD_SEND (R322). -/
def execHeadSend (lane : Nat) (s : State) : Result :=
  .next (s.onPower (if s.isActive && s.headsLane lane && s.headDue then (s.sendHead lane).upJrn fun j => { j with headAt := some s.tb.taps } else s))

/-- A node is caught up (R29, R322). -/
def State.caughtUp (s : State) : Bool :=
  if s.isMember then s.jrn.pstate == .active || s.jrn.pstate == .standby
  else
    let l := s.laneOf s.ownLane
    s.jrn.headSeen && l.head ≤ l.applied && l.gapped.isEmpty

/-- HEAD arrives (R322): a target notes it and answers APPLIED, and asks for what it lacks unless it holds an entry beyond a gap. A member
keeps its own head and TRIM_JSN; it asks again only while it does not hold what the head names. -/
def State.headRx (s : State) (lane head trim : Nat) : State :=
  if lane != s.ownLane then s
  else
    let s1 := (if s.isMember then s else s.upLane lane fun l => { l with head := head, trim := trim }).upJrn fun j => { j with headSeen := true }
    let s2 := s1.sendApplied lane 0 0
    let l := s2.laneOf lane
    if (if s.isMember then laneLast l else l.applied) < head && l.gapped.isEmpty then s2.sendCatchup lane else s2

/-- HEAD_RECEIVE (R322). -/
def execHeadReceive (lane head trim : Nat) (s : State) : Result := .next (s.onLane (s.headRx lane head trim))

/-- The bytes of one image record (R314): at most 976 bytes of the value from an offset on. -/
def imageRecord (r : ImageRec) : List Byte :=
  leBytes 2 r.index ++ leBytes 1 r.sub ++ leBytes 1 (b2n r.isFence) ++ leBytes 8 r.jsn ++ leBytes 4 r.total ++ leBytes 4 r.offset
    ++ leBytes 2 r.bytes.length ++ r.bytes

/-- The records of one value, split at 976 bytes. -/
def imageSplit (isFence : Bool) (key jsn total value : Nat) : List ImageRec :=
  (List.range (max 1 ((total + 975) / 976))).map fun i =>
    { isFence := isFence, index := keyIndex key, sub := keySub key, jsn := jsn, total := total, offset := 976 * i,
      bytes := ((leBytes total value).drop (976 * i)).take 976 }

/-- The size of an object's value; 0 for a key that the table does not name. -/
def sizeOf (key : Nat) : Nat := match tableRow key with | some r => r.ty.size | none => 0

/-- The records of the image for one target: the fence, then each object. -/
def imageRecords (l : Lane) (t : Nat) : List ImageRec :=
  (if l.fenceId == 0 then [] else imageSplit true 0 l.fenceJsn 8 l.fenceId)
    ++ (imageFor l t).flatMap fun v => imageSplit false v.key v.jsn (sizeOf v.key) v.value

/-- One IMAGE frame (R312, R314). -/
def State.imageFrame (s : State) (lane base : Nat) (last : Bool) (rs : List ImageRec) : List Byte :=
  s.jrnHead 8 (b2n last) lane 0 ++ leBytes 8 base ++ leBytes 2 rs.length ++ rs.flatMap imageRecord

/-- Send an image, one record to a frame; an empty image is one frame with LAST. -/
def State.sendImage (s : State) (lane base dst : Nat) : List ImageRec → State
  | [] => s.sendOne dst (s.imageFrame lane base true [])
  | [r] => s.sendOne dst (s.imageFrame lane base true [r])
  | r :: rs => (s.sendOne dst (s.imageFrame lane base false [r])).sendImage lane base dst rs

/-- The lane as it would be with every entry up to a JSN folded into its image (R323). -/
def Lane_foldTo (l : Lane) (base : Nat) : Lane :=
  (l.entries.filter fun h => h.accepted && h.e.jsn ≤ base).foldl (fun x h => Lane_fold x h.e) l

/-- An entry as it goes to a requester: accepted only where the lane's own pair says so (R313, R317). -/
def State.catchupEntry (s : State) (lane : Nat) (h : HeldEntry) : JEntry :=
  { h.e with accepted := h.accepted && !(s.isStation && lane < 16) }

/-- The lanes that a member's pair keeps (R309): of an ARM its own, of a STATION every one. -/
def State.journalsLane (s : State) (lane : Nat) : Bool := if s.isArm then lane == s.node.arm else lane < 16 || lane == stationLane || lane == relayLane

/-- The answer to a CATCHUP (R322, R323): a state transfer where the requester is below TRIM_JSN or unclean, at most 64 entries otherwise,
and a HEAD at the end. -/
def State.catchupRx (s : State) (src lane applied : Nat) (unclean : Bool) : State :=
  if !s.isActive || !s.journalsLane lane then s
  else
    let s1 := s.register src applied
    let l := s1.laneOf lane
    let dst := src
    let s2 :=
      if unclean || applied < l.trim then
        let base := if unclean then s1.headOf lane else l.trim
        s1.sendImage lane base dst (imageRecords (if unclean then Lane_foldTo l base else l) src)
      else
        let s1 := s1.storeWork 5
        let es := (l.entries.filter fun h => applied < h.e.jsn && (h.accepted || src == partnerAddr s.addr || (s.isStation && lane < 16))).take 64
        es.foldl (fun t h => t.sendEntry (s.catchupEntry lane h) fun u b => u.sendOne dst b) s1
    s2.sendOne dst (s2.headBytes lane)

/-- CATCHUP_RECEIVE (R322, R323). -/
def execCatchupReceive (src lane applied : Nat) (unclean : Bool) (s : State) : Result :=
  .next (s.onLane (s.catchupRx src lane applied unclean))

/-! ### State transfer (R314, R323) -/

/-- Two records are parts of one value. -/
def ImageRec_same (a b : ImageRec) : Bool := a.isFence == b.isFence && a.index == b.index && a.sub == b.sub

/-- The bytes that follow one another from an offset on, among the parts of one value. -/
def imageJoin : Nat → List ImageRec → Nat → List Byte
  | 0, _, _ => []
  | n + 1, parts, at' =>
    match parts.find? fun p => p.offset == at' && !p.bytes.isEmpty with
    | some p => p.bytes ++ imageJoin n parts (at' + p.bytes.length)
    | none => []

/-- The value of which a record is the first part; none while it is incomplete. -/
def imageValue (all : List ImageRec) (r : ImageRec) : Option (List Byte) :=
  let parts := all.filter (ImageRec_same r)
  let v := imageJoin parts.length parts 0
  if v.length == r.total then some v else none

/-- Every value of a transfer is complete. -/
def imageComplete (all : List ImageRec) : Bool := all.all fun r => (imageValue all r).isSome

/-- The PERS objects that a transfer sets: all outside 0x1100 to 0x13FF (R323). -/
def transferKey (key : Nat) : Bool := isPers key && !(0x1100 ≤ keyIndex key && keyIndex key ≤ 0x13FF)

/-- The cells of a complete transfer's objects. -/
def imageCells (all : List ImageRec) : List ObjCell :=
  (all.filter fun r => !r.isFence && r.offset == 0).map fun r =>
    ⟨r.index * 256 + r.sub, leNat ((imageValue all r).getD []), r.jsn⟩

/-- Set every PERS object of those a transfer concerns: to the imaged value, or to its Default (R323). A change of an RWS object makes the SCV
unconfirmed (R46). -/
def State.setPers (s : State) (p : Nat → Bool) (cells : List ObjCell) : State :=
  let old := s.dict.objs
  let kept := old.filter fun c => !p c.key
  let s1 := s.upDict fun d => { d with objs := (cells.filter fun c => p c.key).foldl (fun l c => storeCell c l) kept }
  let keys := (old.map (·.key) ++ cells.map (·.key)).filter fun k => p k && s.obj k != s1.obj k
  let s2 := keys.foldl (fun t k => t.afterSet k (t.obj k)) s1
  if keys.any isRws then s2.takeSps.unconfirm else s2

/-- The FENCE record of an imaged fence, marked as transferred (R323, R387). -/
def State.recordTransferred (s : State) (id jsn : Nat) : State :=
  let r := { s.mkRecord FaultName.fence.typ FaultName.fence.unit .f0 (fencePay id jsn) with xfer := true }
  s.enterDen r

/-- The imaged fence of a transfer is recorded. -/
def State.transferFence (s : State) (all : List ImageRec) : State :=
  match all.find? (·.isFence) with
  | some r => (s.recordTransferred (leNat ((imageValue all r).getD [])) r.jsn).upJrn fun j => { j with
      lastFence := leNat ((imageValue all r).getD []), lastFenceJsn := r.jsn }
  | none => s

/-- The number of entries not applied that a transfer's record gives (R323): the station lane is dense (R310). DESIGN CHOICE(159): any other lane's
JSNs have gaps, so that its target cannot tell how many entries it skipped; the number is then a free value within the JSNs passed. -/
def State.skipped (s : State) (passed : Nat) : Nat × State := if s.isStation then (passed, s) else s.drawFree (passed + 1)

/-- A complete transfer takes effect (R323). -/
def State.takeImage (s : State) (base : Nat) (all : List ImageRec) : State :=
  let s0 := s.upDict fun d => { d with userPending := d.userPending.filter fun e => base < e.jsn }
  let s1 := (s0.setPers transferKey (imageCells all)).transferFence all
  let s2 := s1.upLane s.ownLane fun l => { l with
    applied := base, trim := max l.trim base, entries := l.entries.filter (fun h => base < h.e.jsn)
    gapped := l.gapped.filter (fun e => base < e.jsn) }
  let (n, s3) := (s2.upJrn fun j => { j with
    transfers := satAdd 32 j.transfers 1, evt := setBit32 j.evt 5, unclean := false, imageRx := [] }).skipped (base - (s.laneOf s.ownLane).applied)
  s3.raiseAll [{ name := .jrnTransfer, payload := some n }]

/-- IMAGE arrives (R314): with some value still incomplete at LAST the transfer is void, and CATCHUP is sent again. -/
def State.imageIn (s : State) (base : Nat) (records : List ImageRec) (last : Bool) : State :=
  let s1 := s.upJrn fun j => { j with imageRx := j.imageRx ++ records }
  let all := s1.jrn.imageRx
  if !last then s1
  else if imageComplete all then
    let s2 := s1.takeImage base all
    let l := s2.laneOf s2.ownLane
    if s2.isMember then s2 else State.drainTarget l.code 16 s2
  else (s1.upJrn fun j => { j with imageRx := [] }).sendCatchup s1.ownLane

/-- IMAGE_RECEIVE (R314, R323). -/
def execImageReceive (base : Nat) (records : List ImageRec) (last : Bool) (s : State) : Result :=
  .next (s.onLane (s.imageIn base records last))

/-! ### The SNAPSHOT partition (R321, R48) -/

/-- SNAPSHOT_WRITE (R48, R321): the firmware's values go to the SNAPSHOT partition of a mounted store. -/
def execSnapshotWrite (s : State) : Result :=
  .next (s.onPower (if s.storeTakes then s.saveSnap.storeWork 3 else s))

end Sys2Proof.Machine
end

