-- ==== Sys2Proof/Machine/Snap.lean ====
section
/-!
DEFINITION. Sys2Proof/Machine/Snap.lean: the snapshot of a resync (R339): what it holds, its bytes, its segments, and its installation.
DESIGN CHOICE(33): the manual gives the snapshot's content and its digest and not its layout; the layout is the model's.
-/
namespace Sys2Proof.Machine

/-! ### The layout -/

/-- What a snapshot holds (R339): the lanes with their images, entries and the epochs of the pairs that journal them (R311), the PERS set and the
registered targets. -/
structure SnapData where
  lanes : List Lane := []
  objs : List ObjCell := []
  targets : List Target := []
  epochs : List (Nat × Nat) := []
  deriving DecidableEq, Repr

/-- A number of 8 bytes. -/
def le8 (v : Nat) : List Byte := leBytes 8 v

/-- A list of parts after its count. -/
def listBytes {α : Type} (f : α → List Byte) (l : List α) : List Byte := leBytes 4 l.length ++ l.flatMap f

/-- A value with its length before it. -/
def sizedBytes (n v : Nat) : List Byte := leBytes 4 n ++ leBytes n v

/-- The least number of bytes that holds a value, by fuel. -/
def byteCount : Nat → Nat → Nat
  | 0, _ => 0
  | n + 1, v => if v == 0 then 0 else byteCount n (v / 256) + 1

/-- A value of any object: at most 65,536 bytes (R44). -/
def valueBytes (v : Nat) : List Byte := sizedBytes (byteCount 65536 v) v

/-- The bytes of a held entry. -/
def heldBytes (h : HeldEntry) : List Byte :=
  let e := h.e
  leBytes 1 (b2n e.anym + 2 * b2n e.system + 4 * b2n e.confirm + 8 * b2n e.accepted + 16 * b2n h.accepted) ++ leBytes 1 (etypeCode e.etype)
    ++ leBytes 2 e.lane ++ le8 e.jsn ++ le8 e.pjsn ++ le8 e.applyAt ++ leBytes 4 e.target ++ leBytes 2 e.index ++ leBytes 1 e.sub
    ++ leBytes 1 (SessRank e.role) ++ leBytes 4 e.len ++ leBytes 4 e.swEpoch ++ leBytes 4 e.swAddr ++ leBytes 1 e.swCause ++ valueBytes e.value

/-- The bytes of an image value. -/
def imageValBytes (v : ImageVal) : List Byte := leBytes 4 v.target ++ leBytes 4 v.key ++ le8 v.jsn ++ valueBytes v.value

/-- The bytes of a lane. -/
def laneBytes (l : Lane) : List Byte :=
  leBytes 2 l.code ++ le8 l.applied ++ le8 l.trim ++ le8 l.fenceId ++ le8 l.fenceJsn ++ listBytes heldBytes l.entries ++ listBytes imageValBytes l.image

/-- The bytes of a snapshot before its digest. -/
def snapBody (d : SnapData) : List Byte :=
  listBytes laneBytes d.lanes ++ listBytes (fun (c : ObjCell) => leBytes 4 c.key ++ le8 c.jsn ++ valueBytes c.value) d.objs
    ++ listBytes (fun (t : Target) => leBytes 4 t.addr ++ le8 t.applied ++ leBytes 1 t.nstate) d.targets
    ++ listBytes (fun (e : Nat × Nat) => leBytes 2 e.1 ++ leBytes 4 e.2) d.epochs

/-- The whole snapshot: its last 32 bytes are the SHA-256 digest of the rest (R312). -/
def snapBytes (d : SnapData) : List Byte := snapBody d ++ Crc.sha256 (snapBody d)

/-! ### Reading it back -/

/-- Take a number of `n` bytes from the front. -/
def takeNat (n : Nat) (b : List Byte) : Nat × List Byte := (leNat (b.take n), b.drop n)

/-- Take parts, by their count. -/
def takeMany {α : Type} (f : List Byte → α × List Byte) : Nat → List Byte → List α × List Byte
  | 0, b => ([], b)
  | n + 1, b =>
    let x := f b
    let r := takeMany f n x.2
    (x.1 :: r.1, r.2)

/-- Take a list: its count, then its parts. -/
def takeList {α : Type} (f : List Byte → α × List Byte) (b : List Byte) : List α × List Byte :=
  let n := takeNat 4 b
  takeMany f (min n.1 b.length) n.2

/-- Take a value with its length before it. -/
def takeValue (b : List Byte) : Nat × List Byte :=
  let n := takeNat 4 b
  takeNat n.1 n.2

/-- Take a held entry: 49 bytes, then its value. What a snapshot holds is committed with it (R339). -/
def takeHeld (b : List Byte) : HeldEntry × List Byte :=
  let at' (i n : Nat) := leNat ((b.drop i).take n)
  let f := at' 0 1
  let v := takeValue (b.drop 49)
  ({ e := { anym := bitOf f 0, system := bitOf f 1, confirm := bitOf f 2, accepted := bitOf f 3, etype := etypeOfCode (at' 1 1), lane := at' 2 2
            jsn := at' 4 8, pjsn := at' 12 8, applyAt := at' 20 8, target := at' 28 4, index := at' 32 2, sub := at' 34 1
            role := sessOfCode (at' 35 1), len := at' 36 4, swEpoch := at' 40 4, swAddr := at' 44 4, swCause := at' 48 1, value := v.1 }
     committed := true, accepted := bitOf f 4 }, v.2)

/-- Take an image value. -/
def takeImageVal (b : List Byte) : ImageVal × List Byte :=
  let at' (i n : Nat) := leNat ((b.drop i).take n)
  let v := takeValue (b.drop 16)
  (⟨at' 0 4, at' 4 4, at' 8 8, v.1⟩, v.2)

/-- Take a lane. -/
def takeLane (b : List Byte) : Lane × List Byte :=
  let at' (i n : Nat) := leNat ((b.drop i).take n)
  let es := takeList takeHeld (b.drop 34)
  let im := takeList takeImageVal es.2
  ({ code := at' 0 2, applied := at' 2 8, trim := at' 10 8, fenceId := at' 18 8, fenceJsn := at' 26 8, entries := es.1, image := im.1 }, im.2)

/-- Take an object's cell. -/
def takeCell (b : List Byte) : ObjCell × List Byte :=
  let at' (i n : Nat) := leNat ((b.drop i).take n)
  let v := takeValue (b.drop 12)
  (⟨at' 0 4, v.1, at' 4 8⟩, v.2)

/-- Take a registered target. -/
def takeTarget (b : List Byte) : Target × List Byte :=
  let at' (i n : Nat) := leNat ((b.drop i).take n)
  (⟨at' 0 4, at' 4 8, at' 12 1⟩, b.drop 13)

/-- Take the epoch of a lane's pair. -/
def takeEpoch (b : List Byte) : (Nat × Nat) × List Byte := ((leNat (b.take 2), leNat ((b.drop 2).take 4)), b.drop 6)

/-- A snapshot from its bytes; none where the digest does not check (R339). -/
def snapOfBytes (b : List Byte) : Option SnapData :=
  let body := b.take (b.length - 32)
  if b.length < 32 || b.drop (b.length - 32) != Crc.sha256 body then none
  else
    let ls := takeList takeLane body
    let os := takeList takeCell ls.2
    let ts := takeList takeTarget os.2
    some { lanes := ls.1, objs := os.1, targets := ts.1, epochs := (takeList takeEpoch ts.2).1 }

/-! ### At the active member (R339) -/

/-- The snapshot at this instant: S is APPLIED_JSN of the own lane, and of each lane the accepted entries up to S are in it. -/
def State.snapNow (s : State) : SnapData :=
  let upTo := s.appliedJsn
  { lanes := s.jrn.lanes.map fun l => { l with gapped := [], entries := l.entries.filter fun h => h.e.jsn ≤ upTo }
    objs := s.dict.objs.filter fun c => isPers c.key
    targets := s.jrn.targets
    epochs := s.jrn.armEpochs }

/-- One SNAP segment at an offset, at most 1,000 bytes (R312). -/
def State.sendSnap (s : State) (off : Nat) : State :=
  let b := s.jrn.snapFrozen
  let d := (b.drop off).take 1000
  if d.isEmpty then s
  else s.sendPartner .journal (s.jrnHead 0x0C (b2n (b.length ≤ off + d.length)) s.ownLane 0 ++ leBytes 4 off ++ leBytes 4 b.length ++ d)

/-- The time that a SNAP frame of `n` payload bytes takes of each path at RESYNC_SHARE of its normal-frame capacity (R339), in taps. DESIGN CHOICE(34):
the capacity is that of an up link in the worst case, 873 blocks in 10 µs. -/
def State.snapPace (s : State) (n : Nat) : Nat := (2 + (n + 20 - 7) / 8) * 10 * tapsUs * 100 / (873 * max 1 (s.obj Obj.RESYNC_SHARE)) + 1

/-- The active member sends the next SNAP segment once RESYNC_SHARE lets it (R339). -/
def State.snapTick (s : State) : State :=
  match s.jrn.snapNext with
  | none => s
  | some off =>
    if s.tb.taps < s.jrn.snapNextAt then s
    else if !s.isActive then s.upJrn fun j => { j with snapNext := none }
    else
      let n := min 1000 (s.jrn.snapFrozen.length - off)
      (s.sendSnap off).upJrn fun j => { j with
        snapNext := if off + n < j.snapFrozen.length then some (off + n) else none, snapNextAt := s.tb.taps + s.snapPace (n + 24) }

/-- SNAP_REQ arrives at the active member (R339): at offset 0 the snapshot is frozen; the segments from the offset on leave one after the other. -/
def State.snapReqRx (s : State) (off : Nat) : State :=
  if !s.isActive then s
  else
    let s1 := if off == 0 then (s.storeWork 5).upJrn fun j => { j with snapFrozen := snapBytes s.snapNow, snapSize := (snapBytes s.snapNow).length } else s
    (s1.upJrn fun j => { j with snapNext := some off }).snapTick

/-- SNAP_REQ_RECEIVE (R339). -/
def execSnapReqReceive (offset : Nat) (s : State) : Result := .next (s.onLane (s.snapReqRx offset))

/-! ### At the resynchronising member (R339) -/

/-- The PERS objects that a member takes from its partner's snapshot: those of its place and its wiring stay its own. -/
def snapKey (key : Nat) : Bool := transferKey key && key != Obj.STATION_MEMBER

/-- A complete snapshot is written to the JOURNAL and SNAPSHOT partitions, and replaces the former journal (R339); the stored entries
above S are processed, and the member catches up. -/
def State.installSnap (s : State) (d : SnapData) : State :=
  let s0 := s.upDict fun d => { d with userPending := [] }
  let s1 := (s0.setPers snapKey d.objs).upJrn fun j => { j with
    lanes := d.lanes, targets := d.targets, armEpochs := d.epochs, snapDone := true, snapParts := [], snapStored := [], imageRx := []
    journalBytes := ((d.lanes.filter (·.code == s.ownLane)).flatMap (·.entries)).foldl (fun n h => n + entrySize h.e) 0, ramBytes := 0
    lastJsn := if s.isStation then (d.lanes.filter (·.code == s.ownLane)).foldl (fun n l => max n (laneLast l)) 0 else j.lastJsn }
  let s2 := s.jrn.snapStored.foldl (fun t e => t.entryRx e) s1.saveSnap
  s2.sendCatchup s2.ownLane

/-- The parts of a snapshot as one, from offset 0 on. -/
def snapJoin : Nat → List (Nat × List Byte) → Nat → List Byte
  | 0, _, _ => []
  | n + 1, parts, at' =>
    match parts.find? fun p => p.1 == at' && !p.2.isEmpty with
    | some p => p.2 ++ snapJoin n parts (at' + p.2.length)
    | none => []

/-- SNAP arrives (R339, R341): the parts are kept until all are there and the digest checks. With a wrong digest every part is asked for
again. -/
def State.snapRx (s : State) (offset total : Nat) (data : List Byte) : State :=
  if s.jrn.pstate != .resync || s.jrn.snapDone then s
  else
    let s1 := s.upJrn fun j => { j with snapSize := total, snapAskAt := s.tb.taps, snapParts := (offset, data) :: j.snapParts.filter (·.1 != offset) }
    let all := snapJoin s1.jrn.snapParts.length s1.jrn.snapParts 0
    if total == 0 || all.length != total then s1
    else match snapOfBytes all with
      | some d => s1.installSnap d
      | none => (s1.upJrn fun j => { j with snapParts := [] }).sendSnapReq 0

/-- SNAP_RECEIVE (R339); LAST marks the segment that ends with the digest. -/
def execSnapReceive (offset total : Nat) (data : List Byte) (last : Bool) (s : State) : Result :=
  .next (s.onLane (if !last || offset + data.length == total then s.snapRx offset total data else s))

end Sys2Proof.Machine
end

