-- ==== Sys2Proof/Machine/Redundancy.lean ====
section
/-!
DEFINITION. Sys2Proof/Machine/Redundancy.lean: the pair as its PAIR frames see it (R312, R316, R329 to R331, R133, R285), and taking over (R332).
-/
namespace Sys2Proof.Machine

/-! ### PAIR frames (R312, R329) -/

/-- A member that has joined, with its time LOCKED, enters INIT (R329). DEDUCED(37): at the exchange of PAIR frames. -/
def State.enterInit (s : State) : State :=
  if s.isMember && s.node.joined && s.jrn.pstate == .none && s.tb.state == .locked then
    s.upJrn fun j => { j with pstate := .init, upLostTx := true, partnerTap := if j.partner.isSome then j.partnerTap else s.tb.taps }
  else s

/-- The payload of PAIR (R312). -/
def State.pairBytes (s : State) : List Byte :=
  s.jrnHead 9 0 s.ownLane 0 ++ leBytes 1 (pairCode s.jrn.pstate) ++ leBytes 1 s.healthBits ++ leBytes 2 0 ++ leBytes 4 (digest4 s.fwDigest)
    ++ leBytes 4 (digest4 s.programDigest) ++ leBytes 4 (digest4 s.graphDigest) ++ leBytes 8 (laneCommitted (s.laneOf s.ownLane))

/-- 1 ms has passed since the latest PAIR frame (R312). -/
def State.pairDue (s : State) : Bool :=
  match s.jrn.pairAt with
  | some t => decide (t + tapsMs ≤ s.tb.taps)
  | none => true

/-- PAIR_SEND (R312): every 1 ms. -/
def execPairSend (s : State) : Result :=
  .next (s.onPower (
    if s.isMember && s.node.joined && s.pairDue then
      (s.enterInit.sendPartner .journal s.enterInit.pairBytes).upJrn fun j => { j with pairAt := some s.tb.taps }
    else s))

/-- A member in INIT becomes ACTIVE, its commit set alone (R316, R329, R331); its epoch stays. An ARM member asks the STATION for what its lane
has gained while its pair had no active member (R317). -/
def State.becomeActive (s : State) : State :=
  let s1 := s.upJrn fun j => { j with
    pstate := .active, upLostTx := false, lastJsn := max j.lastJsn (laneLast (s.laneOf s.ownLane)), activeFrom := s.pairCycle + 1 }
  let s2 := ((s1.ovrRestart.commitTrial).goAlone true).advance
  if s2.isArm then s2.sendCatchup s2.ownLane else s2

/-- This member wins over its partner in INIT (R331). -/
def State.winsOver (s : State) (m : PairMsg) : Bool :=
  let mine := laneCommitted (s.laneOf s.ownLane)
  if s.jrn.epoch != m.epoch then m.epoch < s.jrn.epoch
  else if mine != m.committed then m.committed < mine
  else !s.memberB

/-- The partner is ACTIVE: its epoch is the pair's, and one that rose while this member was not active opens the gap (R328, R332). -/
def State.followEpoch (s : State) (m : PairMsg) : State :=
  if s.isActive || m.pstate != .active || m.epoch ≤ s.jrn.epoch then s
  else
    let s1 := s.upJrn fun j => { j with epoch := m.epoch }
    if s.jrn.pstate == .init then s1 else s1.upRecd fun r => { r with gapOpen := true }

/-- What INIT passes to on a PAIR frame (R329, R331). DEDUCED(36): a partner that reports RESYNC has already lost. -/
def State.initWith (s : State) (m : PairMsg) : State :=
  match m.pstate with
  | .active => if s.objB Obj.AUTO_RESYNC then s.startResync else s.upJrn fun j => { j with pstate := .unhealthy, upLostTx := true }
  | .init => if s.winsOver m then s.becomeActive else s.startResync
  | .resync => if s.winsOver m then s.becomeActive else s
  | .none | .standby | .unhealthy | .yielded => s

/-- What a PAIR frame means for the commit set of the active member (R316, R339). -/
def State.commitSet (s : State) (m : PairMsg) : State :=
  let s1 := if m.pstate == .resync then s.upJrn fun j => { j with dropped := false } else s
  if m.pstate == .standby && m.health == 63 then
    (if s1.jrn.dropped then s1 else (s1.upJrn fun j => { j with alone := false }).endRun .jrnSingle 0)
  else if s1.jrn.alone then s1
  else (s1.goAlone true).advance

/-- The digests of the pair's programs and graphs (R133, R285). -/
def State.digestFaults (s : State) : State :=
  let s1 := if s.digestDiffers (·.progDigest) s.programDigest then s.raiseRun .trdlProgramDiffers else s.endRun .trdlProgramDiffers 0
  if s1.digestDiffers (·.graphDigest) s1.graphDigest then s1.raiseRun .hdlGraphDiffers else s1.endRun .hdlGraphDiffers 0

/-- The noted health of the partner, with its event (R343). -/
def State.notePartner (s : State) : State :=
  let h := s.partnerHealthy
  if h == s.jrn.pHealthyWas then s else s.upJrn fun j => { j with pHealthyWas := h, evt := setBit32 j.evt 3 }

/-- The second that an aborted resync waits for its next try (R341) is not over. -/
def State.abortWait (s : State) : Bool := match s.jrn.abortAt with | some t => decide (s.tb.taps < t + tapsS) | none => false

/-- The pair state after a PAIR frame (R329, R330, R341): an UNHEALTHY member whose cause is gone resynchronises, after an abort 1 s later. -/
def State.pairMove (s : State) (m : PairMsg) : State :=
  match s.jrn.pstate with
  | .init => s.initWith m
  | .active => s.commitSet m
  | .resync => if m.pstate == .active || m.pstate == .init then s else s.resyncAbort
  | .unhealthy => if s.abortWait then s else s.autoResync
  | .none | .standby | .yielded => s

/-- PAIR arrives (R316, R329 to R331). -/
def State.pairRx (s : State) (m : PairMsg) : State :=
  if !s.isMember then s
  else
    let s0 := s.enterInit
    let s1 := (s0.upJrn fun j => { j with partner := some m, partnerTap := s.tb.taps }).digestFaults
    (((s1.followEpoch m).notePartner).pairMove m).healthCheck

/-- PAIR_RECEIVE (R316, R329 to R331). -/
def execPairReceive (m : PairMsg) (s : State) : Result := .next (s.onLane (s.pairRx m))

/-- The active member drops its partner from the commit set (R316). -/
def State.dropPartner (s : State) : State := if s.isActive && !s.jrn.alone then (s.goAlone true).advance else s

/-- PARTNER_SILENT (R316): no PAIR frame for 10 ms. -/
def execPartnerSilent (s : State) : Result :=
  .next (s.onPower (if s.isMember && !s.partnerFresh then s.notePartner.dropPartner else s))

/-- An entry has awaited the partner's COMMIT_ACK for 10 ms (R316). -/
def State.ackLate (s : State) : Bool :=
  (s.laneOf s.pairLane).entries.any fun h => !h.accepted && !h.acked && h.since + 10 * tapsMs ≤ s.tb.taps

/-- COMMIT_ACK_TIMEOUT (R316). -/
def execCommitAckTimeout (s : State) : Result := .next (s.onPower (if s.isActive && s.ackLate then s.dropPartner else s))

/-- PAIR_WAIT_TIMEOUT (R329): no PAIR frame from the partner for PAIR_WAIT seconds. -/
def execPairWaitTimeout (s : State) : Result :=
  .next (s.onPower (
    if s.isMember && s.jrn.pstate == .init && s.jrn.partnerTap + s.obj Obj.PAIR_WAIT * tapsS ≤ s.tb.taps then s.becomeActive else s))

/-! ### Taking over (R332) -/

/-- The entries already accepted that some target has not yet reported are delivered again; targets discard what they had (R332). -/
def State.redeliver (s : State) : State :=
  let lane := s.pairLane
  let low := s.lowestApplied lane
  if s.isArm then
    ((s.laneOf lane).entries.filter fun h => h.accepted && low < h.e.jsn).foldl (fun t h => t.sendEntry h.e fun u b => u.sendTwin (cellAddr lane 0x3FFF) b) s
  else
    let arms := s.armLanes.foldl (fun t a =>
      ((t.laneOf a).entries.filter fun h => !h.accepted).foldl (fun u h => u.sendEntry h.e fun v b => v.sendDown .journal (armAddr a false) true b) t) s
    ((arms.laneOf relayLane).entries.filter fun h => arms.lowestApplied relayLane < h.e.jsn).foldl
      (fun t h => t.relays.foldl (fun u a => u.sendEntry h.e fun v b => v.sendDown .journal a false b) t) arms

/-- The SWITCH entry is requested (R332): the STATION journals its own; an ARM member shows its new epoch in ACCEPTED traffic. -/
def State.requestSwitch (s : State) (cause : Nat) : State :=
  if s.isStation then
    s.journal { etype := .switch, system := true, target := s.addr, swEpoch := s.jrn.epoch, swAddr := s.addr, swCause := cause }
  else s.sendAccepted s.pairLane

/-- The standby becomes ACTIVE (R328, R332): a higher epoch, every committed entry accepted and delivered, and a SWITCH entry requested. -/
def State.takeOver (s : State) : State :=
  let cause := s.jrn.triggerCause
  let s1 := s.upJrn fun j => { j with
    pstate := .active, upLostTx := false, epoch := (j.epoch + 1) % 2 ^ 32, busy := true, yieldCause := none
    switches := satAdd 32 j.switches 1, lastCause := cause, lastTime := nt96 s.tb.ntF, evt := setBit32 j.evt 2
    lastJsn := max j.lastJsn (laneLast (s.laneOf s.ownLane)), activeFrom := if s.isArm then s.arm.mergedK else s.pairCycle, triggerAt := none }
  let s2 := (((s1.upRecd fun r => { r with gapOpen := true }).upArm fun a => { a with stallRun := 0 }).ovrRestart).endRun .jrnNoStandby 0
  let s3 := if s2.isStation then s2.upLink fun l => { l with lan := { l.lan with gp := l.lan.gp.map fun g => { g with lastVals := [] } } } else s2
  let s4 := (if s3.partnerHealthy then s3 else s3.goAlone true).raise .jrnSwitch
  (s4.redeliver.advance).requestSwitch cause

/-- TAKEOVER (R332): in the step of the TD(0) or boundary that gave the trigger, at a standby that is healthy, and at no other moment. -/
def execTakeover (s : State) : Result :=
  .next (s.onPower (
    if s.isMember && s.jrn.pstate == .standby && s.healthy && s.jrn.triggerAt == some s.tb.taps then s.takeOver else s))

end Sys2Proof.Machine
end

