-- ==== Sys2Proof/Machine/Flash.lean ====
section
/-!
DEFINITION. Sys2Proof/Machine/Flash.lean: what the end of a flash operation does (R315, R399, R409 to R412).
-/
namespace Sys2Proof.Machine

/-- The priority of work on a partition by its code (R409). -/
def partPriority (part : Nat) : Nat :=
  match part with
  | 3 => 2
  | 4 => 3
  | 5 => 4
  | _ => 6

/-- Everything a lane holds is in the JOURNAL partition (R315); `fresh` where the member may commit what it has not committed yet. -/
def Lane_commitAll (fresh : Bool) (l : Lane) : Lane :=
  let es := l.entries.map fun h => { h with committed := h.committed || fresh, ram := false }
  { l with entries := es, head := max l.head (laneCommitted { l with entries := es }) }

/-- A JOURNAL write ends (R315, R317): what the member holds is committed, its RAM buffer is flushed, and acceptance goes on. After the falling edge
of PFAIL_N nothing further is committed, and while MEDIA_FAULT is raised only the RAM buffer commits (R400). -/
def State.journalWritten (s : State) : State :=
  if s.recd.media then s
  else
    let s1 := s.upJrn fun j => { j with
      ramBytes := 0, lanes := j.lanes.map fun l => if l.code == s.pairLane then Lane_commitAll (!s.sys.pfailLow) l else l }
    if s.sys.pfailLow then s1
    else if s1.isActive then s1.advance
    else if s1.jrn.pstate == .standby then (s1.sendCommitAck s1.pairLane).processLane s1.pairLane s1.pairCycle
    else s1

/-- A page of sectors has been programmed (R406): each takes the next WSEQ. -/
def Bob.programmed (part : Nat) (place : PhysBlock) (sectors : List (Nat × Nat)) (b : Bob) : Bob :=
  sectors.foldl (fun b e => { b with
    sectors := writeSector b.sectors { part := part, copy := e.1, lsn := e.2, wseq := b.wseq, place := place }, wseq := (b.wseq + 1) % 2 ^ 32 })
    { b with tries := b.tries.filter (·.1 != PhysBlock_key place) }

/-- Queued work of a priority ends (R409). A program with none of its own queued was a relocation. -/
def Bob.worked (p : Nat) (b : Bob) : Bob := { b with work := b.work.filter (· != if b.work.contains p then p else 7) }

/-- A page program failed (R399, R412): at its third failure the block is replaced. -/
def State.programFailed (s : State) (part : Nat) (place : PhysBlock) : State :=
  let n := (assoc s.bob.tries (PhysBlock_key place)).getD 0 + 1
  let s1 := s.upBob fun b => { b with progFail := satAdd 32 b.progFail 1, tries := putAssoc b.tries (PhysBlock_key place) n }
  if n < 3 then s1 else (s1.upBob fun b => { b with tries := b.tries.filter (·.1 != PhysBlock_key place) }).takeSpare 2 place part

/-- The partition of the sectors that a block holds, 0 where it holds none. -/
def Bob.partAt (b : Bob) (p : PhysBlock) : Nat := ((b.sectors.find? (·.place == p)).map (·.part)).getD 0

/-- The end of a flash operation at a mounted store. -/
def State.flashDone (s : State) (work : FlashOp) (ok : Bool) : State :=
  match work with
  | .program part place sectors =>
    if !ok then s.programFailed part place
    else
      let s1 := s.upBob fun b => (b.worked (partPriority part)).programmed part place sectors
      if part == 3 && s1.isMember then s1.journalWritten else s1
  | .erase place =>
    let s1 := s.upBob (Bob.worked 9)
    if ok then s1.upBob (Bob.erased place)
    else (s1.upBob fun b => { b with eraseFail := satAdd 32 b.eraseFail 1 }).takeSpare 3 place (s.bob.partAt place)
  | .read part sec data refresh unread other => (s.upBob (Bob.worked 5)).sectorRead part sec data refresh (unread || !ok) other

/-- FLASH_OP_DONE (R409); after a power-fail flush no flash operation runs (R429). -/
def execFlashOpDone (work : FlashOp) (ok : Bool) (s : State) : Result :=
  .next (s.onPower (if s.bob.mounted && !s.flashStopped then s.flashDone work ok else s))

end Sys2Proof.Machine
end

