-- ==== Sys2Proof/Machine/Service.lean ====
section
/-!
DEFINITION. Sys2Proof/Machine/Service.lean: the dictionary service (R51 to R69): sessions, the static checks, expedited and segmented transfers,
block transfers, and what a request becomes at the STATION and at its target.
-/
namespace Sys2Proof.Machine

/-! ### Opcodes and answers (R51, R52) -/

abbrev opRead : Nat := 1
abbrev opWrite : Nat := 2
abbrev opSegRead : Nat := 3
abbrev opSegWrite : Nat := 4
abbrev opBlockInit : Nat := 5
abbrev opBlockData : Nat := 6
abbrev opBlockEnd : Nat := 7
abbrev opAbort : Nat := 15

/-- The object a request names. -/
def Request_key (r : Request) : Nat := r.index * 256 + r.sub

/-- The data bytes of a request. -/
def Request_data (r : Request) : List Byte := leBytes r.len r.value

/-- A read opcode. -/
def isReadOp (op : Nat) : Bool := op == opRead || op == opSegRead

/-- A block opcode. -/
def isBlockOp (op : Nat) : Bool := op == opBlockInit || op == opBlockData || op == opBlockEnd

/-- The SDU of a request as the STATION forwards it, with the session's role in its ROLE byte (R51, R59). -/
def requestBytes (op : Nat) (r : Request) : List Byte :=
  leBytes 1 op ++ leBytes 1 (b2n r.confirm + 2 * b2n r.lastSeg) ++ leBytes 2 r.tid ++ leBytes 3 (r.target % 2 ^ 19) ++ leBytes 1 0
    ++ leBytes 2 r.index ++ leBytes 1 r.sub ++ leBytes 1 (SessRank r.role) ++ leBytes 4 r.param ++ Request_data r

/-- Answer a request (R52). -/
def State.reply (s : State) (op : Nat) (r : Request) (st : Status) (param : Nat) (data : List Byte) : State :=
  s.respond { via := r.via, tid := r.tid, op := op, status := st, param := param, target := r.target, key := Request_key r, data := data }

/-- Refuse a request: counted where it is refused, and written as a record by its target, a STATION member included (R69, R76). -/
def State.replyNo (s : State) (op : Nat) (r : Request) (st : Status) : State :=
  let s1 := if s.isStation then s.refuseHere st (Request_key r) else s.countRefusal st.code (Request_key r)
  (if r.target == s.addr || !s.isStation then s1.raiseAll [{ name := .refusal, payload := some (refusalPay st.code (Request_key r) 0) }]
    else s1).reply op r st 0 []

/-! ### Static checks (R53, R63) -/

/-- The objects that block transfers load (R56). -/
def isBlockKey (key : Nat) : Bool := [Obj.IMAGE_STAGE, Obj.PROGRAM, Obj.GRAPH, Obj.USER_FILE].contains key

/-- The row of an object at a target (R42): the user objects of another node are known to that node alone. -/
def State.rowFor (s : State) (target key : Nat) : Option ObjRow :=
  if isUserKey key && target != s.addr then some (if keySub key == 0 then subZeroRow key else userRow key)
  else s.objRow (addrRole target) key

/-- The target of a request is joined (R63, R64). DESIGN CHOICE(127): a STATION member's knowledge of another node's joining comes with
the request, since no frame of the manual brings it for a cell. -/
def State.targetJoined (s : State) (r : Request) : Bool := r.target == s.addr || r.joined

/-- The TARGET check (R6, R63, R65). -/
def State.targetCheck (s : State) (op : Nat) (r : Request) : Status :=
  if dstReserved r.target then .range
  else if isArmBroadcast r.target && (isReadOp op || isBlockOp op || r.confirm) then .notBroadcast
  else if isReadOp op && !s.targetJoined r then .unreachable
  else .ok

/-- NO_OBJECT, NO_SUBINDEX, ROLE, ACCESS and SEALED of a request (R45, R63). -/
def State.objCheck (s : State) (op : Nat) (r : Request) : Status :=
  let key := Request_key r
  match s.rowFor r.target key with
  | none => if s.hasIndex (addrRole r.target) r.index then .noSubindex else .noObject
  | some row => if isReadOp op then (if row.acc == .wo then .access else .ok) else s.writeRights row key (if op == opWrite then r.value else 0) r.role

/-- The largest size of an object's value, an image's being its slot's (R407, R422). DESIGN CHOICE(185): a STATION bounds an image for another
node by its own slot size, since no rule tells it that node's. -/
def State.capacity (s : State) (row : ObjRow) (key : Nat) : Nat :=
  if key == Obj.IMAGE_STAGE && s.bob.mounted then vget s.bob.partSize (1 - s.sys.slot) 0 * 1048576 else row.ty.size

/-- LENGTH and TOO_LARGE (R52, R53, R55, R56); `got` is the offset of a segmented write's segment. -/
def State.lengthCheck (s : State) (op : Nat) (r : Request) (row : ObjRow) (got : Nat) : Status :=
  let key := Request_key r
  let n := row.ty.size
  if isBlockOp op then
    (if !isBlockKey key then .length
    else if op == opBlockInit && s.capacity row key < r.param then .tooLarge
    else if op == opBlockEnd && r.len != 32 then .length
    else if op == opBlockData && 512 < r.len then .length
    else .ok)
  else if op == opRead then (if n ≤ 8 then .ok else .length)
  else if op == opSegRead then (if n ≤ 8 then .length else if 65536 < n then .tooLarge else .ok)
  else if isBlockKey key then .length
  else if op == opWrite then (if n ≤ 8 && r.len == n then .ok else .length)
  else if n ≤ 8 || 512 < r.len then .length
  else if n < got + r.len || 65536 < n then .tooLarge
  else if r.lastSeg && got + r.len != n then .length
  else .ok

/-- A switch-over is in progress for the pair that would journal a write (R67). -/
def State.pairBusy (s : State) (target : Nat) : Bool :=
  match addrRole target with
  | .cell | .arm => s.jrn.busyArms.contains (addrArm target)
  | .relay | .station => s.jrn.busy

/-- RANGE and BUSY of a complete value (R63). Through the arm broadcast an own-address object has no one address to be compared
with: the entry is accepted and every cell refuses it (R41, R65). -/
def State.valueCheck (s : State) (r : Request) (row : ObjRow) (value : Nat) : Status :=
  let own := if isArmBroadcast r.target then value else r.target
  if !rangeOk (addrRole r.target) own row (Request_key r) value then .range
  else if s.pairBusy r.target then .busy
  else .ok

/-- The first checks in their order (R63). -/
def State.preCheck (s : State) (op : Nat) (r : Request) (got : Nat) : Status :=
  let t := if s.isStation then s.targetCheck op r else .ok
  if t != .ok then t
  else
    let o := s.objCheck op r
    if o != .ok then o
    else match s.rowFor r.target (Request_key r) with
      | some row => s.lengthCheck op r row got
      | none => .noObject

/-! ### Forwarding (R59, R62) -/

/-- Send a request down to its target, the partner included, and wait for the result. -/
def State.passDown (s : State) (op : Nat) (r : Request) : State :=
  let w : Waiting := { via := r.via, tid := r.tid, op := op, target := r.target, jsn := 0, confirm := false, key := Request_key r,
                       since := s.tb.taps }
  let s1 := if s.dict.waiting.any fun y => { y with since := w.since } == w then s else s.await w
  if r.target == partnerAddr s.addr then s1.sendPartner .service (requestBytes op r)
  else s1.sendDown .service r.target false (requestBytes op r)

/-! ### Cursors of another node (R47) -/

/-- The key under which a session keeps its cursor of another node. -/
def remoteCursor (target key : Nat) : Nat := 2 ^ 24 * (target + 1) + key

/-- The cursors of an RX object (R299, R323, R403). -/
def cursorsOf (key : Nat) : List Nat :=
  if key == Obj.OPWAIT then [Obj.OPWAIT_CURSOR]
  else if key == Obj.TARGET_TABLE then [Obj.TARGET_CURSOR]
  else if key == Obj.REC_WINDOW then [Obj.REC_STREAM, Obj.REC_CURSOR]
  else []

/-- Send a session's cursor ahead of its read, so that the target's window stands where this session has set it (R47). -/
def State.sendCursor (r : Request) (s : State) (key : Nat) : State :=
  let v := s.cursor r.via (remoteCursor r.target key)
  let n := match tableRow key with | some row => row.ty.size | none => 4
  s.sendDown .service r.target false (requestBytes opWrite { r with index := keyIndex key, sub := keySub key, len := n, value := v })

/-- Pass a read on (R47, R59): the cursors of the session go before it. -/
def State.passRead (s : State) (op : Nat) (r : Request) : State :=
  ((if op == opSegRead && r.param != 0 then [] else cursorsOf (Request_key r)).foldl (State.sendCursor r) s).passDown op r

/-! ### Reads (R54) -/

/-- One part of a segmented read from its snapshot; with the last byte the snapshot is released. -/
def State.segPart (s : State) (r : Request) (x : SegRead) : State :=
  let rest := s.dict.segReads.filter fun y => !(y.via == r.via && y.tid == r.tid)
  let s1 := s.upDict fun d => { d with segReads := if x.size ≤ r.param + 512 then rest else { x with last := s.tb.taps } :: rest }
  s1.reply opSegRead r .ok x.size (((leBytes x.size x.snapshot).drop r.param).take 512)

/-- An object whose value stands in the store (R403, R407). -/
def inStore (key : Nat) : Bool := [Obj.REC_WINDOW, Obj.USER_FILE, Obj.DICT_IMAGE].contains key

/-- A segmented read at its target (R54): offset 0 takes the snapshot; a value in the store is read there as foreground work (R409). -/
def State.segReadHere (s : State) (r : Request) (row : ObjRow) : State :=
  let key := Request_key r
  if r.param == 0 then
    (if inStore key then s.storeWork 5 else s).segPart r { via := r.via, tid := r.tid, key := key, snapshot := s.readFor r.via key, size := row.ty.size }
  else match s.dict.segReads.find? fun y => y.via == r.via && y.tid == r.tid && y.key == key with
    | some x => s.segPart r x
    | none => s.replyNo opSegRead r .snapshotLost

/-- A read at its target (R52, R54). -/
def State.readHere (s : State) (op : Nat) (r : Request) : State :=
  match s.rowFor r.target (Request_key r) with
  | none => s.replyNo op r .noObject
  | some row =>
    if op == opRead then s.reply op r .ok 0 (leBytes row.ty.size (s.readFor r.via (Request_key r))) else s.segReadHere r row

/-! ### Writes (R47, R55, R64) -/

/-- Journal a complete value (R64): the request waits for its acceptance, or with CONFIRM for its result. -/
def State.journalWrite (s : State) (op : Nat) (r : Request) (len value : Nat) : State :=
  let w : Waiting := { via := r.via, tid := r.tid, op := op, target := r.target, jsn := s.jrn.lastJsn + 1, confirm := r.confirm,
                       key := Request_key r, since := s.tb.taps, joined := s.targetJoined r }
  let e : JEntry := if Request_key r == Obj.FENCE then { etype := .fence, system := true, value := value, target := s.addr, role := r.role }
    else { target := r.target, confirm := r.confirm, index := r.index, sub := r.sub, role := r.role, len := len, value := value }
  (s.await w).journal e

/-- A complete value whose first checks have passed (R47, R63): a cursor is set for its session alone and not journaled. DESIGN
CHOICE(129): the answer to a cursor write, which has no JSN, holds the JSN 0. -/
def State.writeValue (s : State) (op : Nat) (r : Request) (row : ObjRow) (len value : Nat) : State :=
  let key := Request_key r
  if isCursor key then
    (if !rangeOk (addrRole r.target) r.target row key value then s.replyNo op r .range
    else (s.setCursor r.via (if r.target == s.addr then key else remoteCursor r.target key) value).reply op r .ok 0 (leBytes 8 0))
  else if key == Obj.FENCE then
    (let st := if r.target == s.addr then s.fenceStatus value r.role else .notActive
     if st == .ok then s.journalWrite op r len value else s.replyNo op r st)
  else
    let rights := s.writeRights row key value r.role
    let st := if rights == .ok then s.valueCheck r row value else rights
    if st == .ok then s.journalWrite op r len value else s.replyNo op r st

/-- WRITE at the STATION (R61, R63). -/
def State.writeStation (s : State) (r : Request) : State :=
  if !s.isActive then s.replyNo opWrite r .notActive
  else
    let st := s.preCheck opWrite r 0
    match s.rowFor r.target (Request_key r) with
    | some row => if st == .ok then s.writeValue opWrite r row r.len r.value else s.replyNo opWrite r st
    | none => s.replyNo opWrite r st

/-- The segmented write of a request, if one is open. -/
def State.segWriteOf (s : State) (via : Via) (tid : Nat) : Option SegWrite := s.dict.segWrites.find? fun x => x.via == via && x.tid == tid

/-- A segmented write ends or is dropped. -/
def State.dropSegWrite (s : State) (via : Via) (tid : Nat) : State :=
  s.upDict fun d => { d with segWrites := d.segWrites.filter fun x => !(x.via == via && x.tid == tid) }

/-- SEG_WRITE at the STATION (R55, R63): the static checks, then consecutive offsets from 0; the segment with LAST makes the whole value
one command. -/
def State.segWriteStation (s : State) (r : Request) : State :=
  let key := Request_key r
  let x := (s.segWriteOf r.via r.tid).getD { via := r.via, tid := r.tid, target := r.target, key := key, received := [] }
  let st := s.preCheck opSegWrite r r.param
  if !s.isActive then s.replyNo opSegWrite r .notActive
  else match s.rowFor r.target key with
    | none => (s.dropSegWrite r.via r.tid).replyNo opSegWrite r st
    | some row =>
      if st != .ok then (s.dropSegWrite r.via r.tid).replyNo opSegWrite r st
      else if r.param != x.received.length || x.key != key || x.target != r.target then (s.dropSegWrite r.via r.tid).replyNo opSegWrite r .sequence
      else
        let all := x.received ++ Request_data r
        let s1 := s.dropSegWrite r.via r.tid
        if r.lastSeg then s1.writeValue opSegWrite r row all.length (leNat all)
        else (s1.upDict fun d => { d with segWrites := { x with received := all, last := s.tb.taps } :: d.segWrites }).reply opSegWrite r .ok 0 []

/-! ### Block transfers (R56) -/

/-- The block transfer of a request, if one is open. -/
def State.blockOf (s : State) (r : Request) : Option BlockXfer :=
  s.dict.blocks.find? fun b => b.via == r.via && b.tid == r.tid && b.key == Request_key r

/-- A block transfer ends or is dropped. -/
def State.dropBlock (s : State) (via : Via) (tid : Nat) : State :=
  s.upDict fun d => { d with blocks := d.blocks.filter fun b => !(b.via == via && b.tid == tid) }

/-- How many segments a size takes. -/
def segCount (size : Nat) : Nat := (size + 511) / 512

/-- The bytes that segment `n` of a transfer has. -/
def segLen (size n : Nat) : Nat := min 512 (size - 512 * n)

/-- BLOCK_INIT at the target: MEDIA where the store cannot take the data (R68). -/
def State.blockInitHere (s : State) (r : Request) : State :=
  if !s.bob.mounted || s.recd.media then s.replyNo opBlockInit r .media
  else
    let b : BlockXfer := ⟨r.via, r.tid, Request_key r, r.param, []⟩
    let s1 := (s.dropBlock r.via r.tid).upDict fun d => { d with blocks := b :: d.blocks }
    (s1.upSys fun y => { y with imageStatus := if Request_key r == Obj.IMAGE_STAGE then 1 else y.imageStatus }).reply opBlockInit r .ok (segCount r.param) []

/-- The bitmap of a window (R56). -/
def windowBits (b : BlockXfer) (w : Nat) : Nat :=
  (List.range 32).foldl (fun n j => n + 2 ^ j * b2n (b.segs.any fun x => x.1 == 32 * w + j)) 0

/-- Every segment before a window has been received. -/
def windowsDone (b : BlockXfer) (w : Nat) : Bool := (List.range (32 * w)).all fun n => b.segs.any fun x => x.1 == n

/-- BLOCK_DATA at the target: a response at the end of a window or of the data; without an open transfer, SEQUENCE, DESIGN CHOICE(128).
DEDUCED(39): a segment of a later window that comes before
the missing ones of an earlier window is refused as SEQUENCE. The data goes to the store as background work. -/
def State.blockDataHere (s : State) (r : Request) : State :=
  match s.blockOf r with
  | none => s.replyNo opBlockData r .sequence
  | some b =>
    let n := r.param
    if segCount b.size ≤ n || !windowsDone b (n / 32) then s.replyNo opBlockData r .sequence
    else
      let b1 := if r.len == segLen b.size n then { b with segs := (n, Request_data r) :: b.segs.filter (·.1 != n) } else b
      let s1 := ((s.dropBlock r.via r.tid).upDict fun d => { d with blocks := b1 :: d.blocks }).storeWork 6
      if n % 32 == 31 || n + 1 == segCount b.size then s1.reply opBlockData r .ok (windowBits b1 (n / 32)) [] else s1

/-- The data of a transfer, in order; what is missing is not there. -/
def blockData (b : BlockXfer) : List Byte :=
  (List.range (segCount b.size)).flatMap fun n => ((b.segs.find? (·.1 == n)).map (·.2)).getD []

/-- The facts of a firmware image (R422). -/
def imageSlot (slotBytes : Nat) (data : List Byte) : FwSlot :=
  let at' (i n : Nat) := leNat ((data.drop i).take n)
  let size := at' 16 4
  let v := leNat data
  { headerOk := at' 0 4 == 0x494D524B && at' 4 4 == 1
    keyOk := at' 88 1 ≤ 3 && Config.imageKeyOk data.length v
    sigOk := Config.imageSigOk data.length v
    sizeOk := size + 256 ≤ slotBytes && size + 256 ≤ data.length
    digestOk := Crc.sha256 ((data.drop 256).take size) == (data.drop 24).take 32
    safetyDigestOk := Config.imageSafetyOk data.length v
    size := size, version := at' 8 4, svn := at' 12 4, digest := at' 24 32 }

/-- A staged image is checked (R423). -/
def State.stageImage (s : State) (data : List Byte) : State :=
  let n := 1 - s.sys.slot
  let f := imageSlot (vget s.bob.partSize n 0 * 1048576) data
  s.upSys fun y => { y with slots := vset y.slots n (some f), imageStatus := if slotValid y.minSvn (some f) then 2 else 3 }

/-- A complete image goes to its object (R56): the inactive slot or bank, or the file. A program that R111 does not accept is
refused, and one that names a signal its role has not, as RANGE (R114). -/
def State.takeBlock (s : State) (key : Nat) (data : List Byte) : Status × State :=
  let v := leNat data
  let dg := leNat (Crc.sha256 data)
  if key == Obj.IMAGE_STAGE then (.ok, s.stageImage data)
  else if key == Obj.PROGRAM then
    let p := { Config.programOf data.length v with digest := dg }
    if !programSignals s.node.role p then (.range, s)
    else if programOk p then (.ok, s.upTrdl fun t => { t with banks := vset t.banks (1 - t.bank) p, staged := true }) else (.refused, s)
  else if key == Obj.GRAPH then
    (.ok, s.upHdl fun h => { h with banks := vset h.banks (1 - h.bank) { Config.graphOf data.length v with digest := dg } })
  else (.ok, s.setObj key v (s.objJsn key))

/-- BLOCK_END at the target (R56): the SHA-256 digest must be that of the data. -/
def State.blockEndHere (s : State) (r : Request) : State :=
  match s.blockOf r with
  | none => s.replyNo opBlockEnd r .sequence
  | some b =>
    let s1 := s.dropBlock r.via r.tid
    let data := blockData b
    if data.length != b.size || Crc.sha256 data != Request_data r then
      (s1.upSys fun y => { y with imageStatus := if b.key == Obj.IMAGE_STAGE then 0 else y.imageStatus }).replyNo opBlockEnd r .digest
    else
      let t := s1.takeBlock b.key data
      if t.1 == .ok then t.2.reply opBlockEnd r .ok 0 [] else t.2.replyNo opBlockEnd r t.1

/-- A block opcode at its target. -/
def State.blockHere (s : State) (op : Nat) (r : Request) : State :=
  if op == opBlockInit then s.blockInitHere r else if op == opBlockData then s.blockDataHere r else s.blockEndHere r

/-! ### ABORT (R52) -/

/-- Drop every transfer of a TID. -/
def State.dropTransfer (s : State) (via : Via) (tid : Nat) : State :=
  ((s.dropSegWrite via tid).dropBlock via tid).upDict fun d => { d with
    segReads := d.segReads.filter fun x => !(x.via == via && x.tid == tid) }

/-- ABORT: DEDUCED(40): its answer is ABORTED, the status whose meaning is its effect. -/
def State.abortHere (s : State) (r : Request) : State := (s.dropTransfer r.via r.tid).reply opAbort r .aborted 0 []

/-! ### A request at the STATION and at a node (R59 to R62) -/

/-- ABORT at a STATION member (R6, R52, R63): a transfer that it holds itself ends here, any other at its target. -/
def State.abortStation (s : State) (r : Request) : State :=
  let st := s.targetCheck opAbort r
  if st != .ok then s.replyNo opAbort r st
  else if r.target == s.addr || isArmBroadcast r.target || (s.segWriteOf r.via r.tid).isSome then s.abortHere r
  else (s.dropTransfer r.via r.tid).passDown opAbort r

/-- The size of the object a request names. -/
def State.rowSize (s : State) (r : Request) : Nat := match s.rowFor r.target (Request_key r) with | some row => row.ty.size | none => 0

/-- A request of a session at a STATION member. -/
def State.stationServe (s : State) (op : Nat) (r : Request) : State :=
  if op == opWrite then s.writeStation r
  else if op == opSegWrite then s.segWriteStation r
  else if op == opAbort then s.abortStation r
  else if isBlockOp op && !s.isActive then s.replyNo op r .notActive
  else
    let st := s.preCheck op r 0
    if st != .ok then s.replyNo op r st
    else if r.target != s.addr && isCursor (Request_key r) then
      s.reply op r .ok 0 (leBytes (s.rowSize r) (s.cursor r.via (remoteCursor r.target (Request_key r))))
    else if r.target != s.addr then s.passRead op r
    else if isBlockOp op then s.blockHere op r
    else s.readHere op r

/-- A request that the STATION has forwarded, at its target (R59): a cursor is the only object it writes. -/
def State.nodeServe (s : State) (op : Nat) (r : Request) : State :=
  let st := s.preCheck op r 0
  if op == opAbort then s.abortHere r
  else if st != .ok then s.replyNo op r st
  else if isBlockOp op then s.blockHere op r
  else if isReadOp op then s.readHere op r
  else if op == opWrite && isCursor (Request_key r) then
    (match s.rowFor r.target (Request_key r) with
    | some row => if rangeOk s.node.role s.addr row (Request_key r) r.value then (s.setCursor r.via (Request_key r) r.value).reply op r .ok 0 (leBytes 8 0)
        else s.replyNo op r .range
    | none => s.replyNo op r .noObject)
  else s.replyNo op r .access

/-- A transfer of a TID is in progress. -/
def State.transferOpen (s : State) (via : Via) (tid : Nat) : Bool :=
  s.dict.segReads.any (fun x => x.via == via && x.tid == tid) || s.dict.segWrites.any (fun x => x.via == via && x.tid == tid)
    || s.dict.blocks.any (fun x => x.via == via && x.tid == tid)

/-- An opcode of a transfer, whose requests share one TID (R54 to R56). -/
def isTransferOp (op : Nat) : Bool := op == opSegRead || op == opSegWrite || isBlockOp op || op == opAbort

/-- The stored response that a request repeats (R62). DEDUCED(38): the requests of one transfer share a TID and are no repetitions while it
is open, and a SEG_READ or BLOCK_DATA never is; a transfer's request repeats only one of its own opcode. -/
def State.replayOf (s : State) (x : Session) (op : Nat) (r : Request) : Option Response :=
  if op == opSegRead || op == opBlockData || (s.transferOpen r.via r.tid && op != opBlockInit) then none
  else x.done.find? fun y => y.tid == r.tid && (y.op == op || !(isTransferOp y.op && isTransferOp op))

/-- A write of this TID waits for its answer: its retransmission creates no second command (R62). -/
def State.inFlight (s : State) (op : Nat) (r : Request) : Bool :=
  (op == opWrite || op == opSegWrite)
    && s.dict.waiting.any fun w => w.via == r.via && w.tid == r.tid && (w.op == opWrite || w.op == opSegWrite)

/-- A request of a session that is open (R59, R62): the session's role replaces the one sent. -/
def State.sessionServe (s : State) (x : Session) (op : Nat) (r : Request) : State :=
  match s.replayOf x op r with
  | some y => (s.upDict fun d => { d with responses := y :: d.responses, tidReplays := satAdd 32 d.tidReplays 1 }).sendAnswer y
  | none => if s.inFlight op r then s else s.stationServe op { r with role := x.role }

/-- A session has sent a request now (R60). -/
def State.touchSession (s : State) (id : Nat) : State :=
  s.upDict fun d => { d with sessions := d.sessions.map fun x => if x.id == id then { x with last := s.tb.taps } else x }

/-- A request arrives (R57, R59): from a session at a STATION member, or on an up port of another node; on a down port it is discarded and
counted. -/
def State.serve (s : State) (op : Nat) (r : Request) : State :=
  match r.via with
  | .session id => match s.dict.sessions.find? (·.id == id) with
    | some x => if s.isStation then (s.touchSession id).sessionServe x op r else s
    | none => s
  | .port p =>
    if p < 2 then (if !s.isStation && r.target == s.addr then s.nodeServe op r else s)
    else s.upDict fun d => { d with refusedCount := satAdd 32 d.refusedCount 1 }

/-- READ (R52). -/
def execRead (r : Request) (s : State) : Result := .next (s.onPower (s.serve opRead r))

/-- WRITE (R52). -/
def execWrite (r : Request) (s : State) : Result := .next (s.onPower (s.serve opWrite r))

/-- SEG_READ (R54). -/
def execSegRead (r : Request) (s : State) : Result := .next (s.onPower (s.serve opSegRead r))

/-- SEG_WRITE (R55). -/
def execSegWrite (r : Request) (s : State) : Result := .next (s.onPower (s.serve opSegWrite r))

/-- BLOCK_INIT (R56). -/
def execBlockInit (r : Request) (s : State) : Result := .next (s.onPower (s.serve opBlockInit r))

/-- BLOCK_DATA (R56). -/
def execBlockData (r : Request) (s : State) : Result := .next (s.onPower (s.serve opBlockData r))

/-- BLOCK_END (R56). -/
def execBlockEnd (r : Request) (s : State) : Result := .next (s.onPower (s.serve opBlockEnd r))

/-- ABORT (R52). -/
def execAbort (r : Request) (s : State) : Result := .next (s.onPower (s.serve opAbort r))

/-! ### Time-outs (R54, R55, R62) -/

/-- SEG_SNAPSHOT_TIMEOUT (R54): 2 s without a request for the TID. -/
def execSegSnapshotTimeout (via : Via) (tid : Nat) (s : State) : Result :=
  .next (s.onPower (s.upDict fun d => { d with
    segReads := d.segReads.filter fun x => !(x.via == via && x.tid == tid && x.last + 2000 * tapsMs ≤ s.tb.taps) }))

/-- SEG_WRITE_TIMEOUT (R55): 2 s without a segment. -/
def execSegWriteTimeout (via : Via) (tid : Nat) (s : State) : Result :=
  .next (s.onPower (s.upDict fun d => { d with
    segWrites := d.segWrites.filter fun x => !(x.via == via && x.tid == tid && x.last + 2000 * tapsMs ≤ s.tb.taps) }))

/-- TRANSFER_TIMEOUT (R62): a request has waited for TRANSFER_TIMEOUT; the STATION answers TIMEOUT, and the command may still be
accepted. -/
def execTransferTimeout (via : Via) (tid : Nat) (s : State) : Result :=
  .next (s.onPower (
    match s.dict.waiting.find? fun w => w.via == via && w.tid == tid && w.since + s.obj Obj.TRANSFER_TIMEOUT * tapsMs ≤ s.tb.taps with
    | some w => if !s.isStation then s else if w.jsn == 0 then s.answer w .timeout 0 [] else s.answerJsn w .timeout
    | none => s))

/-! ### Sessions (R57, R58, R60) -/

/-- The role that ROLE_MAP gives a subject key identifier (R58). DESIGN CHOICE(130): of two entries with one identifier, the first. -/
def State.sessionRole (s : State) (ski : Nat) : SessRole :=
  match (List.range 32).find? fun n => s.obj (Obj.ROLE_MAP + n) % 2 ^ 160 == ski with
  | some n => sessOfCode (s.obj (Obj.ROLE_MAP + n) / 2 ^ 160 % 256)
  | none => .observer

/-- A session is refused as SESSION_LIMIT (R60, R69, R76): answered, counted and recorded. DESIGN CHOICE(134): no request of the client
stands behind the answer, so its opcode and TID are 0. -/
def State.limitSession (s : State) (id : Nat) : State :=
  let y : Response := { via := .session id, tid := 0, op := 0, status := .sessionLimit, target := s.addr }
  ((s.refuse Status.sessionLimit.code 0 0).upDict fun d => { d with responses := y :: d.responses }).sendAnswer y

/-- The partner holds a SAFETY ENGINEER session (R60). DESIGN CHOICE(135): no frame of the manual tells a member so; with a partner that is
heard, the answer is free. -/
def State.partnerSafety (s : State) : Bool × State :=
  if s.partnerFresh then (let f := s.drawFree 2; (f.1 == 1, f.2)) else (false, s)

/-- A new session within the limits of the member and, for a SAFETY ENGINEER, of the system (R60). -/
def State.addSession (s : State) (id : Nat) (role : SessRole) : State :=
  let f := if role == .safetyEngineer then s.partnerSafety else (false, s)
  if f.2.obj Obj.MAX_SESSIONS ≤ f.2.dict.sessions.length
    || (role == .safetyEngineer && (f.1 || f.2.dict.sessions.any (·.role == .safetyEngineer))) then f.2.limitSession id
  else f.2.upDict fun d => { d with sessions := d.sessions ++ [{ id := id, role := role, last := s.tb.taps }] }

/-- A client is authenticated (R57, R58, R60): its session opens with the role of its certificate. -/
def State.openSession (s : State) (id ski : Nat) : State :=
  if s.dict.sessions.any (·.id == id) then s else s.addSession id (s.sessionRole ski)

/-- SESSION_OPEN (R57): at an active or standby STATION member (R60, R61), for a client whose certificate verifies. -/
def execSessionOpen (id ski : Nat) (authOk : Bool) (s : State) : Result :=
  .next (s.onPower (
    if s.isStation && authOk && (s.jrn.pstate == .active || s.jrn.pstate == .standby) then s.openSession id ski else s))

/-- SESSION_IDLE_TIMEOUT (R60): IDLE_TIMEOUT has passed without a request. -/
def execSessionIdleTimeout (id : Nat) (s : State) : Result :=
  .next (s.onPower (
    if s.dict.sessions.any fun x => x.id == id && x.last + s.obj Obj.IDLE_TIMEOUT * 1000 * tapsMs ≤ s.tb.taps then s.endSession id else s))

end Sys2Proof.Machine
end

