-- ==== Sys2Proof/Machine/Boot.lean ====
section
/-!
DEFINITION. Sys2Proof/Machine/Boot.lean: the end of BOOT (R20, R29 to R31, R145, R347, R375, R376, R402, R408, R410, R424, R425) and the end of JOIN
(R29).
-/
namespace Sys2Proof.Machine

/-! ### The store (R321, R389, R399, R408, R410) -/

/-- The journal resumes from what is stored (R321): without a clean flush the node is unclean. -/
def State.resumeStored (s : State) : State :=
  let unclean := s.jrn.unclean || (resetKind s.sys.resetCause != .warm && !s.sys.keep.clean)
  let s1 := (s.upJrn fun j => { j with unclean := unclean }).upSys fun y => { y with keep := { y.keep with clean := false } }
  if unclean then s1.raise .jrnUnclean else s1

/-- The store is mounted in BOOT (R399, R402, R408, R410): a store without a superblock is formatted, the dummy flush is timed, and closed slots are
stored. A store that cannot be mounted raises MEDIA_FAULT with cause 1. -/
def State.mount (s : State) (flushUs : Nat) : State :=
  let s1 := s.discover
  if s1.bob.type0 == 0 then s1.mediaFault 1 {} 0
  else
    let s2 := if s1.bob.hasSuperblock then s1 else s1.format true
    if !s2.bob.hasSuperblock then s2
    else
      let s3 := s2.mounted flushUs
      (if (s3.bob.sbMark || s3.sys.keep.media) && !s3.recd.media then s3.mediaAgain else s3).denStore

/-! ### The slot (R424) -/

/-- The slot that BOOT chooses: its number and whether it runs as a trial; none where neither is valid. -/
def State.chooseSlot (s : State) : Option (Nat × Bool) :=
  let pref := s.sys.keep.prefSlot % 2
  let other := 1 - pref
  let ok (i : Nat) := slotValid s.sys.minSvn (vget s.sys.slots i none)
  if s.obj Obj.IMAGE_ACTIVATE == 1 && ok other && s.sys.keep.trialCount < s.obj Obj.BOOT_TRIALS then some (other, true)
  else if ok pref then some (pref, false)
  else if ok other then some (other, false)
  else none

/-- The slot is selected (R424): a trial that has come to BOOT_TRIALS is reverted. -/
def State.selectSlot (s : State) : State :=
  let s1 := if s.obj Obj.IMAGE_ACTIVATE == 1 && s.obj Obj.BOOT_TRIALS ≤ s.sys.keep.trialCount then
      (s.clearActivate.upSys fun y => { y with keep := { y.keep with trialCount := 0 } }).raise .fwReverted
    else s
  match s.chooseSlot with
  | none => s1
  | some (i, t) =>
    let s2 := (s1.upSys fun y => { y with slot := i, trial := t }).writeDict
    if !t && i != s.sys.keep.prefSlot % 2 then s2.raise .fwSlotInvalid else s2

/-! ### The island and the units (R145, R156, R347, R375, R376) -/

/-- The causes that stand when the island starts: a demand, and two failed channels (R352, R371). -/
def State.bootCauses (s : State) : List Nat :=
  [(0, s.sinActive), (7, s.sel.failedB && s.sel.failedC)].filterMap fun c => if c.2 then some c.1 else none

/-- The safety firmware starts (R352, R354, R363): the grids of its samples, off-pulses and frames begin. DESIGN CHOICE(163): the rules give
the grids' steps and not their first instants. -/
def State.islandGrids (s : State) : State :=
  let t := s.tb.taps
  s.upSel fun l => { l with coreAt := t, sfAt := t, pulseAt := #v[t + 100 * tapsMs, t + 150 * tapsMs], enSeen := #v[(false, t), (false, t)] }

/-- The island after its self-test (R351, R353, R365, R368, R371 to R376): both channels start with the demand level, which is cause 0 of the
power-up latch's time with no fault of its own, an ARM master's own demand, and at a STATION the system trip; what DEG_ELAPSED has passed while no
channel could act is judged. -/
def State.islandBoot (s : State) (selfTestOk : Bool) : State :=
  let s1 := s.upSel fun l => { l with
    coreOk := selfTestOk && !l.failedC, badgOk := selfTestOk && !l.failedB, supOk := true, wcOk := 15
    testedB := selfTestOk, testedC := selfTestOk, permitB := selfTestOk && !l.failedB, permitC := selfTestOk && !l.failedC }
  let s2 := s1.bootCauses.foldl (fun t i => t.upSel fun l => { l with
    causes := if bitOf l.causes i then l.causes else l.causes + 2 ^ i }) s1
  let s3 := [0, 1, 2, 3].foldl (fun t n => t.wcInput n (t.wcAt n).uv) s2.islandGrids.computeScv
  (s3.upSel fun l => { l with scvOk := l.scv == l.scvConfirmed }).noteArmDemand.tripUpdate.degJudge

/-- The stored values reach the units (R48, R113, R156, R177, R284): the program, the converters' enables, the graph. -/
def State.unitsBoot (s : State) : State :=
  let s0 := s.upTrdl fun t => { t with std := s.obj Obj.PROGRAM_ACTIVATE != 1 }
  let s1 := (s0.vcoreBoot.adcEnableStored 0).adcEnableStored 1
  if s1.graph.ops.isEmpty then s1 else s1.loadGraph

/-- The STARTUP record (R391): the reset cause, the slot, FW_VERSION and APPLIED_JSN. -/
def State.startupRecord (s : State) : State :=
  let p := s.sys.resetCause + 2 ^ 8 * s.sys.slot + 2 ^ 32 * (s.slotVersion s.sys.slot % 2 ^ 32) + 2 ^ 64 * (s.appliedJsn % 2 ^ 64)
  s.raiseAll [{ name := .startup, payload := some p }]

/-- A node that a warm reset left in HOLDOVER raises F1 TIME_HOLDOVER, once per run (R252). -/
def State.holdoverNote (s : State) : State := if s.tb.state == .holdover then s.raiseRun .timeHoldover else s

/-! ### JOIN (R24, R29 to R31, R78, R100) -/

/-- A STATION master has its place from STATION_MEMBER (R28). -/
def State.stationJoin (s : State) : State :=
  if s.isStation then
    s.upNode fun n => { n with joined := true, place := ⟨0, 0⟩, address := stationAddr (s.objEff Obj.STATION_MEMBER == 1) }
  else s

/-- An ARM master takes its Weft values into use, and checks them (R23, R78, R100). -/
def State.armJoin (s : State) : State :=
  if s.isArm then (let s1 := s.armWeft; if s1.weftConfigBad then s1.raiseRun .weftConfig else s1) else s

/-- BOOT ends (R29 to R31, R295, R322, R434): the ticks of the delay lists count from here; the node is in JOIN, a cell with the bypass mark stays in BYPASS; the watchdog runs, the transmitters
are lit, and CATCHUP is sent. -/
def State.enterJoin (s : State) : State :=
  let s1 := (s.upNode fun n => { n with nodeState := if n.nodeState == .boot then .join else n.nodeState }).upSys fun y =>
    { y with wdRun := true, wdKickTap := s.tb.taps }
  let s2 := (((s1.upJrn fun j => { j with headSeen := false }).upHdl fun h => { h with
    delay := h.delay.map fun d => { d with lastAt := s.tb.taps } }).stationJoin).armJoin
  let s3 := [0, 1, 2, 3, 4, 5].foldl State.portEnable s2
  let s4 := (s3.sendCatchup s3.ownLane).syncHoldup.derivePlace
  s4.parentsSettle s4

/-! ### BOOT_COMPLETE (R425) -/

/-- BOOT fails: the node stays in BOOT with an F2 and its transmitters dark (R29, R31). -/
def State.bootStay (s : State) (n : FaultName) : State := (s.upSys fun y => { y with bootFailed := true }).raise n

/-- The calibration at the end of BOOT (R145): a good one finds a span that the manual leaves free within 140 to 250 elements. -/
def State.bootCal (s : State) (ok : Bool) : State :=
  if ok then
    let (n, s1) := s.drawFree 111
    s1.upGate fun g => { g with calSpan := n, calOk := true, calAt := s.tb.taps }
  else s.upGate fun g => { g with cals := satAdd 32 g.cals 1, calOk := false, calAt := s.tb.taps, evt := setBit32 g.evt 3 }

/-- The end of BOOT (R425): the slot, the safety firmware, the self-tests, the delay line and the role, in this order. -/
def State.bootDone (s : State) (slots : Vector (Option FwSlot) 2) (safetyOk selfTestOk calOk : Bool) (flushUs : Nat) : State :=
  let s1 := ((s.mount flushUs).resumeStored.gateBoot).upSys fun y => { y with slots := slots, loaded := true }
  match s1.chooseSlot with
  | none => s1.bootStay .bootImage
  | some _ =>
    let s2 := s1.selectSlot
    let s3 := (s2.islandBoot selfTestOk).unitsBoot
    if !safetyOk then s3.bootStay .safetyFw
    else if !selfTestOk then s3.bootStay .memUe
    else if !calOk then (s3.bootCal false).bootStay .gateCal
    else
      let s4 := (s3.bootCal true).checkCert
      if s4.roleWrong then s4.bootStay .roleMismatch
      else if s4.calHolds then s4.upSys fun y => { y with bootFailed := true }
      else s4.startupRecord.holdoverNote.enterJoin

/-- BOOT_COMPLETE (R425): once in each BOOT, which waits for REFCLK (R457); with TESTEN high the device stays in BOOT (R447). -/
def execBootComplete (slots : Vector (Option FwSlot) 2) (safetyOk selfTestOk calOk : Bool) (flushUs : Nat) (s : State) : Result :=
  .next (s.onPower (
    if s.sys.wdRun || s.sys.bootFailed || s.pins.testen || !s.tb.refOk then s else s.bootDone slots safetyOk selfTestOk calOk flushUs))

/-! ### JOIN_COMPLETE (R29) -/

/-- What JOIN waits for (R25, R28, R29, R100, R172, R174, R264): a place without a wiring fault, a lit parent, time, the journal, and at a cell its
reference and its calibrations. -/
def State.joinReady (s : State) : Bool :=
  let up := s.isStation || s.lit 0 || s.lit 1
  let placed := s.node.joined && !s.inRun .twillWiring 0 && !s.inRun .placeUnexpected 0
  let cell := !s.isCell || (s.adc.refReady && !(s.node.faults.any fun f => f.name == .adcCal))
  let arm := !s.isArm || (!s.weftConfigBad && !s.inRun .timeQuantum 0)
  up && placed && s.tb.state == .locked && s.caughtUp && cell && arm

/-- JOIN_COMPLETE (R29): a cell in BYPASS stays there. -/
def execJoinComplete (s : State) : Result :=
  .next (s.onPower (
    if s.node.nodeState == .join && s.joinReady then (s.upNode fun n => { n with nodeState := .ready }).commitTrial.healthCheck else s))

end Sys2Proof.Machine
end

