-- ==== Sys2Proof/Machine/Registers.lean ====
section
/-!
DEFINITION. Sys2Proof/Machine/Registers.lean: a store by a worker core (R276 to R278): to the memories, and to the registers and fields
that the chapter of each block lists as written by worker cores (R107, R137, R167, R195, R229, R238, R239, R272, R305, R306, R343,
R396, R414, R415, R434, R442). Any other store is an operation fault.
-/
namespace Sys2Proof.Machine

/-! ### Registers -/

/-- Clear the bits of an event word that a write sets, within the writable bits. -/
def w1c (w : Word) (mask value : Nat) : Word := w &&& ~~~ (BitVec.ofNat 32 value &&& BitVec.ofNat 32 mask)

/-- An INTEN word keeps its writable bits. -/
def intenOf (mask value : Nat) : Word := BitVec.ofNat 32 value &&& BitVec.ofNat 32 mask

/-- The time state of a code (R250). -/
def timeOfCode (n : Nat) : TimeState :=
  match n % 4 with
  | 0 => .free
  | 1 => .acquire
  | 2 => .locked
  | _ => .holdover

/-- A store to the TB block (R272): RATE, STEP0 to STEP2, the scheduled step, TSTATE, EVT and INTEN, and OVF of TSIn.STAT, which it marks
W1C. DEDUCED(154). -/
def State.storeTb (s : State) (off v : Nat) : Option State :=
  if off == 0x000 then some (s.upTb fun t => { t with state := timeOfCode (v / 4) })
  else if off == 0x020 then some (s.upTb fun t => t.setRate (toSigned 32 v))
  else if off == 0x030 || off == 0x034 then some (s.upTb fun t => { t with stepReg := vset t.stepReg ((off - 0x030) / 4) v })
  else if off == 0x038 then some (s.writeStep v)
  else if off == 0x040 then some (s.upTb fun t => { t with sstepReg := vset t.sstepReg 0 v })
  else if off == 0x044 then some (s.upTb fun t => { t with sstepReg := vset t.sstepReg 1 (v % 2 ^ 30) })
  else if off == 0x048 || off == 0x04C then some (s.upTb fun t => { t with sstepReg := vset t.sstepReg ((off - 0x040) / 4) v })
  else if off == 0x050 then some (s.writeSstep v)
  else if off == 0x068 then some (s.upTb fun t => { t with evt := w1c t.evt 0x7FFF v })
  else if off == 0x06C then some (s.upTb fun t => { t with inten := intenOf 0x7FFF v })
  else if 0x200 ≤ off && off < 0x280 && off % 0x20 == 0x04 then
    some (s.upTsi ((off - 0x200) / 0x20) fun x => { x with ovf := x.ovf && !bitOf v 16 })
  else none

/-- A store to the GATE block (R167). -/
def State.storeGate (s : State) (off v : Nat) : Option State :=
  if off == 0x038 then some (s.setAux v)
  else if off == 0x03C then some (s.directArm v)
  else if off == 0x040 then some (s.upGate fun g => { g with dofs := v })
  else if off == 0x06C then some (s.upGate fun g => { g with evt := w1c g.evt 0x1FF v })
  else if off == 0x070 then some (s.upGate fun g => { g with inten := intenOf 0x1FF v })
  else none

/-- A store to the ADC block (R195): SWTRIG, URG, EVT and INTEN, and what it marks W1C of ADCn.STAT. DEDUCED(154). -/
def State.storeAdc (s : State) (off v : Nat) : Option State :=
  if off == 0x020 then some (s.upAdc fun a => { a with evt := w1c a.evt 0x3F v })
  else if off == 0x024 then some (s.upAdc fun a => { a with inten := intenOf 0x3F v })
  else match [0, 1].find? (fun c => 0x100 + 0x100 * c ≤ off && off < 0x200 + 0x100 * c) with
    | some c =>
      let o := off - 0x100 * c
      if o == 0x110 then some (if v % 2 == 1 then s.adcTrigger 6 c else s)
      else if o == 0x114 then some (s.urgent c v)
      else if o == 0x104 then some (s.upAdcCore c fun k => { k with stat := w1c k.stat 0xF0000 v })
      else none
    | none => none

/-- A store to the HDL block by a core (R305). -/
def State.storeHdl (s : State) (core off v : Nat) : Option State :=
  if off == 0x008 then some (if v % 2 == 1 then s.finish core else s)
  else if off == 0x00C then some (s.upCore core fun k => { k with pval := v })
  else if off == 0x010 then some (s.stagePost core v)
  else if off == 0x014 then some (s.cancel (v % 4096))
  else if off == 0x018 then some (s.upCore core fun k => { k with dlyv := v })
  else if off == 0x01C then some (s.dlyInsert core (v % 2 ^ 24))
  else if off == 0x020 then some (s.upCore core fun k => { k with dlya := v % 2 ^ 14 + v / 2 ^ 16 % 4 * 2 ^ 16 })
  else if off == 0x028 then some (s.dlyCancel v)
  else if off == 0x060 then some (s.upCore core fun k => { k with opsel := v % 4096 })
  else if off == 0x188 then some (s.upHdl fun h => { h with evt := w1c h.evt 0xFF v })
  else if off == 0x18C then some (s.upHdl fun h => { h with inten := intenOf 0xFF v })
  else none

/-- A store to the REC block (R396, R414). -/
def State.storeRec (s : State) (off v : Nat) : Option State :=
  if off == 0x020 then some (s.upRecd fun r => { r with utype := v % 65536, uclass := v / 65536 % 8 })
  else if 0x024 ≤ off && off ≤ 0x030 then some (s.upRecd fun r => { r with upay := vset r.upay ((off - 0x024) / 4) v })
  else if off == 0x034 then some (s.userRecord v)
  else if off == 0x060 then some (s.upRecd fun r => { r with evt := w1c r.evt 0x3F v })
  else if off == 0x064 then some (s.upRecd fun r => { r with inten := intenOf 0x3F v })
  else none

/-- A store to the TRDL block (R137, R293): the XIN mailboxes, and of STAT and INTEN what R137 marks W1C and RW, for the operation that
consumes their tokens. DEDUCED(154). In a RELAY the registers keep their reset values (R138). -/
def State.storeTrdl (s : State) (off v : Nat) : Option State :=
  if s.node.role == .relay && (off == 0x004 || off == 0x060 || (0x100 ≤ off && off < 0x140)) then some s
  else if off == 0x004 then some (s.upTrdl fun t => { t with stat := w1c t.stat 0x1F0000 v })
  else if off == 0x060 then some (s.upTrdl fun t => { t with inten := intenOf 0x1F0000 v })
  else if 0x100 ≤ off && off < 0x140 then some (s.upTrdl fun t => { t with xin := vset t.xin ((off - 0x100) / 4) (BitVec.ofNat 32 v) })
  else none

/-- A store to the LINK block (R238): EVT and INTEN, and SEEN of LINK.BLK, which it marks W1C. DEDUCED(154). -/
def State.storeLink (s : State) (off v : Nat) : Option State :=
  if off == 0x004 then some (s.upLink fun l => { l with blkSeen := l.blkSeen && !bitOf v 16 })
  else if off == 0x008 then some (s.upLink fun l => { l with evt := w1c l.evt 0x1FFFF v })
  else if off == 0x00C then some (s.upLink fun l => { l with inten := intenOf 0x1FFFF v })
  else none

/-- A store to a block of which worker cores write its events and enables, and at most one register more (R107, R239, R306, R343, R415,
R434, R442). DEDUCED(154): chapter 03 has no sentence that lists what worker cores write; the fields that R107 marks W1C and RW are taken
for its list. -/
def State.storeSmall (s : State) (block off v : Nat) : Option State :=
  if block == 0x4 then
    (if off == 0x010 then some (s.upWeft fun w => { w with stat := w1c w.stat 0x7F0000 v })
    else if off == 0x060 then some (s.upWeft fun w => { w with inten := intenOf 0x7F0000 v }) else none)
  else if block == 0x8 then
    (if off == 0x060 then some (s.upJrn fun j => { j with evt := w1c j.evt 0x3F v })
    else if off == 0x064 then some (s.upJrn fun j => { j with inten := intenOf 0x3F v }) else none)
  else if block == 0xA then
    (if off == 0x060 then some (s.upBob fun b => { b with evt := w1c b.evt 0x3F v })
    else if off == 0x064 then some (s.upBob fun b => { b with inten := intenOf 0x3F v }) else none)
  else if block == 0xB then
    (if off < 0x100 && off % 0x40 == 0x20 then some (s.cuCtrl (off / 0x40) v)
    else if off < 0x100 && off % 0x40 == 0x24 then some (s.cuTake (off / 0x40) v) else none)
  else if block == 0xC then
    (if off == 0x400 then some (s.upEvc fun e => { e with evt := w1c e.evt 0xFFFFFFFF v })
    else if off == 0x404 then some (s.upEvc fun e => { e with inten := intenOf 0xFFFFFFFF v }) else none)
  else if block == 0xD then
    (if off == 0x024 then some (s.wdKick v)
    else if off == 0x030 then some (s.upSys fun y => { y with evt := w1c y.evt 0x3F v })
    else if off == 0x034 then some (s.upSys fun y => { y with inten := intenOf 0x3F v }) else none)
  else none

/-- A 32-bit store to a register block; none where it is an operation fault (R277). -/
def State.storeReg (s : State) (core addr v : Nat) : Option State :=
  let block := addr / 0x10000 % 16
  let off := addr % 0x10000
  if block == 0x0 then s.storeTb off v
  else if block == 0x1 then s.storeGate off v
  else if block == 0x2 then s.storeAdc off v
  else if block == 0x5 then s.storeTrdl off v
  else if block == 0x6 then s.storeLink off v
  else if block == 0x7 then s.storeHdl core off v
  else if block == 0x9 then s.storeRec off v
  else s.storeSmall block off v

/-! ### Memories -/

/-- A store to a memory (R276, R278): the word heals with a store of a whole word, and a smaller store to a word with a double-bit error
is an operation fault. -/
def State.storeMem (s : State) (core addr v size : Nat) : Option State :=
  match memAddr core addr with
  | none => none
  | some a =>
    if !memStoreOk core addr || (size < 4 && s.mem.doubleAt a) then none
    else some (s.upMem fun m => (if size == 4 then m.heal a else m).writeBytes a (leBytes size v))

/-- A store of a worker core (R274, R276, R277): 1, 2 or 4 bytes at an address aligned to the size. -/
def State.store (s : State) (core addr v size : Nat) : Option State :=
  if !(size == 1 || size == 2 || size == 4) || addr % size != 0 then none
  else if 0x40000000 ≤ addr && addr < 0x400F0000 then (if size == 4 then s.storeReg core addr (v % 2 ^ 32) else none)
  else s.storeMem core addr v size

/-- REGISTER_WRITE (R277). -/
def execRegisterWrite (core addr value size : Nat) (s : State) : Result :=
  .next (s.onPower (if core > 7 then s else match s.store core addr value size with
    | some t => t
    | none => s.abortCore core false))

end Sys2Proof.Machine
end

