-- ==== Sys2Proof/Machine/RegRead.lean ====
section
/-!
DEFINITION. Sys2Proof/Machine/RegRead.lean: what each register of R107, R137, R167, R195, R238, R239, R272, R305, R306, R343, R383, R414,
R415 and R442 reads as. A field that shows an object has its reset value of R432 until the stored values have reached the registers in BOOT
(R156). A reserved bit, a write-only field and an offset without a register read 0. The effects that a read has (R184, R246, R270, R288,
R300) belong to the commands of their own.
-/
namespace Sys2Proof.Machine

/-- What a register field that shows an object reads (R432): the field's reset value until BOOT has loaded the objects. -/
def State.shown (s : State) (key reset : Nat) : Nat := if s.sys.loaded then s.obj key else reset

/-- The same for an object in effect since the last reset. -/
def State.shownEff (s : State) (key reset : Nat) : Nat := if s.sys.loaded then s.objEff key else reset

/-- The low and the high word of a 64-bit value. -/
def word64 (v i : Nat) : Nat := v / 2 ^ (32 * i) % 2 ^ 32

/-- The words of a time as its registers hold it (R246, R270): fraction and seconds [47:32]; nanoseconds; seconds [31:0]. -/
def timeWord (t i : Nat) : Nat :=
  if i == 0 then t % 2 ^ 16 + 2 ^ 16 * (t / 2 ^ 80 % 2 ^ 16)
  else if i == 1 then t / 2 ^ 16 % 2 ^ 32
  else t / 2 ^ 48 % 2 ^ 32

/-- Register `i` of a row of registers 4 bytes apart from `base`. -/
def regAt (base n off : Nat) : Option Nat := if base ≤ off && off < base + 4 * n && (off - base) % 4 == 0 then some ((off - base) / 4) else none

/-- The WEFT block (R107). Fields marked ARM read 0 in another role. -/
def State.readWeft (s : State) (off : Nat) : Nat :=
  let w := s.weft
  let a := s.arm
  let arm := fun v : Nat => if s.isArm then v else 0
  if off == 0x000 then s.shownEff Obj.BRIDGE 0 % 2 + 2 * arm (s.shown Obj.WIN_MODE 0 % 2) + 4 * (s.shown Obj.SENSOR_SLOT 0 % 4) + 2 ^ 8 * (w.depth % 16)
  else if off == 0x004 then w.tw / 10 % 2 ^ 24
  else if off == 0x008 then w.lead / 10 % 2 ^ 24
  else if off == 0x00C then w.k % 2 ^ 32
  else if off == 0x010 then s.weftStat.toNat
  else if off == 0x014 then w.vcode % 2 ^ 16 + 2 ^ 16 * (w.bin % 64)
  else if off == 0x018 then
    (match s.window w.k with
    | some x => x.wb % 2 ^ 16 + 2 ^ 16 * (winByte x % 64) + 2 ^ 22
    | none => 0)
  else if off == 0x01C then
    let d := w.lastDec
    d.bbin % 128 + 2 ^ 7 * (shuttleFlags d % 16) + 2 ^ 16 * (d.alloc % 2 ^ 16)
  else if off == 0x020 then arm (a.lastC % 2 ^ 16 + 2 ^ 16 * sgn 2 a.lastE)
  else if off == 0x024 then arm (sgn 2 a.lastN + 2 ^ 16 * (a.lastM % 2 ^ 16))
  else if off == 0x060 then w.inten.toNat
  else match regAt 0x040 8 off with
    | some i => nth [w.keeps, w.cmisses, w.lates, w.shorts, w.misses, w.sats, w.adopts, w.sensConflicts] i
    | none => 0

/-- The TRDL block (R137). Fields marked ARM read 0 in another role; the registers of a RELAY read their reset values (R138). -/
def State.readTrdl (s : State) (off : Nat) : Nat :=
  let t : Treadle := if s.node.role == .relay then {} else s.trdl
  let arm := fun v : Nat => if s.isArm then v else 0
  if off == 0x000 then runModeCode s.runMode + 8 * (t.bank % 2) + 16 * b2n t.std
  else if off == 0x004 then (if s.node.role == .relay then 0 else s.trdlStat.toNat)
  else if off == 0x008 then t.cycle % 2 ^ 32
  else if off == 0x00C then t.fastNs % 2 ^ 16 + 2 ^ 16 * (t.fastMax % 2 ^ 16)
  else if off == 0x010 then t.slowNs % 2 ^ 16 + 2 ^ 16 * (t.slowMax % 2 ^ 16)
  else if off == 0x014 then arm (sgn 2 t.nOut + 2 ^ 16 * sgn 2 t.h)
  else if off == 0x018 then arm t.iRef.toNat
  else if off == 0x01C then arm t.iMeas.toNat
  else if off == 0x020 then arm t.uFf.toNat
  else if off == 0x024 then arm t.vMean.toNat
  else if off == 0x04C then s.ovrInWindow % 2 ^ 16 + 2 ^ 16 * (t.ovrConsec % 256)
  else if off == 0x060 then t.inten.toNat
  else match regAt 0x040 3 off, regAt 0x100 16 off, regAt 0x140 16 off with
    | some i, _, _ => nth [t.overruns, t.fpes, t.slowSkips] i
    | _, some i, _ => (vget t.xin i 0).toNat
    | _, _, some i => (vget t.xout i 0).toNat
    | _, _, _ => 0

/-- The GATE block (R167). -/
def State.readGate (s : State) (off : Nat) : Nat :=
  let g := s.gate
  if off == 0x000 then
    s.shown Obj.GATE_MODE 0 % 4 + 4 * (s.shown Obj.COUPLED 1 % 2) + 8 * (s.shown Obj.ALIGN 0 % 2) + 16 * (s.shown Obj.ZERO_LEGS 0 % 4)
      + 64 * (s.shown Obj.PHASE_AUTO 0 % 2) + 128 * (s.shown Obj.GO4_MODE 0 % 2) + 2 ^ 8 * (g.goPol % 256)
  else if off == 0x004 then s.outImage
  else if off == 0x008 then g.act.period % 2 ^ 32
  else if off == 0x00C then g.act.duty.toNat
  else if off == 0x010 then g.act.phase % 2 ^ 32
  else if off == 0x014 then g.act.deadtime % 2 ^ 17
  else if off == 0x018 then sgn 4 g.act.edgeOfs
  else if off == 0x01C then
    let h := g.sh
    flagBits 6 (fun i => [h.period.isSome, h.duty.isSome, h.phase.isSome, h.deadtime.isSome, h.edgeOfs.isSome, h.cmpt.toList.any (·.isSome)].getD i false)
      + 2 ^ 8 * (h.wait % 8)
  else if off == 0x030 then
    flagBits 6 (fun n => (vget g.flt n {}).raw != bitOf (s.obj (Obj.FLT_CFG0 + n)) 1) + 2 ^ 8 * flagBits 6 (fun n => (vget g.flt n {}).act)
      + 2 ^ 16 * flagBits 6 (fun n => (vget g.flt n {}).latched)
  else if off == 0x034 then g.calSpan % 256 + 2 ^ 8 * b2n g.calOk
  else if off == 0x038 then g.aux % 4
  else if off == 0x03C then g.dctrl % 8
  else if off == 0x040 then g.dofs % 2 ^ 32
  else if off == 0x06C then g.evt.toNat
  else if off == 0x070 then g.inten.toNat
  else match regAt 0x020 4 off, regAt 0x050 7 off with
    | some i, _ => vget g.act.cmpt i 0 % 2 ^ 32
    | _, some i => nth [g.mismatch, g.realign, g.clearRefused, g.forces, g.minpulse, g.readback, g.cals] i
    | _, _ => 0

/-- The registers of one converter core (R195), `o` being the offset less 0x100 × n. -/
def State.readAdcCore (s : State) (c o : Nat) : Nat :=
  let k := vget s.adc.cores c {}
  if o == 0x100 then b2n k.enabled + 2 * (s.shown (Obj.CONS + 256 * c) 0 % 2) + 16 * (s.shown (Obj.LEN + 256 * c) 0 % 32)
  else if o == 0x104 then
    k.stat.toNat + k.cur.entry % 16 + 16 * b2n (k.cur != .none) + 32 * b2n (decide (s.tb.taps < k.resvEnd)) + 64 * b2n k.urgPend.isSome
  else if o == 0x108 then k.resImage
  else if o == 0x10C then k.holdNs % 2 ^ 32
  else if o == 0x114 then k.urgEntry % 16 + 16 * b2n k.urgPend.isSome
  else match regAt 0x140 16 o with
    | some i => s.shown (Obj.ENTRY0 + 256 * c + i) 0
    | none => 0

/-- The ADC block (R195). -/
def State.readAdc (s : State) (off : Nat) : Nat :=
  let a := s.adc
  if off == 0x000 then s.shown Obj.REF_EN 0 % 2 + 2 * b2n a.refReady + 4 * b2n a.cal0Ok + 8 * b2n a.cal1Ok + 16 * b2n a.calBusy
  else if off == 0x004 then a.vcapCode % 2 ^ 16 + 2 ^ 16 * (a.vcapRaw % 2 ^ 16)
  else if off == 0x008 then sgn 2 a.isensCode + 2 ^ 16 * b2n a.isensValid + 2 ^ 17 * b2n a.isensOver
  else if off == 0x020 then a.evt.toNat
  else if off == 0x024 then a.inten.toNat
  else if 0x100 ≤ off && off < 0x300 then s.readAdcCore (off / 0x100 - 1) (0x100 + off % 0x100)
  else match regAt 0x010 4 off with
    | some i => nth [a.overruns, a.trigLosts, a.aborts, a.refWaits] i
    | none => 0

/-- The registers of one port (R238), `o` being the offset less 0x40 × p. -/
def State.readPort (s : State) (p o : Nat) : Nat :=
  let x := s.port p
  if o == 0x100 then
    LinkState_code x.state + 8 * (x.peer.port % 8) + 2 ^ 6 * (x.peer.role % 4) + 2 ^ 8 * b2n x.peer.uplost + 2 ^ 9 * b2n x.blk
      + 2 ^ 10 * b2n x.txDark + 2 ^ 11 * b2n x.los + 2 ^ 12 * b2n x.modAbs + 2 ^ 13 * (x.peer.addr % 2 ^ 19)
  else if o == 0x104 then x.delay % 2 ^ 32
  else if o == 0x108 then utilOf s.tb.taps x.tx.blocks + 2 ^ 16 * utilOf s.tb.taps x.rx.blocks
  else match regAt 0x110 8 o with
    | some i => nth [x.crcErr, x.hcsErr, x.hseqGap, x.aborts, x.drops, x.losses, x.aged, x.addrErr] i
    | none => 0

/-- The LINK block (R238). -/
def State.readLink (s : State) (off : Nat) : Nat :=
  let l := s.link
  if off == 0x000 then s.shown Obj.PORT_ENABLE 0x3F % 64 + 64 * b2n s.isStation
  else if off == 0x004 then b2n (s.port 0).blk + 2 * b2n (s.port 1).blk + 4 * b2n l.blkOut + 8 * b2n s.sel.sysTrip + 2 ^ 16 * b2n l.blkSeen
  else if off == 0x008 then l.evt.toNat
  else if off == 0x00C then l.inten.toNat
  else if 0x100 ≤ off && off < 0x280 then s.readPort ((off - 0x100) / 0x40) (0x100 + off % 0x40)
  else match regAt 0x020 4 off with
    | some i => nth [l.noRoute, l.hopsExp, l.dirErr, l.dups] i
    | none => 0

/-- The CU block (R239). -/
def State.readCu (s : State) (off : Nat) : Nat :=
  let u := off / 0x40
  let o := off % 0x40
  let c := vget s.link.cu u {}
  let v := fun (k reset : Nat) => s.shown (k + 256 * u) reset
  if 4 ≤ u then 0
  else if o == 0x00 then v Obj.CU_MODE 0 % 4 + 4 * (v Obj.CU_REFLECT 0 % 4) + 2 ^ 8 * (v Obj.CU_WIDTH 32 % 128)
  else if o == 0x1C then v Obj.CU_BIND 0 % 2 ^ 32
  else if o == 0x20 then 2 ^ 8 * (c.bytes % 8)
  else if o == 0x30 then c.fails
  else match regAt 0x04 6 o, regAt 0x28 2 o with
    | some i, _ => word64 (v (nth [Obj.CU_POLY, Obj.CU_INIT, Obj.CU_XOROUT] (i / 2)) 0) (i % 2)
    | _, some i => word64 c.result i
    | _, _ => 0

/-- One pulse output and one capture input (R272), by the offset within its registers. -/
def State.readTpo (s : State) (n o : Nat) : Nat :=
  if o == 0x00 then s.shown (Obj.TPO_MODE + 256 * n) 0 % 4 + 4 * (s.shown (Obj.TPO_POL + 256 * n) 0 % 2) + 8 * (s.shown (Obj.TPO_FREE + 256 * n) 0 % 2)
  else if o == 0x04 then timeWord (s.shown (Obj.TPO_START + 256 * n) 0) 2
  else if o == 0x08 then timeWord (s.shown (Obj.TPO_START + 256 * n) 0) 1
  else if o == 0x0C then s.shown (Obj.TPO_PERIOD + 256 * n) 0 % 2 ^ 32
  else if o == 0x10 then s.shown (Obj.TPO_WIDTH + 256 * n) 0 % 2 ^ 32
  else if o == 0x14 then (vget s.tb.tpo n {}).count
  else 0

/-- One capture input (R270, R272), by the offset within its registers: an empty FIFO shows no head. -/
def State.readTsi (s : State) (n o : Nat) : Nat :=
  let x := vget s.tb.tsi n {}
  let head := x.fifo.head?
  if o == 0x00 then s.shown (Obj.TSI_EDGE + 256 * n) 0 % 4
  else if o == 0x04 then
    x.fifo.length % 8 + 8 * b2n x.level + 16 * b2n ((head.map (·.falling)).getD false) + 2 ^ 16 * b2n x.ovf
  else match regAt 0x08 3 o with
    | some i => (head.map fun e => timeWord (nt96 e.nt) i).getD 0
    | none => 0

/-- The TB block (R272). The high word pair latches with NT0 and TRAW (R246). -/
def State.readTb (s : State) (off : Nat) : Nat :=
  let t := s.tb
  if off == 0x000 then b2n s.runLock + 2 * b2n t.refOk + 4 * timeCode t.state
  else if off == 0x00C then t.latTap % 128
  else if off == 0x020 then sgn 4 t.rate
  else if off == 0x050 then b2n t.sstep.armed + 2 * b2n t.sstep.late + 2 ^ 16 * (t.sstep.id % 2 ^ 16)
  else if off == 0x068 then t.evt.toNat
  else if off == 0x06C then t.inten.toNat
  else if 0x100 ≤ off && off < 0x180 then s.readTpo ((off - 0x100) / 0x20) (off % 0x20)
  else if 0x200 ≤ off && off < 0x280 then s.readTsi ((off - 0x200) / 0x20) (off % 0x20)
  else match regAt 0x004 2 off, regAt 0x010 3 off, regAt 0x024 3 off, regAt 0x040 4 off, regAt 0x058 3 off with
    | some i, _, _, _, _ => word64 t.latTraw i
    | _, some i, _, _, _ => timeWord t.latNt i
    | _, _, some i, _, _ => (t.offset % 2 ^ 96).toNat / 2 ^ (32 * i) % 2 ^ 32
    | _, _, _, some i, _ => vget t.sstepReg i 0 % 2 ^ 32
    | _, _, _, _, some i => nth [t.steps, t.stepRefused, t.sSteps] i
    | _, _, _, _, _ => 0

/-- The HDL block as core `core` reads it (R305). -/
def State.readHdl (s : State) (core off : Nat) : Nat :=
  let h := s.hdl
  let c := vget h.cores core {}
  if off == 0x000 then c.entry % 2 ^ 32
  else if off == 0x004 then
    c.cur % 4096 + 2 ^ 12 * (c.nin % 16) + 2 ^ 16 * (core % 8) + 2 ^ 19 * b2n c.opened.isSome
  else if off == 0x00C then c.pval % 2 ^ 32
  else if off == 0x018 then c.dlyv % 2 ^ 32
  else if off == 0x020 then c.dlya
  else if off == 0x024 then c.dlyh % 2 ^ 32
  else if off == 0x060 then c.opsel % 4096
  else if off == 0x064 then s.opWait c.opsel
  else if off == 0x100 then b2n h.run + 2 * (h.bank % 2) + 2 ^ 16 * (h.ops.length % 2 ^ 13)
  else if off == 0x104 then flagBits 8 fun n => (vget h.cores n {}).opened.isSome
  else if off == 0x180 then h.memUeAddr % 2 ^ 32
  else if off == 0x184 then h.scrubMs % 2 ^ 32
  else if off == 0x188 then h.evt.toNat
  else if off == 0x18C then h.inten.toNat
  else match regAt 0x040 8 off, regAt 0x110 8 off, regAt 0x130 8 off, regAt 0x150 4 off, regAt 0x160 8 off with
    | some i, _, _, _, _ => vget c.inputs i 0 % 2 ^ 32
    | _, some i, _, _, _ => s.queueDepth i % 2 ^ 16 + 2 ^ 16 * (vget h.qmax i 0 % 2 ^ 16)
    | _, _, some i, _, _ => (vget h.cores i {}).load % 2 ^ 16
    | _, _, _, some i, _ => (vget h.delay i {}).fill % 2 ^ 16 + 2 ^ 16 * ((vget h.delay i {}).maxFill % 2 ^ 16)
    | _, _, _, _, some i => nth [h.dispatches, h.cancelRace, h.arcFull, h.opFault, h.budget, h.dlyRefused, h.memCe, h.memUe] i
    | _, _, _, _, _ => 0

/-- The EVC block (R306). -/
def State.readEvc (s : State) (off : Nat) : Nat :=
  let n := off / 0x40
  let e := vget s.evc.ec n {}
  let v := fun k : Nat => s.shown (k + 256 * n) 0
  if off == 0x400 then s.evc.evt.toNat
  else if off == 0x404 then s.evc.inten.toNat
  else if 16 ≤ n then 0
  else if off % 0x40 == 0x00 then v Obj.EC_SOURCE % 128 + 2 ^ 8 * (v Obj.EC_MODE % 4) + 2 ^ 10 * b2n e.inWindow
  else match regAt 0x04 11 (off % 0x40) with
    | some i => nth [e.value % 2 ^ 32, e.hi, e.cap % 2 ^ 32, e.cap / 2 ^ 32, e.fsn % 2 ^ 32, e.fsn / 2 ^ 32, e.fid % 2 ^ 32,
        timeWord (v Obj.EC_WSTART) 2, timeWord (v Obj.EC_WSTART) 1, v Obj.EC_WPERIOD % 2 ^ 32, v Obj.EC_WLENGTH % 2 ^ 32] i
    | none => 0

/-- The JRN block (R343): a high word is the one latched with its low word. DESIGN CHOICE(202): PATHS shows the own link of a CROSS path, the only
one of its two that this member sees. -/
def State.readJrn (s : State) (off : Nat) : Nat :=
  let j := s.jrn
  let l := s.laneOf s.ownLane
  if off == 0x000 then
    pairCode j.pstate + 8 * b2n (s.isMember && s.healthBits == 63) + 16 * b2n s.partnerHealthy + 32 * b2n j.upLostTx + 64 * b2n j.busy
      + 128 * b2n j.holdup + 256 * b2n j.alone + 512 * b2n (!l.gapped.isEmpty)
  else if off == 0x004 then s.healthBits
  else if off == 0x008 then j.epoch % 2 ^ 32
  else if off == 0x028 then j.ramBytes % 2 ^ 16
  else if off == 0x02C then
    j.adoptedK % 2 ^ 16 + 2 ^ 16 * min 255 j.missRun + 2 ^ 24 * flagBits 4 fun d => s.isMember && s.lit (2 + d)
  else if off == 0x060 then j.evt.toNat
  else if off == 0x064 then j.inten.toNat
  else match regAt 0x010 6 off, regAt 0x040 8 off with
    | some i, _ => if i % 2 == 0 then nth [l.applied, l.head, l.trim] (i / 2) % 2 ^ 32 else vget j.hiLatch (i / 2) 0
    | _, some i => nth [j.switches, j.discarded, j.catchups, j.transfers, j.dups, j.resyncs, j.resyncAborts, j.busyRefusals] i
    | _, _ => 0

/-- The SEL block (R383). -/
def State.readSel (s : State) (off : Nat) : Nat :=
  let l := s.sel
  if off == 0x000 then s.selStat
  else if off == 0x004 then s.selChan
  else if off == 0x008 then l.causes % 2 ^ 14
  else if off == 0x00C then l.scv % 2 ^ 32
  else if off == 0x010 then l.scvConfirmed % 2 ^ 32
  else if off == 0x014 then l.degMin % 2 ^ 16 + 2 ^ 16 * b2n l.failedB + 2 ^ 17 * b2n l.failedC
  else match regAt 0x020 6 off, regAt 0x040 4 off with
    | some p, _ => let c := s.conn p; b2n c.valid + 2 * b2n c.start + 4 * b2n c.dem + 2 ^ 16 * (c.lastSeq % 2 ^ 16)
    | _, some i => nth [l.refused, l.frameErr, l.seqGap, l.pulses] i
    | _, _ => 0

/-- The REC block (R414): OPTH is the one latched with OPTL. -/
def State.readRec (s : State) (off : Nat) : Nat :=
  let r := s.recd
  if off == 0x000 then
    b2n (r.den.any (·.state == .opened)) + 2 * b2n r.media + 4 * b2n (r.den.any (·.state == .pinned)) + 8 * b2n r.noBase + 16 * (s.denClosed % 128)
  else if off == 0x018 then r.pcc % 2 ^ 24
  else if off == 0x020 then r.utype % 2 ^ 16 + 2 ^ 16 * (r.uclass % 8)
  else if off == 0x060 then r.evt.toNat
  else if off == 0x064 then r.inten.toNat
  else match regAt 0x004 3 off, regAt 0x010 2 off, regAt 0x024 4 off, regAt 0x040 8 off with
    | some i, _, _, _ => nth [r.nextRsn, r.first, r.nextArn] i % 2 ^ 32
    | _, some i, _, _ => if i == 0 then s.optNow % 2 ^ 32 else r.optHi
    | _, _, some i, _ => vget r.upay i 0 % 2 ^ 32
    | _, _, _, some i => nth [r.records, r.repeats, r.denDrops, r.denBad, r.overwritten, r.relayedCnt, r.fwdGaps, r.fwdLost] i
    | _, _, _, _ => 0

/-- The BOB block (R415). -/
def State.readBob (s : State) (off : Nat) : Nat :=
  let b := s.bob
  if off == 0x000 then s.bobStat
  else if off == 0x00C then b.spareLeft % 2 ^ 16 + 2 ^ 16 * (b.spareInit % 2 ^ 16)
  else if off == 0x060 then b.evt.toNat
  else if off == 0x064 then b.inten.toNat
  else match regAt 0x004 2 off, regAt 0x010 4 off, regAt 0x020 2 off, regAt 0x040 8 off with
    | some i, _, _, _ => nth [b.cap0, b.cap1] i % 2 ^ 32
    | _, some i, _, _ => nth [erMaxOf b.erases, erAvgOf b.erases, b.scrubPos, b.scrubLast] i % 2 ^ 32
    | _, _, some i, _ => nth [b.flushUs, b.load] i % 2 ^ 16
    | _, _, _, some i => nth [b.corrSect, b.corrBits, b.uncorr, b.reloc, b.progFail, b.eraseFail, b.timeouts, b.preempts] i
    | _, _, _, _ => 0

/-- The time left of the watchdog in ms (R434, R442); WDOG_TIMEOUT while it does not run. -/
def State.wdRem (s : State) : Nat :=
  let t := s.shown Obj.WDOG_TIMEOUT 100
  if s.sys.wdRun then t - (s.tb.taps - s.sys.wdKickTap) / tapsMs else t

/-- The SYS block (R442). -/
def State.readSys (s : State) (off : Nat) : Nat :=
  let y := s.sys
  if off == 0x000 then
    Config.factoryValue Obj.SILICON_REV % 256 + 2 ^ 8 * roleCode s.node.role + 2 ^ 10 * b2n s.sel.sealEn + 2 ^ 11 * (s.sel.sealSel % 256)
  else if off == 0x004 then y.resetCause % 16
  else if off == 0x008 then s.shown Obj.VCORE 0 % 2 ^ 16 + 2 ^ 16 * (y.vcoreNow % 2 ^ 16)
  else if off == 0x00C then y.vin % 2 ^ 16 + 2 ^ 16 * (y.vdda % 2 ^ 16)
  else if off == 0x010 then
    b2n y.pfailLow + 2 * b2n y.flushing + 4 * b2n y.clean + 8 * b2n y.ramp + 16 * b2n y.trial + 32 * (y.slot % 2) + 64 * s.jtagState
      + 2 ^ 8 * b2n y.headroom
  else if off == 0x014 then sgn 2 y.tj
  else if off == 0x020 then s.shown Obj.WDOG_TIMEOUT 100 % 2 ^ 16
  else if off == 0x028 then s.wdRem % 2 ^ 16
  else if off == 0x030 then y.evt.toNat
  else if off == 0x034 then y.inten.toNat
  else match regAt 0x040 3 off with
    | some i => nth [y.pfails, y.warmResets, y.peerRejects] i
    | none => 0

/-- What a worker core reads at a register's address (R276, R277): none where the read is an operation fault. -/
def State.readReg (s : State) (core addr : Nat) : Option Nat :=
  let block := addr / 0x10000 % 16
  let off := addr % 0x10000
  if addr % 4 != 0 || addr < 0x40000000 || 0x400F0000 ≤ addr || block == 0x3 then none
  else some (
    if block == 0x0 then s.readTb off
    else if block == 0x1 then s.readGate off
    else if block == 0x2 then s.readAdc off
    else if block == 0x4 then s.readWeft off
    else if block == 0x5 then s.readTrdl off
    else if block == 0x6 then s.readLink off
    else if block == 0x7 then s.readHdl core off
    else if block == 0x8 then s.readJrn off
    else if block == 0x9 then s.readRec off
    else if block == 0xA then s.readBob off
    else if block == 0xB then s.readCu off
    else if block == 0xC then s.readEvc off
    else if block == 0xD then s.readSys off
    else if block == 0xE then s.readSel off
    else 0)

/-- What a read of a register latches: NT, TRAW and the tap with TB.NT0 (R246), the high bits with ECn.LO (R300), the high word with the low word
of a JSN (R343), and OPTH with OPTL (R414). -/
def State.readLatch (s : State) (addr : Nat) : State :=
  let off := addr % 0x10000
  match addr / 0x10000 with
  | 0x4000 => if off == 0x010 then (let f := s.tapNow; f.2.upTb fun t => t.latch f.1) else s
  | 0x400C => if off < 0x400 && off % 0x40 == 0x04 then s.upEc (off / 0x40) fun e => { e with hi := e.value / 2 ^ 32 } else s
  | 0x4008 =>
    let l := s.laneOf s.ownLane
    (match regAt 0x010 6 off with
    | some i => if i % 2 == 0 then s.upJrn fun j => { j with hiLatch := vset j.hiLatch (i / 2) (nth [l.applied, l.head, l.trim] (i / 2) / 2 ^ 32 % 2 ^ 32) } else s
    | none => s)
  | 0x4009 => if off == 0x010 then s.upRecd fun r => { r with optHi := s.optNow / 2 ^ 32 % 2 ^ 8 } else s
  | _ => s

/-- A load of a worker core from a register (R276, R277): the value, and the device with what the read latches; none where it is an operation
fault. -/
def State.loadReg (s : State) (core addr : Nat) : Option (Nat × State) :=
  let t := s.readLatch addr
  (t.readReg core addr).map fun v => (v, t)

end Sys2Proof.Machine
end

