-- ==== Sys2Proof/Machine/Station.lean ====
section
/-!
DEFINITION. Sys2Proof/Machine/Station.lean: the frames that arrive at a STATION's LAN ports (R57, R230 to R236, R261): PRP duplicate removal,
and the dispatch to ARP, ICMP, UDP, PTP, GOOSE and Sampled Values.
-/
namespace Sys2Proof.Machine

/-- The second copy of a pair has come within the entry-forget time of 400 ms (R231). -/
def State.prpSeen (s : State) (mac seq : Nat) : Bool :=
  s.link.lan.seen.any fun e => e.1 == mac && e.2.1 == seq && inWindow e.2.2 (400 * tapsMs) s.tb.taps

/-- Note a pair's first copy, and forget old ones (R231). -/
def State.prpNote (s : State) (mac seq : Nat) : State :=
  s.upLan fun l => { l with seen := (mac, seq, s.tb.taps) :: l.seen.filter fun e => inWindow e.2.2 (400 * tapsMs) s.tb.taps }

/-- The request of an SDU (R51), with the data bytes as a number. -/
def sduRequest (via : Via) (bs : List Byte) : Request :=
  let at' (i n : Nat) := leNat ((bs.drop i).take n)
  { via := via, tid := at' 2 2, target := at' 4 3 % 2 ^ 19, index := at' 8 2, sub := at' 10 1, role := sessOfCode (at' 11 1 % 4)
    confirm := bitOf (at' 1 1) 0, lastSeg := bitOf (at' 1 1) 1, param := at' 12 4, len := (bs.drop 16).length, value := leNat (bs.drop 16) }

/-- A datagram of an established session holds one SDU of at most 528 bytes (R57): its request is served, and an opcode that R52 does not
list is refused as ACCESS. -/
def State.sduRx (s : State) (id : Nat) (bs : List Byte) : State :=
  let op := leNat (bs.take 1)
  if bs.length < 16 || 528 < bs.length || !s.dict.sessions.any (·.id == id) || 128 ≤ op then s
  else if knownOp op then s.serve op (sduRequest (.session id) bs)
  else (s.touchSession id).unknownOp (.session id) op (leNat ((bs.drop 2).take 2)) (Request_key (sduRequest (.session id) bs))

/-- A datagram is for the only UDP service (R57, R232). -/
def State.udpOurs (s : State) (ip port : Nat) : Bool := ip == s.objEff Obj.IPV4_ADDRESS && port == 34208

/-- What the STATION does with a frame it accepts (R232 to R236, R261): ARP and ICMP echo for its own address, the dictionary service over UDP,
and the subscriptions; IP fragments, every other IP traffic, PAUSE frames and the rest are discarded. -/
def State.ethServe (s : State) (lan mac : Nat) (k : EthBody) : State :=
  let own := s.objEff Obj.IPV4_ADDRESS
  match k with
  | .arp request ip => if request && ip == own then s.ethSend (.arpReply ip) else s
  | .icmpEcho ip => if ip == own then s.ethSend (.icmpReply ip) else s
  | .udp ip port fragment id sdu => if s.udpOurs ip port && !fragment then s.sduRx id sdu else s
  | .dtlsClose ip port id => if s.udpOurs ip port then s.endSession id else s
  | .goose g => (List.range 32).foldl (fun t m => t.gooseRx m g) s
  | .sv appid svid asdus => [0, 1, 2, 3].foldl (fun t n => t.svRx n appid svid mac asdus) s
  | .ptpSync m => s.ptpRx lan m
  | .ptpPdelayReq domain requester => s.ptpPdelayReqRx lan domain requester
  | .ptpAnnounce m => s.ptpAnnounceRx lan m
  | .ptpPdelay ps => s.ptpPdelayRx lan ps
  | .otherIp | .pause | .other => s

/-- A frame arrives at a station port (R230 to R232): one of more than 1,528 bytes is not accepted. -/
def State.ethRx (s : State) (lan mac : Nat) (prp : Option (Nat × Nat)) (k : EthKind) : State :=
  if !s.lanRuns || 2 ≤ lan || !s.lanLit lan || 1528 < k.size then s
  else match prp with
    | none => s.ethServe lan mac k.body
    | some (seq, id) =>
      let s1 := if id == lanId lan then s else s.upLan fun l => { l with wrongLan := satAdd 32 l.wrongLan 1 }
      if s1.prpSeen mac seq then s1.upLan fun l => { l with duplicates := satAdd 32 l.duplicates 1 }
      else (s1.prpNote mac seq).ethServe lan mac k.body

/-- ETH_FRAME_RECEIVE (R231). -/
def execEthFrameReceive (lan srcMac : Nat) (prp : Option (Nat × Nat)) (kind : EthKind) (s : State) : Result :=
  .next (s.onLane (s.ethRx lan srcMac prp kind))

end Sys2Proof.Machine
end

