-- ==== Sys2Proof/Machine/Dispatch.lean ====
section
/-!
DEFINITION. Sys2Proof/Machine/Dispatch.lean: which meaning each command has, one arm for each row of spec/opcode_table.json.
-/
namespace Sys2Proof.Machine

/-- The effect of a command on everything but the queue. -/
def exec (i : Instr) (s : State) : Host.Outcome State Fault Refusal :=
  match i with
  | .suppliesValid vinMv vddaMv => Sys2Proof.Machine.execSuppliesValid vinMv vddaMv s
  | .brownout => Sys2Proof.Machine.execBrownout s
  | .vinLoss => Sys2Proof.Machine.execVinLoss s
  | .rstNAssert => Sys2Proof.Machine.execRstNAssert s
  | .resetRequest value => Sys2Proof.Machine.execResetRequest value s
  | .jtagReset => Sys2Proof.Machine.execJtagReset s
  | .watchdogExpiry => Sys2Proof.Machine.execWatchdogExpiry s
  | .watchdogWarning => Sys2Proof.Machine.execWatchdogWarning s
  | .watchdogKick key => Sys2Proof.Machine.execWatchdogKick key s
  | .bootComplete slots safetyOk selfTestOk calOk flushUs => Sys2Proof.Machine.execBootComplete slots safetyOk selfTestOk calOk flushUs s
  | .joinComplete => Sys2Proof.Machine.execJoinComplete s
  | .hibernate value => Sys2Proof.Machine.execHibernate value s
  | .wake => Sys2Proof.Machine.execWake s
  | .pfailFall => Sys2Proof.Machine.execPfailFall s
  | .pfailFlushDone => Sys2Proof.Machine.execPfailFlushDone s
  | .pfailRecover => Sys2Proof.Machine.execPfailRecover s
  | .vcoreWrite value vinMv => Sys2Proof.Machine.execVcoreWrite value vinMv s
  | .vcoreRampDone => Sys2Proof.Machine.execVcoreRampDone s
  | .vcoreHeadroom vinMv => Sys2Proof.Machine.execVcoreHeadroom vinMv s
  | .opCertWrite root value facts => Sys2Proof.Machine.execOpCertWrite root value facts s
  | .opCertPeriodicCheck => Sys2Proof.Machine.execOpCertPeriodicCheck s
  | .certReceive port op facts => Sys2Proof.Machine.execCertReceive port op facts s
  | .jtagLock value => Sys2Proof.Machine.execJtagLock value s
  | .jtagUnlock sigOk => Sys2Proof.Machine.execJtagUnlock sigOk s
  | .imageActivate value => Sys2Proof.Machine.execImageActivate value s
  | .restoreDefaults value role => Sys2Proof.Machine.execRestoreDefaults value role s
  | .enable => Sys2Proof.Machine.execEnable s
  | .block => Sys2Proof.Machine.execBlock s
  | .deblock => Sys2Proof.Machine.execDeblock s
  | .tripReset => Sys2Proof.Machine.execTripReset s
  | .bypassCommand value => Sys2Proof.Machine.execBypassCommand value s
  | .maintRelease value => Sys2Proof.Machine.execMaintRelease value s
  | .handoverReceive tw lead fibreExtra depth population carrier => Sys2Proof.Machine.execHandoverReceive tw lead fibreExtra depth population carrier s
  | .execDeadline k => Sys2Proof.Machine.execExecDeadline k s
  | .holdLimit => Sys2Proof.Machine.execHoldLimit s
  | .orphanBypass => Sys2Proof.Machine.execOrphanBypass s
  | .primaryRevert => Sys2Proof.Machine.execPrimaryRevert s
  | .read r => Sys2Proof.Machine.execRead r s
  | .write r => Sys2Proof.Machine.execWrite r s
  | .segRead r => Sys2Proof.Machine.execSegRead r s
  | .segWrite r => Sys2Proof.Machine.execSegWrite r s
  | .blockInit r => Sys2Proof.Machine.execBlockInit r s
  | .blockData r => Sys2Proof.Machine.execBlockData r s
  | .blockEnd r => Sys2Proof.Machine.execBlockEnd r s
  | .abort r => Sys2Proof.Machine.execAbort r s
  | .segSnapshotTimeout via tid => Sys2Proof.Machine.execSegSnapshotTimeout via tid s
  | .segWriteTimeout via tid => Sys2Proof.Machine.execSegWriteTimeout via tid s
  | .transferTimeout via tid => Sys2Proof.Machine.execTransferTimeout via tid s
  | .sessionOpen id ski authOk => Sys2Proof.Machine.execSessionOpen id ski authOk s
  | .sessionIdleTimeout id => Sys2Proof.Machine.execSessionIdleTimeout id s
  | .objectWriteApply key value jsn role => Sys2Proof.Machine.execObjectWriteApply key value jsn role s
  | .registerWrite core addr value size => Sys2Proof.Machine.execRegisterWrite core addr value size s
  | .pdEnable tx ch value => Sys2Proof.Machine.execPdEnable tx ch value s
  | .tpdSend ch => Sys2Proof.Machine.execTpdSend ch s
  | .rpdReceive src payload => Sys2Proof.Machine.execRpdReceive src payload s
  | .rpdApply => Sys2Proof.Machine.execRpdApply s
  | .rpdTimeout ch => Sys2Proof.Machine.execRpdTimeout ch s
  | .cycleStart k => Sys2Proof.Machine.execCycleStart k s
  | .warpReceive port w => Sys2Proof.Machine.execWarpReceive port w s
  | .tallyDeadline k => Sys2Proof.Machine.execTallyDeadline k s
  | .treadleFastStart k => Sys2Proof.Machine.execTreadleFastStart k s
  | .treadleFastEnd ns => Sys2Proof.Machine.execTreadleFastEnd ns s
  | .treadleSlowEnd ns => Sys2Proof.Machine.execTreadleSlowEnd ns s
  | .treadleDeadline slow => Sys2Proof.Machine.execTreadleDeadline slow s
  | .overrunEscalation => Sys2Proof.Machine.execOverrunEscalation s
  | .noCurrentLimit => Sys2Proof.Machine.execNoCurrentLimit s
  | .refHoldExpiry n => Sys2Proof.Machine.execRefHoldExpiry n s
  | .programActivate value => Sys2Proof.Machine.execProgramActivate value s
  | .stationCycleBoundary j => Sys2Proof.Machine.execStationCycleBoundary j s
  | .shuttleReceive port sh => Sys2Proof.Machine.execShuttleReceive port sh s
  | .countAdopt => Sys2Proof.Machine.execCountAdopt s
  | .weftStall => Sys2Proof.Machine.execWeftStall s
  | .rebase value => Sys2Proof.Machine.execRebase value s
  | .counterClear key value => Sys2Proof.Machine.execCounterClear key value s
  | .levelEdgeInstant k => Sys2Proof.Machine.execLevelEdgeInstant k s
  | .deadtimeExpiry out => Sys2Proof.Machine.execDeadtimeExpiry out s
  | .scheduledEdge out => Sys2Proof.Machine.execScheduledEdge out s
  | .carrierBoundary => Sys2Proof.Machine.execCarrierBoundary s
  | .delayLineCal span => Sys2Proof.Machine.execDelayLineCal span s
  | .goReadback out level => Sys2Proof.Machine.execGoReadback out level s
  | .directArm value => Sys2Proof.Machine.execDirectArm value s
  | .auxWrite object value => Sys2Proof.Machine.execAuxWrite object value s
  | .cmptTrigger n => Sys2Proof.Machine.execCmptTrigger n s
  | .bypassPulse level => Sys2Proof.Machine.execBypassPulse level s
  | .fltFilterExpiry n active => Sys2Proof.Machine.execFltFilterExpiry n active s
  | .fltClear mask => Sys2Proof.Machine.execFltClear mask s
  | .refReady => Sys2Proof.Machine.execRefReady s
  | .refFault => Sys2Proof.Machine.execRefFault s
  | .fullCalDone ok0 ok1 => Sys2Proof.Machine.execFullCalDone ok0 ok1 s
  | .calStart value => Sys2Proof.Machine.execCalStart value s
  | .ofsCalSlotDone core gain => Sys2Proof.Machine.execOfsCalSlotDone core gain s
  | .ofsCalStarved core gain => Sys2Proof.Machine.execOfsCalStarved core gain s
  | .tbSampleStart core => Sys2Proof.Machine.execTbSampleStart core s
  | .adcWorkStart core => Sys2Proof.Machine.execAdcWorkStart core s
  | .conversionDone core raw => Sys2Proof.Machine.execConversionDone core raw s
  | .swTrigger core value => Sys2Proof.Machine.execSwTrigger core value s
  | .urgentRequest core value => Sys2Proof.Machine.execUrgentRequest core value s
  | .resultRead core => Sys2Proof.Machine.execResultRead core s
  | .adcEnable core value => Sys2Proof.Machine.execAdcEnable core value s
  | .wcStateChange n microvolts => Sys2Proof.Machine.execWcStateChange n microvolts s
  | .wcFilterExpiry n => Sys2Proof.Machine.execWcFilterExpiry n s
  | .linkPortEnable port => Sys2Proof.Machine.execLinkPortEnable port s
  | .linkLock port => Sys2Proof.Machine.execLinkLock port s
  | .linkHello port => Sys2Proof.Machine.execLinkHello port s
  | .linkMeasure port => Sys2Proof.Machine.execLinkMeasure port s
  | .linkUp port => Sys2Proof.Machine.execLinkUp port s
  | .linkDown port los => Sys2Proof.Machine.execLinkDown port los s
  | .linkFlap port => Sys2Proof.Machine.execLinkFlap port s
  | .flapHoldoffRestore port => Sys2Proof.Machine.execFlapHoldoffRestore port s
  | .lsReceive port ls => Sys2Proof.Machine.execLsReceive port ls s
  | .frameReceive port bytes => Sys2Proof.Machine.execFrameReceive port bytes s
  | .frameTransmit port => Sys2Proof.Machine.execFrameTransmit port s
  | .frameStallAbort port => Sys2Proof.Machine.execFrameStallAbort port s
  | .delayRequestSend port => Sys2Proof.Machine.execDelayRequestSend port s
  | .delayRequestReceive port xid => Sys2Proof.Machine.execDelayRequestReceive port xid s
  | .delayResponseReceive port xid t2 t3 => Sys2Proof.Machine.execDelayResponseReceive port xid t2 t3 s
  | .delayExchangeVoid port => Sys2Proof.Machine.execDelayExchangeVoid port s
  | .xcvrDiagPoll port => Sys2Proof.Machine.execXcvrDiagPoll port s
  | .xcvrDiagDone port temp vcc bias txpwr rxpwr flags => Sys2Proof.Machine.execXcvrDiagDone port temp vcc bias txpwr rxpwr flags s
  | .i2cStretchTimeout port => Sys2Proof.Machine.execI2cStretchTimeout port s
  | .cuStart u value => Sys2Proof.Machine.execCuStart u value s
  | .cuData u value => Sys2Proof.Machine.execCuData u value s
  | .cuModeWrite u value => Sys2Proof.Machine.execCuModeWrite u value s
  | .lanLinkChange lan linkUp => Sys2Proof.Machine.execLanLinkChange lan linkUp s
  | .ethFrameReceive lan srcMac prp kind => Sys2Proof.Machine.execEthFrameReceive lan srcMac prp kind s
  | .prpSupervision => Sys2Proof.Machine.execPrpSupervision s
  | .goosePublish n => Sys2Proof.Machine.execGoosePublish n s
  | .gooseRetransmit n => Sys2Proof.Machine.execGooseRetransmit n s
  | .gooseReceive m g => Sys2Proof.Machine.execGooseReceive m g s
  | .gooseApply => Sys2Proof.Machine.execGooseApply s
  | .gooseTimeout m => Sys2Proof.Machine.execGooseTimeout m s
  | .svReceive n appid svid srcMac asdus => Sys2Proof.Machine.execSvReceive n appid svid srcMac asdus s
  | .svTimeout n => Sys2Proof.Machine.execSvTimeout n s
  | .blkMinHoldEnd => Sys2Proof.Machine.execBlkMinHoldEnd s
  | .refclkLost => Sys2Proof.Machine.execRefclkLost s
  | .refclkReturn => Sys2Proof.Machine.execRefclkReturn s
  | .refclkStable => Sys2Proof.Machine.execRefclkStable s
  | .rateWrite value => Sys2Proof.Machine.execRateWrite value s
  | .stepWrite value => Sys2Proof.Machine.execStepWrite value s
  | .scheduledStepArm value => Sys2Proof.Machine.execScheduledStepArm value s
  | .scheduledStepApply => Sys2Proof.Machine.execScheduledStepApply s
  | .ntReadLatch tap => Sys2Proof.Machine.execNtReadLatch tap s
  | .syncSend => Sys2Proof.Machine.execSyncSend s
  | .syncReceive port m => Sys2Proof.Machine.execSyncReceive port m s
  | .timeLock => Sys2Proof.Machine.execTimeLock s
  | .timeAlign => Sys2Proof.Machine.execTimeAlign s
  | .timeHoldoverTimeout => Sys2Proof.Machine.execTimeHoldoverTimeout s
  | .ptpSyncReceive lan m => Sys2Proof.Machine.execPtpSyncReceive lan m s
  | .ptpAnnounceReceive lan m => Sys2Proof.Machine.execPtpAnnounceReceive lan m s
  | .ptpAnnounceTimeout lan => Sys2Proof.Machine.execPtpAnnounceTimeout lan s
  | .ptpPdelay lan ps => Sys2Proof.Machine.execPtpPdelay lan ps s
  | .stepSchedule => Sys2Proof.Machine.execStepSchedule s
  | .timeSet value => Sys2Proof.Machine.execTimeSet value s
  | .tpoPulseStart n => Sys2Proof.Machine.execTpoPulseStart n s
  | .tpoPulseEnd n => Sys2Proof.Machine.execTpoPulseEnd n s
  | .tsiCapture n falling => Sys2Proof.Machine.execTsiCapture n falling s
  | .tsiFifoPop n => Sys2Proof.Machine.execTsiFifoPop n s
  | .hdlNext core => Sys2Proof.Machine.execHdlNext core s
  | .dispatch core => Sys2Proof.Machine.execDispatch core s
  | .hdlDone core value => Sys2Proof.Machine.execHdlDone core value s
  | .hdlPost core out => Sys2Proof.Machine.execHdlPost core out s
  | .hdlCancel core op => Sys2Proof.Machine.execHdlCancel core op s
  | .hdlDly core ticks => Sys2Proof.Machine.execHdlDly core ticks s
  | .hdlDlycan core handle => Sys2Proof.Machine.execHdlDlycan core handle s
  | .delayTick list => Sys2Proof.Machine.execDelayTick list s
  | .operationFault core ue => Sys2Proof.Machine.execOperationFault core ue s
  | .budgetExpiry core => Sys2Proof.Machine.execBudgetExpiry core s
  | .graphActivate value => Sys2Proof.Machine.execGraphActivate value s
  | .graphLoad => Sys2Proof.Machine.execGraphLoad s
  | .eventToken code => Sys2Proof.Machine.execEventToken code s
  | .userObjectApply => Sys2Proof.Machine.execUserObjectApply s
  | .scrubRead addr bits => Sys2Proof.Machine.execScrubRead addr bits s
  | .scrubLate => Sys2Proof.Machine.execScrubLate s
  | .loadWindowEnd => Sys2Proof.Machine.execLoadWindowEnd s
  | .ecWindowStart n => Sys2Proof.Machine.execEcWindowStart n s
  | .ecWindowEnd n => Sys2Proof.Machine.execEcWindowEnd n s
  | .ecLoRead n => Sys2Proof.Machine.execEcLoRead n s
  | .ecConfigWrite n mode value => Sys2Proof.Machine.execEcConfigWrite n mode value s
  | .entryReceive port e => Sys2Proof.Machine.execEntryReceive port e s
  | .fence id role => Sys2Proof.Machine.execFence id role s
  | .commitAckReceive lane jsn => Sys2Proof.Machine.execCommitAckReceive lane jsn s
  | .acceptReceive lane jsn applyAt => Sys2Proof.Machine.execAcceptReceive lane jsn applyAt s
  | .acceptedReceive src lane epoch jsn => Sys2Proof.Machine.execAcceptedReceive src lane epoch jsn s
  | .appliedReceive src jsn confirmJsn status => Sys2Proof.Machine.execAppliedReceive src jsn confirmJsn status s
  | .headSend lane => Sys2Proof.Machine.execHeadSend lane s
  | .headReceive lane head trim => Sys2Proof.Machine.execHeadReceive lane head trim s
  | .catchupReceive src lane applied unclean => Sys2Proof.Machine.execCatchupReceive src lane applied unclean s
  | .imageReceive base records last => Sys2Proof.Machine.execImageReceive base records last s
  | .pairSend => Sys2Proof.Machine.execPairSend s
  | .pairReceive m => Sys2Proof.Machine.execPairReceive m s
  | .partnerSilent => Sys2Proof.Machine.execPartnerSilent s
  | .commitAckTimeout => Sys2Proof.Machine.execCommitAckTimeout s
  | .pairWaitTimeout => Sys2Proof.Machine.execPairWaitTimeout s
  | .applyAtReached k => Sys2Proof.Machine.execApplyAtReached k s
  | .takeover => Sys2Proof.Machine.execTakeover s
  | .yieldReceive cause => Sys2Proof.Machine.execYieldReceive cause s
  | .primaryReceive port member => Sys2Proof.Machine.execPrimaryReceive port member s
  | .pulseWatchdog => Sys2Proof.Machine.execPulseWatchdog s
  | .switchover value => Sys2Proof.Machine.execSwitchover value s
  | .resyncStart value => Sys2Proof.Machine.execResyncStart value s
  | .mirrorReceive payload => Sys2Proof.Machine.execMirrorReceive payload s
  | .snapReqReceive offset => Sys2Proof.Machine.execSnapReqReceive offset s
  | .snapReceive offset total data last => Sys2Proof.Machine.execSnapReceive offset total data last s
  | .snapReqRetry => Sys2Proof.Machine.execSnapReqRetry s
  | .resyncVerified => Sys2Proof.Machine.execResyncVerified s
  | .resyncTimeout => Sys2Proof.Machine.execResyncTimeout s
  | .resyncRetry => Sys2Proof.Machine.execResyncRetry s
  | .trimAdvance lane => Sys2Proof.Machine.execTrimAdvance lane s
  | .snapshotWrite => Sys2Proof.Machine.execSnapshotWrite s
  | .safeInFilter n level => Sys2Proof.Machine.execSafeInFilter n level s
  | .safetyCoreSample level0 level1 => Sys2Proof.Machine.execSafetyCoreSample level0 level1 s
  | .sinDiscrepancy => Sys2Proof.Machine.execSinDiscrepancy s
  | .offpulse n active => Sys2Proof.Machine.execOffpulse n active s
  | .offpulseCheck n level => Sys2Proof.Machine.execOffpulseCheck n level s
  | .permitWithdraw core => Sys2Proof.Machine.execPermitWithdraw core s
  | .safetyFrameSend => Sys2Proof.Machine.execSafetyFrameSend s
  | .safetyFrameChangeSend => Sys2Proof.Machine.execSafetyFrameChangeSend s
  | .safetyFrameReceive port payload => Sys2Proof.Machine.execSafetyFrameReceive port payload s
  | .safetyConnExpiry port => Sys2Proof.Machine.execSafetyConnExpiry port s
  | .safetyParamPersist port => Sys2Proof.Machine.execSafetyParamPersist port s
  | .dnmDisagree => Sys2Proof.Machine.execDnmDisagree s
  | .sdiTimer n => Sys2Proof.Machine.execSdiTimer n s
  | .supplyMonitor => Sys2Proof.Machine.execSupplyMonitor s
  | .heartbeatMiss => Sys2Proof.Machine.execHeartbeatMiss s
  | .injectionTest ok => Sys2Proof.Machine.execInjectionTest ok s
  | .decisionDiscrepancy => Sys2Proof.Machine.execDecisionDiscrepancy s
  | .wcStageDisagree n => Sys2Proof.Machine.execWcStageDisagree n s
  | .ioscCheck ok => Sys2Proof.Machine.execIoscCheck ok s
  | .coreLockstepError => Sys2Proof.Machine.execCoreLockstepError s
  | .degMinute => Sys2Proof.Machine.execDegMinute s
  | .degClear value => Sys2Proof.Machine.execDegClear value s
  | .scvConfirm value => Sys2Proof.Machine.execScvConfirm value s
  | .spsWrite key value => Sys2Proof.Machine.execSpsWrite key value s
  | .foldWindowEnd => Sys2Proof.Machine.execFoldWindowEnd s
  | .eventFrameSend => Sys2Proof.Machine.execEventFrameSend s
  | .eventFrameReceive src payload => Sys2Proof.Machine.execEventFrameReceive src payload s
  | .mediaRepeat => Sys2Proof.Machine.execMediaRepeat s
  | .mediaFlagExpiry src => Sys2Proof.Machine.execMediaFlagExpiry src s
  | .mediaService value testOk blank => Sys2Proof.Machine.execMediaService value testOk blank s
  | .recClear value role => Sys2Proof.Machine.execRecClear value role s
  | .bobFormat value => Sys2Proof.Machine.execBobFormat value s
  | .userRecord value => Sys2Proof.Machine.execUserRecord value s
  | .denStore => Sys2Proof.Machine.execDenStore s
  | .flashOpDone work ok => Sys2Proof.Machine.execFlashOpDone work ok s
  | .chipTimeout cs => Sys2Proof.Machine.execChipTimeout cs s
  | .bobScrubRead partition lsn bits refresh uncorrectable otherBad => Sys2Proof.Machine.execBobScrubRead partition lsn bits refresh uncorrectable otherBad s
  | .bobScrubLate => Sys2Proof.Machine.execBobScrubLate s
  | .wearLevelMove block => Sys2Proof.Machine.execWearLevelMove block s
  | .optSave => Sys2Proof.Machine.execOptSave s
  | .moduleAbsent port gone => Sys2Proof.Machine.execModuleAbsent port gone s
  | .healthJournalLost => Sys2Proof.Machine.execHealthJournalLost s
  | .supplyReturn => Sys2Proof.Machine.execSupplyReturn s
  | .vinRecovers vinMv => Sys2Proof.Machine.execVinRecovers vinMv s

end Sys2Proof.Machine
end

