-- ==== Sys2Proof/Machine/Idle.lean ====
section
/-!
DEFINITION. Sys2Proof/Machine/Idle.lean: what the device does when no command waits. DESIGN CHOICE(4): one step of REFCLK passes
(R243, R244): a lane sends LS blocks, a STATION its PTP messages, an active member its SNAP segments, and a core that runs counts the period.
-/
namespace Sys2Proof.Machine

/-- One step of REFCLK (R243, R244): TRAW counts one period, 128 taps. -/
def TimeBase.tick (tb : TimeBase) : TimeBase := { tb with taps := tb.taps + 128 }

/-- A worker core that runs an operation counts the period (R299, R301). -/
def State.coreTick (s : State) (i : Nat) : State :=
  if (vget s.hdl.cores i {}).opened.isSome then
    ((s.upHdl fun h => { h with cores := vset h.cores i { vget h.cores i {} with busy := (vget h.cores i {}).busy + 128 } }).event (0x10 + i))
  else s

/-- The worker cores run on their own (R274): how many instructions one that runs an operation retires in a period of REFCLK, and how many of its
accesses wait for a bank of shared SRAM, are free where a counter counts them. DESIGN CHOICE(73). -/
def State.coreEvents (s : State) (i code : Nat) : State :=
  if (vget s.hdl.cores i {}).opened.isSome && (List.range 16).any (s.counts code) then
    let f := s.drawFree 16
    f.2.event code f.1
  else s

/-- A port sends the LS block of a change of BLK or UPLOST at once (R203 item 1, R238). -/
def State.lsTick (s : State) (p : Nat) : State :=
  let x := s.port p
  let now := (2 ≤ p && s.link.blkOut, 2 ≤ p && (s.node.uplostSent || s.jrn.upLostTx))
  if s.floen p && x.alive && x.lsSent != now then
    s.upPort p fun y => { y with lsSent := now, tx := y.tx.addLs s.tb.taps }
  else s

/-- The correction of a remainder of TIME_SET ends (R262): RATE returns to the free-running rate. -/
def State.slewTick (s : State) : State :=
  match s.tb.slewEnd with
  | some t => if t ≤ s.tb.taps then s.upTb fun b => { b.setRate 0 with slewEnd := none } else s
  | none => s

/-- A STATION sends its PTP messages every second (R261): as a master Sync, two-step or one-step, and Announce; and a request of the peer
delay. -/
def State.ptpTick (s : State) : State :=
  let p := s.tb.ptp
  if !s.ptpRuns || inWindow p.sentTap tapsS s.tb.taps then s
  else
    let s1 := (s.upTb fun t => { t with ptp := { t.ptp with sentTap := t.taps } }).ptpSend (.pdelayReq (s.objEff Obj.DOMAIN))
    if !p.asMaster then s1
    else
      let two := s.objB Obj.TWO_STEP
      let s2 := (s1.ptpSend (.announce { s.ptpOwn with domain := s.objEff Obj.DOMAIN })).ptpSend (.sync (s.objEff Obj.DOMAIN) two)
      if two then s2.ptpSend (.followUp (s.objEff Obj.DOMAIN)) else s2

/-- The store measures its foreground load in half-open windows of 1 s (R409). DESIGN CHOICE(172): the windows begin where TRAW is a multiple of
100,000,000. -/
def State.bobTick (s : State) : State :=
  let busy := if s.foreground then s.bob.fgBusy + 128 else s.bob.fgBusy
  if s.atSecond then s.upBob fun b => { b with load := min 65535 (busy * 65536 / tapsS), fgBusy := 0 }
  else if busy == s.bob.fgBusy then s
  else s.upBob fun b => { b with fgBusy := busy }

/-- One period passes over what the island compares without a break (R352, R354, R367, R371): the start of each discrepancy and the last edge of
each enable are noted, and decisions that agree again end SAFETY_DISCREPANCY. -/
def State.watchIsland (s : State) : State :=
  let v := s.channelSees
  (if v.1 == v.2 then s.endRun .safetyDiscrepancy 0 else s).upSel fun l => { l with
    sinDiscAt := startOf l.sinDiscAt s.sinDiscrepant s.tb.taps
    decAt := startOf l.decAt (v.1 != v.2) s.tb.taps
    dnmDisAt := startOf l.dnmDisAt (s.dnm && !s.dnmAgree) s.tb.taps
    enSeen := Vector.ofFn fun i => (s.enActive i, s.lastEnEdge i) }

/-- Time passes by one period of REFCLK while it runs and the device is outside OFF; the edge stage notes the edges of the period that ends
(R146), and each delay list releases one due entry (R296). -/
def State.idle (s : State) : State :=
  if s.tb.refOk && s.powered then
    let s0 := [0, 1, 2, 3].foldl State.dlyRelease s.watchOutputs.watchIsland
    let s1 := ([0, 1, 2, 3, 4, 5].foldl State.lsTick s0).upTb TimeBase.tick
    let s2 := [0, 1, 2, 3, 4, 5, 6, 7].foldl State.coreTick s1.slewTick.ptpTick.bobTick.snapTick
    ([0, 1, 2, 3, 4, 5, 6, 7].foldl (fun t i => (t.coreEvents i i).coreEvents i 0x28) s2).event 0x5E
  else s

end Sys2Proof.Machine
end

