-- ==== Sys2Proof/Safety.lean ====
section
/-!
DEFINITION. Sys2Proof/Safety.lean: the words in which statements about the device are made: the parts of State and what a command
leaves of them, and what every step keeps.
-/
namespace Sys2Proof.Machine

/-- The parts of State, one name for each. -/
inductive Part where
  | pins | node | dict | weft | arm | trdl | gate | adc | link | tb | hdl | evc | mem | jrn | sel | recd | bob | sys | inbox | free
  | pending
  deriving DecidableEq, Repr

/-- Two states agree in one part. -/
def Part.agrees (p : Part) (s t : State) : Prop :=
  match p with
  | .pins => t.pins = s.pins
  | .node => t.node = s.node
  | .dict => t.dict = s.dict
  | .weft => t.weft = s.weft
  | .arm => t.arm = s.arm
  | .trdl => t.trdl = s.trdl
  | .gate => t.gate = s.gate
  | .adc => t.adc = s.adc
  | .link => t.link = s.link
  | .tb => t.tb = s.tb
  | .hdl => t.hdl = s.hdl
  | .evc => t.evc = s.evc
  | .mem => t.mem = s.mem
  | .jrn => t.jrn = s.jrn
  | .sel => t.sel = s.sel
  | .recd => t.recd = s.recd
  | .bob => t.bob = s.bob
  | .sys => t.sys = s.sys
  | .inbox => t.inbox = s.inbox
  | .free => t.free = s.free
  | .pending => t.pending = s.pending

/-- `t` agrees with `s` in every part that `l` does not name. -/
def SameBut (l : List Part) (s t : State) : Prop := ∀ p, p ∉ l → p.agrees s t

/-- The parts in which the making of a record shows: the recorder, the event counters and the markers of running faults (R300,
R392, R401). -/
def recordParts : List Part := [.recd, .evc, .node]

/-- The parts that a fault's record and its action may change (R14 to R16, R163, R335, R348, R368): no converter, no control loop, no
time base, no worker core and no memory. -/
def faultParts : List Part := [.recd, .evc, .node, .sel, .gate, .link, .jrn, .dict]

/-- The memory is in its canonical form, and the Den holds no more than its 64 slots (R392). -/
def State.Inv (s : State) : Prop := s.mem.wf = true ∧ s.recd.den.length ≤ 64

/-- The two switches of each leg are not on together (R143). -/
def State.LegsApart (s : State) : Prop :=
  ((s.gate.switch 0).on && (s.gate.switch 1).on) = false ∧ ((s.gate.switch 2).on && (s.gate.switch 3).on) = false

/-- The byte that the memory holds at a global address (R276). -/
def State.byteAt (s : State) (a : Nat) : Byte := s.mem.read a

/-- A command answers a next state, and `P` holds of it. -/
def Runs (c : Instr) (s : State) (P : State → Prop) : Prop := ∃ t, exec c s = .next t ∧ P t

/-- `t` is `s` after a refusal at this node (R69): the refusal is counted and latched, a record of it is made, and nothing else
changes but the marker of dropped records. -/
def Refused (st : Status) (key : Nat) (s t : State) : Prop :=
  t.dict = { s.dict with refusedCount := satAdd 32 s.dict.refusedCount 1, lastRefusal := st.code * 2 ^ 24 + key % 2 ^ 24 }
    ∧ t.node = { s.node with runs := t.node.runs } ∧ SameBut [.dict, .recd, .evc, .node] s t

/-- What every reset leaves (R29, R30, R348, R369, R432): the role its straps give, BOOT, or BYPASS at a cell whose bypass mark stood; the SPB latch
set by cause 12, and through a warm reset by cause 10 where that stands; memory, Weft, links (but for the levels of their balls) and event counters at
their reset values, converters too, whose buffer and offsets are timed from the reset (the model's choice, log 203); the balls and the waiting commands
as they were. -/
def ResetLeaves (cause : Nat) (s t : State) : Prop :=
  t.node.role = s.sampledRole ∧ t.node.nodeState = (if s.markAfter (resetKind cause) && s.sampledRole == .cell then .bypass else .boot)
    ∧ t.sys.resetCause = cause ∧ t.sel.spb = true ∧ t.sel.causes = (if 3 ≤ cause ∧ bitOf s.sel.causes 10 = true then 0x1400 else 0x1000)
    ∧ t.mem = {} ∧ t.adc = { refSince := t.tb.taps, cores := Vector.replicate 2 { ofsAt := Vector.replicate 5 t.tb.taps } } ∧ t.weft = {} ∧ t.arm = {}
    ∧ t.link = { ports := s.link.ports.map Port.levelsOnly } ∧ t.evc = {} ∧ t.inbox = []
    ∧ SameBut [.node, .dict, .weft, .arm, .trdl, .gate, .adc, .link, .tb, .hdl, .evc, .mem, .jrn, .sel, .recd, .bob, .sys, .inbox, .free] s t

/-- What a warm reset keeps (R244, R402, R432): the clock with its corrections, the SBY latch, the degraded mode, PCC, the journal's last
numbers, the Den with its open record closed and without the slots whose CHECK fails, what EVENTS holds, and the stored values of the PERS objects
that no restore of defaults returns. -/
def WarmKeeps (s t : State) : Prop :=
  t.tb.taps = s.tb.taps ∧ t.tb.offset = s.tb.offset ∧ t.tb.rate = s.tb.rate ∧ t.gate.hiz = s.gate.hiz ∧ t.sel.sby = s.sel.sby
    ∧ t.sel.degraded = s.sel.degraded ∧ t.sel.degMin = s.sel.degMin ∧ t.recd.pcc = s.recd.pcc ∧ t.jrn.lastJsn = s.jrn.lastJsn
    ∧ t.jrn.epoch = s.jrn.epoch ∧ t.recd.den = (s.recd.close false).den.filter (fun d => !d.bad) ∧ t.recd.events = s.recd.events
    ∧ t.dict.objs = restoreCells s.dict.restore s.dict.objs

end Sys2Proof.Machine
end

