-- ==== Sys2Proof/WellFormed.lean ====
section
/-!
DEFINITION. Sys2Proof/WellFormed.lean: the commands whose operands lie in the ranges that the manual gives their fields: ports, channels and units
(R194, R197, R300), codes of lanes and partitions (R309, R407), addresses (R5, R6), sequence numbers and times by their widths (R51, R205, R311).
-/
namespace Sys2Proof

/-- A value fits a field of `w` bits. -/
def fits (w v : Nat) : Bool := decide (v < 2 ^ w)

/-- A number below a count. -/
def below (n v : Nat) : Bool := decide (v < n)

/-- A Floen port: 0 UPA, 1 UPB, 2 to 5 DN0 to DN3 (R197). -/
def isPort (p : Nat) : Bool := below 6 p

/-- An up port. -/
def isUp (p : Nat) : Bool := below 2 p

/-- A down port. -/
def isDown (p : Nat) : Bool := decide (2 ≤ p) && below 6 p

/-- A lane code (R309): an arm, the relay lane or the station lane. -/
def isLane (l : Nat) : Bool := below 16 l || l == 0xFFFE || l == 0xFFFF

/-- A source address that names a node (R5, R6). -/
def isSource (a : Nat) : Bool := fits 19 a && !Machine.addrReserved a

/-- An object key: a 16-bit index and an 8-bit sub-index (R51). -/
def isKey (k : Nat) : Bool := fits 24 k

/-- A partition code (R407). -/
def isPartition (p : Nat) : Bool := decide (1 ≤ p) && below 8 p

/-- A block of one of the two chip selects (R391, R405). -/
def placeOk (p : PhysBlock) : Bool := below 2 p.cs && fits 32 p.block

/-- A flash operation on a partition of the layout, and a block that there is (R399, R406, R407). -/
def flashOpOk : FlashOp → Bool
  | .program part place sectors => isPartition part && placeOk place && sectors.all fun e => below 2 e.1 && fits 32 e.2
  | .erase place => placeOk place
  | .read part sector _ _ _ _ => isPartition part && below 2 sector.copy && fits 32 sector.lsn && placeOk sector.place

/-- A store of 1, 2 or 4 bytes (R276). -/
def isSize (n : Nat) : Bool := n == 1 || n == 2 || n == 4

/-- A payload of at most 1,024 bytes (R205). -/
def payloadOk (b : List Byte) : Bool := decide (b.length ≤ 1024)

/-- Where a request comes from. -/
def viaOk (v : Via) : Bool := match v with | .session _ => true | .port p => isPort p

/-- A service request with its fields in their widths (R51). -/
def requestOk (r : Request) : Bool :=
  viaOk r.via && fits 16 r.tid && fits 19 r.target && fits 16 r.index && fits 8 r.sub && fits 32 r.param && decide (r.len ≤ 512) && fits (8 * r.len) r.value

/-- An entry with its fields in their widths (R311, R313). -/
def entryOk (e : JEntry) : Bool :=
  isLane e.lane && fits 64 e.jsn && fits 64 e.pjsn && decide (e.pjsn < e.jsn) && fits 64 e.applyAt && fits 19 e.target && fits 16 e.index && fits 8 e.sub
    && decide (e.len ≤ 65536)

/-- A PAIR frame with its fields in their widths (R312). -/
def pairOk (m : PairMsg) : Bool :=
  fits 32 m.epoch && fits 6 m.health && fits 32 m.fwDigest && fits 32 m.progDigest && fits 32 m.graphDigest && fits 64 m.committed

/-- An image record with its fields in their widths (R314). -/
def imageOk (r : ImageRec) : Bool :=
  fits 16 r.index && fits 8 r.sub && fits 64 r.jsn && decide (r.total ≤ 65536) && decide (r.offset + r.bytes.length ≤ r.total) && decide (r.bytes.length ≤ 976)

/-- A command whose operands lie in the ranges of their fields. -/
def WellFormed (i : Instr) : Bool :=
  match i with
  | .suppliesValid vinMv vddaMv => fits 16 vinMv && fits 16 vddaMv
  | .brownout => true
  | .vinLoss => true
  | .rstNAssert => true
  | .resetRequest value => fits 32 value
  | .jtagReset => true
  | .watchdogExpiry => true
  | .watchdogWarning => true
  | .watchdogKick key => fits 32 key
  | .bootComplete _ _ _ _ flushUs => fits 16 flushUs
  | .joinComplete => true
  | .hibernate value => fits 32 value
  | .wake => true
  | .pfailFall => true
  | .pfailFlushDone => true
  | .pfailRecover => true
  | .vcoreWrite value vinMv => fits 32 value && fits 16 vinMv
  | .vcoreRampDone => true
  | .vcoreHeadroom vinMv => fits 16 vinMv
  | .opCertWrite _ _ _ => true
  | .opCertPeriodicCheck => true
  | .certReceive port _ _ => isPort port
  | .jtagLock value => fits 32 value
  | .jtagUnlock _ => true
  | .imageActivate value => fits 32 value
  | .restoreDefaults value _ => fits 32 value
  | .enable => true
  | .block => true
  | .deblock => true
  | .tripReset => true
  | .bypassCommand value => fits 32 value
  | .maintRelease value => fits 32 value
  | .handoverReceive tw lead fibreExtra depth population _ => fits 32 tw && fits 32 lead && fits 16 fibreExtra && below 13 depth && fits 16 population
  | .execDeadline k => fits 64 k
  | .holdLimit => true
  | .orphanBypass => true
  | .primaryRevert => true
  | .read r => requestOk r
  | .write r => requestOk r
  | .segRead r => requestOk r
  | .segWrite r => requestOk r
  | .blockInit r => requestOk r
  | .blockData r => requestOk r
  | .blockEnd r => requestOk r
  | .abort r => requestOk r
  | .segSnapshotTimeout via tid => viaOk via && fits 16 tid
  | .segWriteTimeout via tid => viaOk via && fits 16 tid
  | .transferTimeout via tid => viaOk via && fits 16 tid
  | .sessionOpen _ _ _ => true
  | .sessionIdleTimeout _ => true
  | .objectWriteApply key _ jsn _ => isKey key && fits 64 jsn
  | .registerWrite core addr value size => below 8 core && fits 32 addr && fits 32 value && isSize size
  | .pdEnable _ ch value => below 8 ch && fits 32 value
  | .tpdSend ch => below 8 ch
  | .rpdReceive src payload => isSource src && payloadOk payload
  | .rpdApply => true
  | .rpdTimeout ch => below 8 ch
  | .cycleStart k => fits 64 k
  | .warpReceive port _ => isDown port
  | .tallyDeadline k => fits 64 k
  | .treadleFastStart k => fits 64 k
  | .treadleFastEnd ns => fits 32 ns
  | .treadleSlowEnd ns => fits 32 ns
  | .treadleDeadline _ => true
  | .overrunEscalation => true
  | .noCurrentLimit => true
  | .refHoldExpiry n => below 8 n
  | .programActivate value => fits 32 value
  | .stationCycleBoundary j => fits 64 j
  | .shuttleReceive port _ => isUp port
  | .countAdopt => true
  | .weftStall => true
  | .rebase value => fits 32 value
  | .counterClear key value => isKey key && fits 32 value
  | .levelEdgeInstant k => fits 64 k
  | .deadtimeExpiry out => below 4 out
  | .scheduledEdge out => below 8 out
  | .carrierBoundary => true
  | .delayLineCal span => fits 16 span
  | .goReadback out _ => below 8 out
  | .directArm value => fits 32 value
  | .auxWrite _ value => fits 32 value
  | .cmptTrigger n => below 4 n
  | .bypassPulse _ => true
  | .fltFilterExpiry n _ => below 6 n
  | .fltClear mask => below 64 mask
  | .refReady => true
  | .refFault => true
  | .fullCalDone _ _ => true
  | .calStart value => fits 32 value
  | .ofsCalSlotDone core gain => below 2 core && below 5 gain
  | .ofsCalStarved core gain => below 2 core && below 5 gain
  | .tbSampleStart core => below 2 core
  | .adcWorkStart core => below 2 core
  | .conversionDone core raw => below 2 core && fits 16 raw
  | .swTrigger core value => below 2 core && fits 32 value
  | .urgentRequest core value => below 2 core && fits 32 value
  | .resultRead core => below 2 core
  | .adcEnable core value => below 2 core && fits 32 value
  | .wcStateChange n microvolts => below 4 n && fits 32 microvolts
  | .wcFilterExpiry n => below 4 n
  | .linkPortEnable port => isPort port
  | .linkLock port => isPort port
  | .linkHello port => isPort port
  | .linkMeasure port => isPort port
  | .linkUp port => isPort port
  | .linkDown port _ => isPort port
  | .linkFlap port => isPort port
  | .flapHoldoffRestore port => isPort port
  | .lsReceive port _ => isPort port
  | .frameReceive port bytes => isPort port && bytes.length ≤ 1044
  | .frameTransmit port => isPort port
  | .frameStallAbort port => isPort port
  | .delayRequestSend port => isPort port
  | .delayRequestReceive port xid => isPort port && fits 16 xid
  | .delayResponseReceive port xid t2 t3 => isPort port && fits 16 xid && fits 64 t2 && fits 64 t3
  | .delayExchangeVoid port => isPort port
  | .xcvrDiagPoll port => isPort port
  | .xcvrDiagDone port _ vcc bias txpwr rxpwr flags => isPort port && fits 16 vcc && fits 16 bias && fits 16 txpwr && fits 16 rxpwr && fits 16 flags
  | .i2cStretchTimeout port => isPort port
  | .cuStart u value => below 4 u && fits 32 value
  | .cuData u value => below 4 u && fits 32 value
  | .cuModeWrite u value => below 4 u && fits 32 value
  | .lanLinkChange lan _ => below 2 lan
  | .ethFrameReceive lan srcMac _ _ => below 2 lan && fits 48 srcMac
  | .prpSupervision => true
  | .goosePublish n => below 8 n
  | .gooseRetransmit n => below 8 n
  | .gooseReceive m _ => below 32 m
  | .gooseApply => true
  | .gooseTimeout m => below 32 m
  | .svReceive n appid _ srcMac _ => below 4 n && fits 16 appid && fits 48 srcMac
  | .svTimeout n => below 4 n
  | .blkMinHoldEnd => true
  | .refclkLost => true
  | .refclkReturn => true
  | .refclkStable => true
  | .rateWrite value => fits 32 value
  | .stepWrite value => fits 32 value
  | .scheduledStepArm value => fits 32 value
  | .scheduledStepApply => true
  | .ntReadLatch tap => fits 8 tap
  | .syncSend => true
  | .syncReceive port _ => isPort port
  | .timeLock => true
  | .timeAlign => true
  | .timeHoldoverTimeout => true
  | .ptpSyncReceive lan m => below 2 lan && fits 8 m.domain && fits 64 m.sender
  | .ptpAnnounceReceive lan _ => below 2 lan
  | .ptpAnnounceTimeout lan => below 2 lan
  | .ptpPdelay lan _ => below 2 lan
  | .stepSchedule => true
  | .timeSet value => fits 96 value
  | .tpoPulseStart n => below 4 n
  | .tpoPulseEnd n => below 4 n
  | .tsiCapture n _ => below 4 n
  | .tsiFifoPop n => below 4 n
  | .hdlNext core => below 8 core
  | .dispatch core => below 8 core
  | .hdlDone core value => below 8 core && fits 32 value
  | .hdlPost core out => below 8 core && below 8 out
  | .hdlCancel core op => below 8 core && below 4096 op
  | .hdlDly core ticks => below 8 core && fits 32 ticks
  | .hdlDlycan core handle => below 8 core && fits 32 handle
  | .delayTick list => below 4 list
  | .operationFault core _ => below 8 core
  | .budgetExpiry core => below 8 core
  | .graphActivate value => fits 32 value
  | .graphLoad => true
  | .eventToken code => fits 16 code
  | .userObjectApply => true
  | .scrubRead addr bits => fits 32 addr && fits 16 bits
  | .scrubLate => true
  | .loadWindowEnd => true
  | .ecWindowStart n => below 16 n
  | .ecWindowEnd n => below 16 n
  | .ecLoRead n => below 16 n
  | .ecConfigWrite n _ value => below 16 n && fits 32 value
  | .entryReceive port e => isPort port && entryOk e
  | .fence id _ => fits 64 id
  | .commitAckReceive lane jsn => isLane lane && fits 64 jsn
  | .acceptReceive lane jsn applyAt => isLane lane && fits 64 jsn && fits 64 applyAt
  | .acceptedReceive src lane epoch jsn => isSource src && isLane lane && fits 32 epoch && fits 64 jsn
  | .appliedReceive src jsn confirmJsn status => isSource src && fits 64 jsn && fits 64 confirmJsn && fits 8 status
  | .headSend lane => isLane lane
  | .headReceive lane head trim => isLane lane && fits 64 head && fits 64 trim
  | .catchupReceive src lane applied _ => isSource src && isLane lane && fits 64 applied
  | .imageReceive base records _ => fits 64 base && records.all imageOk
  | .pairSend => true
  | .pairReceive m => pairOk m
  | .partnerSilent => true
  | .commitAckTimeout => true
  | .pairWaitTimeout => true
  | .applyAtReached k => fits 64 k
  | .takeover => true
  | .yieldReceive cause => fits 8 cause
  | .primaryReceive port member => isDown port && below 2 member
  | .pulseWatchdog => true
  | .switchover value => fits 32 value
  | .resyncStart value => fits 32 value
  | .mirrorReceive payload => payloadOk payload
  | .snapReqReceive offset => fits 32 offset
  | .snapReceive offset total data _ => fits 32 offset && fits 32 total && payloadOk data
  | .snapReqRetry => true
  | .resyncVerified => true
  | .resyncTimeout => true
  | .resyncRetry => true
  | .trimAdvance lane => isLane lane
  | .snapshotWrite => true
  | .safeInFilter n _ => below 2 n
  | .safetyCoreSample _ _ => true
  | .sinDiscrepancy => true
  | .offpulse n _ => below 2 n
  | .offpulseCheck n _ => below 2 n
  | .permitWithdraw _ => true
  | .safetyFrameSend => true
  | .safetyFrameChangeSend => true
  | .safetyFrameReceive port payload => isPort port && payloadOk payload
  | .safetyConnExpiry port => isPort port
  | .safetyParamPersist port => isPort port
  | .dnmDisagree => true
  | .sdiTimer n => below 4 n
  | .supplyMonitor => true
  | .heartbeatMiss => true
  | .injectionTest _ => true
  | .decisionDiscrepancy => true
  | .wcStageDisagree n => below 4 n
  | .ioscCheck _ => true
  | .coreLockstepError => true
  | .degMinute => true
  | .degClear value => fits 32 value
  | .scvConfirm value => fits 32 value
  | .spsWrite key value => isKey key && fits 16 value
  | .foldWindowEnd => true
  | .eventFrameSend => true
  | .eventFrameReceive src payload => isSource src && payloadOk payload
  | .mediaRepeat => true
  | .mediaFlagExpiry src => isSource src
  | .mediaService value _ _ => fits 32 value
  | .recClear value _ => fits 32 value
  | .bobFormat value => fits 32 value
  | .userRecord value => fits 32 value
  | .denStore => true
  | .flashOpDone work _ => flashOpOk work
  | .chipTimeout cs => below 2 cs
  | .bobScrubRead partition sector _ _ _ _ => isPartition partition && below 2 sector.copy && fits 32 sector.lsn && placeOk sector.place
  | .bobScrubLate => true
  | .wearLevelMove place => placeOk place
  | .optSave => true
  | .moduleAbsent port _ => isPort port
  | .healthJournalLost => true
  | .supplyReturn => true
  | .vinRecovers vinMv => fits 16 vinMv

end Sys2Proof
end

