-- ==== Sys2Proof/Certificates/Slice0/Obligations.lean ====
section
/-!
DEFINITION. Sys2Proof/Certificates/Slice0/Obligations.lean: what is claimed of the device, one proposition for each claim.
-/
section
open Sys2Proof Sys2Proof.Machine

/-- The five commands that reset the device (R431 to R433, R437, R461): what each leaves and keeps. -/
def Obligations.ResetsEnterBootWithTheLatchSet : Prop :=
  (∀ (s : State) (vin vdda : Nat), s.powered = false → s.sys.hibernating = false → 830 ≤ vin → 1710 ≤ vdda →
    Runs (.suppliesValid vin vdda) s fun t =>
      ResetLeaves (if s.sys.pendingReset = some 1 then 1 else 0) s t ∧ t.sys.vin = vin ∧ t.sys.vdda = vdda
        ∧ t.gate = { bypPulse := s.bob.snap.bypass, flt := s.gate.flt.map FltInput.rawOnly } ∧ t.recd.den = []
        ∧ t.tb.taps = 0 ∧ t.tb.offset = 0 ∧ t.tb.rate = 0 ∧ t.tb.state = .free ∧ t.sys.jtagUnlocked = false
        ∧ (s.storeThere = true → s.bob.snap.valid = true → s.recd.events = [] → t.recd.nextRsn = s.bob.snap.rsn ∧ t.recd.optBase = s.bob.snap.opt + 1
          ∧ t.recd.pcc = min (s.bob.snap.pcc + 1) 0xFFFFFF ∧ t.recd.noBase = false)
        ∧ (s.storeThere = false → t.recd.nextRsn = 0 ∧ t.recd.pcc = 0 ∧ t.recd.noBase = true))
  ∧ (∀ (s : State) (vin vdda : Nat), s.powered = true ∨ s.sys.hibernating = true ∨ vin < 830 ∨ vdda < 1710 →
    exec (.suppliesValid vin vdda) s = .next s)
  ∧ (∀ s : State, s.sys.hibernating = true →
    Runs .wake s fun t =>
      ResetLeaves 2 s t ∧ t.gate = { bypPulse := s.node.bypassMark, flt := s.gate.flt.map FltInput.rawOnly } ∧ t.recd.den = [] ∧ t.tb.taps = 0 ∧ t.tb.offset = 0 ∧ t.tb.rate = 0 ∧ t.tb.state = .free
        ∧ t.sys.hibernating = false ∧ t.sel.sby = s.sel.sby ∧ t.sys.jtagUnlocked = false
        ∧ (s.sys.keep.valid = true → s.recd.events = [] → t.recd.nextRsn = s.sys.keep.rsn ∧ t.recd.optBase = s.sys.keep.opt + 1
          ∧ t.recd.pcc = min (s.sys.keep.pcc + 1) 0xFFFFFF ∧ t.recd.noBase = false))
  ∧ (∀ s : State, s.sys.hibernating = false → exec .wake s = .next s)
  ∧ (∀ s : State, s.powered = true → s.sys.flushing = false →
    Runs .rstNAssert s fun t => ResetLeaves 3 s t ∧ WarmKeeps s t ∧ t.sys.warmResets = satAdd 32 s.sys.warmResets 1)
  ∧ (∀ s : State, s.powered = true → s.sys.flushing = false →
    Runs (.resetRequest s.addr) s fun t => ResetLeaves 5 s t ∧ WarmKeeps s t ∧ t.sys.warmResets = satAdd 32 s.sys.warmResets 1)
  ∧ (∀ s : State, s.powered = true → s.sys.flushing = false → s.jtagState ≠ 1 →
    Runs .jtagReset s fun t => ResetLeaves 7 s t ∧ WarmKeeps s t ∧ t.sys.warmResets = satAdd 32 s.sys.warmResets 1)
  ∧ (∀ s : State, s.powered = true → s.sys.flushing = true →
    exec .rstNAssert s = .next { s with sys := { s.sys with pendingReset := some 3 } }
      ∧ exec (.resetRequest s.addr) s = .next { s with sys := { s.sys with pendingReset := some 5 } }
      ∧ (s.jtagState ≠ 1 → exec .jtagReset s = .next { s with sys := { s.sys with pendingReset := some 7 } }))
  ∧ (∀ s : State, s.jtagState = 1 → exec .jtagReset s = .next s)
  ∧ (∀ (s : State) (v : Nat), s.powered = true → v ≠ s.addr → Runs (.resetRequest v) s (Refused .range Obj.RESET_REQUEST s))

/-- The system watchdog (R434). -/
def Obligations.WatchdogWarnsAndExpires : Prop :=
  (∀ s : State, s.powered = true → s.sys.wdRun = true → s.sys.flushing = false → s.sys.wdKickTap + s.objEff Obj.WDOG_TIMEOUT * tapsMs ≤ s.tb.taps →
    Runs .watchdogExpiry s fun t =>
      (t.node.nodeState = .boot ∨ t.node.nodeState = .bypass) ∧ t.sys.resetCause = 4 ∧ t.sel.spb = true ∧ t.tb.taps = s.tb.taps
        ∧ t.tb.offset = s.tb.offset ∧ t.tb.rate = s.tb.rate ∧ t.node.faults.any (fun f => f.name == .sysWdog && f.cls == .f2) = true
        ∧ t.mem = {} ∧ t.pins = s.pins ∧ t.pending = s.pending)
  ∧ (∀ s : State, s.tb.refOk = true → s.tb.taps < s.sys.wdKickTap + s.objEff Obj.WDOG_TIMEOUT * tapsMs → exec .watchdogExpiry s = .next s)
  ∧ (∀ (s : State) (key : Nat), s.powered = true → s.sys.wdRun = true → s.sys.flushing = false → key % 2 ^ 32 ≠ 0xA5C3 →
    Runs (.watchdogKick key) s fun t =>
      (t.node.nodeState = .boot ∨ t.node.nodeState = .bypass) ∧ t.sys.resetCause = 4 ∧ t.sel.spb = true ∧ t.tb.taps = s.tb.taps
        ∧ t.node.faults.any (fun f => f.name == .sysWdog && f.cls == .f2) = true ∧ t.mem = {} ∧ t.pins = s.pins ∧ t.pending = s.pending)
  ∧ (∀ (s : State) (key : Nat), s.powered = true → s.sys.wdRun = true → key % 2 ^ 32 = 0xA5C3 →
    exec (.watchdogKick key) s = .next { s with sys := { s.sys with wdKickTap := s.tb.taps } })
  ∧ (∀ s : State, s.powered = true → s.sys.wdRun = true → s.sys.wdKickTap + s.objEff Obj.WDOG_TIMEOUT * tapsMs / 2 ≤ s.tb.taps →
    exec .watchdogWarning s = .next { s with sys := { s.sys with evt := s.sys.evt ||| 0x10 } })
  ∧ (∀ s : State, s.tb.refOk = true → s.tb.taps < s.sys.wdKickTap + s.objEff Obj.WDOG_TIMEOUT * tapsMs / 2 → exec .watchdogWarning s = .next s)
  ∧ (∀ (s : State) (key : Nat), s.sys.wdRun = false →
    exec .watchdogExpiry s = .next s ∧ exec .watchdogWarning s = .next s ∧ exec (.watchdogKick key) s = .next s)

/-- The supplies and the power-fail input (R426, R428 to R430, R436). -/
def Obligations.LossOfSupplyAndPowerFail : Prop :=
  (∀ s : State, s.powered = true ∨ s.sys.hibernating = true →
    Runs .brownout s fun t => t.node = { s.node with nodeState := .off } ∧ t.gate.hiz = true ∧ (t.gate.sw.all fun w => !w.on) = true
      ∧ t.sys = { s.sys with hibernating := false, flushing := false, pendingReset := some 1, keep := { s.sys.keep with valid := false } }
      ∧ SameBut [.node, .gate, .sys] s t)
  ∧ (∀ s : State, s.powered = true ∨ s.sys.hibernating = true →
    Runs .vinLoss s fun t => t.node = { s.node with nodeState := .off } ∧ t.gate.hiz = true ∧ (t.gate.sw.all fun w => !w.on) = true
      ∧ t.sys = { s.sys with hibernating := false, flushing := false, pendingReset := none, keep := { s.sys.keep with valid := false } }
      ∧ SameBut [.node, .gate, .sys] s t)
  ∧ (∀ s : State, s.powered = false → s.sys.hibernating = false → exec .brownout s = .next s ∧ exec .vinLoss s = .next s)
  ∧ (∀ (s : State) (v : Nat), s.powered = true → v ≠ s.addr → Runs (.hibernate v) s (Refused .range Obj.HIBERNATE s))
  ∧ (∀ s : State, s.node.nodeState = .ready ∨ s.node.nodeState = .block →
    Runs (.hibernate s.addr) s fun t => t.node = { s.node with nodeState := .off } ∧ t.sys.hibernating = true ∧ t.gate.hiz = true
      ∧ (t.link.ports.all fun p => p.txDark) = true ∧ t.sys.keep.valid = true ∧ t.sys.keep.pcc = s.recd.pcc
      ∧ t.sys.keep.bypass = s.node.bypassMark ∧ t.jrn.ramBytes = 0 ∧ (t.recd.den.all fun d => d.state != .opened) = true
      ∧ SameBut [.node, .gate, .sys, .link, .recd, .jrn, .bob] s t)
  ∧ (∀ s : State, s.powered = true → s.node.nodeState ≠ .ready → s.node.nodeState ≠ .block →
    Runs (.hibernate s.addr) s (Refused .state Obj.HIBERNATE s))
  ∧ (∀ s : State, s.powered = true → s.objEff Obj.PFAIL_USED ≠ 0 → s.sys.pfailLow = false →
    Runs .pfailFall s fun t => t.sys.pfailLow = true ∧ t.sys.flushing = s.bob.mounted ∧ t.jrn.holdup = false
      ∧ t.sys.pfails = satAdd 32 s.sys.pfails 1 ∧ (s.isActive = true → t.jrn.pstate = .yielded)
      ∧ SameBut [.sys, .bob, .recd, .evc, .node, .sel, .gate, .link, .jrn, .dict] s t)
  ∧ (∀ s : State, s.objEff Obj.PFAIL_USED = 0 ∨ s.sys.pfailLow = true → exec .pfailFall s = .next s)
  ∧ (∀ s : State, s.powered = true → s.sys.flushing = true → s.sys.pendingReset = none →
    Runs .pfailFlushDone s fun t => t.sys.flushing = false ∧ t.sys.clean = true ∧ t.sys.keep.clean = true ∧ t.jrn.ramBytes = 0
      ∧ t.sys.evt = s.sys.evt ||| 4 ∧ t.bob.snap.valid = true ∧ t.bob.snap.pcc = s.recd.pcc
      ∧ (t.jrn.lanes.all fun l => l.entries.all fun e => !e.ram) = true
      ∧ (t.recd.den.all fun d => d.state != .opened && d.state != .closed) = true ∧ SameBut [.sys, .jrn, .recd, .bob] s t)
  ∧ (∀ (s : State) (c : Nat), s.powered = true → s.sys.flushing = true → s.sys.pendingReset = some c → 3 ≤ c → c ≤ 7 → c ≠ 4 →
    Runs .pfailFlushDone s fun t => ResetLeaves c s t ∧ t.tb.taps = s.tb.taps ∧ t.jrn.ramBytes = 0 ∧ t.sys.flushing = false ∧ t.sys.pendingReset = none)
  ∧ (∀ s : State, s.sys.flushing = false → exec .pfailFlushDone s = .next s)
  ∧ (∀ s : State, s.sys.pfailLow = false ∨ s.sys.flushing = true → exec .pfailRecover s = .next s)
  ∧ (∀ s : State, s.powered = true → s.sys.pfailLow = true → s.sys.flushing = false →
    Runs .pfailRecover s fun t =>
      t.sys = { s.sys with pfailLow := false, clean := false, keep := { s.sys.keep with clean := false }, evt := s.sys.evt ||| 2 }
        ∧ t.jrn = { s.jrn with holdup := t.jrn.holdup } ∧ t.bob = { s.bob with flushed := Vector.replicate 2 0 } ∧ SameBut [.sys, .jrn, .bob] s t)

/-- The core voltage (R427). -/
def Obligations.CoreVoltageFollowsItsSetting : Prop :=
  (∀ (s : State) (v vin : Nat), s.powered = true → 600 ≤ v → v ≤ 1000 → v % 10 = 0 → s.vcoreMin ≤ v → v + 150 ≤ vin →
    Runs (.vcoreWrite v vin) s fun t => t.sys = { s.sys with headroom := false, ramp := true, rampAt := s.tb.taps, rampFrom := (if s.sys.ramp then min (s.obj Obj.VCORE) s.sys.rampFrom else s.obj Obj.VCORE), vin := vin }
      ∧ t.obj Obj.VCORE = v ∧ t.dict = { s.dict with objs := t.dict.objs }
      ∧ t.inRun .vcoreHeadroom 0 = false ∧ t.node = { s.node with runs := t.node.runs } ∧ SameBut [.sys, .dict, .node] s t)
  ∧ (∀ (s : State) (v vin : Nat), s.powered = true → 600 ≤ v → v ≤ 1000 → v % 10 = 0 → v < s.vcoreMin ∨ vin < v + 150 →
    Runs (.vcoreWrite v vin) s (Refused .refused Obj.VCORE s))
  ∧ (∀ (s : State) (v vin : Nat), s.powered = true → v < 600 ∨ 1000 < v ∨ v % 10 ≠ 0 →
    Runs (.vcoreWrite v vin) s (Refused .range Obj.VCORE s))
  ∧ (∀ s : State, s.powered = true → s.sys.ramp = true → s.sys.rampAt + (max (min (s.obj Obj.VCORE) (s.sys.vin - 150)) s.sys.vcoreNow - min (min (s.obj Obj.VCORE) (s.sys.vin - 150)) s.sys.vcoreNow) * tapsUs / 2 ≤ s.tb.taps →
    exec .vcoreRampDone s = .next { s with sys := { s.sys with
      ramp := false, vcoreNow := min (s.obj Obj.VCORE) (s.sys.vin - 150), evt := s.sys.evt ||| 8 } })
  ∧ (∀ s : State, s.sys.ramp = false → exec .vcoreRampDone s = .next s)
  ∧ (∀ s : State, s.tb.refOk = true → s.tb.taps < s.sys.rampAt + (max (min (s.obj Obj.VCORE) (s.sys.vin - 150)) s.sys.vcoreNow - min (min (s.obj Obj.VCORE) (s.sys.vin - 150)) s.sys.vcoreNow) * tapsUs / 2 → exec .vcoreRampDone s = .next s)
  ∧ (∀ (s : State) (vin : Nat), s.powered = true → vin < s.obj Obj.VCORE + 150 →
    Runs (.vcoreHeadroom vin) s fun t => t.sys = { s.sys with vin := vin, headroom := true, vcoreNow := vin - 150, evt := s.sys.evt ||| 32 }
      ∧ t.inRun .vcoreHeadroom 0 = true ∧ t.node = { s.node with runs := t.node.runs } ∧ SameBut [.sys, .recd, .evc, .node] s t)
  ∧ (∀ (s : State) (vin : Nat), s.powered = true → s.sys.headroom = true → s.obj Obj.VCORE + 150 ≤ vin →
    Runs (.vinRecovers vin) s fun t => t.sys = { s.sys with vin := vin, headroom := false, vcoreNow := s.obj Obj.VCORE }
      ∧ t.inRun .vcoreHeadroom 0 = false ∧ t.node = { s.node with runs := t.node.runs } ∧ SameBut [.sys, .node] s t)
  ∧ (∀ (s : State) (vin : Nat), s.powered = true → s.sys.headroom = true → vin < s.obj Obj.VCORE + 150 →
    exec (.vinRecovers vin) s = .next { s with sys := { s.sys with vin := vin, vcoreNow := vin - 150 } })
  ∧ (∀ (s : State) (vin : Nat), s.powered = true → s.obj Obj.VCORE + 150 ≤ vin →
    exec (.vcoreHeadroom vin) s = .next { s with sys := { s.sys with vin := vin } })
  ∧ (∀ (s : State) (vin : Nat), s.powered = true → s.sys.headroom = false →
    exec (.vinRecovers vin) s = .next { s with sys := { s.sys with vin := vin } })

/-- The four codes of NODE_COMMAND (R41). -/
def Obligations.NodeCommandsMoveTheNode : Prop :=
  (∀ s : State, s.node.nodeState = .ready → s.modeMismatch = false → (s.isCell = true → s.adcReadyForEnable = true) → s.r10 = true →
    s.sel.spb = false ∨ s.releaseOk = true →
    Runs .enable s fun t => t.node = { s.node with nodeState := .service, holdCount := 0, lastCommand := 1 }
      ∧ t.gate = { s.gate with zeroTop := true }
      ∧ t.sel = (if s.sel.spb then { s.sel with spb := false, causes := 0, powerUpDone := true } else s.sel)
      ∧ t.jrn = { s.jrn with activeFrom := t.jrn.activeFrom } ∧ SameBut [.node, .gate, .sel, .jrn] s t)
  ∧ (∀ s : State, s.powered = true → s.node.nodeState ≠ .ready → Runs .enable s (Refused .state Obj.NODE_COMMAND s))
  ∧ (∀ s : State, s.node.nodeState = .ready → s.modeMismatch = false → (s.isCell = true → s.adcReadyForEnable = true) →
    s.r10 = false → s.sel.spb = false ∨ s.releaseOk = true → Runs .enable s (Refused .refused Obj.NODE_COMMAND s))
  ∧ (∀ s : State, s.node.nodeState = .ready → s.modeMismatch = false → (s.isCell = true → s.adcReadyForEnable = true) →
    s.sel.spb = true → s.releaseOk = false →
    Runs .enable s fun t => t.sel = { s.sel with refused := satAdd 32 s.sel.refused 1 } ∧ t.node = { s.node with runs := t.node.runs }
      ∧ t.dict = { s.dict with refusedCount := satAdd 32 s.dict.refusedCount 1, lastRefusal := Status.refused.code * 2 ^ 24 + Obj.NODE_COMMAND }
      ∧ SameBut [.node, .sel, .dict, .recd, .evc] s t)
  ∧ (∀ s : State, s.node.nodeState = .ready → s.modeMismatch = true ∨ (s.isCell = true ∧ s.adcReadyForEnable = false) →
    Runs .enable s fun t => t.dict.refusedCount = satAdd 32 s.dict.refusedCount 1 ∧ t.node.nodeState ≠ .service
      ∧ (t.node.faults.any fun x => x.name == .gateModeMismatch || x.name == .adcConfig) = true ∧ SameBut faultParts s t)
  ∧ (∀ s : State, s.node.nodeState = .ready ∨ s.node.nodeState = .service ∨ s.node.nodeState = .hold →
    Runs .block s fun t => t.node = { s.node with
        nodeState := .block, lastCommand := 2, orphanBypassDue := (s.node.orphan == .localOrphan), orphanDueK := s.followingCycle }
      ∧ t.sel.spb = true ∧ bitOf t.sel.causes 11 = true ∧ (t.gate.sw.all fun w => !w.on) = true ∧ t.gate.leg1 = .openLeg
      ∧ t.gate.leg2 = .openLeg ∧ SameBut [.node, .sel, .gate, .evc] s t)
  ∧ (∀ s : State, s.node.nodeState = .block → exec .block s = .next { s with node := { s.node with lastCommand := 2 } })
  ∧ (∀ s : State, s.node.nodeState = .boot ∨ s.node.nodeState = .join →
    Runs .block s fun t => t.node = { s.node with lastCommand := 2 } ∧ t.sel.spb = true ∧ bitOf t.sel.causes 11 = true
      ∧ SameBut [.node, .sel, .gate, .evc] s t)
  ∧ (∀ s : State, s.node.nodeState = .bypass → Runs .block s (Refused .state Obj.NODE_COMMAND s))
  ∧ (∀ s : State, s.node.nodeState = .block → s.r10 = true → s.releaseOk = true →
    Runs .deblock s fun t => t.node = { s.node with
        nodeState := .ready, holdCount := 0, orphanBypassDue := false, armBlocked := false, lastCommand := 3 }
      ∧ t.sel = { s.sel with spb := false, causes := 0, powerUpDone := true } ∧ SameBut [.node, .sel] s t)
  ∧ (∀ s : State, s.node.nodeState = .block → s.r10 = false → s.releaseOk = true → Runs .deblock s (Refused .refused Obj.NODE_COMMAND s))
  ∧ (∀ s : State, s.node.nodeState = .block → s.releaseOk = false →
    Runs .deblock s fun t => t.sel = { s.sel with refused := satAdd 32 s.sel.refused 1 } ∧ t.node = { s.node with runs := t.node.runs }
      ∧ t.dict.refusedCount = satAdd 32 s.dict.refusedCount 1 ∧ SameBut [.node, .sel, .dict, .recd, .evc] s t)
  ∧ (∀ s : State, s.powered = true → s.node.nodeState ≠ .block → Runs .deblock s (Refused .state Obj.NODE_COMMAND s))
  ∧ (∀ s : State, s.powered = true → (∀ f ∈ s.node.faults, s.causeActive f = false) →
    Runs .tripReset s fun t => t.node.faults = [] ∧ t.node.lastCommand = 4 ∧ t.sel.f4Req = false
      ∧ (s.isStation = false → t.node = { s.node with faults := [], lastCommand := 4 }) ∧ t.jrn.pstate ≠ .yielded
      ∧ SameBut [.node, .sel, .link, .gate, .evc, .jrn, .dict] s t)
  ∧ (∀ s : State, s.powered = true → (∃ f ∈ s.node.faults, s.causeActive f = true) →
    Runs .tripReset s fun t => t.node.faults = s.node.faults.filter s.causeActive ∧ t.node.tripRefusals = s.node.tripRefusals + 1
      ∧ t.node.nodeState = s.node.nodeState ∧ t.dict.refusedCount = satAdd 32 s.dict.refusedCount 1 ∧ SameBut [.node, .dict, .recd, .evc] s t)
  ∧ (∀ s : State, s.powered = false →
    exec .enable s = .next s ∧ exec .block s = .next s ∧ exec .deblock s = .next s ∧ exec .tripReset s = .next s)

/-- The journaled bypass and the maintenance release (R12, R41, R349). -/
def Obligations.BypassIsLatchedUntilItsRelease : Prop :=
  (∀ s : State, s.isCell = true → s.powered = true → s.sel.sby = false →
    Runs (.bypassCommand s.addr) s fun t => t.sel.sby = true ∧ t.sel.sbyCause = (if s.sel.sbyCause = 0 then 3 else s.sel.sbyCause)
      ∧ t.sel.spb = s.sel.spb ∧ t.sel.causes = s.sel.causes
      ∧ t.node = { s.node with nodeState := .bypass, bypassMark := true, orphanBypassDue := false }
      ∧ (t.gate.sw.all fun w => !w.on) = true ∧ t.gate.bypPulse = true ∧ t.sys.keep.bypass = true ∧ t.bob.snap.bypass = true
      ∧ SameBut [.sel, .node, .gate, .evc, .sys, .bob] s t)
  ∧ (∀ s : State, s.isCell = true → s.powered = true → s.sel.sby = true → exec (.bypassCommand s.addr) s = .next s)
  ∧ (∀ (s : State) (v : Nat), s.isCell = true → s.powered = true → v ≠ s.addr →
    Runs (.bypassCommand v) s (Refused .range Obj.BYPASS_COMMAND s))
  ∧ (∀ (s : State) (v : Nat), s.isCell = false → s.powered = true → Runs (.bypassCommand v) s (Refused .state Obj.BYPASS_COMMAND s))
  ∧ (∀ s : State, s.node.nodeState = .bypass → s.sel.sdi = true → s.sys.flushing = false →
    Runs (.maintRelease s.addr) s fun t => ResetLeaves 6 (s.keepBypass false) t ∧ t.node.nodeState = .boot ∧ t.node.bypassMark = false
      ∧ t.sel.sby = false ∧ t.tb.taps = s.tb.taps ∧ t.sys.keep.bypass = false ∧ t.bob.snap.bypass = false)
  ∧ (∀ s : State, s.node.nodeState = .bypass → s.sel.sdi = true → s.sys.flushing = true →
    Runs (.maintRelease s.addr) s fun t => t.node = { s.node with bypassMark := false } ∧ t.sel = { s.sel with sby := false, sbyCause := 0 }
      ∧ t.sys = { s.sys with pendingReset := some 6, keep := { s.sys.keep with bypass := false, sby := false } }
      ∧ t.bob = { s.bob with snap := { s.bob.snap with bypass := false, sby := false } } ∧ SameBut [.node, .sel, .sys, .bob] s t)
  ∧ (∀ s : State, s.node.nodeState = .bypass → s.sel.sdi = false → Runs (.maintRelease s.addr) s (Refused .refused Obj.MAINT_RELEASE s))
  ∧ (∀ s : State, s.powered = true → s.node.nodeState ≠ .bypass → Runs (.maintRelease s.addr) s (Refused .state Obj.MAINT_RELEASE s))
  ∧ (∀ (s : State) (v : Nat), s.powered = true → v ≠ s.addr → Runs (.maintRelease v) s (Refused .range Obj.MAINT_RELEASE s))
  ∧ (∀ (s : State) (v : Nat), s.powered = false → exec (.bypassCommand v) s = .next s ∧ exec (.maintRelease v) s = .next s)

/-- The ends of BOOT and JOIN (R20, R29, R424, R425). -/
def Obligations.BootEndsInJoinAndJoinInReady : Prop :=
  (∀ (s : State) (slots : Vector (Option FwSlot) 2) (us : Nat), s.node.nodeState = .boot ∨ s.node.nodeState = .bypass →
    s.sys.wdRun = false → s.sys.bootFailed = false → s.pins.testen = false → s.tb.refOk = true → s.calHolds = false →
    slotValid s.sys.minSvn (vget slots 0 none) = true ∨ slotValid s.sys.minSvn (vget slots 1 none) = true → s.roleWrong = false →
    Runs (.bootComplete slots true true true us) s fun t =>
      t.node.nodeState = (if s.node.nodeState = .boot then .join else .bypass) ∧ t.sys.wdRun = true ∧ t.sys.wdKickTap = s.tb.taps
        ∧ t.gate.calOk = true ∧ t.gate.hiz = false ∧ t.sys.slots = slots ∧ t.pins = s.pins ∧ t.mem = s.mem ∧ t.pending = s.pending)
  ∧ (∀ (s : State) (slots : Vector (Option FwSlot) 2) (safety self cal : Bool) (us : Nat), s.node.nodeState = .boot → s.sys.wdRun = false →
    s.sys.bootFailed = false → s.pins.testen = false → s.tb.refOk = true → (safety && self && cal) = false ∨ s.roleWrong = true
      ∨ (slotValid s.sys.minSvn (vget slots 0 none) = false ∧ slotValid s.sys.minSvn (vget slots 1 none) = false) →
    Runs (.bootComplete slots safety self cal us) s fun t =>
      t.node.nodeState = .boot ∧ t.sys.bootFailed = true ∧ t.sys.wdRun = false ∧ t.node.faults ≠ [] ∧ t.mem = s.mem ∧ t.pins = s.pins)
  ∧ (∀ (s : State) (slots : Vector (Option FwSlot) 2) (safety self cal : Bool) (us : Nat),
    s.powered = false ∨ s.sys.wdRun = true ∨ s.sys.bootFailed = true ∨ s.pins.testen = true ∨ s.tb.refOk = false →
    exec (.bootComplete slots safety self cal us) s = .next s)
  ∧ (∀ s : State, s.node.nodeState = .join → s.joinReady = true → s.sys.trial = false →
    Runs .joinComplete s fun t => t.node = { s.node with nodeState := .ready } ∧ SameBut [.node, .jrn, .dict] s t)
  ∧ (∀ s : State, s.node.nodeState = .join → s.joinReady = true → s.sys.trial = true →
    Runs .joinComplete s fun t => t.node = { s.node with nodeState := .ready } ∧ t.sys.trial = false ∧ t.sys.keep.prefSlot = s.sys.slot
      ∧ t.sys.keep.trialCount = 0 ∧ s.sys.minSvn ≤ t.sys.minSvn ∧ t.bob.snap.prefSlot = s.sys.slot ∧ t.obj Obj.IMAGE_ACTIVATE = 0
      ∧ SameBut [.node, .jrn, .dict, .sys, .bob] s t)
  ∧ (∀ s : State, s.node.nodeState ≠ .join ∨ s.joinReady = false → exec .joinComplete s = .next s)

/-- Certificates, debug access, firmware activation, restore of defaults (R49, R418 to R423, R439, R440). -/
def Obligations.CertificatesDebugAccessAndActivation : Prop :=
  (∀ (s : State) (root : Bool) (v : Nat) (f : CertFacts), s.powered = true →
    Runs (.opCertWrite root v f) s fun t => t.obj (if root then Obj.OP_ROOT else Obj.OP_CERT) = v ∧ t.sys.certFacts = f
      ∧ (root = false → v ≠ 0 → f.parses = false → t.sys.certStatus = 2 ∧ t.sys.certReason = 1)
      ∧ (root = false → v ≠ 0 → f.parses = true → f.keyIsDevice = false → t.sys.certStatus = 2 ∧ t.sys.certReason = 2)
      ∧ (root = false → v = 0 → t.sys.certStatus = 0 ∧ t.sys.certReason = 0) ∧ (t.sys.certStatus, t.sys.certReason) = t.certCheck
      ∧ t.node = { s.node with runs := t.node.runs } ∧ SameBut [.dict, .sys, .recd, .evc, .node, .link] s t)
  ∧ (∀ s : State, s.powered = true → (s.sys.certAt = none ∧ s.tb.state = .locked) ∨ (∃ a, s.sys.certAt = some a ∧ a + 3600 * tapsS ≤ s.tb.taps) →
    Runs .opCertPeriodicCheck s fun t => t.sys = { s.sys with certAt := some s.tb.taps, certStatus := s.certCheck.1, certReason := s.certCheck.2 }
      ∧ t.node = { s.node with runs := t.node.runs } ∧ SameBut [.sys, .recd, .evc, .node] s t)
  ∧ (∀ s : State, s.certDue = false → exec .opCertPeriodicCheck s = .next s)
  ∧ (∀ (s : State) (p : Nat) (f : CertFacts), s.powered = true → s.tb.refOk = true → (p < 2 → s.isStation = false) → p < 6 → f.parses = true → f.chainOk = true →
    (s.port p).state = .measure ∨ (s.port p).state = .up →
    Runs (.certReceive p false f) s fun t => vget t.sys.peerDev p none = some f ∧ t.sys.peerRejects = s.sys.peerRejects
      ∧ t.mem = s.mem ∧ t.dict.objs = s.dict.objs ∧ t.pins = s.pins ∧ t.pending = s.pending)
  ∧ (∀ (s : State) (p : Nat) (f : CertFacts), s.powered = true → s.tb.refOk = true → (p < 2 → s.isStation = false) → p < 6 →
    (f.parses && f.chainOk) = false → (s.port p).state = .measure ∨ (s.port p).state = .up →
    Runs (.certReceive p false f) s fun t => vget t.sys.peerDev p none = none ∧ t.sys.peerRejects = satAdd 32 s.sys.peerRejects 1
      ∧ t.inRun .peerCert p = true ∧ t.mem = s.mem ∧ t.dict.objs = s.dict.objs ∧ t.pins = s.pins ∧ t.pending = s.pending)
  ∧ (∀ (s : State) (p : Nat) (f : CertFacts), s.powered = true → s.tb.refOk = true → (p < 2 → s.isStation = false) → p < 6 →
    (s.port p).state = .measure ∨ (s.port p).state = .up →
    Runs (.certReceive p true f) s fun t => vget t.sys.peerOp p false = s.peerOpOk f
      ∧ t.sys.peerRejects = (if s.peerOpOk f = true ∨ s.obj Obj.PEER_POLICY = 0 then s.sys.peerRejects else satAdd 32 s.sys.peerRejects 1)
      ∧ t.mem = s.mem ∧ t.dict.objs = s.dict.objs ∧ t.pins = s.pins ∧ t.pending = s.pending)
  ∧ (∀ (s : State) (p : Nat) (op : Bool) (f : CertFacts),
    s.powered = false ∨ s.tb.refOk = false ∨ 6 ≤ p ∨ (p < 2 ∧ s.isStation = true) ∨ ((s.port p).state ≠ .measure ∧ (s.port p).state ≠ .up) →
    exec (.certReceive p op f) s = .next s)
  ∧ (∀ s : State, s.node.nodeState = .ready ∨ s.node.nodeState = .block →
    exec (.jtagLock s.addr) s = .next { s with sys := { s.sys with jtagLocked := true } })
  ∧ (∀ s : State, s.powered = true → s.node.nodeState ≠ .ready → s.node.nodeState ≠ .block →
    Runs (.jtagLock s.addr) s (Refused .state Obj.JTAG_LOCK s))
  ∧ (∀ (s : State) (v : Nat), s.powered = true → v ≠ s.addr → Runs (.jtagLock v) s (Refused .range Obj.JTAG_LOCK s))
  ∧ (∀ s : State, s.powered = true → s.jtagState = 1 →
    exec (.jtagUnlock false) s = .next s
      ∧ Runs (.jtagUnlock true) s fun t => t.jtagState = 2 ∧ t.sel.jtagHold = true ∧ t.sel.spb = true ∧ bitOf t.sel.causes 11 = true
        ∧ (t.node.faults.any fun x => x.name == .debugUnlocked && x.cls == .f2) = true
        ∧ SameBut [.sys, .sel, .gate, .evc, .node, .recd, .link, .jrn, .dict] s t)
  ∧ (∀ (s : State) (ok : Bool), s.jtagState ≠ 1 → exec (.jtagUnlock ok) s = .next s)
  ∧ (∀ (s : State) (f : FwSlot), s.powered = true → s.sys.imageStatus = 2 → vget s.sys.slots s.stagedSlot none = some f →
    (s.sys.minSvn ≤ f.svn → Runs (.imageActivate 1) s fun t => t.obj Obj.IMAGE_ACTIVATE = 1
      ∧ t.sys = { s.sys with keep := { s.sys.keep with trialCount := 0 } } ∧ t.dict = { s.dict with objs := t.dict.objs } ∧ SameBut [.dict, .sys] s t)
    ∧ (f.svn < s.sys.minSvn → Runs (.imageActivate 1) s (Refused .refused Obj.IMAGE_ACTIVATE s)))
  ∧ (∀ s : State, s.powered = true → s.sys.imageStatus ≠ 2 ∨ vget s.sys.slots s.stagedSlot none = none → Runs (.imageActivate 1) s (Refused .state Obj.IMAGE_ACTIVATE s))
  ∧ (∀ s : State, s.powered = true → Runs (.imageActivate 0) s fun t => t.obj Obj.IMAGE_ACTIVATE = 0
      ∧ t.dict = { s.dict with objs := t.dict.objs } ∧ SameBut [.dict] s t)
  ∧ (∀ (s : State) (v : Nat), s.powered = true → 1 < v → Runs (.imageActivate v) s (Refused .range Obj.IMAGE_ACTIVATE s))
  ∧ (∀ (s : State) (r : SessRole), s.powered = true →
    exec (.restoreDefaults s.addr r) s = .next { s with dict := { s.dict with
      restore := if r = .safetyEngineer ∨ s.dict.restore = .all then .all else .keepRws } })
  ∧ (∀ (s : State) (v : Nat) (r : SessRole), s.powered = true → v ≠ s.addr →
    Runs (.restoreDefaults v r) s (Refused .range Obj.RESTORE_DEFAULTS s))
  ∧ (∀ (s : State) (v : Nat) (r : SessRole) (root : Bool) (f : CertFacts), s.powered = false →
    exec (.restoreDefaults v r) s = .next s ∧ exec (.imageActivate v) s = .next s ∧ exec (.jtagLock v) s = .next s
      ∧ exec (.opCertWrite root v f) s = .next s ∧ exec .opCertPeriodicCheck s = .next s)

/-- The boundary search selects M cells, no more and no fewer (R90). -/
def Obligations.BoundaryTakesExactlyTheTarget : Prop :=
  (∀ (hist : Vector Nat 64) (high : Bool), findBoundary hist 0 high = (64, 0))
  ∧ (∀ (hist : Vector Nat 64) (m : Nat), 0 < m → m ≤ ((List.range 64).map fun j => vget hist j 0).sum →
    (findBoundary hist m false).1 < 64 ∧ 1 ≤ (findBoundary hist m false).2
      ∧ (findBoundary hist m false).2 ≤ vget hist (findBoundary hist m false).1 0
      ∧ ((List.range (findBoundary hist m false).1).map fun j => vget hist j 0).sum + (findBoundary hist m false).2 = m)
  ∧ (∀ (hist : Vector Nat 64) (m : Nat), 0 < m → m ≤ ((List.range 64).map fun j => vget hist j 0).sum →
    (findBoundary hist m true).1 < 64 ∧ 1 ≤ (findBoundary hist m true).2
      ∧ (findBoundary hist m true).2 ≤ vget hist (findBoundary hist m true).1 0
      ∧ (((List.range 64).filter fun j => (findBoundary hist m true).1 < j).map fun j => vget hist j 0).sum
        + (findBoundary hist m true).2 = m)

/-- The start of a cycle, an aggregate's arrival and the Tally, at a cell (R80, R85 to R87). -/
def Obligations.CycleStartAndTallyOfACell : Prop :=
  (∀ (s : State) (k : Nat), s.isCell = true → s.powered = true → s.t0Due k = true →
    Runs (.cycleStart k) s fun t => t.weft.k = k ∧ t.weft.insAt0 = s.gate.ins ∧ t.weft.codeReady = false
      ∧ t.weft.cls = classAt s.node.nodeState (((s.window k).map (·.wvalid)).getD false)
      ∧ t.weft.vcode = s.weft.vcode ∧ t.weft.recs = s.weft.recs ∧ t.weft.decisions = s.weft.decisions
      ∧ (s.obj Obj.GATE_MODE ≠ 2 → t.gate = s.gate) ∧ SameBut [.weft, .evc, .gate, .adc, .hdl, .recd, .node] s t ∧ t.node.nodeState = s.node.nodeState)
  ∧ (∀ (s : State) (k : Nat), s.isCell = true → s.t0Due k = false → exec (.cycleStart k) s = .next s)
  ∧ (∀ (s : State) (p : Nat) (w : Warp), s.tb.refOk = true → s.isCell = true → s.powered = true → s.weft.tw ≠ 0 → 2 ≤ p → p ≤ 5 → s.lit p = true →
    s.recOf (s.cycleOf w.cycle) = none → s.weft.k < s.cycleOf w.cycle + 4 → s.t0 (s.cycleOf w.cycle) ≤ s.tb.ntNs → s.tb.ntNs < s.tallyAt (s.cycleOf w.cycle) →
    Runs (.warpReceive p w) s fun t => ⟨s.cycleOf w.cycle, p, w.priB == decide (4 ≤ p), w⟩ ∈ t.weft.ins
      ∧ vget t.weft.childNamed (p - 2) false = (w.priB == decide (4 ≤ p)) ∧ t.weft.lates = s.weft.lates
      ∧ SameBut [.weft, .node, .link, .evc, .recd] s t ∧ t.node = { s.node with runs := t.node.runs })
  ∧ (∀ (s : State) (p : Nat) (w : Warp), s.tb.refOk = true → s.isCell = true → s.powered = true → s.weft.tw ≠ 0 → 2 ≤ p → p ≤ 5 → s.lit p = true →
    s.recOf (s.cycleOf w.cycle) = none → s.tallyAt (s.cycleOf w.cycle) ≤ s.tb.ntNs →
    Runs (.warpReceive p w) s fun t => t.weft.ins = s.weft.ins ∧ t.weft.lates = satAdd 32 s.weft.lates 1
      ∧ vget t.weft.childNamed (p - 2) false = (w.priB == decide (4 ≤ p)) ∧ t.weft.recs = s.weft.recs
      ∧ SameBut [.weft, .node, .evc, .recd] s t ∧ t.node = { s.node with runs := t.node.runs })
  ∧ (∀ (s : State) (p : Nat) (w : Warp) (r : WeftRec), s.tb.refOk = true → s.isCell = true → s.powered = true → s.weft.tw ≠ 0 → 2 ≤ p → p ≤ 5 →
    s.lit p = true → s.recOf (s.cycleOf w.cycle) = some r → w.resent = true →
    exec (.warpReceive p w) s = .next { s with weft := { s.weft with
      childNamed := vset s.weft.childNamed (p - 2) (w.priB == decide (4 ≤ p)) } })
  ∧ (∀ (s : State) (p : Nat) (w : Warp) (r : WeftRec), s.tb.refOk = true → s.isCell = true → s.powered = true → s.weft.tw ≠ 0 → 2 ≤ p → p ≤ 5 →
    s.lit p = true → s.recOf (s.cycleOf w.cycle) = some r → w.resent = false → s.holdsCycle (s.cycleOf w.cycle) = true →
    s.t0 (s.cycleOf w.cycle) ≤ s.tb.ntNs → s.tb.ntNs < s.tallyAt (s.cycleOf w.cycle) → (w.priB == decide (4 ≤ p)) = true →
    Runs (.warpReceive p w) s fun t => ⟨s.cycleOf w.cycle, p, true, w⟩ ∈ t.weft.ins ∧ (t.recOf (s.cycleOf w.cycle)).isSome = true
      ∧ t.weft.lates = s.weft.lates ∧ SameBut [.weft, .node, .link, .evc, .recd] s t)
  ∧ (∀ (s : State) (p : Nat) (w : Warp), p < 2 ∨ 5 < p ∨ s.lit p = false ∨ s.weft.tw = 0 ∨ s.tb.refOk = false →
    exec (.warpReceive p w) s = .next s)
  ∧ (∀ (s : State) (k : Nat) (o : OwnCycle), s.isCell = true → s.powered = true → s.weft.tw ≠ 0 → s.holdsCycle k = true →
    s.tallyAt k ≤ s.tb.ntNs → s.recOf k = none → s.ownAt k = some o →
    Runs (.tallyDeadline k) s fun t => (∃ r a, t.recOf k = some r ∧ r.sentTo = s.node.primary ∧ r.cls = o.cls ∧ r.bin = o.bin
        ∧ r.sent = some a ∧ a.cycle = k % 65536 ∧ a.priB = (s.node.primary == .b))
      ∧ t.weft.short = 0 ∧ t.weft.miss = 0 ∧ t.weft.decisions = s.weft.decisions
      ∧ SameBut [.weft, .node, .link, .evc, .recd] s t ∧ t.node = { s.node with runs := t.node.runs })
  ∧ (∀ (s : State) (k : Nat) (r : WeftRec), s.isCell = true → s.recOf k = some r → exec (.tallyDeadline k) s = .next s)
  ∧ (∀ (s : State) (k : Nat), s.holdsCycle k = false ∨ s.tb.ntNs < s.tallyAt k → exec (.tallyDeadline k) s = .next s)

/-- A Shuttle's arrival at a cell (R93 to R97). -/
def Obligations.ShuttleIsTakenOnceAndOnlyWhenValid : Prop :=
  (∀ (s : State) (p : Nat) (x : Shuttle) (r : WeftRec), s.tb.refOk = true → s.isCell = true → s.powered = true → s.lit p = true → s.weft.tw ≠ 0 →
    s.recOf (s.cycleOf x.cycle) = some r → s.weft.decisions.any (·.k == s.cycleOf x.cycle) = false →
    s.shuttleValid p (s.cycleOf x.cycle) r x = true →
    Runs (.shuttleReceive p x) s fun t =>
      t.weft.decisions = (⟨s.cycleOf x.cycle, if decide ((s.objEff Obj.BRIDGE == 1) ≠ x.bridge) then .keep else (ownDecision x r.cls r.bin).1,
        s.lateForEdges (s.cycleOf x.cycle)⟩ :: s.weft.decisions).take 8
      ∧ t.weft.lastDec = x ∧ t.weft.keeps = s.weft.keeps ∧ t.weft.cmisses = s.weft.cmisses
      ∧ (x.wvalid = true → s.weft.armCarrier = false →
        t.window (s.cycleOf x.cycle + 2) = some ⟨x.wb, x.ws, x.dirHint, x.polHint, true, x.rb⟩)
      ∧ (decide ((s.objEff Obj.BRIDGE == 1) ≠ x.bridge) = false → t.node.nodeState = s.node.nodeState)
      ∧ (decide ((s.objEff Obj.BRIDGE == 1) ≠ x.bridge) = true → s.node.nodeState = .service → t.node.nodeState = .block)
      ∧ SameBut (.weft :: faultParts) s t)
  ∧ (∀ (s : State) (p : Nat) (x : Shuttle), s.tb.refOk = true → s.isCell = true → s.powered = true →
    s.recOf (s.cycleOf x.cycle) = none ∨ s.weft.decisions.any (·.k == s.cycleOf x.cycle) = true
      ∨ (∃ r, s.recOf (s.cycleOf x.cycle) = some r ∧ s.shuttleValid p (s.cycleOf x.cycle) r x = false) →
    Runs (.shuttleReceive p x) s fun t => t.node = { s.node with home := t.node.home } ∧ SameBut [.node] s t)
  ∧ (∀ (s : State) (p : Nat) (x : Shuttle), s.isCell = false ∨ s.lit p = false ∨ s.weft.tw = 0 ∨ s.tb.refOk = false →
    exec (.shuttleReceive p x) s = .next s)
  ∧ (∀ (x : Shuttle) (cls : CellClass) (bin : Nat), x.keep = true ∨ cls ≠ .eligible → ownDecision x cls bin = (.keep, x.alloc))
  ∧ (∀ (x : Shuttle) (bin : Nat), x.keep = false → bin = x.bbin → x.alloc ≠ 0 →
    ownDecision x .eligible bin = (.insert x.polNeg, x.alloc - 1))
  ∧ (∀ (x : Shuttle) (bin : Nat), x.keep = false → x.bbin < 64 → (x.dirHigh = false ∧ bin < x.bbin) ∨ (x.dirHigh = true ∧ x.bbin < bin) →
    ownDecision x .eligible bin = (.insert x.polNeg, x.alloc))

/-- The HOLD ladder and the primary parent's return (R8, R29, R34, R37, R94). -/
def Obligations.HoldLadderEndsInBlock : Prop :=
  (∀ (s : State) (k : Nat), s.isCell = true → s.execDue k = true → s.node.nodeState = .service ∨ s.node.nodeState = .hold →
    s.weft.decisions.any (·.k == k) = true →
    Runs (.execDeadline k) s fun t => t.node = { s.node with nodeState := .service, holdCount := 0 } ∧ SameBut [.node, .weft, .evc] s t)
  ∧ (∀ (s : State) (k : Nat), s.isCell = true → s.execDue k = true → s.node.nodeState = .service ∨ s.node.nodeState = .hold →
    s.weft.decisions.any (·.k == k) = false →
    Runs (.execDeadline k) s fun t => t.node = { s.node with nodeState := .hold, holdCount := min 8 (s.node.holdCount + 1) }
      ∧ t.gate = { s.gate with carRun := false } ∧ SameBut [.node, .weft, .evc, .gate] s t)
  ∧ (∀ (s : State) (k : Nat), s.isCell = true → s.execDue k = true → s.node.nodeState ≠ .service → s.node.nodeState ≠ .hold →
    Runs (.execDeadline k) s (SameBut [.weft, .evc] s))
  ∧ (∀ (s : State) (k : Nat), s.execDue k = false → exec (.execDeadline k) s = .next s)
  ∧ (∀ s : State, s.node.nodeState = .hold → s.node.holdCount = 8 →
    Runs .holdLimit s fun t => t.node = { s.node with nodeState := .block, orphanBypassDue := (s.node.orphan == .localOrphan), orphanDueK := s.followingCycle }
      ∧ t.sel.spb = true ∧ bitOf t.sel.causes 11 = true ∧ (t.gate.sw.all fun w => !w.on) = true ∧ SameBut [.node, .sel, .gate, .evc] s t)
  ∧ (∀ s : State, s.node.nodeState ≠ .hold ∨ s.node.holdCount ≠ 8 → exec .holdLimit s = .next s)
  ∧ (∀ s : State, s.isCell = true → s.node.nodeState = .block → s.node.orphanBypassDue = true → s.sel.sby = false →
    s.texec s.node.orphanDueK ≤ s.tb.ntNs →
    Runs .orphanBypass s fun t => t.node = { s.node with nodeState := .bypass, bypassMark := true, orphanBypassDue := false }
      ∧ t.sel.sby = true ∧ t.sel.sbyCause = (if s.sel.sbyCause = 0 then 3 else s.sel.sbyCause) ∧ t.gate.bypPulse = true
      ∧ SameBut [.node, .sel, .gate, .evc, .sys, .bob] s t)
  ∧ (∀ s : State, s.node.nodeState ≠ .block ∨ s.node.orphanBypassDue = false ∨ s.tb.ntNs < s.texec s.node.orphanDueK ∨ s.sel.sby = true
      ∨ s.isCell = false → exec .orphanBypass s = .next s)
  ∧ (∀ s : State, s.powered = true → s.isStation = false → s.node.joined = true → s.node.primary ≠ s.homeParent → s.node.primary ≠ .none →
    s.upGood (if s.homeParent = .b then 1 else 0) = true →
    (s.port (if s.homeParent = .b then 1 else 0)).goodSince + s.obj Obj.REVERT_TIME * tapsMs ≤ s.tb.taps → s.atT0 = true →
    Runs .primaryRevert s fun t => t.node = { s.node with primary := s.homeParent }
      ∧ t.tb = { s.tb with prevTx := .replicate 6 none, lastSeq := .replicate 6 none } ∧ SameBut [.node, .tb, .weft, .link, .evc, .recd] s t)
  ∧ (∀ s : State, s.isStation = true ∨ s.node.joined = false ∨ s.node.primary = s.homeParent ∨ s.node.primary = .none
      ∨ s.upGood (if s.homeParent = .b then 1 else 0) = false ∨ s.atT0 = false
      ∨ s.tb.taps < (s.port (if s.homeParent = .b then 1 else 0)).goodSince + s.obj Obj.REVERT_TIME * tapsMs →
    exec .primaryRevert s = .next s)

/-- Adoption, stall, rebase, clearing and the hand-over (R78, R101, R102, R107). -/
def Obligations.AdoptionStallAndHandover : Prop :=
  (∀ s : State, s.isArm = true → s.isActive = true → s.powered = true → s.obj Obj.ADOPT_CYCLES ≤ s.arm.mmRun →
    (s.arm.adj + s.arm.mmDiff).natAbs ≤ s.obj Obj.ADJ_LIMIT →
    Runs .countAdopt s fun t => t.arm = { s.arm with adj := s.arm.adj + s.arm.mmDiff, mmRun := 0 }
      ∧ t.weft = { s.weft with adopts := satAdd 32 s.weft.adopts 1 } ∧ t.node = { s.node with runs := t.node.runs }
      ∧ SameBut [.arm, .weft, .node, .recd, .evc] s t)
  ∧ (∀ s : State, s.isArm = true → s.isActive = true → s.powered = true → s.obj Obj.ADOPT_CYCLES ≤ s.arm.mmRun →
    s.obj Obj.ADJ_LIMIT < (s.arm.adj + s.arm.mmDiff).natAbs →
    Runs .countAdopt s fun t => t.arm = { s.arm with mmRun := 0, adjOver := true } ∧ t.jrn.pstate = .yielded ∧ t.jrn.upLostTx = true
      ∧ t.weft = s.weft ∧ SameBut [.arm, .node, .recd, .evc, .jrn, .link, .sel, .gate] s t)
  ∧ (∀ s : State, s.arm.mmRun < s.obj Obj.ADOPT_CYCLES → exec .countAdopt s = .next s)
  ∧ (∀ s : State, s.isArm = false ∨ s.isActive = false → exec .countAdopt s = .next s ∧ exec .weftStall s = .next s)
  ∧ (∀ s : State, s.isArm = true → s.isActive = true → s.powered = true → s.obj Obj.STALL_LIMIT ≤ s.arm.stallRun →
    s.inRun .weftStall 0 = false →
    Runs .weftStall s fun t => t.arm = s.arm ∧ t.inRun .weftStall 0 = true ∧ t.jrn.pstate = .yielded ∧ t.jrn.upLostTx = true
      ∧ SameBut [.arm, .node, .recd, .evc, .jrn, .link, .sel, .gate] s t)
  ∧ (∀ s : State, s.arm.stallRun < s.obj Obj.STALL_LIMIT → exec .weftStall s = .next s)
  ∧ (∀ s : State, s.inRun .weftStall 0 = true → exec .weftStall s = .next s)
  ∧ (∀ (s : State) (tw lead fx d n : Nat) (c : Bool), s.isCell = false ∨ s.node.nodeState = .boot ∨ s.tb.refOk = false →
    exec (.handoverReceive tw lead fx d n c) s = .next s)
  ∧ (∀ s : State, s.isArm = true → s.powered = true → exec (.rebase s.addr) s = .next { s with arm := { s.arm with adj := 0, adjOver := false } })
  ∧ (∀ (s : State) (v : Nat), s.isArm = true → s.powered = true → v ≠ s.addr → Runs (.rebase v) s (Refused .range Obj.REBASE s))
  ∧ (∀ s : State, s.powered = true →
    exec (.counterClear Obj.WEFT_COUNTER_CLEAR s.addr) s = .next { s with weft := { s.weft with
      keeps := 0, cmisses := 0, lates := 0, shorts := 0, misses := 0, sats := 0, adopts := 0, sensConflicts := 0 } })
  ∧ (∀ (s : State) (v : Nat), s.powered = true → v ≠ s.addr →
    Runs (.counterClear Obj.WEFT_COUNTER_CLEAR v) s (Refused .range Obj.WEFT_COUNTER_CLEAR s))
  ∧ (∀ (s : State) (tw lead fx d n : Nat) (c : Bool), s.tb.refOk = true → s.isCell = true → s.powered = true → s.node.nodeState ≠ .boot →
    Runs (.handoverReceive tw lead fx d n c) s fun t => t.weft = { s.weft with
        handed := true, tw := tw, lead := lead, fibreExtra := fx, depth := d, population := n, armCarrier := c }
      ∧ t.tb = s.tb ∧ t.mem = s.mem ∧ t.dict.objs = s.dict.objs ∧ t.pins = s.pins ∧ t.pending = s.pending)

/-- Reads (R52, R54, R59, R62, R63, R69). -/
def Obligations.ReadsAnswerWithTheValue : Prop :=
  (∀ (s : State) (r : Request) (row : ObjRow) (p : Nat), s.powered = true → s.isStation = false → r.via = .port p → p < 2 →
    r.target = s.addr → s.rowFor r.target (Request_key r) = some row → s.preCheck opRead r 0 = .ok →
    Runs (.read r) s fun t => t.dict = { s.dict with
        responses := ⟨r.via, r.tid, opRead, .ok, 0, r.target, Request_key r, leBytes row.ty.size (s.readFor r.via (Request_key r))⟩
          :: s.dict.responses, sessions := t.dict.sessions }
      ∧ SameBut [.dict, .link, .evc, .recd, .node] s t ∧ t.node = { s.node with runs := t.node.runs })
  ∧ (∀ (s : State) (r : Request) (p : Nat), s.powered = true → s.isStation = false → r.via = .port p → p < 2 →
    r.target = s.addr → s.preCheck opRead r 0 ≠ .ok →
    Runs (.read r) s fun t => t.dict.refusedCount = satAdd 32 s.dict.refusedCount 1
      ∧ t.dict.responses = ⟨r.via, r.tid, opRead, s.preCheck opRead r 0, 0, r.target, Request_key r, []⟩ :: s.dict.responses
      ∧ t.dict.objs = s.dict.objs ∧ SameBut [.dict, .link, .evc, .recd, .node] s t ∧ t.node = { s.node with runs := t.node.runs })
  ∧ (∀ (s : State) (r : Request) (row : ObjRow) (x : Session), s.powered = true → s.isStation = true → r.via = .session x.id →
    s.dict.sessions.find? (·.id == x.id) = some x → s.replayOf x opRead r = none → r.target = s.addr →
    s.rowFor s.addr (Request_key r) = some row → s.preCheck opRead { r with role := x.role } 0 = .ok →
    Runs (.read r) s fun t => t.dict = { s.dict with
        responses := ⟨r.via, r.tid, opRead, .ok, 0, s.addr, Request_key r, leBytes row.ty.size (s.readFor r.via (Request_key r))⟩
          :: s.dict.responses, sessions := t.dict.sessions } ∧ SameBut [.dict, .link] s t)
  ∧ (∀ (s : State) (r : Request) (x : Session), s.powered = true → s.isStation = true → r.via = .session x.id →
    s.dict.sessions.find? (·.id == x.id) = some x → s.replayOf x opRead r = none → r.target ≠ s.addr →
    s.preCheck opRead { r with role := x.role } 0 = .ok → isCursor (Request_key r) = false →
    Runs (.read r) s fun t => (∃ w ∈ t.dict.waiting, w.via = r.via ∧ w.tid = r.tid ∧ w.op = opRead ∧ w.target = r.target ∧ w.jsn = 0
        ∧ w.key = Request_key r) ∧ t.dict.responses = s.dict.responses
      ∧ t.dict.objs = s.dict.objs ∧ SameBut [.dict, .link, .evc, .recd, .node] s t ∧ t.node = { s.node with runs := t.node.runs })
  ∧ (∀ (s : State) (r : Request) (x : Session) (y : Response), s.powered = true → s.isStation = true → r.via = .session x.id →
    s.dict.sessions.find? (·.id == x.id) = some x → s.replayOf x opRead r = some y →
    Runs (.read r) s fun t => t.dict = { s.dict with
        responses := y :: s.dict.responses, tidReplays := satAdd 32 s.dict.tidReplays 1, sessions := t.dict.sessions } ∧ t.dict.sessions.map (·.id) = s.dict.sessions.map (·.id) ∧ SameBut [.dict, .link] s t)
  ∧ (∀ (s : State) (r : Request) (p : Nat), s.powered = true → r.via = .port p → 2 ≤ p →
    exec (.read r) s = .next { s with dict := { s.dict with refusedCount := satAdd 32 s.dict.refusedCount 1 } }
      ∧ exec (.segRead r) s = .next { s with dict := { s.dict with refusedCount := satAdd 32 s.dict.refusedCount 1 } })
  ∧ (∀ (s : State) (r : Request) (row : ObjRow) (p : Nat), s.powered = true → s.isStation = false → r.via = .port p → p < 2 →
    r.target = s.addr → s.rowFor r.target (Request_key r) = some row → s.preCheck opSegRead r 0 = .ok → r.param = 0 → 512 < row.ty.size →
    Runs (.segRead r) s fun t => t.dict.responses =
        ⟨r.via, r.tid, opSegRead, .ok, row.ty.size, r.target, Request_key r,
          (leBytes row.ty.size (s.readFor r.via (Request_key r))).take 512⟩ :: s.dict.responses
      ∧ ⟨r.via, r.tid, Request_key r, s.readFor r.via (Request_key r), row.ty.size, s.tb.taps⟩ ∈ t.dict.segReads
      ∧ t.dict.objs = s.dict.objs ∧ t.bob = { s.bob with work := t.bob.work }
      ∧ SameBut [.dict, .link, .evc, .recd, .node, .bob] s t ∧ t.node = { s.node with runs := t.node.runs })
  ∧ (∀ (s : State) (r : Request) (row : ObjRow) (p : Nat) (x : SegRead), s.powered = true → s.isStation = false → r.via = .port p → p < 2 →
    r.target = s.addr → s.rowFor r.target (Request_key r) = some row → s.preCheck opSegRead r 0 = .ok → r.param ≠ 0 →
    (s.dict.segReads.find? fun y => y.via == r.via && y.tid == r.tid && y.key == Request_key r) = some x →
    Runs (.segRead r) s fun t => t.dict.responses = ⟨r.via, r.tid, opSegRead, .ok, x.size, r.target, Request_key r,
          ((leBytes x.size x.snapshot).drop r.param).take 512⟩ :: s.dict.responses
      ∧ t.dict.objs = s.dict.objs ∧ SameBut [.dict, .link, .evc, .recd, .node] s t)
  ∧ (∀ (s : State) (r : Request) (id p : Nat),
    (r.via = .session id ∧ (s.dict.sessions.find? (·.id == id) = none ∨ s.isStation = false))
      ∨ (r.via = .port p ∧ p < 2 ∧ (s.isStation = true ∨ r.target ≠ s.addr)) →
    exec (.read r) s = .next s ∧ exec (.segRead r) s = .next s ∧ exec (.write r) s = .next s ∧ exec (.segWrite r) s = .next s
      ∧ exec (.blockInit r) s = .next s ∧ exec (.blockData r) s = .next s ∧ exec (.blockEnd r) s = .next s ∧ exec (.abort r) s = .next s)
  ∧ (∀ (s : State) (r : Request) (row : ObjRow) (p : Nat), s.powered = true → s.isStation = false → r.via = .port p → p < 2 →
    r.target = s.addr → s.rowFor r.target (Request_key r) = some row → s.preCheck opSegRead r 0 = .ok → r.param ≠ 0 →
    (∀ y ∈ s.dict.segReads, (y.via == r.via && y.tid == r.tid && y.key == Request_key r) = false) →
    Runs (.segRead r) s fun t => t.dict.responses = ⟨r.via, r.tid, opSegRead, .snapshotLost, 0, r.target, Request_key r, []⟩ :: s.dict.responses
      ∧ t.dict.refusedCount = satAdd 32 s.dict.refusedCount 1 ∧ t.dict.objs = s.dict.objs
      ∧ SameBut [.dict, .link, .evc, .recd, .node] s t)

/-- The static checks of the STATION (R63). -/
def Obligations.RefusedWriteJournalsNothing : Prop :=
  (∀ (s : State) (r : Request) (x : Session), s.powered = true → s.isStation = true → s.isActive = true → r.via = .session x.id →
    s.dict.sessions.find? (·.id == x.id) = some x → s.replayOf x opWrite r = none → s.inFlight opWrite r = false →
    s.preCheck opWrite { r with role := x.role } 0 ≠ .ok →
    Runs (.write r) s fun t => t.jrn = s.jrn ∧ t.dict.refusedCount = satAdd 32 s.dict.refusedCount 1
      ∧ t.dict.responses = ⟨r.via, r.tid, opWrite, s.preCheck opWrite { r with role := x.role } 0, 0, r.target, Request_key r, []⟩ :: s.dict.responses
      ∧ SameBut [.dict, .link, .evc, .recd, .node] s t)
  ∧ (∀ (s : State) (r : Request) (x : Session) (row : ObjRow), s.powered = true → s.isStation = true → s.isActive = true →
    r.via = .session x.id → s.dict.sessions.find? (·.id == x.id) = some x → s.replayOf x opWrite r = none → s.inFlight opWrite r = false →
    s.preCheck opWrite { r with role := x.role } 0 = .ok → s.rowFor r.target (Request_key r) = some row → isCursor (Request_key r) = false →
    Request_key r ≠ Obj.FENCE → s.valueCheck { r with role := x.role } row r.value ≠ .ok →
    Runs (.write r) s fun t => t.jrn = { s.jrn with busyRefusals := t.jrn.busyRefusals } ∧ t.dict.refusedCount = satAdd 32 s.dict.refusedCount 1
      ∧ SameBut [.dict, .link, .evc, .recd, .node] s t)
  ∧ (∀ (s : State) (r : Request) (x : Session), s.powered = true → s.isStation = true → s.isActive = false → r.via = .session x.id →
    s.dict.sessions.find? (·.id == x.id) = some x → s.replayOf x opWrite r = none → s.inFlight opWrite r = false →
    Runs (.write r) s fun t => t.jrn = s.jrn ∧ t.dict.responses = ⟨r.via, r.tid, opWrite, .notActive, 0, r.target, Request_key r, []⟩ :: s.dict.responses
      ∧ SameBut [.dict, .link, .evc, .recd, .node] s t)
  ∧ (∀ (s : State) (r : Request) (x : Session), s.powered = true → s.isStation = true → s.isActive = false → r.via = .session x.id →
    s.dict.sessions.find? (·.id == x.id) = some x → s.replayOf x opSegWrite r = none → s.inFlight opSegWrite r = false →
    Runs (.segWrite r) s fun t => t.jrn = s.jrn
      ∧ t.dict.responses = ⟨r.via, r.tid, opSegWrite, .notActive, 0, r.target, Request_key r, []⟩ :: s.dict.responses
      ∧ SameBut [.dict, .link, .evc, .recd, .node] s t)
  ∧ (∀ (s : State) (r : Request) (p : Nat), s.powered = true → s.isStation = false → r.via = .port p → p < 2 → r.target = s.addr →
    s.preCheck opWrite r 0 = .ok → isCursor (Request_key r) = false →
    Runs (.write r) s fun t => t.jrn = s.jrn ∧ t.dict.responses = ⟨r.via, r.tid, opWrite, .access, 0, r.target, Request_key r, []⟩ :: s.dict.responses
      ∧ t.dict.objs = s.dict.objs ∧ t.dict.refusedCount = satAdd 32 s.dict.refusedCount 1 ∧ SameBut [.dict, .link, .evc, .recd, .node] s t)
  ∧ (∀ (s : State) (r : Request) (p : Nat), s.powered = true → s.isStation = false → r.via = .port p → p < 2 → r.target = s.addr →
    s.preCheck opSegWrite r 0 = .ok →
    Runs (.segWrite r) s fun t => t.jrn = s.jrn ∧ t.dict.responses = ⟨r.via, r.tid, opSegWrite, .access, 0, r.target, Request_key r, []⟩ :: s.dict.responses
      ∧ t.dict.objs = s.dict.objs ∧ t.dict.refusedCount = satAdd 32 s.dict.refusedCount 1 ∧ SameBut [.dict, .link, .evc, .recd, .node] s t)
  ∧ (∀ (s : State) (r : Request) (row : ObjRow) (p : Nat), s.powered = true → s.isStation = false → r.via = .port p → p < 2 → r.target = s.addr →
    s.preCheck opWrite r 0 = .ok → isCursor (Request_key r) = true → s.rowFor r.target (Request_key r) = some row →
    rangeOk s.node.role s.addr row (Request_key r) r.value = true →
    Runs (.write r) s fun t => t.cursor r.via (Request_key r) = r.value
      ∧ t.dict.responses = ⟨r.via, r.tid, opWrite, .ok, 0, r.target, Request_key r, leBytes 8 0⟩ :: s.dict.responses
      ∧ t.dict.objs = s.dict.objs ∧ SameBut [.dict, .link, .evc, .recd, .node] s t)
  ∧ (∀ (s : State) (r : Request) (x : Session), s.powered = true → s.isStation = true → s.isActive = true → r.via = .session x.id →
    s.dict.sessions.find? (·.id == x.id) = some x → s.replayOf x opSegWrite r = none → s.inFlight opSegWrite r = false →
    s.preCheck opSegWrite { r with role := x.role } r.param ≠ .ok →
    Runs (.segWrite r) s fun t => t.jrn = s.jrn ∧ t.dict.objs = s.dict.objs ∧ SameBut [.dict, .link, .evc, .recd, .node] s t)
  ∧ (∀ (s : State) (r : Request) (x : Session), s.powered = true → s.isStation = true → s.isActive = true → r.via = .session x.id →
    s.dict.sessions.find? (·.id == x.id) = some x → s.replayOf x opBlockInit r = none →
    s.preCheck opBlockInit { r with role := x.role } 0 ≠ .ok →
    Runs (.blockInit r) s fun t => t.jrn = s.jrn ∧ t.dict.objs = s.dict.objs ∧ t.dict.blocks = s.dict.blocks ∧ SameBut [.dict, .link, .evc, .recd, .node] s t)
  ∧ (∀ (s : State) (row : ObjRow) (key v : Nat) (who : SessRole), SessRank who < OAccess_rank row.acc → s.writeRights row key v who = .role)

/-- Writes that are accepted (R50, R55, R310). -/
def Obligations.AcceptedWritesTakeTheNextNumber : Prop :=
  (∀ (s : State) (r : Request) (x : Session) (row : ObjRow), s.powered = true → s.isStation = true → s.isActive = true →
    r.via = .session x.id → s.dict.sessions.find? (·.id == x.id) = some x → s.replayOf x opWrite r = none → s.inFlight opWrite r = false →
    s.preCheck opWrite { r with role := x.role } 0 = .ok → s.rowFor r.target (Request_key r) = some row → isCursor (Request_key r) = false →
    Request_key r ≠ Obj.FENCE → s.writeRights row (Request_key r) r.value x.role = .ok → s.valueCheck { r with role := x.role } row r.value = .ok →
    Runs (.write r) s fun t => t.jrn.lastJsn = s.jrn.lastJsn + 1 ∧ t.pins = s.pins ∧ t.pending = s.pending)
  ∧ (∀ (s : State) (r : Request) (x : Session) (row : ObjRow), s.powered = true → s.isStation = true → s.isActive = true →
    r.via = .session x.id → s.dict.sessions.find? (·.id == x.id) = some x → s.replayOf x opWrite r = none → s.inFlight opWrite r = false →
    s.preCheck opWrite { r with role := x.role } 0 = .ok → s.rowFor r.target (Request_key r) = some row → isCursor (Request_key r) = false →
    Request_key r ≠ Obj.FENCE → s.writeRights row (Request_key r) r.value x.role = .ok → s.valueCheck { r with role := x.role } row r.value = .ok →
    s.pairCycle < s.applyAtNow →
    (∀ h ∈ (s.laneOf stationLane).entries, h.e.jsn ≤ (s.laneOf stationLane).applied ∧ h.e.jsn ≤ s.jrn.lastJsn) →
    Runs (.write r) s fun t => t.jrn.lastJsn = s.jrn.lastJsn + 1
      ∧ (∃ h ∈ (t.laneOf stationLane).entries, h.e.jsn = s.jrn.lastJsn + 1 ∧ h.e.etype = .write ∧ h.e.target = r.target ∧ h.e.index = r.index
        ∧ h.e.sub = r.sub ∧ h.e.value = r.value ∧ h.e.confirm = r.confirm) ∧ t.dict.objs = s.dict.objs ∧ t.pins = s.pins ∧ t.mem = s.mem ∧ t.pending = s.pending)
  ∧ (∀ (s : State) (r : Request) (x : Session) (row : ObjRow) (y : SegWrite), s.powered = true → s.isStation = true → s.isActive = true →
    r.via = .session x.id → s.dict.sessions.find? (·.id == x.id) = some x → s.replayOf x opSegWrite r = none → s.inFlight opSegWrite r = false →
    (s.segWriteOf r.via r.tid).getD { via := r.via, tid := r.tid, target := r.target, key := Request_key r, received := [] } = y → y.key = Request_key r → y.target = r.target → r.param = y.received.length →
    s.preCheck opSegWrite { r with role := x.role } y.received.length = .ok → s.rowFor r.target (Request_key r) = some row → r.lastSeg = false →
    Runs (.segWrite r) s fun t => { y with received := y.received ++ leBytes r.len r.value, last := s.tb.taps } ∈ t.dict.segWrites
      ∧ t.dict.responses = ⟨r.via, r.tid, opSegWrite, .ok, 0, r.target, Request_key r, []⟩ :: s.dict.responses ∧ t.dict.objs = s.dict.objs
      ∧ SameBut [.dict, .link] s t)
  ∧ (∀ (s : State) (r : Request) (x : Session) (row : ObjRow) (y : SegWrite), s.powered = true → s.isStation = true → s.isActive = true →
    r.via = .session x.id → s.dict.sessions.find? (·.id == x.id) = some x → s.replayOf x opSegWrite r = none → s.inFlight opSegWrite r = false →
    s.preCheck opSegWrite { r with role := x.role } r.param = .ok → s.rowFor r.target (Request_key r) = some row →
    (s.segWriteOf r.via r.tid).getD { via := r.via, tid := r.tid, target := r.target, key := Request_key r, received := [] } = y → r.param ≠ y.received.length →
    Runs (.segWrite r) s fun t => (t.dict.segWrites.any fun z => z.via == r.via && z.tid == r.tid) = false
      ∧ t.dict.responses = ⟨r.via, r.tid, opSegWrite, .sequence, 0, r.target, Request_key r, []⟩ :: s.dict.responses
      ∧ t.jrn = s.jrn ∧ SameBut [.dict, .link, .evc, .recd, .node] s t)
  ∧ (∀ (s : State) (r : Request) (x : Session) (row : ObjRow) (y : SegWrite), s.powered = true → s.isStation = true → s.isActive = true →
    r.via = .session x.id → s.dict.sessions.find? (·.id == x.id) = some x → s.replayOf x opSegWrite r = none → s.inFlight opSegWrite r = false →
    (s.segWriteOf r.via r.tid).getD { via := r.via, tid := r.tid, target := r.target, key := Request_key r, received := [] } = y → y.key = Request_key r → y.target = r.target → r.param = y.received.length →
    s.preCheck opSegWrite { r with role := x.role } y.received.length = .ok → s.rowFor r.target (Request_key r) = some row → r.lastSeg = true →
    isCursor (Request_key r) = false → Request_key r ≠ Obj.FENCE →
    s.writeRights row (Request_key r) (leNat (y.received ++ leBytes r.len r.value)) x.role = .ok →
    (s.dropSegWrite r.via r.tid).valueCheck { r with role := x.role } row (leNat (y.received ++ leBytes r.len r.value)) = .ok →
    s.pairCycle < s.applyAtNow →
    (∀ h ∈ (s.laneOf stationLane).entries, h.e.jsn ≤ (s.laneOf stationLane).applied ∧ h.e.jsn ≤ s.jrn.lastJsn) →
    Runs (.segWrite r) s fun t => t.jrn.lastJsn = s.jrn.lastJsn + 1
      ∧ (∃ h ∈ (t.laneOf stationLane).entries, h.e.jsn = s.jrn.lastJsn + 1 ∧ h.e.etype = .write ∧ h.e.target = r.target ∧ h.e.index = r.index
        ∧ h.e.sub = r.sub ∧ h.e.value = leNat (y.received ++ leBytes r.len r.value)) ∧ t.dict.objs = s.dict.objs ∧ t.pins = s.pins ∧ t.mem = s.mem ∧ t.pending = s.pending)
  ∧ (∀ (s : State) (v : Via) (tid : Nat), s.powered = true →
    exec (.segWriteTimeout v tid) s = .next { s with dict := { s.dict with
      segWrites := s.dict.segWrites.filter fun x => !(x.via == v && x.tid == tid && x.last + 2000 * tapsMs ≤ s.tb.taps) } })
  ∧ (∀ (s : State) (r : Request) (x : Session), s.powered = true → s.isStation = true → r.via = .session x.id →
    s.dict.sessions.find? (·.id == x.id) = some x → s.replayOf x opWrite r = none → s.inFlight opWrite r = true →
    Runs (.write r) s fun t => t.dict = { s.dict with sessions := t.dict.sessions } ∧ SameBut [.dict] s t)
  ∧ (∀ (s : State) (id : Nat) (role : SessRole), s.powered = true → s.isStation = true → s.isActive = true → role ≠ .observer → 0 < id → id < 2 ^ 64 →
    s.anyBusy = false → s.pairCycle < s.applyAtNow →
    (∀ h ∈ (s.laneOf stationLane).entries, h.e.jsn ≤ (s.laneOf stationLane).applied ∧ h.e.jsn ≤ s.jrn.lastJsn) →
    Runs (.fence id role) s fun t => t.jrn.lastJsn = s.jrn.lastJsn + 1
      ∧ (∃ h ∈ (t.laneOf stationLane).entries, h.e.jsn = s.jrn.lastJsn + 1 ∧ h.e.etype = .fence ∧ h.e.value = id ∧ h.e.system = true)
      ∧ t.jrn.lastFence = s.jrn.lastFence ∧ t.dict.objs = s.dict.objs ∧ t.mem = s.mem)
  ∧ (∀ (s : State) (id : Nat) (role : SessRole) (st : Status), s.powered = true → s.fenceStatus id role = st → st ≠ .ok →
    Runs (.fence id role) s fun t => t.jrn = { s.jrn with busyRefusals := t.jrn.busyRefusals }
      ∧ t.dict = { s.dict with refusedCount := satAdd 32 s.dict.refusedCount 1, lastRefusal := st.code * 2 ^ 24 + Obj.FENCE } ∧ SameBut [.dict, .jrn] s t)
  ∧ (∀ (s : State) (id : Nat) (role : SessRole), (s.isStation = false → s.fenceStatus id role = .noObject)
    ∧ (s.isStation = true → role = .observer → s.fenceStatus id role = .role)
    ∧ (s.isStation = true → role ≠ .observer → id = 0 ∨ 2 ^ 64 ≤ id → s.fenceStatus id role = .range)
    ∧ (s.isStation = true → role ≠ .observer → 0 < id → id < 2 ^ 64 → s.isActive = false → s.fenceStatus id role = .notActive)
    ∧ (s.isActive = true → s.isStation = true → role ≠ .observer → 0 < id → id < 2 ^ 64 → s.anyBusy = true → s.fenceStatus id role = .busy))

/-- Block transfers and ABORT (R52, R56). -/
def Obligations.BlockTransfersAndAbort : Prop :=
  (∀ (s : State) (r : Request) (p : Nat), s.powered = true → s.isStation = false → r.via = .port p → p < 2 → r.target = s.addr →
    s.preCheck opBlockInit r 0 = .ok → s.bob.mounted = true → s.recd.media = false →
    Runs (.blockInit r) s fun t => ⟨r.via, r.tid, Request_key r, r.param, []⟩ ∈ t.dict.blocks
      ∧ t.dict.responses = ⟨r.via, r.tid, opBlockInit, .ok, segCount r.param, r.target, Request_key r, []⟩ :: s.dict.responses
      ∧ t.dict.objs = s.dict.objs ∧ t.sys = { s.sys with imageStatus := if Request_key r = Obj.IMAGE_STAGE then 1 else s.sys.imageStatus }
      ∧ SameBut [.dict, .sys, .link, .evc, .recd, .node] s t)
  ∧ (∀ (s : State) (r : Request) (p : Nat), s.powered = true → s.isStation = false → r.via = .port p → p < 2 → r.target = s.addr →
    s.preCheck opBlockInit r 0 = .ok → s.bob.mounted = false ∨ s.recd.media = true →
    Runs (.blockInit r) s fun t => t.dict.responses = ⟨r.via, r.tid, opBlockInit, .media, 0, r.target, Request_key r, []⟩ :: s.dict.responses
      ∧ t.dict.blocks = s.dict.blocks ∧ SameBut [.dict, .link, .evc, .recd, .node] s t)
  ∧ (∀ (s : State) (r : Request) (p : Nat) (b : BlockXfer), s.powered = true → s.isStation = false → r.via = .port p → p < 2 →
    r.target = s.addr → s.preCheck opBlockData r 0 = .ok → s.blockOf r = some b → r.param < segCount b.size →
    windowsDone b (r.param / 32) = true → r.len = segLen b.size r.param →
    Runs (.blockData r) s fun t => { b with segs := (r.param, leBytes r.len r.value) :: b.segs.filter (·.1 != r.param) } ∈ t.dict.blocks
      ∧ t.dict.objs = s.dict.objs ∧ t.dict.segWrites = s.dict.segWrites ∧ t.bob = { s.bob with work := t.bob.work }
      ∧ SameBut [.dict, .link, .evc, .recd, .node, .bob] s t)
  ∧ (∀ (s : State) (r : Request) (p : Nat), s.powered = true → s.isStation = false → r.via = .port p → p < 2 → r.target = s.addr → s.blockOf r = none →
    (s.preCheck opBlockData r 0 = .ok → Runs (.blockData r) s fun t =>
      t.dict.responses = ⟨r.via, r.tid, opBlockData, .sequence, 0, r.target, Request_key r, []⟩ :: s.dict.responses
        ∧ t.dict.objs = s.dict.objs ∧ SameBut [.dict, .link, .evc, .recd, .node] s t)
    ∧ (s.preCheck opBlockEnd r 0 = .ok → Runs (.blockEnd r) s fun t =>
      t.dict.responses = ⟨r.via, r.tid, opBlockEnd, .sequence, 0, r.target, Request_key r, []⟩ :: s.dict.responses
        ∧ t.dict.objs = s.dict.objs ∧ SameBut [.dict, .link, .evc, .recd, .node] s t))
  ∧ (∀ (s : State) (r : Request) (p : Nat) (b : BlockXfer), s.powered = true → s.isStation = false → r.via = .port p → p < 2 →
    r.target = s.addr → s.preCheck opBlockEnd r 0 = .ok → s.blockOf r = some b → b.key = Obj.GRAPH →
    (blockData b).length = b.size → Crc.sha256 (blockData b) = leBytes r.len r.value →
    Runs (.blockEnd r) s fun t => t.dict.responses = ⟨r.via, r.tid, opBlockEnd, .ok, 0, r.target, Request_key r, []⟩ :: s.dict.responses
      ∧ t.hdl.bank = s.hdl.bank ∧ t.hdl = { s.hdl with banks := t.hdl.banks } ∧ SameBut [.dict, .hdl, .link, .evc, .recd, .node] s t)
  ∧ (∀ (s : State) (r : Request) (x : Session), s.powered = true → s.isStation = true → s.isActive = false → r.via = .session x.id →
    s.dict.sessions.find? (·.id == x.id) = some x →
    (s.replayOf x opBlockInit r = none → Runs (.blockInit r) s fun t =>
      t.dict.responses = ⟨r.via, r.tid, opBlockInit, .notActive, 0, r.target, Request_key r, []⟩ :: s.dict.responses ∧ t.dict.blocks = s.dict.blocks
        ∧ SameBut [.dict, .link, .evc, .recd, .node] s t)
    ∧ (Runs (.blockData r) s fun t =>
      t.dict.responses = ⟨r.via, r.tid, opBlockData, .notActive, 0, r.target, Request_key r, []⟩ :: s.dict.responses ∧ t.dict.blocks = s.dict.blocks
        ∧ SameBut [.dict, .link, .evc, .recd, .node] s t)
    ∧ (s.replayOf x opBlockEnd r = none → Runs (.blockEnd r) s fun t =>
      t.dict.responses = ⟨r.via, r.tid, opBlockEnd, .notActive, 0, r.target, Request_key r, []⟩ :: s.dict.responses ∧ t.dict.blocks = s.dict.blocks
        ∧ SameBut [.dict, .link, .evc, .recd, .node] s t))
  ∧ (∀ (s : State) (r : Request) (x : Session), s.powered = true → s.isStation = true → s.isActive = true → r.via = .session x.id →
    s.dict.sessions.find? (·.id == x.id) = some x → r.target ≠ s.addr → isCursor (Request_key r) = false →
    (s.replayOf x opBlockInit r = none → s.preCheck opBlockInit { r with role := x.role } 0 = .ok → Runs (.blockInit r) s fun t =>
      (t.dict.waiting.any fun w => w.via == r.via && w.tid == r.tid && w.op == opBlockInit && w.target == r.target) = true
        ∧ t.dict.blocks = s.dict.blocks ∧ SameBut [.dict, .link, .evc, .recd, .node] s t)
    ∧ (s.preCheck opBlockData { r with role := x.role } 0 = .ok → Runs (.blockData r) s fun t =>
      (t.dict.waiting.any fun w => w.via == r.via && w.tid == r.tid && w.op == opBlockData && w.target == r.target) = true
        ∧ t.dict.blocks = s.dict.blocks ∧ SameBut [.dict, .link, .evc, .recd, .node] s t)
    ∧ (s.replayOf x opBlockEnd r = none → s.preCheck opBlockEnd { r with role := x.role } 0 = .ok → Runs (.blockEnd r) s fun t =>
      (t.dict.waiting.any fun w => w.via == r.via && w.tid == r.tid && w.op == opBlockEnd && w.target == r.target) = true
        ∧ t.dict.blocks = s.dict.blocks ∧ SameBut [.dict, .link, .evc, .recd, .node] s t))
  ∧ (∀ (s : State) (r : Request) (p : Nat) (b : BlockXfer), s.powered = true → s.isStation = false → r.via = .port p → p < 2 →
    r.target = s.addr → s.preCheck opBlockEnd r 0 = .ok → s.blockOf r = some b →
    (blockData b).length ≠ b.size ∨ Crc.sha256 (blockData b) ≠ leBytes r.len r.value →
    Runs (.blockEnd r) s fun t => t.dict.responses = ⟨r.via, r.tid, opBlockEnd, .digest, 0, r.target, Request_key r, []⟩ :: s.dict.responses
      ∧ (t.dict.blocks.any fun x => x.via == r.via && x.tid == r.tid) = false ∧ t.dict.objs = s.dict.objs
      ∧ SameBut [.dict, .sys, .link, .evc, .recd, .node] s t)
  ∧ (∀ (s : State) (r : Request) (p : Nat) (b : BlockXfer), s.powered = true → s.isStation = false → r.via = .port p → p < 2 →
    r.target = s.addr → s.preCheck opBlockEnd r 0 = .ok → s.blockOf r = some b → b.key = Obj.IMAGE_STAGE →
    (blockData b).length = b.size → Crc.sha256 (blockData b) = leBytes r.len r.value →
    Runs (.blockEnd r) s fun t => t.dict.responses = ⟨r.via, r.tid, opBlockEnd, .ok, 0, r.target, Request_key r, []⟩ :: s.dict.responses
      ∧ (t.sys.imageStatus = 2 ∨ t.sys.imageStatus = 3) ∧ (vget t.sys.slots (1 - s.sys.slot) none).isSome = true
      ∧ SameBut [.dict, .sys, .link, .evc, .recd, .node] s t)
  ∧ (∀ (s : State) (r : Request) (p : Nat), s.powered = true → s.isStation = false → r.via = .port p → p < 2 → r.target = s.addr →
    Runs (.abort r) s fun t => (t.dict.segWrites.any fun x => x.via == r.via && x.tid == r.tid) = false
      ∧ (t.dict.segReads.any fun x => x.via == r.via && x.tid == r.tid) = false
      ∧ (t.dict.blocks.any fun x => x.via == r.via && x.tid == r.tid) = false
      ∧ t.dict.responses = ⟨r.via, r.tid, opAbort, .aborted, 0, r.target, Request_key r, []⟩ :: s.dict.responses
      ∧ t.dict.objs = s.dict.objs ∧ SameBut [.dict, .link, .evc, .recd, .node] s t)

/-- Sessions and time-outs (R54, R57, R58, R60, R62). -/
def Obligations.SessionsAndTheirTimeouts : Prop :=
  (∀ (s : State) (id ski : Nat), s.powered = true → s.isStation = true → s.jrn.pstate = .active ∨ s.jrn.pstate = .standby →
    (s.dict.sessions.any fun x => x.id == id) = false → s.dict.sessions.length < s.obj Obj.MAX_SESSIONS →
    s.sessionRole ski ≠ .safetyEngineer ∨ ((s.dict.sessions.any fun x => x.role == .safetyEngineer) = false ∧ s.partnerFresh = false) →
    Runs (.sessionOpen id ski true) s fun t => (∃ x, t.dict.sessions = s.dict.sessions ++ [x] ∧ x.id = id ∧ x.role = s.sessionRole ski)
      ∧ t.dict = { s.dict with sessions := t.dict.sessions } ∧ SameBut [.dict] s t)
  ∧ (∀ (s : State) (id ski : Nat), s.powered = true → s.isStation = true → s.jrn.pstate = .active ∨ s.jrn.pstate = .standby →
    (s.dict.sessions.any fun x => x.id == id) = false →
    s.obj Obj.MAX_SESSIONS ≤ s.dict.sessions.length
      ∨ (s.sessionRole ski = .safetyEngineer ∧ (s.dict.sessions.any fun x => x.role == .safetyEngineer) = true) →
    Runs (.sessionOpen id ski true) s fun t => t.dict.sessions = s.dict.sessions
      ∧ t.dict.refusedCount = satAdd 32 s.dict.refusedCount 1
      ∧ t.dict.responses = ⟨.session id, 0, 0, .sessionLimit, 0, s.addr, 0, []⟩ :: s.dict.responses
      ∧ SameBut [.dict, .link, .evc, .recd, .node, .free] s t)
  ∧ (∀ (s : State) (id ski : Nat), s.powered = true → s.isStation = true → s.jrn.pstate = .active ∨ s.jrn.pstate = .standby →
    (s.dict.sessions.any fun x => x.id == id) = false → s.partnerFresh = true → s.sessionRole ski = .safetyEngineer →
    Runs (.sessionOpen id ski true) s fun t => (t.dict.sessions = s.dict.sessions ∨ ∃ x, t.dict.sessions = s.dict.sessions ++ [x] ∧ x.id = id)
      ∧ t.dict.objs = s.dict.objs ∧ SameBut [.dict, .link, .evc, .recd, .node, .free] s t)
  ∧ (∀ (s : State) (id ski : Nat), exec (.sessionOpen id ski false) s = .next s)
  ∧ (∀ (s : State) (id ski : Nat), s.isStation = false ∨ (s.jrn.pstate ≠ .active ∧ s.jrn.pstate ≠ .standby)
      ∨ (s.dict.sessions.any fun x => x.id == id) = true → exec (.sessionOpen id ski true) s = .next s)
  ∧ (∀ (s : State) (id : Nat),
    (s.dict.sessions.any fun x => x.id == id && decide (x.last + s.obj Obj.IDLE_TIMEOUT * 1000 * tapsMs ≤ s.tb.taps)) = false →
    exec (.sessionIdleTimeout id) s = .next s)
  ∧ (∀ (s : State) (id : Nat), s.powered = true →
    (s.dict.sessions.any fun x => x.id == id && decide (x.last + s.obj Obj.IDLE_TIMEOUT * 1000 * tapsMs ≤ s.tb.taps)) = true →
    Runs (.sessionIdleTimeout id) s fun t => (t.dict.sessions.any fun x => x.id == id) = false
      ∧ (t.dict.segReads.any fun x => x.via == .session id) = false ∧ (t.dict.segWrites.any fun x => x.via == .session id) = false
      ∧ (t.dict.blocks.any fun x => x.via == .session id) = false ∧ (t.dict.waiting.any fun x => x.via == .session id) = false
      ∧ (∀ x ∈ s.dict.sessions, x.id ≠ id → x ∈ t.dict.sessions) ∧ t.dict.objs = s.dict.objs ∧ SameBut [.dict] s t)
  ∧ (∀ (s : State) (v : Via) (tid : Nat), s.powered = true →
    exec (.segSnapshotTimeout v tid) s = .next { s with dict := { s.dict with
      segReads := s.dict.segReads.filter fun x => !(x.via == v && x.tid == tid && x.last + 2000 * tapsMs ≤ s.tb.taps) } })
  ∧ (∀ (s : State) (v : Via) (tid : Nat) (w : Waiting), s.powered = true → s.isStation = true →
    (s.dict.waiting.find? fun x => x.via == v && x.tid == tid && decide (x.since + s.obj Obj.TRANSFER_TIMEOUT * tapsMs ≤ s.tb.taps)) = some w →
    Runs (.transferTimeout v tid) s fun t => t.dict.waiting = s.dict.waiting.filter (· != w)
      ∧ (∃ y, t.dict.responses = y :: s.dict.responses ∧ y.tid = w.tid ∧ y.op = w.op ∧ y.status = .timeout)
      ∧ t.jrn = s.jrn ∧ t.dict.objs = s.dict.objs ∧ SameBut [.dict, .link] s t)
  ∧ (∀ (s : State) (v : Via) (tid : Nat), s.isStation = false → exec (.transferTimeout v tid) s = .next s)
  ∧ (∀ (s : State) (v : Via) (tid : Nat),
    (∀ x ∈ s.dict.waiting, x.via = v → x.tid = tid → s.tb.taps < x.since + s.obj Obj.TRANSFER_TIMEOUT * tapsMs) →
    exec (.transferTimeout v tid) s = .next s)

/-- The process-data channels (R70 to R75). -/
def Obligations.ProcessDataChannels : Prop :=
  (∀ (s : State) (tx : Bool) (ch v : Nat), s.powered = true → ch < 8 → v ≤ 1 → v = 0 ∨ s.pdMapOk tx ch = true →
    Runs (.pdEnable tx ch v) s fun t => t.obj ((if tx then Obj.TPD_ENABLE else Obj.RPD_ENABLE) + 256 * ch) = v
      ∧ (∀ k, k ≠ (if tx then Obj.TPD_ENABLE else Obj.RPD_ENABLE) + 256 * ch → t.obj k = s.obj k)
      ∧ (tx = true → t.dict.rpd = s.dict.rpd ∧ t.trdl = s.trdl) ∧ (∀ i, i ≠ ch → t.rpdAt i = s.rpdAt i)
      ∧ (tx = false → v = 1 → t.trdl = s.trdl
        ∧ t.rpdAt ch = if s.pdEnabled false ch then s.rpdAt ch else { s.rpdAt ch with mapBad := false, fresh := true })
      ∧ (tx = false → v = 0 → t.rpdAt ch = { s.rpdAt ch with timedOut := false, pendingVals := none } ∧ t.trdl = { s.trdl with refin := t.trdl.refin }
        ∧ ∀ n, n < 8 → vget t.trdl.refin n {} = if (s.pdRefins ch).contains n then {} else vget s.trdl.refin n {})
      ∧ t.dict = { s.dict with objs := t.dict.objs, rpd := t.dict.rpd } ∧ t.node = { s.node with runs := t.node.runs }
      ∧ SameBut [.dict, .trdl, .node] s t)
  ∧ (∀ (s : State) (tx : Bool) (ch v : Nat), s.powered = true → ch < 8 → v ≤ 1 → v ≠ 0 → s.pdMapOk tx ch = false →
    tx = true ∨ (s.rpdAt ch).mapBad = true →
    Runs (.pdEnable tx ch v) s (Refused .mapping ((if tx then Obj.TPD_ENABLE else Obj.RPD_ENABLE) + 256 * ch) s))
  ∧ (∀ (s : State) (ch : Nat), s.powered = true → ch < 8 → s.pdMapOk false ch = false →
    Runs (.pdEnable false ch 1) s fun t => t.rpdAt ch = { s.rpdAt ch with mapBad := true } ∧ (∀ i, i ≠ ch → t.rpdAt i = s.rpdAt i)
      ∧ t.dict = { s.dict with
          refusedCount := satAdd 32 s.dict.refusedCount 1, rpd := t.dict.rpd
          lastRefusal := Status.mapping.code * 2 ^ 24 + (Obj.RPD_ENABLE + 256 * ch) % 2 ^ 24 }
      ∧ t.node = { s.node with runs := t.node.runs } ∧ SameBut [.dict, .recd, .evc, .node] s t)
  ∧ (∀ (s : State) (tx : Bool) (ch v : Nat), s.powered = true → ch < 8 → 1 < v →
    Runs (.pdEnable tx ch v) s (Refused .range ((if tx then Obj.TPD_ENABLE else Obj.RPD_ENABLE) + 256 * ch) s))
  ∧ (∀ (s : State) (tx : Bool) (ch v : Nat), s.powered = true → 8 ≤ ch →
    Runs (.pdEnable tx ch v) s (Refused .noObject ((if tx then Obj.TPD_ENABLE else Obj.RPD_ENABLE) + 256 * ch) s))
  ∧ (∀ (s : State) (ch : Nat), s.powered = true → ch < 8 → s.node.joined = true → s.tpdDue ch = true →
    Runs (.tpdSend ch) s fun t => t = s.sendTelemetry (s.obj (Obj.TPD_DEST + 256 * ch)) (s.tpdPayload ch)
      ∧ (s.tpdPayload ch).take 4 = leBytes 1 ch ++ [0] ++ leBytes 2 s.pdCycle
      ∧ (s.tpdPayload ch).length = 4 + mapBytes (s.pdMap true ch)
      ∧ SameBut [.link, .evc, .recd, .node] s t ∧ t.node = { s.node with runs := t.node.runs })
  ∧ (∀ (s : State) (ch : Nat), 8 ≤ ch ∨ s.node.joined = false ∨ s.tpdDue ch = false → exec (.tpdSend ch) s = .next s)
  ∧ (∀ (s : State) (src ch : Nat) (cnt : Nat) (pad : Byte) (vals : List Byte), s.tb.refOk = true → s.powered = true → ch < 8 → cnt < 65536 →
    s.pdEnabled false ch = true → s.obj (Obj.RPD_SOURCE + 256 * ch) = src → vals.length = mapBytes (s.pdMap false ch) →
    (s.rpdAt ch).later cnt = true → s.pdValuesOk (mapValues (s.pdMap false ch) vals) = true → s.pdMapOk false ch = true →
    Runs (.rpdReceive src (leBytes 1 ch ++ [pad] ++ leBytes 2 cnt ++ vals)) s fun t =>
      t.rpdAt ch = { s.rpdAt ch with lastCycle := some cnt, pendingVals := some vals, timedOut := false, mapBad := false, fresh := false, since := s.tb.taps }
        ∧ (∀ i, i ≠ ch → t.rpdAt i = s.rpdAt i) ∧ t.dict = { s.dict with rpd := t.dict.rpd }
        ∧ t.inRun .pdTimeout ch = false ∧ t.node = { s.node with runs := t.node.runs } ∧ SameBut [.dict, .node] s t)
  ∧ (∀ (s : State) (src : Nat) (pl : List Byte),
    8 ≤ leNat (pl.take 1) ∨ s.pdEnabled false (leNat (pl.take 1)) = false ∨ s.obj (Obj.RPD_SOURCE + 256 * leNat (pl.take 1)) ≠ src
      ∨ pl.length ≠ mapBytes (s.pdMap false (leNat (pl.take 1))) + 4
      ∨ (s.rpdAt (leNat (pl.take 1))).later (leNat ((pl.drop 2).take 2)) = false
      ∨ (s.rpdAt (leNat (pl.take 1))).lastCycle = some (leNat ((pl.drop 2).take 2)) →
    exec (.rpdReceive src pl) s = .next s)
  ∧ (∀ s : State, s.powered = true → Runs .rpdApply s fun t => (∀ i, i < 8 → (t.rpdAt i).pendingVals = none)
      ∧ (∀ i, i < 8 → (t.rpdAt i).lastCycle = (s.rpdAt i).lastCycle) ∧ t.dict = { s.dict with objs := t.dict.objs, rpd := t.dict.rpd }
      ∧ SameBut [.dict, .trdl, .node, .recd, .evc] s t ∧ t.node = { s.node with runs := t.node.runs })
  ∧ (∀ (s : State) (ch e : Nat) (vals : List Byte), s.powered = true → ch < 8 → (s.rpdAt ch).pendingVals = some vals →
    (∀ i, i < 8 → i ≠ ch → (s.rpdAt i).pendingVals = none) → s.pdMap false ch = [e] → isSpsKey (mapKey e) = false →
    Runs .rpdApply s fun t => t.obj (mapKey e) = leNat (vals.take (mapSize e)) ∧ t.objJsn (mapKey e) = s.objJsn (mapKey e)
      ∧ (∀ k, k ≠ mapKey e → t.obj k = s.obj k)
      ∧ (∀ n, n < 8 → mapKey e = Obj.REFIN0 + n → vget t.trdl.refin n {} = {}))
  ∧ (∀ (s : State) (ch : Nat), s.powered = true → ch < 8 → s.pdEnabled false ch = true → s.rpdExpired ch = true →
    (s.rpdAt ch).timedOut = false →
    Runs (.rpdTimeout ch) s fun t => t.rpdAt ch = { s.rpdAt ch with timedOut := true } ∧ t.inRun .pdTimeout ch = true
      ∧ (∀ n e, n < 8 → e ∈ s.pdMap false ch → mapKey e = Obj.REFIN0 + n → (vget t.trdl.refin n {}).held = true)
      ∧ t.dict = { s.dict with rpd := t.dict.rpd } ∧ SameBut [.dict, .trdl, .node, .recd, .evc] s t
      ∧ t.node = { s.node with runs := t.node.runs })
  ∧ (∀ (s : State) (ch : Nat), (s.rpdAt ch).timedOut = true ∨ s.rpdExpired ch = false ∨ s.pdEnabled false ch = false →
    exec (.rpdTimeout ch) s = .next s)
  ∧ (∀ (s : State) (src ch : Nat) (cnt : Nat) (pad : Byte) (vals : List Byte), s.tb.refOk = true → s.powered = true → ch < 8 → cnt < 65536 →
    s.pdEnabled false ch = true → s.obj (Obj.RPD_SOURCE + 256 * ch) = src → vals.length = mapBytes (s.pdMap false ch) →
    (s.rpdAt ch).later cnt = true → s.pdValuesOk (mapValues (s.pdMap false ch) vals) = true → s.pdMapOk false ch = false →
    Runs (.rpdReceive src (leBytes 1 ch ++ [pad] ++ leBytes 2 cnt ++ vals)) s fun t =>
      t.rpdAt ch = { s.rpdAt ch with mapBad := true } ∧ (∀ i, i ≠ ch → t.rpdAt i = s.rpdAt i) ∧ t.dict = { s.dict with rpd := t.dict.rpd }
        ∧ SameBut [.dict] s t)

/-- A journaled write at its target (R50, R63, R69, R292). -/
def Obligations.WritesAtTheirTarget : Prop :=
  (∀ (s : State) (key v jsn : Nat) (role : SessRole), s.powered = true → s.writeCheck s.node.role key v role ≠ .ok →
    Runs (.objectWriteApply key v jsn role) s (Refused (s.writeCheck s.node.role key v role) key s))
  ∧ (∀ (s : State) (key v jsn : Nat) (role : SessRole), s.powered = true → s.writeCheck s.node.role key v role = .ok →
    isCursor key = false → s.writeRange s.node.role s.addr key v = false →
    Runs (.objectWriteApply key v jsn role) s (Refused .range key s))
  ∧ (∀ (s : State) (key v jsn : Nat) (role : SessRole), s.powered = true → s.writeCheck s.node.role key v role = .ok →
    isCursor key = false → s.writeRange s.node.role s.addr key v = true →
    isUserKey key = false → isSpsKey key = false → s.clearFor key = none → s.apply1 key v jsn role = none →
    s.apply2 key v jsn = none → s.apply3 key v role = none → isRws key = false → s.partnerOk key v = true → s.dynCheck key v = .ok →
    Runs (.objectWriteApply key v jsn role) s fun t => t.obj key = v ∧ t.objJsn key = jsn
      ∧ (∀ k, k ≠ key → t.obj k = s.obj k ∧ t.objJsn k = s.objJsn k) ∧ t.dict = { s.dict with objs := t.dict.objs }
      ∧ t.node.nodeState = s.node.nodeState ∧ t.weft = s.weft ∧ t.trdl = s.trdl ∧ t.mem = s.mem ∧ t.pins = s.pins
      ∧ t.hdl = s.hdl ∧ t.jrn.lanes = s.jrn.lanes ∧ t.sys = s.sys ∧ t.inbox = s.inbox ∧ t.pending = s.pending)
  ∧ (∀ (s : State) (v jsn : Nat) (role : SessRole), s.powered = true → s.writeCheck s.node.role Obj.REBASE v role = .ok →
    s.writeRange s.node.role s.addr Obj.REBASE v = true → exec (.objectWriteApply Obj.REBASE v jsn role) s = exec (.rebase v) s)
  ∧ (∀ (s : State) (v jsn : Nat) (role : SessRole), s.powered = true → s.writeCheck s.node.role Obj.WEFT_COUNTER_CLEAR v role = .ok →
    s.writeRange s.node.role s.addr Obj.WEFT_COUNTER_CLEAR v = true →
    exec (.objectWriteApply Obj.WEFT_COUNTER_CLEAR v jsn role) s = exec (.counterClear Obj.WEFT_COUNTER_CLEAR v) s)
  ∧ (∀ (s : State) (key v jsn : Nat) (role : SessRole), s.powered = true → isUserKey key = true →
    s.writeCheck s.node.role key v role = .ok → s.writeRange s.node.role s.addr key v = true →
    s.userBusy key = false → (∀ e ∈ s.dict.userPending, e.index * 256 + e.sub ≠ key) →
    Runs (.objectWriteApply key v jsn role) s fun t => t.obj key = v ∧ t.objJsn key = jsn ∧ (∀ k, k ≠ key → t.obj k = s.obj k)
      ∧ t.dict = { s.dict with objs := t.dict.objs } ∧ SameBut [.dict] s t)
  ∧ (∀ (s : State) (key v jsn : Nat) (role : SessRole), s.powered = true → isUserKey key = true →
    s.writeCheck s.node.role key v role = .ok → s.writeRange s.node.role s.addr key v = true →
    s.userBusy key = true ∨ (s.dict.userPending.any fun e => e.index * 256 + e.sub == key) = true →
    exec (.objectWriteApply key v jsn role) s = .next { s with dict := { s.dict with
      userPending := s.dict.userPending ++ [{ jsn := jsn, index := keyIndex key, sub := keySub key, value := v, target := s.addr }] } })
  ∧ (∀ (s : State) (e : JEntry), s.powered = true → s.dict.userPending = [e] → e.accepted = false → s.entryWaits e = false →
    Runs .userObjectApply s fun t => t.obj (e.index * 256 + e.sub) = e.value ∧ t.objJsn (e.index * 256 + e.sub) = e.jsn
      ∧ t.dict.userPending = [] ∧ (∀ k, k ≠ e.index * 256 + e.sub → t.obj k = s.obj k) ∧ SameBut [.dict] s t)
  ∧ (∀ (s : State) (e : JEntry), s.powered = true → s.dict.userPending = [e] → e.accepted = true → s.entryWaits e = false →
    s.concerns e = false ∨ (e.etype = .write ∧ e.confirm = false ∧ e.target = s.addr ∧ isUserKey (e.index * 256 + e.sub) = true
      ∧ s.objJsn (e.index * 256 + e.sub) < e.jsn ∧ s.writeCheck s.node.role (e.index * 256 + e.sub) e.value e.role = .ok
      ∧ s.writeRange s.node.role s.addr (e.index * 256 + e.sub) e.value = true) →
    Runs .userObjectApply s fun t => t.dict.userPending = [] ∧ (s.concerns e = true → t.obj (e.index * 256 + e.sub) = e.value)
      ∧ (∀ k, k ≠ e.index * 256 + e.sub → t.obj k = s.obj k) ∧ SameBut [.dict, .jrn] s t)
  ∧ (∀ s : State, s.dict.userPending.head?.all s.entryWaits = true → exec .userObjectApply s = .next s)

/-- A store of a worker core (R274, R276 to R278, R289). -/
def Obligations.StoresOfAWorkerCore : Prop :=
  (∀ (s : State) (core addr v size a : Nat), s.powered = true → core < 8 → s.mem.wf = true → size = 1 ∨ size = 2 ∨ size = 4 → addr % size = 0 →
    memAddr core addr = some a → memStoreOk core addr = true → size = 4 ∨ s.mem.doubleAt a = false →
    Runs (.registerWrite core addr v size) s fun t => (∀ i, i < size → t.byteAt (a + i) = BitVec.ofNat 8 (v / 256 ^ i))
      ∧ (∀ b, b < a ∨ a + size ≤ b → t.byteAt b = s.byteAt b) ∧ t.mem.wf = true
      ∧ (size = 4 → t.mem.doubleAt a = false) ∧ SameBut [.mem] s t)
  ∧ (∀ (s : State) (core v : Nat), s.powered = true → core < 8 → v < 2 ^ 32 →
    exec (.registerWrite core 0x40000068 v 4) s = .next { s with tb := { s.tb with evt := s.tb.evt &&& ~~~ (BitVec.ofNat 32 v &&& 0x7FFF#32) } }
      ∧ exec (.registerWrite core 0x4001006C v 4) s = .next { s with gate := { s.gate with evt := s.gate.evt &&& ~~~ (BitVec.ofNat 32 v &&& 0x1FF#32) } }
      ∧ exec (.registerWrite core 0x40070188 v 4) s = .next { s with hdl := { s.hdl with evt := s.hdl.evt &&& ~~~ (BitVec.ofNat 32 v &&& 0xFF#32) } }
      ∧ exec (.registerWrite core 0x4007018C v 4) s = .next { s with hdl := { s.hdl with inten := BitVec.ofNat 32 v &&& 0xFF#32 } }
      ∧ (s.node.role ≠ .relay → exec (.registerWrite core 0x40050004 v 4) s = .next { s with trdl := { s.trdl with
          stat := s.trdl.stat &&& ~~~ (BitVec.ofNat 32 v &&& 0x1F0000#32) } }
        ∧ exec (.registerWrite core 0x40050060 v 4) s = .next { s with trdl := { s.trdl with inten := BitVec.ofNat 32 v &&& 0x1F0000#32 } })
      ∧ exec (.registerWrite core 0x40090064 v 4) s = .next { s with recd := { s.recd with inten := BitVec.ofNat 32 v &&& 0x3F#32 } })
  ∧ (∀ (s : State) (core addr v size : Nat), s.powered = true → core < 8 →
    (size ≠ 1 ∧ size ≠ 2 ∧ size ≠ 4) ∨ addr % size ≠ 0 ∨ (0x40000000 ≤ addr ∧ addr < 0x400F0000 ∧ size ≠ 4)
      ∨ (0x40000000 ≤ addr ∧ addr < 0x400F0000 ∧ s.storeReg core addr (v % 2 ^ 32) = none)
      ∨ ((addr < 0x40000000 ∨ 0x400F0000 ≤ addr) ∧ (memAddr core addr = none ∨ memStoreOk core addr = false
        ∨ (size < 4 ∧ (memAddr core addr).all s.mem.doubleAt = true))) →
    Runs (.registerWrite core addr v size) s fun t => t = s.abortCore core false ∧ t.mem = s.mem ∧ t.dict.objs = s.dict.objs
      ∧ t.pins = s.pins ∧ t.tb = s.tb ∧ t.trdl = s.trdl ∧ t.pending = s.pending)
  ∧ (∀ (s : State) (core addr v size : Nat), 7 < core → exec (.registerWrite core addr v size) s = .next s)
  ∧ (∀ (s : State) (core v off : Nat), s.storeReg core (0x40030000 + off % 0x10000) v = none)

/-- FAST executions (R111, R115, R129, R135). -/
def Obligations.FastExecutionCommitsAtItsEndOrNotAtAll : Prop :=
  (∀ (s : State) (k : Nat), s.powered = true → s.isCell = true → s.fastDue k = true →
    Runs (.treadleFastStart k) s fun t => t.trdl.fastBusy = some k ∧ t.trdl.vars = s.trdl.vars ∧ t.trdl.pi = s.trdl.pi
      ∧ t.trdl.ramp = s.trdl.ramp ∧ t.trdl.xout = s.trdl.xout ∧ t.trdl.h = s.trdl.h ∧ t.trdl.nOut = s.trdl.nOut ∧ t.trdl.duty = s.trdl.duty
      ∧ t.trdl.vOwn = (if s.weft.codeReady then s.weft.vcode else s.trdl.vOwn) ∧ t.trdl.overruns = s.trdl.overruns
      ∧ t.dict = { s.dict with objs := t.dict.objs } ∧ SameBut [.trdl, .dict, .adc] s t)
  ∧ (∀ (s : State) (k : Nat) (a : Warp), s.powered = true → s.isArm = true → s.fastDue k = true → s.arm.merged = some a → s.arm.mergedK = k →
    Runs (.treadleFastStart k) s fun t => t.trdl.fastBusy = some k ∧ t.trdl.fastK = some k ∧ t.trdl.slowBusy = none ∧ t.trdl.overruns = s.trdl.overruns
      ∧ t.mem = s.mem ∧ t.pins = s.pins ∧ t.tb = s.tb ∧ t.weft = s.weft ∧ t.pending = s.pending)
  ∧ (∀ (s : State) (k : Nat), s.fastDue k = false ∨ s.node.role = .station ∨ s.node.role = .relay →
    exec (.treadleFastStart k) s = .next s)
  ∧ (∀ (s : State) (k : Nat), s.fastDue k = true → s.runMode ≠ .stop ∧ s.trdl.fastBusy = none ∧ s.holdsCycle k = true
    ∧ (s.isCell = true → k = s.weft.k ∧ s.t0 k + 770 ≤ s.tb.ntNs))
  ∧ (∀ (s : State) (k ns : Nat), s.powered = true → s.trdl.fastBusy = some k → s.trdl.fastStage.fpe = false → s.isArm = false → s.tb.ntNs ≤ s.fastDeadline k →
    Runs (.treadleFastEnd ns) s fun t => t.trdl.fastBusy = none ∧ t.trdl.vars = s.trdl.fastStage.vars ∧ t.trdl.pi = s.trdl.fastStage.pi
      ∧ t.trdl.ramp = s.trdl.fastStage.ramp ∧ t.trdl.xout = s.trdl.fastStage.xout ∧ t.trdl.duty = s.trdl.fastStage.duty
      ∧ t.trdl.cycle = k ∧ t.trdl.fastOk = true ∧ t.trdl.ovrConsec = 0 ∧ t.trdl.fastNs = min ns 65535
      ∧ t.trdl.fastMax = max s.trdl.fastMax (min ns 65535) ∧ t.trdl.overruns = s.trdl.overruns
      ∧ (s.isCell = true → s.trdl.fastStage.dutyNew = true → t.gate.sh.duty = some s.trdl.fastStage.duty)
      ∧ (s.trdl.fastStage.dutyNew = false → t.gate.sh = s.gate.sh) ∧ t.gate.sw = s.gate.sw
      ∧ SameBut [.trdl, .gate, .dict, .node, .recd, .evc] s t)
  ∧ (∀ (s : State) (k ns : Nat), s.powered = true → s.trdl.fastBusy = some k → s.trdl.fastStage.fpe = true → s.isArm = false →
    Runs (.treadleFastEnd ns) s fun t => t.trdl.fastBusy = none ∧ t.trdl.vars = s.trdl.vars ∧ t.trdl.pi = s.trdl.pi
      ∧ t.trdl.ramp = s.trdl.ramp ∧ t.trdl.xout = s.trdl.xout ∧ t.trdl.h = s.trdl.h ∧ t.trdl.duty = s.trdl.duty
      ∧ t.trdl.overruns = satAdd 32 s.trdl.overruns 1 ∧ t.trdl.fpes = satAdd 32 s.trdl.fpes 1
      ∧ t.trdl.ovrConsec = satAdd 8 s.trdl.ovrConsec 1 ∧ t.trdl.fastOk = false ∧ SameBut [.trdl, .evc] s t)
  ∧ (∀ (s : State) (k ns : Nat), s.powered = true → s.trdl.fastBusy = some k → s.trdl.fastStage.fpe = false → s.isArm = false →
    s.fastDeadline k < s.tb.ntNs →
    Runs (.treadleFastEnd ns) s fun t => t.trdl.fastBusy = none ∧ t.trdl.vars = s.trdl.vars ∧ t.trdl.pi = s.trdl.pi
      ∧ t.trdl.overruns = satAdd 32 s.trdl.overruns 1 ∧ t.trdl.fpes = s.trdl.fpes ∧ t.trdl.fastOk = false ∧ SameBut [.trdl, .evc] s t)
  ∧ (∀ (s : State) (k ns : Nat), s.powered = true → s.trdl.fastBusy = some k → s.isArm = true → s.trdl.fastStage.fpe = true ∨ s.fastDeadline k < s.tb.ntNs →
    Runs (.treadleFastEnd ns) s fun t => t.trdl.fastBusy = none ∧ t.trdl.vars = s.trdl.vars ∧ t.trdl.pi = s.trdl.pi
      ∧ t.trdl.ramp = s.trdl.ramp ∧ t.trdl.xout = s.trdl.xout ∧ t.trdl.nOut = s.trdl.nOut ∧ t.trdl.overruns = satAdd 32 s.trdl.overruns 1
      ∧ t.trdl.fpes = (if s.trdl.fastStage.fpe then satAdd 32 s.trdl.fpes 1 else s.trdl.fpes) ∧ t.trdl.fastOk = false
      ∧ SameBut [.trdl, .arm, .weft, .node, .recd, .evc, .link] s t)
  ∧ (∀ (s : State) (k ns : Nat), s.powered = true → s.trdl.fastBusy = some k → s.isArm = true → s.trdl.fastStage.fpe = false → s.tb.ntNs ≤ s.fastDeadline k →
    Runs (.treadleFastEnd ns) s fun t => t.trdl.fastBusy = none ∧ t.trdl.vars = s.trdl.fastStage.vars ∧ t.trdl.pi = s.trdl.fastStage.pi
      ∧ t.trdl.ramp = s.trdl.fastStage.ramp ∧ t.trdl.xout = s.trdl.fastStage.xout ∧ t.trdl.nOut = s.trdl.fastStage.nOut ∧ t.trdl.cycle = k
      ∧ t.trdl.fastOk = true ∧ t.trdl.ovrConsec = 0 ∧ t.trdl.overruns = s.trdl.overruns
      ∧ SameBut [.trdl, .arm, .weft, .node, .recd, .evc, .link, .dict, .adc] s t)
  ∧ (∀ (s : State) (ns : Nat), s.trdl.fastBusy = none → exec (.treadleFastEnd ns) s = .next s)

/-- SLOW executions, deadlines and the escalation of overruns (R115, R119, R129 to R132). -/
def Obligations.SlowExecutionsDeadlinesAndEscalation : Prop :=
  (∀ (s : State) (k ns : Nat), s.powered = true → s.trdl.slowBusy = some k → s.trdl.slowStage.fpe = false →
    s.isStation = false ∨ s.tb.ntNs ≤ s.slowDeadline k →
    Runs (.treadleSlowEnd ns) s fun t => t.trdl.slowBusy = none ∧ t.trdl.vars = s.trdl.slowStage.vars ∧ t.trdl.pi = s.trdl.slowStage.pi
      ∧ t.trdl.ramp = s.trdl.slowStage.ramp ∧ t.trdl.xout = s.trdl.slowStage.xout ∧ t.trdl.cycle = k ∧ t.trdl.slowOk = true
      ∧ (s.trdl.slowStage.hystRan = false → t.trdl.h = s.trdl.h ∧ t.trdl.nOut = s.trdl.nOut)
      ∧ t.trdl.slowNs = min (ns / 10) 65535 ∧ t.trdl.overruns = s.trdl.overruns
      ∧ SameBut [.trdl, .dict, .node, .recd, .evc, .link, .jrn] s t)
  ∧ (∀ (s : State) (k ns : Nat), s.powered = true → s.trdl.slowBusy = some k → s.trdl.slowStage.fpe = true →
    Runs (.treadleSlowEnd ns) s fun t => t.trdl.slowBusy = none ∧ t.trdl.vars = s.trdl.vars ∧ t.trdl.pi = s.trdl.pi
      ∧ t.trdl.ramp = s.trdl.ramp ∧ t.trdl.xout = s.trdl.xout ∧ t.trdl.h = s.trdl.h ∧ t.trdl.overruns = satAdd 32 s.trdl.overruns 1
      ∧ t.trdl.fpes = satAdd 32 s.trdl.fpes 1 ∧ t.trdl.slowOk = false ∧ SameBut [.trdl, .evc] s t)
  ∧ (∀ (s : State) (ns : Nat), s.trdl.slowBusy = none → exec (.treadleSlowEnd ns) s = .next s)
  ∧ (∀ (s : State) (k : Nat), s.isCell = true → s.runMode ≠ .stop → s.missedCycle false = some k →
    Runs (.treadleDeadline false) s fun t => t.trdl.fastBusy = none ∧ t.trdl.vars = s.trdl.vars ∧ t.trdl.pi = s.trdl.pi
      ∧ t.trdl.overruns = satAdd 32 s.trdl.overruns 1 ∧ t.trdl.fpes = s.trdl.fpes ∧ t.trdl.ovrConsec = satAdd 8 s.trdl.ovrConsec 1
      ∧ SameBut [.trdl, .evc] s t)
  ∧ (∀ (s : State) (k : Nat), s.isStation = true → s.runMode ≠ .stop → s.missedCycle true = some k →
    Runs (.treadleDeadline true) s fun t => t.trdl.slowBusy = none ∧ t.trdl.vars = s.trdl.vars
      ∧ t.trdl.overruns = satAdd 32 s.trdl.overruns 1 ∧ t.trdl.slowSkips = s.trdl.slowSkips ∧ SameBut [.trdl, .evc] s t)
  ∧ (∀ (s : State) (k : Nat), s.isArm = true → s.runMode ≠ .stop → s.trdl.slowBusy = some k → s.slowDeadline k ≤ s.tb.ntNs →
    Runs (.treadleDeadline true) s fun t => t.trdl.slowBusy = none ∧ t.trdl.vars = s.trdl.vars
      ∧ t.trdl.slowSkips = satAdd 32 s.trdl.slowSkips 1 ∧ t.trdl.overruns = s.trdl.overruns ∧ t.inRun .trdlSlowSkip 0 = true)
  ∧ (∀ (s : State) (k : Nat), s.isArm = true → s.runMode ≠ .stop → s.missedCycle false = some k →
    Runs (.treadleDeadline false) s fun t => t.trdl.fastBusy = none ∧ t.trdl.vars = s.trdl.vars ∧ t.trdl.pi = s.trdl.pi
      ∧ t.trdl.overruns = satAdd 32 s.trdl.overruns 1 ∧ t.trdl.fpes = s.trdl.fpes ∧ t.trdl.ovrConsec = satAdd 8 s.trdl.ovrConsec 1
      ∧ SameBut [.trdl, .arm, .weft, .node, .recd, .evc, .link] s t)
  ∧ (∀ (s : State) (slow : Bool), s.runMode = .stop ∨ s.missedCycle slow = none → exec (.treadleDeadline slow) s = .next s)
  ∧ (∀ s : State, s.powered = true → s.ovrDue = true → s.inRun .trdlOverrun 0 = false → s.isArm = true → s.isActive = true →
    Runs .overrunEscalation s fun t => t.inRun .trdlOverrun 0 = true ∧ t.jrn.pstate = .yielded ∧ t.jrn.upLostTx = true
      ∧ SameBut faultParts s t)
  ∧ (∀ s : State, s.powered = true → s.ovrDue = true → s.inRun .trdlOverrun 0 = false → s.isCell = true →
    Runs .overrunEscalation s fun t => t.inRun .trdlOverrun 0 = true
      ∧ t.node.faults.any (fun f => f.name == .trdlOverrun && f.cls == .f2) = true
      ∧ (s.node.nodeState = .service ∨ s.node.nodeState = .hold → t.node.nodeState = .block) ∧ SameBut faultParts s t)
  ∧ (∀ s : State, s.powered = true → s.ovrDue = true → s.inRun .trdlOverrun 0 = false →
    Runs .overrunEscalation s fun t => t.inRun .trdlOverrun 0 = true ∧ SameBut faultParts s t)
  ∧ (∀ s : State, s.ovrDue = false ∨ s.inRun .trdlOverrun 0 = true → exec .overrunEscalation s = .next s)
  ∧ (∀ s : State, s.ovrDue = true ↔ 3 ≤ s.trdl.ovrConsec ∨ 16 ≤ s.ovrInWindow)
  ∧ (∀ s : State, s.powered = true → s.isArm = true → s.isActive = true → s.obj Obj.CUR_LOST_LIMIT ≤ s.trdl.noCurRun →
    s.inRun .trdlNoCurrent 0 = false →
    Runs .noCurrentLimit s fun t => t.inRun .trdlNoCurrent 0 = true ∧ t.jrn.pstate = .yielded ∧ SameBut faultParts s t)
  ∧ (∀ s : State, s.isArm = false ∨ s.isActive = false ∨ s.trdl.noCurRun < s.obj Obj.CUR_LOST_LIMIT ∨ s.inRun .trdlNoCurrent 0 = true →
    exec .noCurrentLimit s = .next s)
  ∧ (∀ (s : State) (j : Nat), s.isStation = true → s.runMode ≠ .stop → s.boundaryDue j = true → s.trdl.slowBusy = none →
    Runs (.stationCycleBoundary j) s fun t => t.trdl.slowBusy = some j ∧ t.trdl.vars = s.trdl.vars ∧ t.trdl.pi = s.trdl.pi
      ∧ t.mem = s.mem ∧ t.pins = s.pins ∧ t.tb = s.tb ∧ t.pending = s.pending)
  ∧ (∀ (s : State) (j : Nat), s.powered = true → s.boundaryDue j = true →
    Runs (.stationCycleBoundary j) s fun t => t.trdl.boundJ = some j ∧ t.trdl.vars = s.trdl.vars ∧ t.trdl.pi = s.trdl.pi
      ∧ t.mem = s.mem ∧ t.pins = s.pins ∧ t.tb = s.tb ∧ t.pending = s.pending)
  ∧ (∀ (s : State) (j : Nat), s.boundaryDue j = false → exec (.stationCycleBoundary j) s = .next s)

/-- References in fallback, program activation, and what HYST may stage (R111, R113, R116, R117, R123). -/
def Obligations.ReferencesProgramsAndTheIndexLimits : Prop :=
  (∀ (s : State) (n : Nat), s.powered = true → n < 8 → (vget s.trdl.refin n {}).held = true → (vget s.trdl.refin n {}).falling = false →
    isZeroF (s.objF (Obj.REFIN_FB_RATE0 + n)) = false → (vget s.trdl.refin n {}).since + s.obj Obj.REF_HOLD * tapsMs ≤ s.tb.taps →
    Runs (.refHoldExpiry n) s fun t => vget t.trdl.refin n {} = { vget s.trdl.refin n {} with falling := true } ∧ t.inRun .refFallback n = true
      ∧ (∀ i, i ≠ n → vget t.trdl.refin i {} = vget s.trdl.refin i {}) ∧ t.trdl = { s.trdl with refin := t.trdl.refin }
      ∧ t.node = { s.node with runs := t.node.runs } ∧ SameBut [.trdl, .node, .recd, .evc] s t)
  ∧ (∀ (s : State) (n : Nat), 8 ≤ n ∨ (vget s.trdl.refin n {}).held = false ∨ (vget s.trdl.refin n {}).falling = true
      ∨ isZeroF (s.objF (Obj.REFIN_FB_RATE0 + n)) = true ∨ s.tb.taps < (vget s.trdl.refin n {}).since + s.obj Obj.REF_HOLD * tapsMs →
    exec (.refHoldExpiry n) s = .next s)
  ∧ (∀ (s : State) (v : Nat), s.powered = true → s.node.role = .relay →
    Runs (.programActivate v) s (Refused .noObject Obj.PROGRAM_ACTIVATE s))
  ∧ (∀ (s : State) (v : Nat), s.powered = true → s.node.role ≠ .relay → 1 < v →
    Runs (.programActivate v) s (Refused .range Obj.PROGRAM_ACTIVATE s))
  ∧ (∀ (s : State) (v : Nat), s.powered = true → s.node.role ≠ .relay → v ≤ 1 → s.node.nodeState = .service →
    Runs (.programActivate v) s (Refused .state Obj.PROGRAM_ACTIVATE s))
  ∧ (∀ s : State, s.powered = true → s.node.role ≠ .relay → s.node.nodeState ≠ .service →
    programOk (vget s.trdl.banks (if s.trdl.staged then 1 - s.trdl.bank else s.trdl.bank) {}) = false →
    Runs (.programActivate 1) s (Refused .refused Obj.PROGRAM_ACTIVATE s))
  ∧ (∀ (s : State) (p : TProgram), s.powered = true → s.node.role ≠ .relay → s.node.nodeState ≠ .service →
    vget s.trdl.banks (if s.trdl.staged then 1 - s.trdl.bank else s.trdl.bank) {} = p → programOk p = true → p.fast ≠ [] ∨ p.slow ≠ [] →
    vcoreMinOf s.node.role ((segPath p.fast).getD 0) ≤ s.vcoreBound →
    exec (.programActivate 1) s = .next { s.setObj Obj.PROGRAM_ACTIVATE 1 0 with
      trdl := { s.trdl with std := false, bank := (if s.trdl.staged then 1 - s.trdl.bank else s.trdl.bank), staged := false } })
  ∧ (∀ (s : State) (p : TProgram), s.powered = true → s.node.role ≠ .relay → s.node.nodeState ≠ .service →
    vget s.trdl.banks (if s.trdl.staged then 1 - s.trdl.bank else s.trdl.bank) {} = p →
    (p.fast = [] ∧ p.slow = []) ∨ s.vcoreBound < vcoreMinOf s.node.role ((segPath p.fast).getD 0) →
    Runs (.programActivate 1) s (Refused .refused Obj.PROGRAM_ACTIVATE s))
  ∧ (∀ s : State, s.powered = true → s.node.role ≠ .relay → s.node.nodeState ≠ .service →
    (vcoreMinOf s.node.role (if s.isArm then 88 else Config.factoryValue Obj.FAST_PATH) ≤ s.vcoreBound →
      exec (.programActivate 0) s = .next { s.setObj Obj.PROGRAM_ACTIVATE 0 0 with trdl := { s.trdl with std := true } })
    ∧ (s.vcoreBound < vcoreMinOf s.node.role (if s.isArm then 88 else Config.factoryValue Obj.FAST_PATH) →
      Runs (.programActivate 0) s (Refused .refused Obj.PROGRAM_ACTIVATE s)))
  ∧ (∀ (i t : Nat) (rest : List TInstr), t ≤ i → (pathsFrom i (.br t :: rest)).headD none = none)
  ∧ (∀ l : List TInstr, l ≠ [] → TInstr.tend ∉ l → segPath l = none)
  ∧ (∀ (s : State) (first : Bool) (x : Stage), x.mode ≠ .track → (s.hystRun first x).hystRan = true → x.hystRan = false →
    let y := s.hystRun first x
    let prev := if first then y.nFf else s.trdl.nEff
    prev - s.obj Obj.N_SLEW ≤ y.nOut ∧ y.nOut ≤ prev + s.obj Obj.N_SLEW
      ∧ ((-(s.obj Obj.H_LIMIT : Int) ≤ y.h ∧ y.h ≤ s.obj Obj.H_LIMIT) ∨ y.h = y.nOut - y.nFf)
      ∧ (y.nLim = false → y.nOut = y.nFf + y.h))
  ∧ (∀ (s : State) (first : Bool) (x : Stage), x.mode = .track → (s.hystRun first x).hystRan = true → x.hystRan = false →
    (s.hystRun first x).h = 0 ∧ (s.hystRun first x).nOut = (s.hystRun first x).nFf)

/-- The switches of a leg are never on together, before or after any step (R143, R163). -/
def Obligations.NoLegEverConductsThrough : Prop :=
  State.reset.LegsApart ∧ ∀ s t : State, s.LegsApart → step s = .next t → t.LegsApart

/-- Edges of the legs, of GO6 and of GO7 (R142 to R144, R147, R154, R155). -/
def Obligations.LegsFollowTheDecisionThroughTheDeadTime : Prop :=
  (∀ (s : State) (k : Nat) (d : Decision) (neg : Bool), s.tb.refOk = true → s.edgeDue k = true → s.bridgeDriven = true →
    s.weft.decisions.find? (·.k == k) = some d → d.late = false → d.action = .insert neg →
    Runs (.levelEdgeInstant k) s fun t => t.gate.ins = (if neg then .neg else .pos) ∧ t.gate.edgeK = some k
      ∧ (t.gate.leg1, t.gate.leg2) = legsOf (s.objEff Obj.BRIDGE == 1) s.gate.zeroTop (if neg then .neg else .pos)
      ∧ (neg = false → (t.gate.switch 1).on = false ∧ ((t.gate.switch 0).on = true ∨ (t.gate.switch 0).pendingOn.isSome = true))
      ∧ (neg = true → (t.gate.switch 0).on = false) ∧ SameBut [.gate, .evc] s t)
  ∧ (∀ (s : State) (k : Nat) (d : Decision), s.tb.refOk = true → s.edgeDue k = true → s.bridgeDriven = true →
    s.weft.decisions.find? (·.k == k) = some d → d.late = false → d.action = .goZero →
    Runs (.levelEdgeInstant k) s fun t => t.gate.ins = .zero ∧ t.gate.edgeK = some k ∧ SameBut [.gate, .evc] s t)
  ∧ (∀ (s : State) (k : Nat), s.tb.refOk = true → s.powered = true → s.edgeDue k = true →
    s.bridgeDriven = false ∨ s.weft.decisions.find? (·.k == k) = none
      ∨ (∃ d, s.weft.decisions.find? (·.k == k) = some d ∧ (d.late = true ∨ d.action = .keep)) →
    Runs (.levelEdgeInstant k) s fun t => t.gate.ins = s.gate.ins ∧ t.gate.leg1 = s.gate.leg1 ∧ t.gate.leg2 = s.gate.leg2
      ∧ t.gate.edgeK = some k
      ∧ (∀ i, i < 4 → (s.gate.switch i).on = true → (t.gate.switch i).on = true) ∧ SameBut [.gate, .evc] s t)
  ∧ (∀ (s : State) (k : Nat), s.edgeDue k = false ∨ s.tb.refOk = false → exec (.levelEdgeInstant k) s = .next s)
  ∧ (∀ (s : State) (out : Nat), s.tb.refOk = true → s.bridgeDriven = true → out < 4 → s.gate.switchDue s.tb.taps out = true →
    Runs (.deadtimeExpiry out) s fun t =>
        t.gate.switch out = { s.gate.switch out with on := true, onAt := s.gate.onTime out, pendingOn := none }
      ∧ (∀ i, i ≠ out → t.gate.switch i = s.gate.switch i) ∧ t.gate = { s.gate with sw := t.gate.sw } ∧ SameBut [.gate, .evc] s t)
  ∧ (∀ (s : State) (out : Nat), s.bridgeDriven = false ∨ 4 ≤ out ∨ s.gate.switchDue s.tb.taps out = false →
    exec (.deadtimeExpiry out) s = .next s)
  ∧ (∀ (g : Gate) (now i : Nat), g.switchDue now i = true →
    (g.switch (mate i)).on = false ∧ (g.switch (mate i)).offSince + g.act.deadtime ≤ now ∧ ∃ t, (g.switch i).pendingOn = some t ∧ t ≤ now)
  ∧ (∀ (s : State) (out : Nat) (e : SchedEdge), s.tb.refOk = true → s.powered = true → s.dueEdge out = some e → e.out = 6 →
    Runs (.scheduledEdge out) s fun t => t.gate = { s.gate with
        sched := s.gate.sched.filter (fun x => x.tap != e.tap || x.out != e.out), go6 := e.level, dctrl := s.gate.dctrl % 4 }
      ∧ SameBut [.gate, .evc] s t)
  ∧ (∀ (s : State) (out : Nat) (e : SchedEdge), s.tb.refOk = true → s.powered = true → s.dueEdge out = some e → e.out = 7 →
    Runs (.scheduledEdge out) s fun t => t.gate = { s.gate with
        sched := s.gate.sched.filter (fun x => x.tap != e.tap || x.out != e.out), go7 := e.level, dctrl := s.gate.dctrl % 4 }
      ∧ SameBut [.gate, .evc] s t)
  ∧ (∀ (s : State) (out : Nat) (e : SchedEdge), s.tb.refOk = true → s.powered = true → s.dueEdge out = some e → e.out < 4 →
    Runs (.scheduledEdge out) s fun t => e ∉ t.gate.sched
      ∧ (s.node.nodeState ≠ .service ∨ s.gate.carRun = false → t.gate = { s.gate with sched := t.gate.sched })
      ∧ SameBut [.gate, .evc] s t)
  ∧ (∀ (s : State) (out : Nat), s.dueEdge out = none → exec (.scheduledEdge out) s = .next s)
  ∧ (∀ (s : State) (v : Nat), s.powered = true → s.obj Obj.GATE_MODE = 2 → s.gateTw ≠ 0 → bitOf v 2 = true →
    exec (.directArm v) s = .next { s with gate := { s.gate with
      dctrl := v % 8, sched := s.gate.sched.filter (·.out < 4)
        ++ [⟨6 + v % 2, s.nextT0Tap + s.gate.dofs, bitOf v 1⟩] } })
  ∧ (∀ (s : State) (v : Nat), s.powered = true → s.obj Obj.GATE_MODE ≠ 2 ∨ bitOf v 2 = false ∨ s.gateTw = 0 →
    exec (.directArm v) s = .next { s with gate := { s.gate with dctrl := v % 8 } })
  ∧ (∀ (s : State) (v : Nat), s.powered = true →
    exec (.auxWrite false v) s = .next { s with gate := (if s.obj Obj.GATE_MODE = 2
      then { s.gate with aux := v % 4, go6 := bitOf v 0, go7 := bitOf v 1 } else { s.gate with aux := v % 4 }) })
  ∧ (∀ (s : State) (v : Nat), s.powered = true → v ≤ 255 →
    Runs (.auxWrite true v) s fun t => t.gate.aux = v % 4 ∧ t.obj Obj.AUX_LEVEL = v ∧ (∀ k, k ≠ Obj.AUX_LEVEL → t.obj k = s.obj k)
      ∧ t.dict = { s.dict with objs := t.dict.objs } ∧ SameBut [.gate, .dict] s t)
  ∧ (∀ (s : State) (v : Nat), s.powered = true → 255 < v → Runs (.auxWrite true v) s (Refused .range Obj.AUX_LEVEL s))

/-- Carrier periods (R149 to R152, R156, R157). -/
def Obligations.CarrierPeriodsAndCoupledLoads : Prop :=
  (∀ (s : State) (b : Int), s.gate.act.period ≠ 0 →
    b + ((s.gate.act.period + 1) / 2 : Nat) ≤ s.periodEnd b ∧ s.periodEnd b < b + ((s.gate.act.period + 1) / 2 : Nat) + s.gate.act.period
      ∧ (s.periodEnd b - s.phaseInUse) % (s.gate.act.period : Int) = 0)
  ∧ (∀ mp d l : Nat, d ≤ l → mp ≤ l → ((minPulse mp d l).1 = 0 ∨ mp ≤ (minPulse mp d l).1) ∧ (minPulse mp d l).1 ≤ l
    ∧ ((minPulse mp d l).1 = l ∨ mp ≤ l - (minPulse mp d l).1) ∧ ((minPulse mp d l).2 = false → (minPulse mp d l).1 = d))
  ∧ (∀ (s : State) (b : Int), s.tb.refOk = true → s.powered = true → s.boundary = some b →
    Runs .carrierBoundary s fun t => t.gate.carStart = b ∧ t.gate.carRun = (s.isCell && s.node.nodeState == .service)
      ∧ t.gate.carLen = (t.periodEnd b - b).toNat ∧ t.gate.carPrev = (s.gate.carStart, s.gate.carLen)
      ∧ (s.isCell = false ∨ s.node.nodeState ≠ .service → (∀ e ∈ t.gate.sched, 4 ≤ e.out) ∧ t.gate.ins = s.gate.ins ∧ t.gate.leg1 = s.gate.leg1 ∧ t.gate.leg2 = s.gate.leg2)
      ∧ t.gate.act.deadtime = ((s.gate.sh.pick s.tb.taps 2 s.gate.sh.deadtime).getD s.gate.act.deadtime)
      ∧ SameBut [.gate, .evc] s t)
  ∧ (∀ (s : State) (v : Nat) (d : F32), s.tb.refOk = true → s.powered = true → s.boundary.isSome = true → s.objB Obj.COUPLED = true → s.gate.sh.period = some v →
    s.gate.sh.ripe s.tb.taps 0 = true → s.gate.sh.dutyPartner = true → s.gate.sh.duty = some d → s.gate.sh.ripe s.tb.taps 4 = true →
    Runs .carrierBoundary s fun t => t.gate.act.period = v ∧ t.gate.act.duty = d ∧ t.gate.sh.period = none ∧ t.gate.sh.duty = none
      ∧ t.gate.mismatch = s.gate.mismatch)
  ∧ (∀ (s : State) (v : Nat), s.tb.refOk = true → s.powered = true → s.boundary.isSome = true → s.objB Obj.COUPLED = true → s.gate.sh.period = some v →
    s.gate.sh.ripe s.tb.taps 0 = true → s.gate.sh.dutyPartner = false → s.gate.sh.wait ≠ 3 →
    Runs .carrierBoundary s fun t => t.gate.act.period = s.gate.act.period ∧ t.gate.sh.period = some v
      ∧ t.gate.sh.wait = s.gate.sh.wait + 1 ∧ t.gate.mismatch = s.gate.mismatch)
  ∧ (∀ (s : State) (v : Nat), s.tb.refOk = true → s.powered = true → s.boundary.isSome = true → s.objB Obj.COUPLED = true → s.gate.sh.period = some v →
    s.gate.sh.ripe s.tb.taps 0 = true → s.gate.sh.dutyPartner = false → s.gate.sh.wait = 3 →
    Runs .carrierBoundary s fun t => t.gate.act.period = v ∧ t.gate.sh.period = none ∧ t.gate.sh.wait = 0
      ∧ t.gate.mismatch = satAdd 32 s.gate.mismatch 1 ∧ t.gate.act.duty = s.gate.act.duty)
  ∧ (∀ s : State, s.boundary = none ∨ s.tb.refOk = false → exec .carrierBoundary s = .next s)

/-- Fault inputs, readback, delay line and bypass pulse (R141, R145, R146, R160 to R165). -/
def Obligations.FaultInputsReadbackAndDelayLine : Prop :=
  (∀ (s : State) (n : Nat) (l : Bool), s.isCell = true → n ≤ 5 → s.fltBall n l ≠ bitOf (s.obj (Obj.FLT_CFG0 + n)) 1 → s.node.nodeState = .service ∨ s.node.nodeState = .hold →
    bitOf (s.obj (Obj.FLT_CFG0 + n)) 0 = true → (vget s.gate.flt n {}).latched = false → bitsOf (s.obj (Obj.FLT_CFG0 + n)) 3 2 = 1 →
    Runs (.fltFilterExpiry n l) s fun t => (vget t.gate.flt n {}).latched = true ∧ (∀ i, i < 4 → (t.gate.switch i).on = false)
      ∧ t.node.nodeState = .block ∧ t.sel.spb = true ∧ bitOf t.sel.causes 11 = true ∧ SameBut faultParts s t)
  ∧ (∀ (s : State) (n : Nat) (l : Bool), s.isCell = true → n ≤ 5 → s.fltBall n l ≠ bitOf (s.obj (Obj.FLT_CFG0 + n)) 1 → s.powered = true → s.node.nodeState ≠ .boot → s.sel.sby = false →
    bitOf (s.obj (Obj.FLT_CFG0 + n)) 0 = true → (vget s.gate.flt n {}).latched = false → bitsOf (s.obj (Obj.FLT_CFG0 + n)) 3 2 = 2 →
    Runs (.fltFilterExpiry n l) s fun t => (vget t.gate.flt n {}).latched = true ∧ t.node.nodeState = .bypass ∧ t.sel.sby = true
      ∧ t.node.bypassMark = true ∧ (∀ i, i < 4 → (t.gate.switch i).on = false) ∧ SameBut (.sys :: .bob :: faultParts) s t)
  ∧ (∀ (s : State) (n : Nat) (l : Bool), s.powered = true → n ≤ 5 → s.fltBall n l ≠ bitOf (s.obj (Obj.FLT_CFG0 + n)) 1 → s.node.nodeState ≠ .boot → bitOf (s.obj (Obj.FLT_CFG0 + n)) 0 = true →
    (vget s.gate.flt n {}).latched = false → bitsOf (s.obj (Obj.FLT_CFG0 + n)) 3 2 = 0 →
    Runs (.fltFilterExpiry n l) s fun t => (vget t.gate.flt n {}).latched = true ∧ t.gate.sw = s.gate.sw
      ∧ t.node = { s.node with runs := t.node.runs } ∧ SameBut [.gate, .recd, .evc, .node] s t)
  ∧ (∀ (s : State) (n : Nat) (l : Bool), s.powered = true → n ≤ 5 →
    s.fltBall n l = bitOf (s.obj (Obj.FLT_CFG0 + n)) 1 ∨ bitOf (s.obj (Obj.FLT_CFG0 + n)) 0 = false ∨ s.node.nodeState = .boot ∨ (vget s.gate.flt n {}).latched = true →
    exec (.fltFilterExpiry n l) s = .next { s with gate := { s.gate with
      flt := vset s.gate.flt n { vget s.gate.flt n {} with
        raw := s.fltBall n l, act := s.fltBall n l != bitOf (s.obj (Obj.FLT_CFG0 + n)) 1 } } })
  ∧ (∀ (s : State) (n : Nat) (l : Bool), s.powered = true → n ≤ 5 → s.fltBall n l ≠ bitOf (s.obj (Obj.FLT_CFG0 + n)) 1 → s.node.nodeState ≠ .boot →
    bitOf (s.obj (Obj.FLT_CFG0 + n)) 0 = true → (vget s.gate.flt n {}).latched = false → bitsOf (s.obj (Obj.FLT_CFG0 + n)) 3 2 ≠ 0 →
    Runs (.fltFilterExpiry n l) s fun t => (vget t.gate.flt n {}).latched = true ∧ t.gate.forces = satAdd 32 s.gate.forces 1
      ∧ (t.node.faults.any fun f => f.name == .fltTrip && f.arg == n) = true ∧ SameBut (.sys :: .bob :: faultParts) s t)
  ∧ (∀ (s : State) (n : Nat) (a : Bool), 5 < n → exec (.fltFilterExpiry n a) s = .next s)
  ∧ (∀ (s : State) (m : Nat), s.powered = true → m ≤ 63 →
    (∀ n, n < 6 → bitOf m n = true → (vget s.gate.flt n {}).latched = true → (vget s.gate.flt n {}).act = false) →
    Runs (.fltClear m) s fun t =>
      (∀ n, n < 6 → (vget t.gate.flt n {}).latched = ((vget s.gate.flt n {}).latched && !bitOf m n))
      ∧ t.gate = { s.gate with flt := t.gate.flt } ∧ t.node = { s.node with faults := t.node.faults } ∧ SameBut [.gate, .node] s t)
  ∧ (∀ (s : State) (m n : Nat), s.powered = true → m ≤ 63 → n < 6 → bitOf m n = true → (vget s.gate.flt n {}).latched = true →
    (vget s.gate.flt n {}).act = true →
    Runs (.fltClear m) s fun t => (vget t.gate.flt n {}).latched = true ∧ t.dict.refusedCount = satAdd 32 s.dict.refusedCount 1
      ∧ t.dict.lastRefusal = Status.refused.code * 2 ^ 24 + Obj.FLT_CLEAR % 2 ^ 24 ∧ t.gate.sw = s.gate.sw
      ∧ SameBut [.gate, .node, .dict, .recd, .evc] s t)
  ∧ (∀ (s : State) (m : Nat), s.powered = true → 63 < m → Runs (.fltClear m) s (Refused .range Obj.FLT_CLEAR s))
  ∧ (∀ (s : State) (out : Nat) (l : Bool), s.powered = true → out ≤ 7 → s.gate.hiz = false → s.lastGoEdge out + 2560 ≤ s.tb.taps →
    (l && s.sys.vddioB) ≠ s.goLevel out → s.inRun .goReadback out = false →
    Runs (.goReadback out l) s fun t => vget t.gate.rb out none = some (l && s.sys.vddioB, s.tb.taps)
      ∧ t.gate.readback = satAdd 32 s.gate.readback 1 ∧ t.inRun .goReadback out = true
      ∧ t.node.faults.any (fun f => f.name == .goReadback && f.arg == out) = true ∧ SameBut faultParts s t)
  ∧ (∀ (s : State) (out : Nat) (l : Bool), s.powered = true → out ≤ 7 → s.gate.hiz = false → s.lastGoEdge out + 1280 ≤ s.tb.taps →
    (l && s.sys.vddioB) = s.goLevel out →
    Runs (.goReadback out l) s fun t => t.gate = { s.gate with rb := vset s.gate.rb out (some (l && s.sys.vddioB, s.tb.taps)) }
      ∧ t.inRun .goReadback out = false ∧ t.node = { s.node with runs := t.node.runs } ∧ SameBut [.gate, .node] s t)
  ∧ (∀ (s : State) (out : Nat) (l : Bool), s.powered = true → out ≤ 7 → s.gate.hiz = false → s.lastGoEdge out + 1280 ≤ s.tb.taps →
    (l && s.sys.vddioB) ≠ s.goLevel out → s.inRun .goReadback out = true ∨ s.tb.taps < s.lastGoEdge out + 2560 →
    exec (.goReadback out l) s = .next { s with gate := { s.gate with rb := vset s.gate.rb out (some (l && s.sys.vddioB, s.tb.taps)) } })
  ∧ (∀ (s : State) (out : Nat) (l : Bool), s.gate.hiz = true ∨ 7 < out ∨ s.tb.taps < s.lastGoEdge out + 1280 →
    exec (.goReadback out l) s = .next s)
  ∧ (∀ (s : State) (n : Nat), s.tb.refOk = true → s.powered = true → s.node.nodeState ≠ .boot →
    s.gate.calAt + s.obj Obj.CAL_PERIOD * tapsMs ≤ s.tb.taps → 140 ≤ n → n ≤ 250 →
    exec (.delayLineCal n) s = .next { s with gate := { s.gate with calAt := s.tb.taps, calSpan := n - 140, calOk := true } })
  ∧ (∀ (s : State) (n : Nat), s.tb.refOk = true → s.powered = true → s.node.nodeState ≠ .boot →
    s.gate.calAt + s.obj Obj.CAL_PERIOD * tapsMs ≤ s.tb.taps → n < 140 ∨ 250 < n →
    Runs (.delayLineCal n) s fun t => t.gate.calSpan = s.gate.calSpan ∧ t.gate.cals = satAdd 32 s.gate.cals 1
      ∧ t.node.faults.any (fun f => f.name == .gateCal) = true ∧ SameBut faultParts s t)
  ∧ (∀ (s : State) (n : Nat), s.tb.refOk = false ∨ s.node.nodeState = .boot ∨ s.tb.taps < s.gate.calAt + s.obj Obj.CAL_PERIOD * tapsMs →
    exec (.delayLineCal n) s = .next s)
  ∧ (∀ (s : State) (l : Bool), s.powered = true → s.bypassCommanded = true → s.obj Obj.GO4_MODE = 1 → s.tb.refOk = false ∨ l = s.pulseOn →
    exec (.bypassPulse l) s = .next { s with gate := { s.gate with bypPulse := l } })
  ∧ (∀ (s : State) (l : Bool), s.bypassCommanded = false ∨ s.obj Obj.GO4_MODE ≠ 1 ∨ (s.tb.refOk = true ∧ l ≠ s.pulseOn) → exec (.bypassPulse l) s = .next s)

/-- Reference and calibration (R172 to R175). -/
def Obligations.ReferenceAndCalibration : Prop :=
  (∀ s : State, s.powered = true → s.objB Obj.REF_EN = true → s.adc.refReady = false → s.adc.refSince + 3 * tapsMs ≤ s.tb.taps →
    Runs .refReady s fun t =>
        t.adc = { s.adc with refReady := true, refBad := false, calPending := false, calBusy := t.adc.calBusy, cores := t.adc.cores }
      ∧ (∀ c, c < 2 → t.adcCore c = { s.adcCore c with ofsAt := (t.adcCore c).ofsAt })
      ∧ (s.adc.firstCal = false → t.adc.calBusy = true) ∧ SameBut [.adc] s t)
  ∧ (∀ s : State, s.objB Obj.REF_EN = false ∨ s.adc.refReady = true ∨ s.tb.taps < s.adc.refSince + 3 * tapsMs → exec .refReady s = .next s)
  ∧ (∀ s : State, s.objB Obj.REF_EN = false → exec .refFault s = .next s)
  ∧ (∀ s : State, s.powered = true → s.objB Obj.REF_EN = true →
    Runs .refFault s fun t => t.adc.refReady = false ∧ t.adc.refBad = true ∧ t.adc.refSince = s.tb.taps ∧ (∀ c, c < 2 → (t.adcCore c).cur = .none)
      ∧ (s.isCell = true → s.node.nodeState = .service ∨ s.node.nodeState = .hold → t.node.nodeState = .block)
      ∧ (s.isCell = true → t.node.faults.any (fun f => f.name == .adcRef && f.cls == .f2) = true) ∧ SameBut (.adc :: faultParts) s t)
  ∧ (∀ (s : State) (a b : Bool), s.powered = true → s.adc.calBusy = true →
    Runs (.fullCalDone a b) s fun t => t.adc = { s.adc with calBusy := false, firstCal := true, cal0Ok := a, cal1Ok := b, evt := t.adc.evt }
      ∧ (s.isCell = true → a = false → t.node.faults.any (fun f => f.name == .adcCal && f.arg == 0) = true)
      ∧ (s.isCell = true → b = false → t.node.faults.any (fun f => f.name == .adcCal && f.arg == 1) = true)
      ∧ (a = true → b = true → t.adc.evt = s.adc.evt ∧ SameBut [.adc] s t)
      ∧ (t.sys = s.sys ∨ (s.isCell = true ∧ s.node.nodeState = .boot ∧ (a = false ∨ b = false) ∧ t.sys = { s.sys with bootFailed := true }))
      ∧ SameBut (.adc :: .sys :: faultParts) s t)
  ∧ (∀ (s : State) (a b : Bool), s.adc.calBusy = false → exec (.fullCalDone a b) s = .next s)
  ∧ (∀ s : State, s.node.nodeState = .join ∨ s.node.nodeState = .ready ∨ s.node.nodeState = .block →
    exec (.calStart s.addr) s = .next { s with adc := { s.adc with
      calBusy := s.adc.calBusy || s.adc.refReady, calPending := s.adc.calPending || !s.adc.refReady } })
  ∧ (∀ (s : State) (v : Nat), s.node.nodeState = .join ∨ s.node.nodeState = .ready ∨ s.node.nodeState = .block → v ≠ s.addr →
    Runs (.calStart v) s (Refused .range Obj.CAL_START s))
  ∧ (∀ (s : State) (v : Nat), s.powered = true → s.node.nodeState ≠ .join → s.node.nodeState ≠ .ready → s.node.nodeState ≠ .block →
    Runs (.calStart v) s (Refused .state Obj.CAL_START s))
  ∧ (∀ (s : State) (c g : Nat), s.powered = true → c < 2 → g < 5 → (s.adcCore c).cur = .slot g → (s.adcCore c).startTap + 25600 ≤ s.tb.taps →
    Runs (.ofsCalSlotDone c g) s fun t => t.adcCore c = { s.adcCore c with cur := .none, ofsAt := vset (s.adcCore c).ofsAt g s.tb.taps }
      ∧ t.adcCore (1 - c) = s.adcCore (1 - c) ∧ t.inRun .adcCalStarved (8 * c + g) = false
      ∧ t.node = { s.node with runs := t.node.runs } ∧ SameBut [.adc, .node] s t)
  ∧ (∀ (s : State) (c g : Nat), 2 ≤ c ∨ 5 ≤ g ∨ (s.adcCore c).cur ≠ .slot g ∨ s.tb.taps < (s.adcCore c).startTap + 25600 → exec (.ofsCalSlotDone c g) s = .next s)
  ∧ (∀ (s : State) (c g : Nat), s.powered = true → c < 2 → g < 5 →
    vget (s.adcCore c).ofsAt g 0 + s.obj Obj.OFS_CAL_PERIOD * tapsS ≤ s.tb.taps → s.inRun .adcCalStarved (8 * c + g) = false →
    Runs (.ofsCalStarved c g) s fun t => t.inRun .adcCalStarved (8 * c + g) = true ∧ t.adc = s.adc
      ∧ t.node = { s.node with runs := t.node.runs } ∧ SameBut [.node, .recd, .evc] s t)
  ∧ (∀ (s : State) (v : Nat), s.powered = false → exec (.calStart v) s = .next s)
  ∧ (∀ (s : State) (c g : Nat), 2 ≤ c ∨ 5 ≤ g ∨ s.inRun .adcCalStarved (8 * c + g) = true
      ∨ s.tb.taps < vget (s.adcCore c).ofsAt g 0 + s.obj Obj.OFS_CAL_PERIOD * tapsS → exec (.ofsCalStarved c g) s = .next s)

/-- Conversions and results (R171, R179 to R187). -/
def Obligations.ConversionsAndTheirResults : Prop :=
  (∀ (s : State) (c e : Nat), s.tb.refOk = true → s.powered = true → c < 2 → (s.adcCore c).enabled = true → s.tbArmed = true → s.adcStart c 1 = some e →
    s.tbNow (s.adcEntry c e) = true → s.tbBegun c e = false →
    s.adc.refReady = true → s.adc.calBusy = false →
    Runs (.tbSampleStart c) s fun t => (t.adcCore c).cur = .tb e ∧ (t.adcCore c).startTap = s.tb.taps
      ∧ (t.adcCore c).resvEnd = s.tb.taps + entryNs (s.adcEntry c e) / 10 * 128
      ∧ (t.adcCore c).tbRest = none ∧ ((s.adcCore c).tbRest = none → t.adc.aborts = s.adc.aborts)
      ∧ ((∀ n x, (s.adcCore c).cur ≠ .cmpt n x) → (t.adcCore c).cmptPend = (s.adcCore c).cmptPend) ∧ (t.adcCore c).resVal = (s.adcCore c).resVal
      ∧ t.adcCore (1 - c) = s.adcCore (1 - c) ∧ SameBut [.adc] s t)
  ∧ (∀ (s : State) (c : Nat), 1 < c ∨ (s.adcCore c).enabled = false ∨ s.tbArmed = false ∨ s.adcStart c 1 = none
      ∨ (∃ e, s.adcStart c 1 = some e ∧ (s.tbNow (s.adcEntry c e) = false ∨ s.tbBegun c e = true)) →
    exec (.tbSampleStart c) s = .next s)
  ∧ (∀ (s : State) (c : Nat), s.tb.refOk = false → exec (.tbSampleStart c) s = .next s)
  ∧ (∀ (s : State) (c e : Nat), s.tb.refOk = true → s.powered = true → c < 2 → (s.adcCore c).enabled = true → s.tbArmed = true → s.adcStart c 1 = some e →
    s.tbNow (s.adcEntry c e) = true → s.tbBegun c e = false → s.adc.refReady = true → s.adc.calBusy = true →
    Runs (.tbSampleStart c) s fun t => t.adc.trigLosts = satAdd 32 s.adc.trigLosts 1 ∧ (t.adcCore c).cur = (s.adcCore c).cur ∧ SameBut [.adc, .evc] s t)
  ∧ (∀ (s : State) (c e : Nat), s.tb.refOk = true → s.powered = true → c < 2 → (s.adcCore c).enabled = true → s.tbArmed = true → s.adcStart c 1 = some e →
    s.tbNow (s.adcEntry c e) = true → s.tbBegun c e = false →
    s.adc.refReady = false →
    Runs (.tbSampleStart c) s fun t => t.adc.refWaits = satAdd 32 s.adc.refWaits 1 ∧ (t.adcCore c).cur = (s.adcCore c).cur ∧ SameBut [.adc] s t)
  ∧ (∀ (s : State) (c e : Nat), s.powered = true → c < 2 → (s.adcCore c).cur = .none → s.adc.refReady = true → s.adc.calBusy = false →
    (s.adcCore c).enabled = true → (s.adcCore c).urgPend = some e → s.workFits c (.urgent e) = true →
    Runs (.adcWorkStart c) s fun t => (t.adcCore c).cur = .urgent e ∧ (t.adcCore c).urgPend = none
      ∧ (t.adcCore c).startTap = s.tb.taps ∧ (t.adcCore c).swPend = (s.adcCore c).swPend ∧ SameBut [.adc] s t)
  ∧ (∀ (s : State) (c e : Nat), s.powered = true → c < 2 → (s.adcCore c).cur = .none → s.adc.refReady = true → s.adc.calBusy = false →
    (s.adcCore c).enabled = true → (s.adcCore c).urgPend = none → (s.adcCore c).tbRest = some e → s.workFits c (.tbRest e) = true →
    Runs (.adcWorkStart c) s fun t => (t.adcCore c).cur = .tbRest e ∧ (t.adcCore c).tbRest = none ∧ SameBut [.adc] s t)
  ∧ (∀ (s : State) (c : Nat), s.powered = true → c < 2 → (s.adcCore c).cur = .none → s.adc.refReady = true → s.adc.calBusy = false →
    (s.adcCore c).urgPend = none → (s.adcCore c).tbRest = none → (∀ n, n < 4 → vget (s.adcCore c).cmptPend n none = none) →
    (s.adcCore c).swPend = none → s.slotFree c = true → s.workFits c (.slot (s.adcCore c).nextSlot) = true →
    Runs (.adcWorkStart c) s fun t => (t.adcCore c).cur = .slot (s.adcCore c).nextSlot ∧ SameBut [.adc] s t)
  ∧ (∀ (s : State) (c e : Nat), s.powered = true → c < 2 → (s.adcCore c).cur = .none → s.adc.refReady = true → s.adc.calBusy = false →
    (s.adcCore c).enabled = true → (s.adcCore c).nextWork = .sw e → s.workFits c (.sw e) = true →
    Runs (.adcWorkStart c) s fun t => (t.adcCore c).cur = .sw e ∧ (t.adcCore c).swPend = none ∧ (t.adcCore c).startTap = s.tb.taps ∧ SameBut [.adc] s t)
  ∧ (∀ (s : State) (c n e : Nat), s.powered = true → c < 2 → (s.adcCore c).cur = .none → s.adc.refReady = true → s.adc.calBusy = false →
    (s.adcCore c).enabled = true → (s.adcCore c).nextWork = .cmpt n e → s.workFits c (.cmpt n e) = true →
    Runs (.adcWorkStart c) s fun t => (t.adcCore c).cur = .cmpt n e ∧ vget (t.adcCore c).cmptPend n none = none
      ∧ (t.adcCore c).startTap = s.tb.taps ∧ SameBut [.adc] s t)
  ∧ (∀ (s : State) (c : Nat), (s.adcCore c).cur ≠ .none ∨ s.adc.refReady = false ∨ s.adc.calBusy = true
      ∨ s.workFits c (s.adcCore c).nextWork = false ∨ 1 < c ∨ ((s.adcCore c).enabled = false ∧ s.slotFree c = false) →
    exec (.adcWorkStart c) s = .next s)
  ∧ (∀ (s : State) (c raw e : Nat), s.powered = true → c < 2 →
    (s.adcCore c).cur = .urgent e ∨ (s.adcCore c).cur = .sw e ∨ (s.adcCore c).cur = .tbRest e ∨ (s.adcCore c).cur = .tb e →
    s.holdTap c ≤ s.tb.taps → s.isCapacitor c e = false → s.isSensor c e = false →
    Runs (.conversionDone c raw) s fun t => (t.adcCore c).resVal = raw % 65536 ∧ (t.adcCore c).resEntry = e
      ∧ (t.adcCore c).resCh = entryCh (s.adcEntry c e) ∧ (t.adcCore c).resValid = true ∧ (t.adcCore c).resOvr = (s.adcCore c).resValid
      ∧ ((t.adcCore c).resUrg = true ↔ (s.adcCore c).cur = .urgent e)
      ∧ (t.adcCore c).cur = .none ∧ (t.adcCore c).holdNs = s.holdNs c
      ∧ ((s.adcCore c).cur = .tbRest e ∨ (s.adcCore c).cur = .tb e → (t.adcCore c).tbRest = s.adcNext c e) ∧ ((s.adcCore c).cur = .sw e → (t.adcCore c).swPend = s.adcNext c e)
      ∧ ((s.adcCore c).resValid = true → t.adc.overruns = satAdd 32 s.adc.overruns 1)
      ∧ ((s.adcCore c).resValid = false → t.adc.overruns = s.adc.overruns)
      ∧ t.adcCore (1 - c) = s.adcCore (1 - c) ∧ t.weft = s.weft ∧ SameBut [.adc, .node, .recd, .evc] s t)
  ∧ (∀ (s : State) (c raw n e : Nat), s.powered = true → c < 2 → (s.adcCore c).cur = .cmpt n e → n < 4 →
    s.holdTap c ≤ s.tb.taps → s.isCapacitor c e = false → s.isSensor c e = false →
    Runs (.conversionDone c raw) s fun t => (t.adcCore c).resVal = raw % 65536 ∧ (t.adcCore c).resEntry = e ∧ (t.adcCore c).resValid = true
      ∧ (t.adcCore c).resOvr = (s.adcCore c).resValid ∧ (t.adcCore c).resUrg = false ∧ (t.adcCore c).cur = .none
      ∧ vget (t.adcCore c).cmptPend n none = s.adcNext c e ∧ t.adcCore (1 - c) = s.adcCore (1 - c) ∧ SameBut [.adc, .node, .recd, .evc] s t)
  ∧ (∀ (s : State) (c raw g : Nat), (s.adcCore c).cur = .slot g → exec (.conversionDone c raw) s = .next s)
  ∧ (∀ (s : State) (c raw e : Nat), s.powered = true → c < 2 → (s.adcCore c).cur = .urgent e ∨ (s.adcCore c).cur = .sw e ∨ (s.adcCore c).cur = .tbRest e →
    s.holdTap c ≤ s.tb.taps → s.isCapacitor c e = true ∨ s.isSensor c e = true →
    Runs (.conversionDone c raw) s fun t => (t.adcCore c).resVal = (s.adcCore c).resVal ∧ (t.adcCore c).resValid = (s.adcCore c).resValid
      ∧ (t.adcCore c).cur = .none ∧ t.weft = s.weft ∧ SameBut [.adc, .evc] s t)
  ∧ (∀ (s : State) (raw : Nat), s.isCell = true → s.powered = true → (s.adcCore 0).cur = .tb 0 → s.holdTap 0 ≤ s.tb.taps →
    Runs (.conversionDone 0 raw) s fun t => t.adc.vcapCode = s.vcapCode (entryCh (s.adcEntry 0 0)) raw ∧ t.adc.vcapRaw = raw % 65536
      ∧ t.weft.vcode = s.vcapCode (entryCh (s.adcEntry 0 0)) raw ∧ t.weft.codeReady = true ∧ (t.adcCore 0).cur = .none
      ∧ (t.adcCore 0).resVal = (s.adcCore 0).resVal ∧ SameBut [.adc, .weft, .node, .link, .evc, .recd] s t)
  ∧ (∀ (s : State) (raw : Nat), s.isCell = true → s.powered = true → (s.adcCore 1).cur = .tb 0 → s.obj Obj.SENSOR_SLOT ≠ 0 → s.holdTap 1 ≤ s.tb.taps →
    Runs (.conversionDone 1 raw) s fun t => t.weft.sensReady = true ∧ t.weft.sens.valid = t.adc.isensValid
      ∧ t.weft.sens.i = t.adc.isensCode ∧ t.weft.sens.overRange = t.adc.isensOver
      ∧ -32768 ≤ t.adc.isensCode ∧ t.adc.isensCode ≤ 32767 ∧ (raw % 65536 = 32768 ∨ raw % 65536 = 32767 → t.adc.isensValid = false)
      ∧ (t.adcCore 1).cur = .none ∧ SameBut [.adc, .weft, .node, .link, .evc, .recd] s t)
  ∧ (∀ (s : State) (c raw : Nat), (s.adcCore c).cur = .none ∨ 1 < c ∨ s.tb.taps < s.holdTap c → exec (.conversionDone c raw) s = .next s)
  ∧ (∀ (s : State) (ch raw : Nat), s.vcapCode ch raw ≤ 65535)
  ∧ (∀ (s : State) (c : Nat), s.powered = true → c < 2 → s.obj (Obj.CONS + 256 * c) = 0 →
    Runs (.resultRead c) s fun t => t.adcCore c = { s.adcCore c with resValid := false } ∧ t.adcCore (1 - c) = s.adcCore (1 - c)
      ∧ t.adc = { s.adc with cores := t.adc.cores } ∧ SameBut [.adc] s t)
  ∧ (∀ (s : State) (c : Nat), s.obj (Obj.CONS + 256 * c) ≠ 0 → exec (.resultRead c) s = .next s)

/-- Triggers, urgent requests and ENABLE (R159, R172, R176 to R178, R182, R183). -/
def Obligations.TriggersUrgentRequestsAndEnable : Prop :=
  (∀ (s : State) (c e : Nat), s.powered = true → c < 2 → (s.adcCore c).enabled = true → s.adcStart c 6 = some e → s.adc.refReady = true →
    s.adc.calBusy = false → (s.adcCore c).runBusy 6 = false →
    Runs (.swTrigger c 1) s fun t => (t.adcCore c).swPend = some e ∧ (t.adcCore c).cur = (s.adcCore c).cur
      ∧ t.adcCore (1 - c) = s.adcCore (1 - c) ∧ t.adc.trigLosts = s.adc.trigLosts ∧ t.node = { s.node with runs := t.node.runs }
      ∧ SameBut [.adc, .node] s t)
  ∧ (∀ (s : State) (c e : Nat), s.powered = true → c < 2 → (s.adcCore c).enabled = true → s.adcStart c 6 = some e → s.adc.refReady = true →
    s.adc.calBusy = true ∨ (s.adcCore c).runBusy 6 = true →
    Runs (.swTrigger c 1) s fun t => t.adc.trigLosts = satAdd 32 s.adc.trigLosts 1 ∧ (t.adcCore c).swPend = (s.adcCore c).swPend
      ∧ (t.adcCore c).cur = (s.adcCore c).cur ∧ (s.adc.calBusy = false → t.inRun .adcTrigLost (8 * c + 6) = true)
      ∧ t.node = { s.node with runs := t.node.runs } ∧ SameBut [.adc, .node, .recd, .evc] s t)
  ∧ (∀ (s : State) (c e : Nat), s.powered = true → c < 2 → (s.adcCore c).enabled = true → s.adcStart c 6 = some e → s.adc.refReady = false →
    Runs (.swTrigger c 1) s fun t => t.adc.refWaits = satAdd 32 s.adc.refWaits 1 ∧ (t.adcCore c).swPend = (s.adcCore c).swPend ∧ SameBut [.adc] s t)
  ∧ (∀ (s : State) (c v : Nat), v % 2 = 0 ∨ 2 ≤ c ∨ (s.adcCore c).enabled = false ∨ s.adcStart c 6 = none → exec (.swTrigger c v) s = .next s)
  ∧ (∀ (s : State) (n : Nat), s.tb.refOk = true → s.powered = true → s.cmptDue n = true → s.adc.refReady = true → s.adc.calBusy = false →
    Runs (.cmptTrigger n) s fun t => t.gate = { s.gate with evt := setBit32 s.gate.evt (5 + n), cmptAt := vset s.gate.cmptAt n (s.cmptRef n) }
      ∧ (∀ c e, c < 2 → (s.adcCore c).enabled = true → s.adcStart c (2 + n) = some e → (s.adcCore c).runBusy (2 + n) = false →
        vget (t.adcCore c).cmptPend n none = some e)
      ∧ (∀ c, c < 2 → (s.adcCore c).enabled = false ∨ s.adcStart c (2 + n) = none → t.adcCore c = s.adcCore c)
      ∧ SameBut [.gate, .adc, .node, .recd, .evc] s t)
  ∧ (∀ (s : State) (n : Nat), s.cmptDue n = true → n ≤ 3 ∧ vget s.gate.act.cmpt n 0xFFFFFFFF ≠ 0xFFFFFFFF
      ∧ (s.cmptPeriods.any fun p => decide (vget s.gate.act.cmpt n 0xFFFFFFFF < p.2 ∧ p.1 + (vget s.gate.act.cmpt n 0xFFFFFFFF : Nat) ≤ s.tb.ntTap)) = true
      ∧ s.node.nodeState ≠ .boot)
  ∧ (∀ (s : State) (n c : Nat), s.tb.refOk = true → s.powered = true → s.cmptDue n = true → c < 2 → (s.adcCore c).enabled = true →
    (s.adcStart c (2 + n)).isSome = true → s.adc.refReady = true → s.adc.calBusy = true ∨ (s.adcCore c).runBusy (2 + n) = true →
    Runs (.cmptTrigger n) s fun t => satAdd 32 s.adc.trigLosts 1 ≤ t.adc.trigLosts ∧ (t.adcCore c).cmptPend = (s.adcCore c).cmptPend
      ∧ (t.adcCore c).cur = (s.adcCore c).cur ∧ SameBut [.gate, .adc, .node, .recd, .evc] s t)
  ∧ (∀ (s : State) (c v : Nat), s.powered = true → bitOf v 4 = false →
    Runs (.urgentRequest c v) s fun t => (c < 2 → t.adcCore c = if (s.adcCore c).urgPend.isSome then s.adcCore c else { s.adcCore c with urgEntry := v % 16 })
      ∧ t.adc = { s.adc with cores := t.adc.cores } ∧ SameBut [.adc] s t)
  ∧ (∀ (s : State) (c v : Nat), 1 < c → exec (.urgentRequest c v) s = .next s)
  ∧ (∀ (s : State) (n : Nat), s.cmptDue n = false ∨ s.tb.refOk = false → exec (.cmptTrigger n) s = .next s)
  ∧ (∀ (s : State) (c v : Nat), s.powered = true → c < 2 → bitOf v 4 = true → (s.adcCore c).urgPend = none → s.adcSampling c = false →
    (s.adcCore c).inSlot = false →
    Runs (.urgentRequest c v) s fun t => t.adcCore c = { s.adcCore c with urgPend := some (v % 16), urgEntry := v % 16 }
      ∧ t.adcCore (1 - c) = s.adcCore (1 - c) ∧ t.node = { s.node with runs := t.node.runs } ∧ SameBut [.adc, .node] s t)
  ∧ (∀ (s : State) (c v : Nat), s.powered = true → c < 2 → bitOf v 4 = true → (s.adcCore c).urgPend = none →
    s.adcSampling c = true ∨ (s.adcCore c).inSlot = true →
    Runs (.urgentRequest c v) s fun t => t.adcCore c = { (s.adcCore c).putBack with urgPend := some (v % 16), urgEntry := v % 16 }
      ∧ (∀ e, (s.adcCore c).cur = .sw e → (t.adcCore c).swPend = some e ∧ (t.adcCore c).cur = .none)
      ∧ ((s.adcCore c).inSlot = true → (t.adcCore c).cur = .none)
      ∧ SameBut [.adc, .node] s t)
  ∧ (∀ (s : State) (c v : Nat), s.powered = true → c < 2 → bitOf v 4 = true → (s.adcCore c).urgPend.isSome = true →
    Runs (.urgentRequest c v) s fun t => (t.adcCore c).urgPend = (s.adcCore c).urgPend ∧ (t.adcCore c).cur = (s.adcCore c).cur
      ∧ t.adc.trigLosts = satAdd 32 s.adc.trigLosts 1 ∧ t.inRun .adcTrigLost (8 * c + 7) = true ∧ SameBut [.adc, .node, .recd, .evc] s t)
  ∧ (∀ (s : State) (c v : Nat), s.powered = true → c < 2 → v ≤ 1 → s.adcLocked = false → v = 0 ∨ s.adcTableOk c = true →
    Runs (.adcEnable c v) s fun t => (t.adcCore c).enabled = (v == 1) ∧ t.obj (Obj.ENABLE + 256 * c) = v
      ∧ (∀ k, k ≠ Obj.ENABLE + 256 * c → t.obj k = s.obj k) ∧ t.dict = { s.dict with objs := t.dict.objs } ∧ SameBut [.adc, .dict] s t)
  ∧ (∀ (s : State) (c v : Nat), s.powered = true → 1 < c → Runs (.adcEnable c v) s (Refused .noObject (Obj.ENABLE + 256 * c) s))
  ∧ (∀ (s : State) (c v : Nat), s.powered = true → c < 2 → 1 < v → Runs (.adcEnable c v) s (Refused .range (Obj.ENABLE + 256 * c) s))
  ∧ (∀ (s : State) (c v : Nat), s.powered = true → c < 2 → v ≤ 1 → s.adcLocked = true →
    Runs (.adcEnable c v) s (Refused .state (Obj.ENABLE + 256 * c) s))
  ∧ (∀ (s : State) (c : Nat), s.powered = true → c < 2 → s.adcLocked = false → s.adcTableOk c = false →
    Runs (.adcEnable c 1) s (Refused .refused (Obj.ENABLE + 256 * c) s))

/-- The bring-up of a port (R221). -/
def Obligations.PortsComeUpStepByStep : Prop :=
  (∀ (s : State) (p : Nat), s.floen p = true → s.pastBoot = true → s.portEnabled p = true → (s.port p).state = .disabled →
    Runs (.linkPortEnable p) s fun t => t.port p = { s.port p with state := .down, txDark := false } ∧ (∀ q, q ≠ p → t.port q = s.port q)
      ∧ ((s.port p).modAbs = true → t.inRun .xcvrAbsent p = true) ∧ t.node = { s.node with runs := t.node.runs }
      ∧ SameBut [.link, .node, .recd, .evc] s t)
  ∧ (∀ (s : State) (p : Nat), s.isStation = true → p < 2 → s.pastBoot = true → s.portEnabled p = true → (s.port p).txDark = true →
    Runs (.linkPortEnable p) s fun t => t.port p = { s.port p with txDark := false } ∧ (∀ q, q ≠ p → t.port q = s.port q)
      ∧ ((s.port p).modAbs = true → t.inRun .xcvrAbsent p = true) ∧ (vget s.link.lan.up p false = false → t.inRun .lanLost p = true)
      ∧ t.node = { s.node with runs := t.node.runs } ∧ SameBut [.link, .node, .recd, .evc] s t)
  ∧ (∀ (s : State) (p : Nat), 6 ≤ p ∨ s.pastBoot = false ∨ s.portEnabled p = false ∨ (s.floen p = true ∧ (s.port p).state ≠ .disabled)
      ∨ (s.floen p = false ∧ (s.port p).txDark = false) →
    exec (.linkPortEnable p) s = .next s)
  ∧ (∀ (s : State) (p : Nat), s.powered = false ∨ s.tb.refOk = false ∨ s.floen p = false →
    exec (.linkLock p) s = .next s ∧ exec (.linkHello p) s = .next s ∧ exec (.linkMeasure p) s = .next s ∧ exec (.linkUp p) s = .next s)
  ∧ (∀ (s : State) (p : Nat), s.tb.refOk = true → s.powered = true → s.floen p = true → (s.port p).state = .down → (s.port p).modAbs = false →
    Runs (.linkLock p) s fun t => t.port p = { s.port p with state := .lock, los := false } ∧ (∀ q, q ≠ p → t.port q = s.port q)
      ∧ t.link = { s.link with ports := t.link.ports } ∧ SameBut [.link] s t)
  ∧ (∀ (s : State) (p : Nat), s.floen p = false ∨ (s.port p).state ≠ .down ∨ (s.port p).modAbs = true → exec (.linkLock p) s = .next s)
  ∧ (∀ (s : State) (p : Nat), s.tb.refOk = true → s.powered = true → s.floen p = true → (s.port p).state = .lock →
    Runs (.linkHello p) s fun t => t.port p = { s.port p with
        state := .hello, portOk := if (s.port p).peer = {} then (s.port p).portOk else portCheck p (s.port p).peer.port }
      ∧ (∀ q, q ≠ p → t.port q = s.port q) ∧ ((s.port p).peer = {} ∨ portCheck p (s.port p).peer.port = true → SameBut [.link] s t)
      ∧ ((s.port p).peer ≠ {} → portCheck p (s.port p).peer.port = false → t.inRun .twillWiring 0 = true) ∧ SameBut (.link :: faultParts) s t)
  ∧ (∀ p q : Nat, portCheck p q = true ↔ (p < 2 ∧ 2 ≤ q) ∨ (2 ≤ p ∧ q < 2))
  ∧ (∀ (s : State) (p : Nat), (s.port p).state ≠ .lock → exec (.linkHello p) s = .next s)
  ∧ (∀ (s : State) (p : Nat), s.tb.refOk = true → s.powered = true → s.floen p = true → (s.port p).state = .hello → 2 ≤ (s.port p).peer.lstate →
    (s.port p).portOk = true → s.heldOff p = true →
    Runs (.linkMeasure p) s fun t => (t.port p).state = .measure ∧ (t.port p).delays = [] ∧ (t.port p).exchanges = 0
      ∧ (t.port p).reqXid = none ∧ (t.port p).delay = (s.port p).delay ∧ (∀ q, q ≠ p → t.port q = s.port q)
      ∧ t.node = { s.node with runs := t.node.runs } ∧ SameBut [.link, .node, .recd, .evc] s t)
  ∧ (∀ (s : State) (p : Nat), (s.port p).state ≠ .hello ∨ (s.port p).peer.lstate < 2 ∨ (s.port p).portOk = false ∨ s.heldOff p = false →
    exec (.linkMeasure p) s = .next s)
  ∧ (∀ (s : State) (p : Nat), s.tb.refOk = true → s.powered = true → s.floen p = true → (s.port p).state = .measure → 8 ≤ (s.port p).exchanges →
    3 ≤ (s.port p).peer.lstate → (s.port p).delay ≤ 5000000 →
    Runs (.linkUp p) s fun t => (t.port p).state = .up ∧ (t.port p).hseqTx = 0 ∧ (t.port p).hseqRx = some 65535
      ∧ (vget t.sel.conns p {}).start = true ∧ t.mem = s.mem ∧ t.trdl = s.trdl ∧ t.hdl = s.hdl ∧ t.pins = s.pins ∧ t.pending = s.pending)
  ∧ (∀ (s : State) (p : Nat), (s.port p).state ≠ .measure ∨ (s.port p).exchanges < 8 ∨ (s.port p).peer.lstate < 3 ∨ 5000000 < (s.port p).delay →
    exec (.linkUp p) s = .next s)

/-- The loss of a port (R199, R216 to R223, R420). -/
def Obligations.PortsAreLostAndHeldOff : Prop :=
  (∀ (s : State) (p : Nat) (los : Bool), s.powered = true → s.floen p = true → (s.port p).alive = true →
    Runs (.linkDown p los) s fun t => (t.port p).state = .down ∧ (t.port p).los = los ∧ (t.port p).peer = {} ∧ (t.port p).blk = false
      ∧ (t.port p).queue = [] ∧ (t.port p).reqXid = none ∧ vget t.sys.admitted p none = none
      ∧ ((s.port p).state = .up → (t.port p).losses = satAdd 32 (s.port p).losses 1)
      ∧ ((s.port p).state ≠ .up → (t.port p).losses = (s.port p).losses)
      ∧ t.mem = s.mem ∧ t.trdl = s.trdl ∧ t.hdl = s.hdl ∧ t.adc = s.adc ∧ t.pins = s.pins ∧ t.pending = s.pending)
  ∧ (∀ (s : State) (p : Nat) (los : Bool), s.powered = true → p < 6 → s.floen p = false ∨ (s.port p).alive = false →
    Runs (.linkDown p los) s fun t => t.port p = { s.port p with los := los } ∧ (∀ q, q ≠ p → t.port q = s.port q)
      ∧ t.link = { s.link with ports := t.link.ports } ∧ SameBut [.link] s t)
  ∧ (∀ (s : State) (p : Nat) (los : Bool), 6 ≤ p → exec (.linkDown p los) s = .next s)
  ∧ (∀ (s : State) (p : Nat), s.powered = true → s.floen p = true → 4 ≤ ((s.port p).lossTaps.filter fun t => inWindow t tapsS s.tb.taps).length →
    Runs (.linkFlap p) s fun t => t.port p = { s.port p with flapHold := true } ∧ (∀ q, q ≠ p → t.port q = s.port q)
      ∧ t.node = { s.node with runs := t.node.runs } ∧ SameBut [.link, .recd, .evc, .node] s t)
  ∧ (∀ (s : State) (p : Nat), s.floen p = false ∨ ((s.port p).lossTaps.filter fun t => inWindow t tapsS s.tb.taps).length < 4 →
    exec (.linkFlap p) s = .next s)
  ∧ (∀ (s : State) (p : Nat), s.powered = true → s.floen p = true → (s.port p).lossTaps.headD 0 + 10 * tapsS ≤ s.tb.taps →
    Runs (.flapHoldoffRestore p) s fun t => t.port p = { s.port p with flapHold := false } ∧ (∀ q, q ≠ p → t.port q = s.port q)
      ∧ t.link = { s.link with ports := t.link.ports } ∧ SameBut [.link] s t)
  ∧ (∀ (s : State) (p : Nat), s.floen p = false ∨ s.tb.taps < (s.port p).lossTaps.headD 0 + 10 * tapsS → exec (.flapHoldoffRestore p) s = .next s)
  ∧ (∀ (s : State) (p : Nat) (x : LsBlock), s.tb.refOk = true → s.powered = true → s.floen p = true → (s.port p).alive = true →
    (s.port p).state ≠ .up ∨ 3 ≤ x.lstate →
    Runs (.lsReceive p x) s fun t => (t.port p).peer = x ∧ (t.port p).state = (s.port p).state
      ∧ (p < 2 → s.isStation = false → (s.port p).state = .up → (t.port p).blk = x.blk)
      ∧ t.mem = s.mem ∧ t.trdl = s.trdl ∧ t.hdl = s.hdl ∧ t.adc = s.adc ∧ t.pins = s.pins ∧ t.pending = s.pending)
  ∧ (∀ (s : State) (p : Nat) (x : LsBlock), s.tb.refOk = true → s.powered = true → s.floen p = true → (s.port p).state = .up → x.lstate < 3 →
    exec (.lsReceive p x) s = exec (.linkDown p (s.port p).los) s)
  ∧ (∀ (s : State) (p : Nat) (x : LsBlock), s.floen p = false ∨ (s.port p).alive = false ∨ s.tb.refOk = false → exec (.lsReceive p x) s = .next s)
  ∧ (∀ (s : State) (p : Nat), s.powered = true → p < 6 →
    Runs (.moduleAbsent p true) s fun t => (t.port p).modAbs = true ∧ (t.port p).i2cBusy = false ∧ (t.port p).xVendor = none
      ∧ (s.portEnabled p = false → t.inRun .xcvrAbsent p = false)
      ∧ (s.floen p = true → (s.port p).alive = true → (t.port p).state = .down)
      ∧ (s.portEnabled p = true → t.inRun .xcvrAbsent p = true) ∧ t.mem = s.mem ∧ t.trdl = s.trdl ∧ t.hdl = s.hdl ∧ t.pins = s.pins)
  ∧ (∀ (s : State) (p : Nat), s.powered = true → p < 6 →
    Runs (.moduleAbsent p false) s fun t => t.port p = { s.port p with modAbs := false } ∧ t.inRun .xcvrAbsent p = false
      ∧ (∀ q, q ≠ p → t.port q = s.port q) ∧ t.node = { s.node with runs := t.node.runs } ∧ SameBut [.link, .node] s t)
  ∧ (∀ (s : State) (p : Nat) (gone : Bool), 6 ≤ p → exec (.moduleAbsent p gone) s = .next s)
  ∧ (∀ (s : State) (p : Nat) (b : Bool) (x : LsBlock), s.powered = false →
    exec (.linkDown p b) s = .next s ∧ exec (.linkFlap p) s = .next s ∧ exec (.flapHoldoffRestore p) s = .next s ∧ exec (.lsReceive p x) s = .next s
      ∧ exec (.moduleAbsent p b) s = .next s ∧ exec .blkMinHoldEnd s = .next s)
  ∧ (∀ s : State, s.powered = true → s.isStation = true → s.link.blkOrig = true → s.sel.sysTrip = false →
    s.link.blkSince + 50 * tapsUs ≤ s.tb.taps →
    Runs .blkMinHoldEnd s fun t => t.link.blkOrig = false ∧ t.link.blkOut = false ∧ t.link.blkCount = s.link.blkCount
      ∧ t.link.ports = s.link.ports ∧ SameBut [.link] s t)
  ∧ (∀ s : State, s.isStation = false ∨ s.link.blkOrig = false ∨ s.sel.sysTrip = true ∨ s.tb.taps < s.link.blkSince + 50 * tapsUs →
    exec .blkMinHoldEnd s = .next s)

/-- Frames received, forwarded and sent (R203 to R215). -/
def Obligations.FramesAreCheckedDeliveredForwardedAndSent : Prop :=
  (∀ (s : State) (p : Nat) (bs : List Byte), s.floen p = false ∨ ((s.port p).state ≠ .up ∧ (s.port p).state ≠ .measure) ∨ s.tb.refOk = false ∨ s.powered = false →
    exec (.frameReceive p bs) s = .next s ∧ exec (.frameTransmit p) s = .next s ∧ exec (.frameStallAbort p) s = .next s)
  ∧ (∀ (s : State) (p : Nat) (bs : List Byte), s.tb.refOk = true → s.powered = true → s.floen p = true → (s.port p).state = .up → 16 ≤ bs.length → Frame.hcsOk bs = false →
    Runs (.frameReceive p bs) s fun t => (t.port p).hcsErr = satAdd 32 (s.port p).hcsErr 1 ∧ (t.port p).crcErr = (s.port p).crcErr
      ∧ (t.port p).hseqRx = (s.port p).hseqRx ∧ (∀ q, q ≠ p → t.port q = s.port q) ∧ (t.port p).queue = (s.port p).queue
      ∧ t.node = { s.node with runs := t.node.runs } ∧ SameBut [.link, .evc, .recd, .node] s t)
  ∧ (∀ (s : State) (p : Nat) (bs : List Byte), s.tb.refOk = true → s.powered = true → s.floen p = true → (s.port p).state = .up → bs.length < 16 →
    Runs (.frameReceive p bs) s fun t => (t.port p).aborts = satAdd 32 (s.port p).aborts 1 ∧ (t.port p).hcsErr = (s.port p).hcsErr
      ∧ (t.port p).hseqRx = (s.port p).hseqRx ∧ (∀ q, q ≠ p → t.port q = s.port q) ∧ (t.port p).queue = (s.port p).queue ∧ SameBut [.link] s t)
  ∧ (∀ (s : State) (p : Nat) (bs : List Byte), s.tb.refOk = true → s.powered = true → s.lit p = true → p < 6 → 16 ≤ bs.length → Frame.hcsOk bs = true →
    (Frame.ofBytes bs).dir ≠ .down → s.dirOk p (Frame.ofBytes bs) = false →
    Runs (.frameReceive p bs) s fun t => t.link.dirErr = satAdd 32 s.link.dirErr 1 ∧ (∀ q, (t.port q).queue = (s.port q).queue)
      ∧ (t.port p).hseqRx = some (Frame.ofBytes bs).hseq ∧ t.node = { s.node with runs := t.node.runs }
      ∧ SameBut [.link, .evc, .recd, .node] s t)
  ∧ (∀ (s : State) (p : Nat) (bs : List Byte), s.tb.refOk = true → s.powered = true → s.lit p = true → p < 6 → 16 ≤ bs.length → Frame.hcsOk bs = true →
    (Frame.ofBytes bs).dir ≠ .down → s.dirOk p (Frame.ofBytes bs) = true → addrsOk (Frame.ofBytes bs) = false →
    Runs (.frameReceive p bs) s fun t => (t.port p).addrErr = satAdd 32 (s.port p).addrErr 1 ∧ (∀ q, (t.port q).queue = (s.port q).queue)
      ∧ t.node = { s.node with runs := t.node.runs } ∧ SameBut [.link, .evc, .recd, .node] s t)
  ∧ (∀ (s : State) (p : Nat) (bs : List Byte), s.tb.refOk = true → s.powered = true → s.lit p = true → p < 6 → 16 ≤ bs.length → Frame.hcsOk bs = true →
    (Frame.ofBytes bs).dir ≠ .down → s.dirOk p (Frame.ofBytes bs) = true → addrsOk (Frame.ofBytes bs) = true →
    s.deliveredHere (Frame.ofBytes bs) = false → (Frame.ofBytes bs).hops = 0 →
    Runs (.frameReceive p bs) s fun t => t.link.hopsExp = satAdd 32 s.link.hopsExp 1 ∧ (∀ q, (t.port q).queue = (s.port q).queue)
      ∧ t.node = { s.node with runs := t.node.runs } ∧ SameBut [.link, .evc, .recd, .node] s t)
  ∧ (∀ (s : State) (p : Nat) (bs : List Byte), s.tb.refOk = true → s.powered = true → s.lit p = true → p < 6 → 16 ≤ bs.length → Frame.hcsOk bs = true →
    (Frame.ofBytes bs).dir ≠ .down → s.dirOk p (Frame.ofBytes bs) = true → addrsOk (Frame.ofBytes bs) = true →
    s.deliveredHere (Frame.ofBytes bs) = true ∨ (Frame.ofBytes bs).hops ≠ 0 → Frame.cutOff bs = true →
    Runs (.frameReceive p bs) s fun t => (t.port p).aborts = satAdd 32 (s.port p).aborts 1 ∧ (∀ q, (t.port q).queue = (s.port q).queue) ∧ SameBut [.link] s t)
  ∧ (∀ (s : State) (p : Nat) (bs : List Byte), s.tb.refOk = true → s.powered = true → s.lit p = true → p < 6 → 16 ≤ bs.length → Frame.hcsOk bs = true →
    (Frame.ofBytes bs).dir ≠ .down → s.dirOk p (Frame.ofBytes bs) = true → addrsOk (Frame.ofBytes bs) = true →
    s.deliveredHere (Frame.ofBytes bs) = true ∨ (Frame.ofBytes bs).hops ≠ 0 → Frame.cutOff bs = false → Frame.crcOk bs = false →
    Runs (.frameReceive p bs) s fun t => (t.port p).crcErr = satAdd 32 (s.port p).crcErr 1 ∧ (∀ q, (t.port q).queue = (s.port q).queue)
      ∧ t.node = { s.node with runs := t.node.runs } ∧ SameBut [.link, .evc, .recd, .node] s t)
  ∧ (∀ (s : State) (p : Nat) (bs : List Byte) (f : Frame), s.tb.refOk = true → s.powered = true → s.lit p = true → p < 6 → 16 ≤ bs.length → Frame.hcsOk bs = true →
    Frame.cutOff bs = false → Frame.crcOk bs = true → f = Frame.ofBytes bs → f.dir = .localDir → f.twin = false → f.anym = false → s.dirOk p f = true → addrsOk f = true →
    s.boundUnit 2 f = none →
    Runs (.frameReceive p bs) s fun t => t.inbox = f :: s.inbox ∧ (∀ q, (t.port q).queue = (s.port q).queue)
      ∧ (t.port p).hseqRx = some f.hseq ∧ SameBut [.link, .evc, .inbox] s t)
  ∧ (∀ (s : State) (p : Nat) (bs : List Byte) (f : Frame), s.tb.refOk = true → s.powered = true → s.lit p = true → 2 ≤ p → p < 6 → 16 ≤ bs.length →
    Frame.hcsOk bs = true → Frame.cutOff bs = false → Frame.crcOk bs = true → f = Frame.ofBytes bs → f.dir = .up → f.twin = false →
    s.dirOk p f = true → addrsOk f = true → s.named f = true → s.boundUnit 2 f = none → f.cls ≠ .journal →
    Runs (.frameReceive p bs) s fun t => (f.cls ≠ .service → t.inbox = f :: s.inbox) ∧ (f.anym = false → ∀ q, (t.port q).queue = (s.port q).queue))
  ∧ (∀ (s : State) (p q : Nat) (bs : List Byte) (f : Frame), s.tb.refOk = true → s.powered = true → s.isCell = true → s.lit p = true → 2 ≤ p → p < 6 →
    16 ≤ bs.length → Frame.hcsOk bs = true → Frame.cutOff bs = false → Frame.crcOk bs = true → f = Frame.ofBytes bs → f.dir = .up → f.hops ≠ 0 → s.named f = false →
    s.dirOk p f = true → addrsOk f = true → s.primaryPort = some q → s.lit q = true → (s.port q).fits (frameHop f) = true →
    Runs (.frameReceive p bs) s fun t => (t.port q).queue = (s.port q).queue ++ [⟨{ f with hops := f.hops - 1 }, s.tb.taps⟩]
      ∧ t.inbox = s.inbox ∧ (∀ r, r ≠ q → (t.port r).queue = (s.port r).queue) ∧ t.node = { s.node with runs := t.node.runs }
      ∧ SameBut [.link, .evc, .node] s t)
  ∧ (∀ (s : State) (p : Nat) (bs : List Byte) (f : Frame) (e : DupEntry), s.tb.refOk = true → s.powered = true → s.lit p = true → p < 6 → 16 ≤ bs.length → Frame.hcsOk bs = true →
    Frame.cutOff bs = false → Frame.crcOk bs = true → f = Frame.ofBytes bs → f.dir = .up → s.deliveredHere f = true → dupFiltered f = true → s.dirOk p f = true →
    addrsOk f = true → s.link.dup.find? (fun x => x.src == f.src && x.cls == f.cls) = some e → e.fresh f.eseq = false →
    Runs (.frameReceive p bs) s fun t => t.inbox = s.inbox ∧ t.link.dups = satAdd 32 s.link.dups 1 ∧ SameBut [.link, .evc] s t)
  ∧ (∀ (s : State) (p : Nat) (e : QEntry), (s.port p).queue.find? (fun x => x.frame.cls == .weft) = some e → s.choose p = some (e, false))
  ∧ (∀ (s : State) (p : Nat) (e : QEntry), (∀ x ∈ (s.port p).queue, x.frame.cls ≠ .weft) →
    (s.port p).queue.find? (fun x => x.frame.cls == .safety) = some e → s.choose p = some (e, false))
  ∧ (∀ (s : State) (p : Nat), (s.port p).queue ≠ [] → (s.choose p).isSome = true)
  ∧ (∀ (s : State) (p : Nat) (e : QEntry) (aged : Bool), s.tb.refOk = true → s.powered = true → s.floen p = true → (s.port p).state = .up →
    s.choose p = some (e, aged) → e.frame.cls ≠ .time → s.boundUnit 1 e.frame = none →
    Runs (.frameTransmit p) s fun t => (t.port p).queue = dropEntry e (s.port p).queue ∧ (t.port p).hseqTx = ((s.port p).hseqTx + 1) % 65536
      ∧ (t.port p).lastTx = some { e.frame with hseq := (s.port p).hseqTx, blk := e.frame.dir == .down && s.link.blkOut }
      ∧ (t.port p).aged = (if aged then satAdd 32 (s.port p).aged 1 else (s.port p).aged)
      ∧ (∀ q, q ≠ p → t.port q = s.port q) ∧ t.link = { s.link with ports := t.link.ports } ∧ SameBut [.link] s t)
  ∧ (∀ (s : State) (p : Nat) (e : QEntry) (aged : Bool), s.tb.refOk = true → s.powered = true → s.floen p = true →
    (s.port p).state = .up ∨ (s.port p).state = .measure → s.choose p = some (e, aged) → e.frame.cls = .time → s.boundUnit 1 e.frame = none →
    Runs (.frameTransmit p) s fun t => (t.port p).hseqTx = ((s.port p).hseqTx + 1) % 65536 ∧ (t.port p).hcsErr = (s.port p).hcsErr
      ∧ (∀ g, (t.port p).lastTx = some g → g.cls = .time ∧ g.hseq = (s.port p).hseqTx) ∧ (t.port p).lastTx.isSome = true
      ∧ (∀ q, q ≠ p → t.port q = s.port q) ∧ SameBut [.link, .free, .recd, .evc, .node] s t)
  ∧ (∀ (s : State) (p u : Nat) (e : QEntry) (aged : Bool), s.tb.refOk = true → s.powered = true → s.floen p = true → (s.port p).state = .up →
    s.choose p = some (e, aged) → e.frame.cls ≠ .time → e.frame.src = s.addr → s.boundUnit 1 e.frame = some u →
    (e.frame.payload.length + s.cuBytes u ≤ 1024 →
      Runs (.frameTransmit p) s fun t => (t.port p).queue = dropEntry e (s.port p).queue ∧ (t.port p).hseqTx = ((s.port p).hseqTx + 1) % 65536
        ∧ ((t.port p).lastTx.map Frame.payload) = some (e.frame.payload ++ leBytes (s.cuBytes u) (s.cuCrc u e.frame.payload)) ∧ SameBut [.link] s t)
    ∧ (1024 < e.frame.payload.length + s.cuBytes u →
      Runs (.frameTransmit p) s fun t => (t.port p).queue = dropEntry e (s.port p).queue ∧ (t.port p).hseqTx = (s.port p).hseqTx
        ∧ (t.port p).lastTx = (s.port p).lastTx ∧ (vget t.link.cu u {}).fails = satAdd 32 (vget s.link.cu u {}).fails 1 ∧ SameBut [.link] s t))
  ∧ (∀ (s : State) (p : Nat), s.choose p = none → exec (.frameTransmit p) s = .next s)
  ∧ (∀ (s : State) (p : Nat), s.tb.refOk = true → s.powered = true → s.floen p = true → (s.port p).state = .up ∨ (s.port p).state = .measure →
    Runs (.frameStallAbort p) s fun t => t.port p = { s.port p with aborts := satAdd 32 (s.port p).aborts 1, rx := (t.port p).rx }
      ∧ (∀ q, q ≠ p → t.port q = s.port q) ∧ t.link = { s.link with ports := t.link.ports } ∧ SameBut [.link, .free] s t)

/-- Link delay and transceivers (R199, R225, R226, R460). -/
def Obligations.LinkDelayIsFilteredOverExchanges : Prop :=
  (∀ (s : State) (p : Nat), s.tb.refOk = true → s.powered = true → s.dreqDue p = true →
    Runs (.delayRequestSend p) s fun t => (t.port p).reqXid = some (s.port p).nextXid ∧ (t.port p).reqT1 = s.tb.taps
      ∧ (t.port p).nextXid = ((s.port p).nextXid + 1) % 65536 ∧ (t.port p).delay = (s.port p).delay ∧ (∀ q, q ≠ p → t.port q = s.port q)
      ∧ t.node = { s.node with runs := t.node.runs } ∧ SameBut [.link, .node, .recd, .evc] s t)
  ∧ (∀ (s : State) (p x t2 t3 : Nat), s.measures p = false ∨ s.tb.refOk = false ∨ s.powered = false →
    exec (.delayRequestSend p) s = .next s ∧ exec (.delayRequestReceive p x) s = .next s ∧ exec (.delayResponseReceive p x t2 t3) s = .next s)
  ∧ (∀ (s : State) (p : Nat), s.dreqDue p = false → exec (.delayRequestSend p) s = .next s)
  ∧ (∀ (s : State) (p x : Nat), s.tb.refOk = true → s.powered = true → s.measures p = true →
    Runs (.delayRequestReceive p x) s fun t =>
      t = s.tapNow.2.sendLocal p .time (leBytes 1 2 ++ leBytes 1 0 ++ leBytes 2 x ++ leBytes 8 s.tapNow.1 ++ leBytes 8 0)
        ∧ s.tapNow.1 / 128 = s.tb.taps / 128 ∧ (t.port p).delay = (s.port p).delay ∧ SameBut [.link, .node, .recd, .evc, .free] s t)
  ∧ (∀ (s : State) (p x t2 t3 : Nat) (d : Int), s.tb.refOk = true → s.powered = true → s.measures p = true → (s.port p).reqXid = some x →
    inWindow (s.port p).reqT1 (10 * tapsUs) s.tapNow.1 = true → d = ((s.tapNow.1 : Int) - (s.port p).reqT1) - ((t3 : Int) - t2) →
    Runs (.delayResponseReceive p x t2 t3) s fun t => t.port p = Port.takeDelay { s.port p with reqXid := none } d
      ∧ (∀ q, q ≠ p → t.port q = s.port q) ∧ t.node = { s.node with runs := t.node.runs } ∧ SameBut [.link, .node, .recd, .evc, .free] s t)
  ∧ (∀ (q : Port) (d : Int), q.outlier d = true → q.outRun ≠ 7 →
    q.takeDelay d = { q with outliers := satAdd 32 q.outliers 1, outRun := q.outRun + 1 })
  ∧ (∀ (q : Port) (d : Int), q.outlier d = true → q.outRun = 7 →
    q.takeDelay d = { q with outliers := satAdd 32 q.outliers 1, outRun := 0, delays := [] })
  ∧ (∀ (q : Port) (d : Int), q.outlier d = false →
    (q.takeDelay d).delays = (d :: q.delays).take 8 ∧ (q.takeDelay d).delay = medianPs ((d :: q.delays).take 8)
      ∧ (q.state = .measure → (q.takeDelay d).exchanges = q.exchanges + 1) ∧ (q.takeDelay d).outliers = q.outliers)
  ∧ (∀ (s : State) (p x t2 t3 : Nat), (s.port p).reqXid ≠ some x → exec (.delayResponseReceive p x t2 t3) s = .next s)
  ∧ (∀ (s : State) (p x t2 t3 : Nat), s.tb.refOk = true → s.powered = true → s.measures p = true → (s.port p).reqXid = some x →
    inWindow (s.port p).reqT1 (10 * tapsUs) s.tapNow.1 = false →
    Runs (.delayResponseReceive p x t2 t3) s fun t => t.port p = { s.port p with reqXid := none } ∧ (∀ q, q ≠ p → t.port q = s.port q)
      ∧ SameBut [.link, .free] s t)
  ∧ (∀ (s : State) (p : Nat), s.powered = true → p < 6 → inWindow (s.port p).reqT1 (10 * tapsUs) s.tb.taps = false →
    Runs (.delayExchangeVoid p) s fun t => t.port p = { s.port p with reqXid := none } ∧ (∀ q, q ≠ p → t.port q = s.port q)
      ∧ t.link = { s.link with ports := t.link.ports } ∧ SameBut [.link] s t)
  ∧ (∀ (s : State) (p : Nat), inWindow (s.port p).reqT1 (10 * tapsUs) s.tb.taps = true → exec (.delayExchangeVoid p) s = .next s)
  ∧ (∀ (s : State) (p : Nat), s.powered = true → p < 6 → (s.port p).modAbs = false → (s.port p).i2cBusy = false →
    (∀ x, (s.port p).diagAt = some x → inWindow x (s.obj Obj.DIAG_INTERVAL * tapsMs) s.tb.taps = false) →
    Runs (.xcvrDiagPoll p) s fun t => t.port p = { s.port p with i2cBusy := true, i2cAt := s.tb.taps, diagAt := some s.tb.taps } ∧ (∀ q, q ≠ p → t.port q = s.port q)
      ∧ t.link = { s.link with ports := t.link.ports } ∧ SameBut [.link] s t)
  ∧ (∀ (s : State) (p : Nat), (s.port p).modAbs = true ∨ (s.port p).i2cBusy = true
      ∨ (∃ x, (s.port p).diagAt = some x ∧ inWindow x (s.obj Obj.DIAG_INTERVAL * tapsMs) s.tb.taps = true) → exec (.xcvrDiagPoll p) s = .next s)
  ∧ (∀ (s : State) (p : Nat) (tc : Int) (v b tx rx fl : Nat), s.powered = false →
    exec (.delayExchangeVoid p) s = .next s ∧ exec (.xcvrDiagPoll p) s = .next s ∧ exec (.xcvrDiagDone p tc v b tx rx fl) s = .next s
      ∧ exec (.i2cStretchTimeout p) s = .next s)
  ∧ (∀ (s : State) (p : Nat) (tc : Int) (v b tx rx fl : Nat), s.powered = true → p < 6 → (s.port p).i2cBusy = true →
    Runs (.xcvrDiagDone p tc v b tx rx fl) s fun t =>
      t.port p = { s.port p with
          i2cBusy := false, xTemp := tc, xVcc := v, xBias := b, xTx := tx, xRx := rx, xFlags := fl, xVendor := (t.port p).xVendor }
        ∧ (fl % 65536 = 0 → t.inRun .xcvrDiag p = false) ∧ ((s.port p).xVendor ≠ none → (t.port p).xVendor = (s.port p).xVendor)
        ∧ (t.port p).xVendor.isSome = true ∧ (fl % 65536 ≠ 0 → s.portEnabled p = true → t.inRun .xcvrDiag p = true)
        ∧ (∀ q, q ≠ p → t.port q = s.port q) ∧ t.node = { s.node with runs := t.node.runs } ∧ SameBut [.link, .node, .recd, .evc, .free] s t)
  ∧ (∀ (s : State) (p : Nat) (tc : Int) (v b tx rx fl : Nat), (s.port p).i2cBusy = false → exec (.xcvrDiagDone p tc v b tx rx fl) s = .next s)
  ∧ (∀ (s : State) (p : Nat), inWindow (s.port p).i2cAt (10 * tapsMs) s.tb.taps = true → exec (.i2cStretchTimeout p) s = .next s)
  ∧ (∀ (s : State) (p : Nat), s.powered = true → p < 6 → inWindow (s.port p).i2cAt (10 * tapsMs) s.tb.taps = false →
    Runs (.i2cStretchTimeout p) s fun t => t.port p = { s.port p with i2cBusy := false } ∧ (∀ q, q ≠ p → t.port q = s.port q)
      ∧ t.link = { s.link with ports := t.link.ports } ∧ SameBut [.link] s t)

/-- The check units (R227 to R229). -/
def Obligations.CheckUnitsComputeTheirCrc : Prop :=
  (∀ (s : State) (u v : Nat), s.powered = true → u < 4 → s.cuObj u Obj.CU_MODE = 3 → bitOf v 0 = true → 1 ≤ bitsOf v 10 8 → bitsOf v 10 8 ≤ 4 →
    Runs (.cuStart u v) s fun t => vget t.link.cu u {} = { vget s.link.cu u {} with
        bytes := bitsOf v 10 8, crc := s.cuObj u Obj.CU_INIT, result := s.cuFinish u (s.cuObj u Obj.CU_INIT) }
      ∧ (∀ i, i ≠ u → vget t.link.cu i {} = vget s.link.cu i {}) ∧ t.link = { s.link with cu := t.link.cu } ∧ SameBut [.link] s t)
  ∧ (∀ (s : State) (u v : Nat), s.powered = true → u < 4 → s.cuObj u Obj.CU_MODE = 3 →
    Runs (.cuData u v) s fun t => vget t.link.cu u {} = { vget s.link.cu u {} with
        crc := s.cuRun u (vget s.link.cu u {}).crc (leBytes (vget s.link.cu u {}).bytes v)
        result := s.cuFinish u (s.cuRun u (vget s.link.cu u {}).crc (leBytes (vget s.link.cu u {}).bytes v)) }
      ∧ (∀ i, i ≠ u → vget t.link.cu i {} = vget s.link.cu i {}) ∧ t.link = { s.link with cu := t.link.cu } ∧ SameBut [.link] s t)
  ∧ (∀ (s : State) (u v : Nat), s.powered = true → u < 4 → s.cuObj u Obj.CU_MODE = 3 → bitOf v 0 = false → 1 ≤ bitsOf v 10 8 → bitsOf v 10 8 ≤ 4 →
    Runs (.cuStart u v) s fun t => vget t.link.cu u {} = { vget s.link.cu u {} with bytes := bitsOf v 10 8 }
      ∧ (∀ i, i ≠ u → vget t.link.cu i {} = vget s.link.cu i {}) ∧ t.link = { s.link with cu := t.link.cu } ∧ SameBut [.link] s t)
  ∧ (∀ (s : State) (u v : Nat), s.powered = false → exec (.cuStart u v) s = .next s ∧ exec (.cuData u v) s = .next s ∧ exec (.cuModeWrite u v) s = .next s)
  ∧ (∀ (s : State) (u v : Nat), 4 ≤ u ∨ s.cuObj u Obj.CU_MODE ≠ 3 → exec (.cuStart u v) s = .next s ∧ exec (.cuData u v) s = .next s)
  ∧ (∀ (s : State) (u c : Nat) (a b : List Byte), s.cuRun u (s.cuRun u c a) b = s.cuRun u c (a ++ b))
  ∧ (∀ (s : State) (u v : Nat), s.powered = true → u < 4 → v ≤ 3 → cuClassOk (s.cuObj u Obj.CU_BIND) = true → (v ≠ 1 ∧ v ≠ 2)
      ∨ (∀ w, w < 4 → w ≠ u → s.cuObj w Obj.CU_MODE = v → bindOverlap (s.cuObj w Obj.CU_BIND) (s.cuObj u Obj.CU_BIND) = false) →
    Runs (.cuModeWrite u v) s fun t => t.cuObj u Obj.CU_MODE = v ∧ (∀ k, k ≠ Obj.CU_MODE + 256 * u → t.obj k = s.obj k)
      ∧ t.dict = { s.dict with objs := t.dict.objs } ∧ SameBut [.dict] s t)
  ∧ (∀ (s : State) (u v : Nat), s.powered = true → 4 ≤ u ∨ 3 < v ∨ cuClassOk (s.cuObj u Obj.CU_BIND) = false →
    Runs (.cuModeWrite u v) s (Refused .range (Obj.CU_MODE + 256 * u) s))
  ∧ (∀ (s : State) (u w v : Nat), s.powered = true → u < 4 → w < 4 → w ≠ u → v = 1 ∨ v = 2 → cuClassOk (s.cuObj u Obj.CU_BIND) = true →
    s.cuObj w Obj.CU_MODE = v → bindOverlap (s.cuObj w Obj.CU_BIND) (s.cuObj u Obj.CU_BIND) = true →
    Runs (.cuModeWrite u v) s (Refused .refused (Obj.CU_MODE + 256 * u) s))

/-- The station ports (R230 to R232). -/
def Obligations.StationPortsDropDuplicatesAndAnswer : Prop :=
  (∀ (s : State) (lan : Nat) (up : Bool), s.tb.refOk = true → s.lanRuns = true → lan < 2 → (s.port lan).txDark = false →
    Runs (.lanLinkChange lan up) s fun t => vget t.link.lan.up lan false = up ∧ (∀ i, i ≠ lan → vget t.link.lan.up i false = vget s.link.lan.up i false)
      ∧ t.inRun .lanLost lan = !up ∧ t.link = { s.link with lan := { s.link.lan with up := t.link.lan.up }, ports := t.link.ports }
      ∧ (∀ p, t.port p = { s.port p with los := (t.port p).los }) ∧ t.node = { s.node with runs := t.node.runs } ∧ SameBut [.link, .node, .recd, .evc] s t)
  ∧ (∀ (s : State) (lan : Nat) (up : Bool), s.lanRuns = false ∨ 2 ≤ lan ∨ (s.port lan).txDark = true ∨ s.tb.refOk = false → exec (.lanLinkChange lan up) s = .next s)
  ∧ (∀ (s : State) (lan mac q id : Nat) (k : EthKind), s.tb.refOk = true → s.lanRuns = true → lan < 2 → s.lanLit lan = true → k.size ≤ 1528 →
    s.prpSeen mac q = true →
    Runs (.ethFrameReceive lan mac (some (q, id)) k) s fun t =>
      t.link = { s.link with lan := { s.link.lan with
          duplicates := satAdd 32 s.link.lan.duplicates 1
          wrongLan := if id = lanId lan then s.link.lan.wrongLan else satAdd 32 s.link.lan.wrongLan 1 } } ∧ SameBut [.link] s t)
  ∧ (∀ (s : State) (lan mac q id size : Nat), s.tb.refOk = true → s.lanRuns = true → lan < 2 → s.lanLit lan = true → size ≤ 1528 →
    s.prpSeen mac q = false →
    Runs (.ethFrameReceive lan mac (some (q, id)) ⟨size, .arp true (s.objEff Obj.IPV4_ADDRESS)⟩) s fun t =>
      t.link.lan.out = ([0, 1].filter s.lanLit).map (s.ethCopy (.arpReply (s.objEff Obj.IPV4_ADDRESS))) ++ s.link.lan.out
        ∧ t.link.lan.seqTx = (s.link.lan.seqTx + 1) % 65536
        ∧ t.link.lan.wrongLan = (if id = lanId lan then s.link.lan.wrongLan else satAdd 32 s.link.lan.wrongLan 1)
        ∧ t.link.lan.duplicates = s.link.lan.duplicates ∧ (mac, q, s.tb.taps) ∈ t.link.lan.seen ∧ SameBut [.link] s t)
  ∧ (∀ (s : State) (lan mac size : Nat), s.tb.refOk = true → s.lanRuns = true → lan < 2 → s.lanLit lan = true → size ≤ 1528 →
    Runs (.ethFrameReceive lan mac none ⟨size, .icmpEcho (s.objEff Obj.IPV4_ADDRESS)⟩) s fun t =>
      t.link.lan.out = ([0, 1].filter s.lanLit).map (s.ethCopy (.icmpReply (s.objEff Obj.IPV4_ADDRESS))) ++ s.link.lan.out
        ∧ t.link.lan.seqTx = (s.link.lan.seqTx + 1) % 65536 ∧ SameBut [.link] s t)
  ∧ (∀ (s : State) (lan mac ip : Nat) (k : EthKind), ip ≠ s.objEff Obj.IPV4_ADDRESS →
    k.body = .arp true ip ∨ k.body = .arp false ip ∨ k.body = .icmpEcho ip ∨ k.body = .otherIp ∨ k.body = .pause ∨ k.body = .other
      ∨ (∃ port frag id sdu, k.body = .udp ip port frag id sdu) ∨ (∃ port id sdu, k.body = .udp (s.objEff Obj.IPV4_ADDRESS) port true id sdu)
      ∨ (∃ port frag id sdu, port ≠ 34208 ∧ k.body = .udp (s.objEff Obj.IPV4_ADDRESS) port frag id sdu) ∨ (∃ port id, k.body = .dtlsClose ip port id) →
    exec (.ethFrameReceive lan mac none k) s = .next s)
  ∧ (∀ (s : State) (lan mac size : Nat) (m : PtpMaster) (y : PtpSyncMsg) (ps : Int), s.lanRuns = true → lan < 2 → s.lanLit lan = true → size ≤ 1528 →
    exec (.ethFrameReceive lan mac none ⟨size, .ptpSync y⟩) s = exec (.ptpSyncReceive lan y) s
      ∧ exec (.ethFrameReceive lan mac none ⟨size, .ptpAnnounce m⟩) s = exec (.ptpAnnounceReceive lan m) s
      ∧ exec (.ethFrameReceive lan mac none ⟨size, .ptpPdelay ps⟩) s = exec (.ptpPdelay lan ps) s)
  ∧ (∀ (s : State) (lan mac size r : Nat), s.tb.refOk = true → s.lanRuns = true → lan < 2 → s.lanLit lan = true → size ≤ 1528 → s.ptpRuns = true →
    Runs (.ethFrameReceive lan mac none ⟨size, .ptpPdelayReq (s.objEff Obj.DOMAIN) r⟩) s fun t =>
      (∃ e ∈ t.link.lan.out, e.lan = lan ∧ e.prp = none ∧ e.content = .ptp (.pdelayResp (s.objEff Obj.DOMAIN) r (s.objB Obj.TWO_STEP)))
        ∧ t.link.lan.out.length = s.link.lan.out.length + 1 + b2n (s.objB Obj.TWO_STEP) ∧ t.link.lan.seqTx = s.link.lan.seqTx ∧ SameBut [.link] s t)
  ∧ (∀ (s : State) (lan mac : Nat) (prp : Option (Nat × Nat)) (k : EthKind),
    s.tb.refOk = false ∨ s.lanRuns = false ∨ 2 ≤ lan ∨ s.lanLit lan = false ∨ 1528 < k.size → exec (.ethFrameReceive lan mac prp k) s = .next s)
  ∧ (∀ s : State, s.lanRuns = true → s.msPassed s.link.lan.supAt (s.obj Obj.PRP_SUP_INTERVAL) = true →
    exec .prpSupervision s = .next { s with link := { s.link with lan := { s.link.lan with
      out := ([0, 1].filter s.lanLit).map (s.ethCopy .supervision) ++ s.link.lan.out
      seqTx := (s.link.lan.seqTx + 1) % 65536, supAt := some s.tb.taps } } })
  ∧ (∀ s : State, s.lanRuns = false ∨ s.msPassed s.link.lan.supAt (s.obj Obj.PRP_SUP_INTERVAL) = false → exec .prpSupervision s = .next s)

/-- GOOSE and Sampled Values (R233 to R236). -/
def Obligations.GooseAndSampledValues : Prop :=
  (∀ (s : State) (n : Nat), s.gpRuns n = true → n = 0 ∨ (vget s.link.lan.gp n {}).lastVals ≠ s.gpValues n →
    Runs (.goosePublish n) s fun t => vget t.link.lan.gp n {} =
        ⟨((vget s.link.lan.gp n {}).stNum + 1) % 2 ^ 32, 0, s.obj (Obj.GP_MIN_T + 256 * n), s.tb.taps, s.gpValues n⟩
      ∧ t.link.lan.out = ([0, 1].filter s.lanLit).map (s.ethCopy (.goose (s.gooseMsg n (((vget s.link.lan.gp n {}).stNum + 1) % 2 ^ 32) 0
          (2 * s.obj (Obj.GP_MIN_T + 256 * n)) (s.gpValues n)))) ++ s.link.lan.out
      ∧ (∀ i, i ≠ n → vget t.link.lan.gp i {} = vget s.link.lan.gp i {}) ∧ SameBut [.link] s t)
  ∧ (∀ (s : State) (n : Nat), s.gpRuns n = false → exec (.goosePublish n) s = .next s ∧ exec (.gooseRetransmit n) s = .next s)
  ∧ (∀ (s : State) (n : Nat), n ≠ 0 → (vget s.link.lan.gp n {}).lastVals = s.gpValues n → exec (.goosePublish n) s = .next s)
  ∧ (∀ (s : State) (n : Nat), (vget s.link.lan.gp n {}).lastVals = []
      ∨ inWindow (vget s.link.lan.gp n {}).sentTap ((vget s.link.lan.gp n {}).intervalMs * tapsMs) s.tb.taps = true →
    exec (.gooseRetransmit n) s = .next s)
  ∧ (∀ (s : State) (n : Nat), s.gpRuns n = true → (vget s.link.lan.gp n {}).lastVals ≠ [] →
    inWindow (vget s.link.lan.gp n {}).sentTap ((vget s.link.lan.gp n {}).intervalMs * tapsMs) s.tb.taps = false →
    Runs (.gooseRetransmit n) s fun t => (vget t.link.lan.gp n {}).sqNum = ((vget s.link.lan.gp n {}).sqNum + 1) % 2 ^ 32
      ∧ (vget t.link.lan.gp n {}).stNum = (vget s.link.lan.gp n {}).stNum
      ∧ (vget t.link.lan.gp n {}).intervalMs = min (2 * (vget s.link.lan.gp n {}).intervalMs) (s.obj (Obj.GP_MAX_T + 256 * n))
      ∧ (vget t.link.lan.gp n {}).lastVals = (vget s.link.lan.gp n {}).lastVals ∧ (vget t.link.lan.gp n {}).sentTap = s.tb.taps
      ∧ t.link.lan.out.length = s.link.lan.out.length + ([0, 1].filter s.lanLit).length
      ∧ SameBut [.link] s t)
  ∧ (∀ (s : State) (m : Nat) (g : GooseMsg), s.tb.refOk = true → s.powered = true → s.gsMatches m g = true → g.confRev = s.gsObj m Obj.GS_CONF_REV →
    s.gsFits m g.members = true →
    Runs (.gooseReceive m g) s fun t => vget t.link.lan.gs m {} = { status := 1, lastTap := s.tb.taps, ttlMs := g.ttlMs, stored := some g.members }
      ∧ (∀ i, i ≠ m → vget t.link.lan.gs i {} = vget s.link.lan.gs i {}) ∧ SameBut [.link] s t)
  ∧ (∀ (s : State) (m : Nat) (g : GooseMsg), s.tb.refOk = true → s.powered = true → s.gsMatches m g = true → g.confRev ≠ s.gsObj m Obj.GS_CONF_REV →
    Runs (.gooseReceive m g) s fun t => (vget t.link.lan.gs m {}).stored = (vget s.link.lan.gs m {}).stored
      ∧ (vget t.link.lan.gs m {}).status = (vget s.link.lan.gs m {}).status % 4 + 4
      ∧ t.node = { s.node with runs := t.node.runs } ∧ SameBut [.link, .node, .recd, .evc] s t)
  ∧ (∀ (s : State) (m : Nat) (g : GooseMsg), s.gsMatches m g = false ∨ s.tb.refOk = false
      ∨ (g.confRev = s.gsObj m Obj.GS_CONF_REV ∧ s.gsFits m g.members = false) → exec (.gooseReceive m g) s = .next s)
  ∧ (∀ s : State, s.powered = true → Runs .gooseApply s fun t => (∀ m, m < 32 → (vget t.link.lan.gs m {}).stored = none)
      ∧ (∀ m, m < 32 → (vget t.link.lan.gs m {}).status = (vget s.link.lan.gs m {}).status)
      ∧ t.dict = { s.dict with objs := t.dict.objs } ∧ t.node = { s.node with runs := t.node.runs }
      ∧ SameBut [.dict, .link, .trdl, .node, .recd, .evc] s t)
  ∧ (∀ (s : State) (m e v : Nat), s.powered = true → m < 32 → (vget s.link.lan.gs m {}).stored = some [v] →
    (∀ i, i < 32 → i ≠ m → (vget s.link.lan.gs i {}).stored = none) → s.gsMap m = [e] → isSpsKey (mapKey e) = false →
    Runs .gooseApply s fun t => t.obj (mapKey e) = v ∧ (∀ k, k ≠ mapKey e → t.obj k = s.obj k))
  ∧ (∀ (s : State) (m : Nat), m < 32 → s.lanRuns = true → s.objB (Obj.GS_ENABLE + 256 * m) = true → bitOf (vget s.link.lan.gs m {}).status 0 = true →
    inWindow (vget s.link.lan.gs m {}).lastTap ((vget s.link.lan.gs m {}).ttlMs * tapsMs) s.tb.taps = false →
    Runs (.gooseTimeout m) s fun t => (vget t.link.lan.gs m {}).status = (vget s.link.lan.gs m {}).status / 4 * 4 + 2
      ∧ bitOf (vget t.link.lan.gs m {}).status 0 = false ∧ t.node = { s.node with runs := t.node.runs } ∧ SameBut [.link, .node, .recd, .evc] s t)
  ∧ (∀ s : State, s.powered = false → exec .gooseApply s = .next s)
  ∧ (∀ (s : State) (m : Nat), 32 ≤ m ∨ s.lanRuns = false ∨ s.objB (Obj.GS_ENABLE + 256 * m) = false ∨ bitOf (vget s.link.lan.gs m {}).status 0 = false
      ∨ inWindow (vget s.link.lan.gs m {}).lastTap ((vget s.link.lan.gs m {}).ttlMs * tapsMs) s.tb.taps = true → exec (.gooseTimeout m) s = .next s)
  ∧ (∀ (s : State) (n appid svid mac at' : Nat) (a : SvAsdu), s.tb.refOk = true → s.powered = true → s.svMatches n appid svid mac [a] = true → s.mem.wf = true →
    at' = s.svObj n Obj.RING_ADDR + 80 * (a.smpCnt % 64) →
    Runs (.svReceive n appid svid mac [a]) s fun t => (∀ i, i < 80 → t.byteAt (at' + i) = (s.svEntry a).getD i 0)
      ∧ (∀ b, b < at' ∨ at' + 80 ≤ b → t.byteAt b = s.byteAt b) ∧ t.mem.wf = true
      ∧ (vget t.link.lan.sv n {}).status = 1 ∧ (vget t.link.lan.sv n {}).lastCnt = some a.smpCnt ∧ (vget t.link.lan.sv n {}).lastTap = s.tb.taps
      ∧ t.inRun .svLost n = false ∧ t.node = { s.node with runs := t.node.runs } ∧ SameBut [.mem, .link, .node] s t)
  ∧ (∀ (s : State) (n appid svid mac : Nat) (l : List SvAsdu), s.tb.refOk = true → s.powered = true → s.svMatches n appid svid mac l = true →
    s.mem.wf = true →
    Runs (.svReceive n appid svid mac l) s fun t =>
      (∀ b, b < s.svObj n Obj.RING_ADDR ∨ s.svObj n Obj.RING_ADDR + 5120 ≤ b → t.byteAt b = s.byteAt b) ∧ t.mem.wf = true
        ∧ (vget t.link.lan.sv n {}).status = 1 ∧ (vget t.link.lan.sv n {}).lastCnt = (l.getLast?).map SvAsdu.smpCnt
        ∧ t.inRun .svLost n = false ∧ t.node = { s.node with runs := t.node.runs } ∧ SameBut [.mem, .link, .node] s t)
  ∧ (∀ (s : State) (n appid svid mac : Nat) (l : List SvAsdu), s.svMatches n appid svid mac l = false ∨ s.tb.refOk = false → exec (.svReceive n appid svid mac l) s = .next s)
  ∧ (∀ (s : State) (n : Nat), n < 4 → s.lanRuns = true → s.objB (Obj.SV_ENABLE + 256 * n) = true → (vget s.link.lan.sv n {}).status = 1 →
    inWindow (vget s.link.lan.sv n {}).lastTap (3 * tapsS / max 1 (s.svObj n Obj.SV_SPC * s.svObj n Obj.SV_FNOM)) s.tb.taps = false →
    Runs (.svTimeout n) s fun t => (vget t.link.lan.sv n {}).status = 2 ∧ t.inRun .svLost n = true
      ∧ t.node = { s.node with runs := t.node.runs } ∧ SameBut [.link, .node, .recd, .evc] s t)
  ∧ (∀ (s : State) (n : Nat), 4 ≤ n ∨ s.lanRuns = false ∨ s.objB (Obj.SV_ENABLE + 256 * n) = false ∨ (vget s.link.lan.sv n {}).status ≠ 1
      ∨ inWindow (vget s.link.lan.sv n {}).lastTap (3 * tapsS / max 1 (s.svObj n Obj.SV_SPC * s.svObj n Obj.SV_FNOM)) s.tb.taps = true → exec (.svTimeout n) s = .next s)

/-- REFCLK, RATE and steps (R243 to R249, R262 to R265). -/
def Obligations.TheClockItsRateAndItsSteps : Prop :=
  (∀ s : State, s.powered = true → s.tb.refOk = true →
    Runs .refclkLost s fun t => t.tb = { s.tb with refOk := false, evt := setBit32 s.tb.evt 14 } ∧ t.sel.clkIosc = true ∧ t.sel.spb = true
      ∧ bitOf t.sel.causes 10 = true ∧ (s.node.nodeState = .service → t.node.nodeState = .block) ∧ SameBut (.tb :: faultParts) s t)
  ∧ (∀ s : State, s.tb.refOk = false → exec .refclkLost s = .next s)
  ∧ (∀ s : State, s.powered = true → s.tb.refOk = false →
    exec .refclkReturn s = .next { s with tb := { s.tb with refOk := true, refBackTap := s.tb.taps } })
  ∧ (∀ s : State, s.tb.refOk = true → exec .refclkReturn s = .next s)
  ∧ (∀ s : State, s.powered = true → s.tb.refOk = true → s.sel.clkIosc = true → s.tb.refBackTap + tapsMs ≤ s.tb.taps →
    Runs .refclkStable s fun t => t.sel.clkIosc = false ∧ bitOf t.sel.causes 10 = false ∧ t.sel.spb = s.sel.spb ∧ SameBut [.sel] s t)
  ∧ (∀ s : State, s.tb.refOk = false ∨ s.sel.clkIosc = false ∨ s.tb.taps < s.tb.refBackTap + tapsMs → exec .refclkStable s = .next s)
  ∧ (∀ (s : State) (v : Nat), s.powered = true →
    Runs (.rateWrite v) s fun t => t.tb.rate = clampI (toSigned 32 v) (-549755814) 549755814 ∧ t.tb.ntF = s.tb.ntF ∧ t.tb.taps = s.tb.taps
      ∧ t.tb = { s.tb with rate := t.tb.rate, offset := t.tb.offset } ∧ SameBut [.tb] s t)
  ∧ (∀ (s : State) (v : Nat) (df : Int), s.powered = true → df = toSigned 96 (vget s.tb.stepReg 0 0 + 2 ^ 32 * vget s.tb.stepReg 1 0 + 2 ^ 64 * (v % 2 ^ 32)) →
    s.runLock = true ∨ s.tb.ntF + df < 0 ∨ 2 ^ 48 * 1000000000 * 65536 ≤ s.tb.ntF + df →
    Runs (.stepWrite v) s fun t => t.tb = { s.tb with stepReg := vset s.tb.stepReg 2 (v % 2 ^ 32), stepRefused := satAdd 32 s.tb.stepRefused 1 }
      ∧ SameBut [.tb] s t)
  ∧ (∀ (s : State) (v : Nat) (df : Int), s.powered = true → df = toSigned 96 (vget s.tb.stepReg 0 0 + 2 ^ 32 * vget s.tb.stepReg 1 0 + 2 ^ 64 * (v % 2 ^ 32)) →
    s.runLock = false → 0 ≤ s.tb.ntF + df → s.tb.ntF + df < 2 ^ 48 * 1000000000 * 65536 →
    Runs (.stepWrite v) s fun t => t.tb.ntF = s.tb.ntF + df ∧ t.tb.offset = s.tb.offset + df ∧ t.tb.rate = s.tb.rate ∧ t.tb.taps = s.tb.taps
      ∧ t.tb.steps = satAdd 32 s.tb.steps 1 ∧ t.tb.sSteps = s.tb.sSteps ∧ t.tb.lastStep = df.fdiv 65536 ∧ t.tb.lockRun = 0
      ∧ SameBut [.tb, .weft, .arm, .trdl, .gate, .adc, .recd, .evc, .node] s t)
  ∧ (∀ s : State, s.powered = true → s.tb.sstep.armed = true → s.tb.sstep.ts ≤ s.tb.ntNs →
    Runs .scheduledStepApply s fun t => t.tb.offset = s.tb.offset + s.tb.sstep.delta * 65536 ∧ t.tb.sstep = { s.tb.sstep with armed := false }
      ∧ t.tb.sSteps = satAdd 32 s.tb.sSteps 1 ∧ t.tb.steps = s.tb.steps ∧ t.tb.ann.stepv = false ∧ t.tb.taps = s.tb.taps
      ∧ SameBut [.tb, .weft, .arm, .trdl, .gate, .adc, .recd, .evc, .node] s t)
  ∧ (∀ s : State, s.tb.sstep.armed = false ∨ s.tb.ntNs < s.tb.sstep.ts → exec .scheduledStepApply s = .next s)
  ∧ (∀ (s : State) (v : Nat), s.powered = true → bitOf v 0 = false →
    exec (.scheduledStepArm v) s = .next { s with tb := { s.tb with
      sstep := { s.tb.sstep with late := s.tb.sstep.late && !bitOf v 1, id := bitsOf v 31 16, armed := false } } })
  ∧ (∀ (s : State) (v sec ts : Nat), s.powered = true → bitOf v 0 = true → sec % 2 ^ 32 = vget s.tb.sstepReg 0 0 →
    ts = sec * 1000000000 + vget s.tb.sstepReg 1 0 → s.tb.ntF ≤ ((ts + 2 ^ 31 * 1000000000) * 65536 : Nat) →
    (ts * 65536 : Nat) < s.tb.ntF + 2 ^ 31 * 1000000000 * 65536 → s.tb.ntNs < ts →
    Runs (.scheduledStepArm v) s fun t => t.tb.sstep.armed = true ∧ t.tb.sstep.ts = ts ∧ t.tb.sstep.id = bitsOf v 31 16
      ∧ t.tb.sstep.delta = toSigned 64 (vget s.tb.sstepReg 2 0 + 2 ^ 32 * vget s.tb.sstepReg 3 0) ∧ t.tb.offset = s.tb.offset ∧ SameBut [.tb] s t)
  ∧ (∀ (s : State) (v sec ts : Nat), s.powered = true → bitOf v 0 = true → sec % 2 ^ 32 = vget s.tb.sstepReg 0 0 →
    ts = sec * 1000000000 + vget s.tb.sstepReg 1 0 → s.tb.ntF ≤ ((ts + 2 ^ 31 * 1000000000) * 65536 : Nat) → ts ≤ s.tb.ntNs →
    Runs (.scheduledStepArm v) s fun t => t.tb.sstep.armed = false ∧ t.tb.sstep.late = true
      ∧ t.tb.offset = s.tb.offset + toSigned 64 (vget s.tb.sstepReg 2 0 + 2 ^ 32 * vget s.tb.sstepReg 3 0) * 65536)
  ∧ (∀ (s : State) (tap : Nat), s.powered = true →
    Runs (.ntReadLatch tap) s fun t => t.tb.latTraw * 128 + t.tb.latTap = s.tb.taps / 128 * 128 + tap % 128 ∧ t.tb.latTap < 128
      ∧ t.tb.latNt = nt96 (s.tb.ntFAt (t.tb.latTraw * 128 + t.tb.latTap))
      ∧ t.tb = { s.tb with latTraw := t.tb.latTraw, latTap := t.tb.latTap, latNt := t.tb.latNt } ∧ SameBut [.tb] s t)
  ∧ (∀ (s : State) (v : Nat), s.powered = true → s.isStation = false → Runs (.timeSet v) s (Refused .noObject Obj.TIME_SET s))
  ∧ (∀ (s : State) (v : Nat), s.powered = true → s.isStation = true → 999999999 < v / 2 ^ 16 % 2 ^ 32 ∨ 2 ^ 96 ≤ v →
    Runs (.timeSet v) s (Refused .range Obj.TIME_SET s))
  ∧ (∀ (s : State) (v : Nat), s.powered = true → s.isStation = true → v / 2 ^ 16 % 2 ^ 32 ≤ 999999999 → v < 2 ^ 96 → s.tb.state = .locked →
    s.tb.ptp.port ≠ 0 → Runs (.timeSet v) s (Refused .state Obj.TIME_SET s))
  ∧ (∀ (s : State) (v : Nat), s.powered = true → s.isStation = true → v / 2 ^ 16 % 2 ^ 32 ≤ 999999999 → v < 2 ^ 96 → s.tb.state ≠ .locked →
    s.runLock = false →
    Runs (.timeSet v) s fun t => t.tb.ntF = nt96Ns v * 65536 + v % 65536 ∧ t.tb.taps = s.tb.taps ∧ t.tb.rate = s.tb.rate
      ∧ SameBut [.tb, .weft, .arm, .trdl, .gate, .adc, .recd, .evc, .node] s t)
  ∧ (∀ (s : State) (v : Nat), s.powered = true → s.isStation = true → v / 2 ^ 16 % 2 ^ 32 ≤ 999999999 → v < 2 ^ 96 → s.tb.state ≠ .locked ∨ s.tb.ptp.port = 0 →
    s.runLock = true → s.tb.ntNs < s.stepInstant →
    Runs (.timeSet v) s fun t => t.tb.ntF = s.tb.ntF ∧ t.tb.taps = s.tb.taps
      ∧ (s.stepDelta (s.tb.ntF - (nt96Ns v * 65536 + v % 65536 : Nat)) ≠ 0 → t.tb.sstep.armed = true ∧ t.tb.sstep.ts = s.stepInstant
        ∧ t.tb.sstep.delta = s.stepDelta (s.tb.ntF - (nt96Ns v * 65536 + v % 65536 : Nat))) ∧ SameBut [.tb] s t)
  ∧ (∀ s : State, s.isStation = true → s.isActive = true → s.node.nodeState.isJoined = true → 8 ≤ s.tb.quantRun → s.powered = true →
    s.stepDelta s.tb.theta ≠ 0 → s.tb.ntNs < s.stepInstant →
    Runs .stepSchedule s fun t => t.tb.sstep.armed = true ∧ t.tb.sstep.ts = s.stepInstant ∧ t.tb.sstep.delta = s.stepDelta s.tb.theta
      ∧ t.tb.ann.stepv = true ∧ t.tb.ann.stepAt = t.tb.sstep.ts ∧ t.tb.ann.stepDelta = t.tb.sstep.delta
      ∧ t.tb.ann.stepId = t.tb.sstep.id ∧ t.tb.quantRun = 0 ∧ t.tb.offset = s.tb.offset ∧ SameBut [.tb] s t)
  ∧ (∀ (s : State) (x : Int), 1 ≤ s.quantum → s.stepInstant % s.quantum = 0 ∧ s.tb.ntF ≤ (s.stepInstant * 65536 : Nat)
      ∧ s.stepDelta x % (s.quantum : Int) = 0 ∧ 2 * (x + s.stepDelta x * 65536).natAbs ≤ s.quantum * 65536)
  ∧ (∀ s : State, s.isStation = false ∨ s.isActive = false ∨ s.node.nodeState.isJoined = false ∨ s.tb.quantRun < 8 ∨ s.stepDelta s.tb.theta = 0 →
    exec .stepSchedule s = .next s)
  ∧ (∀ (s : State) (v : Nat), s.powered = false →
    exec .refclkLost s = .next s ∧ exec .refclkReturn s = .next s ∧ exec .refclkStable s = .next s ∧ exec (.rateWrite v) s = .next s
      ∧ exec (.stepWrite v) s = .next s ∧ exec (.scheduledStepArm v) s = .next s ∧ exec .scheduledStepApply s = .next s
      ∧ exec (.ntReadLatch v) s = .next s ∧ exec (.timeSet v) s = .next s)

/-- Synchronisation, the time states, and PTP (R252 to R261, R271). -/
def Obligations.TimeIsTakenFromTheRightSource : Prop :=
  (∀ s : State, s.node.joined = false ∨ s.tb.state = .free ∨ s.syncDue = false ∨ s.tb.refOk = false → exec .syncSend s = .next s)
  ∧ (∀ s : State, s.tb.refOk = true → s.isCell = true ∨ s.isStation = true ∨ s.atLevel1 = false → s.powered = true → s.node.joined = true →
    s.tb.state ≠ .free → s.syncDue = true →
    Runs .syncSend s fun t => (∀ p, 2 ≤ p → p < 6 → s.lit p = true → vget t.tb.syncSeqTx p 0 = (vget s.tb.syncSeqTx p 0 + 1) % 65536)
      ∧ (∀ p, p < 6 → p < 2 ∨ s.lit p = false → vget t.tb.syncSeqTx p 0 = vget s.tb.syncSeqTx p 0 ∧ (t.port p).queue = (s.port p).queue)
      ∧ t.tb = { s.tb with syncSeqTx := t.tb.syncSeqTx, syncAt := some s.tb.taps } ∧ t.node = { s.node with runs := t.node.runs }
      ∧ SameBut [.tb, .link, .node, .recd, .evc] s t)
  ∧ (∀ (s : State) (q : Nat), s.tb.refOk = true → s.isCell = false → s.atLevel1 = true → s.powered = true → s.node.joined = true →
    s.tb.state ≠ .free → s.syncDue = true → s.otherUp = some q →
    Runs .syncSend s fun t => (∀ p, p < 6 → 2 ≤ p ∨ p = q → s.lit p = true → vget t.tb.syncSeqTx p 0 = (vget s.tb.syncSeqTx p 0 + 1) % 65536)
      ∧ (∀ p, p < 6 → (p < 2 ∧ p ≠ q) ∨ s.lit p = false → vget t.tb.syncSeqTx p 0 = vget s.tb.syncSeqTx p 0 ∧ (t.port p).queue = (s.port p).queue)
      ∧ t.tb = { s.tb with syncSeqTx := t.tb.syncSeqTx, syncAt := some s.tb.taps } ∧ SameBut [.tb, .link, .node, .recd, .evc] s t)
  ∧ (∀ (s : State) (p : Nat) (m : SyncMsg), s.takesSync p m.ret = false ∨ vget s.tb.lastSeq p none = some m.seq ∨ s.tb.refOk = false →
    exec (.syncReceive p m) s = .next s)
  ∧ (∀ (s : State) (p : Nat) (m : SyncMsg), s.tb.refOk = true → s.powered = true → s.takesSync p m.ret = true → vget s.tb.lastSeq p none ≠ some m.seq →
    s.syncExpected p m = false →
    Runs (.syncReceive p m) s fun t => t.tb = { s.tb with
        prevTx := vset s.tb.prevTx p (some m.tTx), lastSeq := vset s.tb.lastSeq p (some m.seq), appliedDelta := vset s.tb.appliedDelta p 0 }
      ∧ SameBut [.tb] s t)
  ∧ (∀ (s : State) (p : Nat) (m : SyncMsg), s.tb.refOk = true → s.isCell = true → s.powered = true → s.takesSync p false = true → m.ret = false → m.stepv = false →
    vget s.tb.lastSeq p none ≠ some m.seq → s.syncExpected p m = true → beyond (s.syncTheta p m) (s.obj Obj.STEP_THRESHOLD) = false →
    Runs (.syncReceive p m) s fun t => t.tb.theta = s.syncTheta p m ∧ t.tb.depth = min 255 (m.depth + 1) ∧ t.tb.rootPtp = m.rootptp
      ∧ t.tb.syncQuantum = m.stepQuantum ∧ t.tb.lastSyncTap = s.tb.taps ∧ t.tb.bigRun = 0
      ∧ t.tb.lockRun = (if beyond (s.syncTheta p m) (s.obj Obj.LOCK_LIMIT) then 0 else s.tb.lockRun + 1)
      ∧ t.tb.state = (if s.tb.state = .free then .acquire else s.tb.state) ∧ t.tb.ntF = s.tb.ntF ∧ t.tb.steps = s.tb.steps
      ∧ SameBut [.tb, .jrn] s t)
  ∧ (∀ (s : State) (p : Nat) (m : SyncMsg), s.tb.refOk = true → s.powered = true → s.takesSync p m.ret = true → vget s.tb.lastSeq p none ≠ some m.seq →
    s.syncExpected p m = true →
    Runs (.syncReceive p m) s fun t => t.tb.depth = min 255 (m.depth + 1) ∧ t.tb.rootPtp = m.rootptp ∧ t.tb.syncQuantum = m.stepQuantum
      ∧ t.tb.lastSyncTap = s.tb.taps ∧ t.tb.lastSeq = vset s.tb.lastSeq p (some m.seq) ∧ (s.isStation = false → t.tb.theta = s.syncTheta p m)
      ∧ (s.isStation = true → vget t.tb.retTheta (p - 2) none = some (s.syncTheta p m))
      ∧ SameBut [.tb, .jrn, .dict, .weft, .arm, .trdl, .gate, .adc, .recd, .evc, .node] s t)
  ∧ (∀ s : State, s.powered = true → 8 ≤ s.tb.lockRun → s.tb.state = .acquire ∨ s.tb.state = .holdover →
    Runs .timeLock s fun t => t.tb = { s.tb with state := .locked } ∧ t.inRun .timeHoldover 0 = false ∧ SameBut [.tb, .node, .jrn, .dict] s t)
  ∧ (∀ s : State, s.tb.lockRun < 8 ∨ s.tb.state = .free ∨ s.tb.state = .locked → exec .timeLock s = .next s)
  ∧ (∀ s : State, s.powered = true → 3 ≤ s.tb.alignRun → s.isCell = false ∨ s.node.nodeState = .service ∨ s.node.nodeState = .hold →
    Runs .timeAlign s fun t => t.tb = { s.tb with alignRun := 0 } ∧ (s.isCell = true → t.node.nodeState = .block)
      ∧ (s.isCell = false → t.node = { s.node with runs := t.node.runs }) ∧ SameBut (.tb :: faultParts) s t)
  ∧ (∀ s : State, s.tb.alignRun < 3 ∨ (s.isCell = true ∧ s.node.nodeState ≠ .service ∧ s.node.nodeState ≠ .hold) → exec .timeAlign s = .next s)
  ∧ (∀ s : State, s.powered = true → s.followsPtp = false → s.tb.state = .locked → s.tb.lastSyncTap ≤ s.tb.taps →
    s.tb.lastSyncTap + 3 * s.obj Obj.SYNC_INTERVAL * tapsUs ≤ s.tb.taps →
    Runs .timeHoldoverTimeout s fun t => t.tb = { s.tb with state := .holdover, lockRun := 0 } ∧ t.inRun .timeHoldover 0 = true
      ∧ t.node.nodeState = s.node.nodeState ∧ SameBut [.tb, .node, .recd, .evc, .jrn, .dict] s t)
  ∧ (∀ s : State, s.tb.state ≠ .locked ∨ s.followsPtp = true ∨ inWindow s.tb.lastSyncTap (3 * s.obj Obj.SYNC_INTERVAL * tapsUs) s.tb.taps = true →
    exec .timeHoldoverTimeout s = .next s)
  ∧ (∀ a b : PtpMaster, ptpChoose none none = 0 ∧ ptpChoose (some a) none = 1 ∧ ptpChoose none (some a) = 2 ∧ ptpChoose (some a) (some a) = 1
    ∧ (a.priority1 < b.priority1 → ptpChoose (some a) (some b) = 1 ∧ ptpChoose (some b) (some a) = 2))
  ∧ (∀ (s : State) (lan : Nat) (m : PtpMaster), s.tb.refOk = true → s.ptpRuns = true → lan < 2 → m.domain = s.objEff Obj.DOMAIN →
    Runs (.ptpAnnounceReceive lan m) s fun t => (lan = 0 → t.tb.ptp.masterA = (if ptpBetter s.tb.ptp.masterA m then some m else s.tb.ptp.masterA)
        ∧ t.tb.ptp.masterB = s.tb.ptp.masterB)
      ∧ (lan = 1 → t.tb.ptp.masterB = (if ptpBetter s.tb.ptp.masterB m then some m else s.tb.ptp.masterB) ∧ t.tb.ptp.masterA = s.tb.ptp.masterA) ∧ t.inRun .ptpLost 0 = false
      ∧ (t.tb.ptp.asMaster = false → t.tb.ptp.port = ptpChoose t.tb.ptp.masterA t.tb.ptp.masterB) ∧ (t.tb.ptp.asMaster = true → t.tb.ptp.port = 0)
      ∧ t.tb.ntF = s.tb.ntF ∧ t.node = { s.node with runs := t.node.runs } ∧ SameBut [.tb, .node] s t)
  ∧ (∀ (s : State) (lan : Nat) (m : PtpMaster), m.domain ≠ s.objEff Obj.DOMAIN ∨ s.tb.refOk = false → exec (.ptpAnnounceReceive lan m) s = .next s)
  ∧ (∀ (s : State) (lan : Nat), inWindow (s.tb.ptp.annAt lan) (3 * tapsS) s.tb.taps = true → exec (.ptpAnnounceTimeout lan) s = .next s)
  ∧ (∀ s : State, s.ptpRuns = true → s.tb.ptp.masterB = none → inWindow (s.tb.ptp.annAt 0) (3 * tapsS) s.tb.taps = false →
    Runs (.ptpAnnounceTimeout 0) s fun t => t.tb.ptp.masterA = none ∧ t.tb.ptp.masterB = none ∧ t.tb.ptp.port = 0 ∧ t.inRun .ptpLost 0 = true
      ∧ (s.followsPtp = true → s.tb.state = .locked → t.tb.state = .holdover) ∧ t.tb.ntF = s.tb.ntF
      ∧ SameBut [.tb, .node, .recd, .evc, .jrn, .dict] s t)
  ∧ (∀ s : State, s.ptpRuns = true → s.tb.ptp.masterA = none → inWindow (s.tb.ptp.annAt 1) (3 * tapsS) s.tb.taps = false →
    Runs (.ptpAnnounceTimeout 1) s fun t => t.tb.ptp.masterA = none ∧ t.tb.ptp.masterB = none ∧ t.tb.ptp.port = 0 ∧ t.inRun .ptpLost 0 = true
      ∧ (s.followsPtp = true → s.tb.state = .locked → t.tb.state = .holdover) ∧ t.tb.ntF = s.tb.ntF
      ∧ SameBut [.tb, .node, .recd, .evc, .jrn, .dict] s t)
  ∧ (∀ (s : State) (lan : Nat) (m : PtpMaster), s.ptpRuns = true → lan < 2 → inWindow (s.tb.ptp.annAt lan) (3 * tapsS) s.tb.taps = false →
    (if lan = 0 then s.tb.ptp.masterB else s.tb.ptp.masterA) = some m →
    Runs (.ptpAnnounceTimeout lan) s fun t => (if lan = 0 then t.tb.ptp.masterA else t.tb.ptp.masterB) = none
      ∧ (if lan = 0 then t.tb.ptp.masterB else t.tb.ptp.masterA) = some m ∧ (t.tb.ptp.port = 0 ∨ t.tb.ptp.port = 2 - lan) ∧ t.inRun .ptpLost 0 = false
      ∧ t.tb.state = s.tb.state ∧ t.tb.ntF = s.tb.ntF ∧ t.node = { s.node with runs := t.node.runs } ∧ SameBut [.tb, .node] s t)
  ∧ (∀ (s : State) (lan : Nat) (m : PtpSyncMsg), s.tb.refOk = true → s.ptpRuns = true → s.followsPtp = false → lan < 2 → m.domain = s.objEff Obj.DOMAIN →
    s.tb.ptp.follows lan m.sender = true →
    exec (.ptpSyncReceive lan m) s = .next { s with tb := { s.tb with ptp := { s.tb.ptp with offset := m.theta.fdiv 65536 } } })
  ∧ (∀ (s : State) (lan : Nat) (m : PtpSyncMsg), s.tb.refOk = true → s.ptpRuns = true → s.followsPtp = true → lan < 2 → m.domain = s.objEff Obj.DOMAIN →
    s.tb.ptp.follows lan m.sender = true → beyond m.theta (s.obj Obj.STEP_THRESHOLD) = false →
    Runs (.ptpSyncReceive lan m) s fun t => t.tb.theta = m.theta ∧ t.tb.ptp.offset = m.theta.fdiv 65536 ∧ t.tb.ntF = s.tb.ntF ∧ t.tb.lastSyncTap = s.tb.taps
      ∧ t.tb.lockRun = (if beyond m.theta (s.obj Obj.PTP_LOCK) then 0 else s.tb.lockRun + 1) ∧ SameBut [.tb, .jrn, .dict] s t)
  ∧ (∀ (s : State) (lan : Nat) (m : PtpSyncMsg), m.domain ≠ s.objEff Obj.DOMAIN ∨ s.tb.ptp.follows lan m.sender = false →
    exec (.ptpSyncReceive lan m) s = .next s)
  ∧ (∀ (s : State) (lan : Nat) (x : PtpSyncMsg) (m : PtpMaster), s.ptpRuns = false ∨ 2 ≤ lan →
    exec (.ptpSyncReceive lan x) s = .next s ∧ exec (.ptpAnnounceReceive lan m) s = .next s ∧ exec (.ptpAnnounceTimeout lan) s = .next s)
  ∧ (∀ (s : State) (ps : Int), s.tb.refOk = true → s.ptpRuns = true →
    exec (.ptpPdelay 0 ps) s = .next { s with tb := { s.tb with ptp := { s.tb.ptp with pdelayA := ps } } }
      ∧ exec (.ptpPdelay 1 ps) s = .next { s with tb := { s.tb with ptp := { s.tb.ptp with pdelayB := ps } } })
  ∧ (∀ (s : State) (lan : Nat) (ps : Int), 2 ≤ lan ∨ s.ptpRuns = false ∨ s.tb.refOk = false → exec (.ptpPdelay lan ps) s = .next s)
  ∧ (∀ s : State, s.powered = false → exec .timeLock s = .next s ∧ exec .timeAlign s = .next s)

/-- Pulse outputs and capture inputs (R269, R270). -/
def Obligations.PulsesAndCapturesOfTime : Prop :=
  (∀ (s : State) (n : Nat) (g : Int), s.tb.refOk = true → s.powered = true → s.tpoRuns n = true → s.tpoDue n = some g →
    (vget s.tb.tpo n {}).active = false →
    Runs (.tpoPulseStart n) s fun t => vget t.tb.tpo n {} = { vget s.tb.tpo n {} with
        active := true, fired := true, startTap := (s.tb.taps : Int) - (s.tb.ntF - g).fdiv 5120, count := satAdd 32 (vget s.tb.tpo n {}).count 1 }
      ∧ t.tpoLevel n = decide (s.tpObj n Obj.TPO_POL = 0)
      ∧ (∀ i, i ≠ n → vget t.tb.tpo i {} = vget s.tb.tpo i {}) ∧ t.tb = { s.tb with tpo := t.tb.tpo, evt := setBit32 s.tb.evt (2 + n) }
      ∧ SameBut [.tb, .evc] s t)
  ∧ (∀ (s : State) (n : Nat), s.tpoRuns n = false ∨ s.tpoDue n = none ∨ (vget s.tb.tpo n {}).active = true ∨ s.tb.refOk = false ∨ s.powered = false →
    exec (.tpoPulseStart n) s = .next s)
  ∧ (∀ (s : State) (n : Nat), s.tpObj n Obj.TPO_MODE = 1 → (vget s.tb.tpo n {}).fired = true → s.tpoDue n = none)
  ∧ (∀ (s : State) (n : Nat), s.tpObj n Obj.TPO_MODE = 1 → (vget s.tb.tpo n {}).fired = false → nt96F (s.tpObj n Obj.TPO_START) ≤ s.tb.ntF →
    s.tb.ntFAt (s.tb.taps - 128) < nt96F (s.tpObj n Obj.TPO_START) → s.tb.stepNt ≤ nt96F (s.tpObj n Obj.TPO_START) →
    s.tpoDue n = some (nt96F (s.tpObj n Obj.TPO_START)))
  ∧ (∀ (s : State) (n : Nat), s.tb.refOk = true → s.powered = true → n < 4 → (vget s.tb.tpo n {}).active = true →
    (vget s.tb.tpo n {}).startTap + (s.tpObj n Obj.TPO_WIDTH * 64 / 5 : Nat) ≤ (s.tb.taps : Int) →
    Runs (.tpoPulseEnd n) s fun t => vget t.tb.tpo n {} = { vget s.tb.tpo n {} with active := false }
      ∧ (∀ i, i ≠ n → vget t.tb.tpo i {} = vget s.tb.tpo i {}) ∧ t.tb = { s.tb with tpo := t.tb.tpo } ∧ SameBut [.tb] s t)
  ∧ (∀ (s : State) (n : Nat), 4 ≤ n ∨ (vget s.tb.tpo n {}).active = false ∨ s.tb.refOk = false ∨ s.powered = false
      ∨ (s.tb.taps : Int) < (vget s.tb.tpo n {}).startTap + (s.tpObj n Obj.TPO_WIDTH * 64 / 5 : Nat) → exec (.tpoPulseEnd n) s = .next s)
  ∧ (∀ (s : State) (n : Nat) (f : Bool), s.tb.refOk = true → s.powered = true → n < 4 → s.sys.vddioB = true → s.tsiTakes n f s.tapNow.1 = true → (vget s.tb.tsi n {}).fifo.length < 4 →
    Runs (.tsiCapture n f) s fun t => (vget t.tb.tsi n {}).fifo = (vget s.tb.tsi n {}).fifo ++ [⟨s.tb.ntFAt s.tapNow.1, f⟩]
      ∧ (vget t.tb.tsi n {}).captures = satAdd 32 (vget s.tb.tsi n {}).captures 1 ∧ (vget t.tb.tsi n {}).level = !f
      ∧ (vget t.tb.tsi n {}).lastTap = some s.tapNow.1 ∧ (vget t.tb.tsi n {}).ovf = (vget s.tb.tsi n {}).ovf
      ∧ t.inRun .tsiOverflow n = false ∧ t.node = { s.node with runs := t.node.runs } ∧ SameBut [.free, .tb, .evc, .node] s t)
  ∧ (∀ (s : State) (n : Nat) (f : Bool), s.tb.refOk = true → s.powered = true → n < 4 → s.sys.vddioB = true → s.tsiTakes n f s.tapNow.1 = true → 4 ≤ (vget s.tb.tsi n {}).fifo.length →
    Runs (.tsiCapture n f) s fun t => (vget t.tb.tsi n {}).fifo = (vget s.tb.tsi n {}).fifo ∧ (vget t.tb.tsi n {}).ovf = true
      ∧ (vget t.tb.tsi n {}).overflows = satAdd 32 (vget s.tb.tsi n {}).overflows 1 ∧ t.inRun .tsiOverflow n = true
      ∧ t.node = { s.node with runs := t.node.runs } ∧ SameBut [.free, .tb, .recd, .evc, .node] s t)
  ∧ (∀ (s : State) (n : Nat) (f : Bool), s.tb.refOk = true → s.powered = true → n < 4 → s.sys.vddioB = true → s.tsiTakes n f s.tapNow.1 = false →
    Runs (.tsiCapture n f) s fun t => vget t.tb.tsi n {} = { vget s.tb.tsi n {} with level := !f } ∧ t.tb = { s.tb with tsi := t.tb.tsi }
      ∧ SameBut [.free, .tb] s t)
  ∧ (∀ (s : State) (n : Nat) (f : Bool), s.tb.refOk = true → s.powered = true → s.sys.vddioB = true → 4 ≤ n → Runs (.tsiCapture n f) s (SameBut [.free] s))
  ∧ (∀ (s : State) (n : Nat), s.powered = false ∨ 4 ≤ n → exec (.tsiFifoPop n) s = .next s)
  ∧ (∀ (s : State) (n : Nat) (f : Bool), s.sys.vddioB = false ∨ s.tb.refOk = false ∨ s.powered = false → exec (.tsiCapture n f) s = .next s)
  ∧ (∀ (s : State) (n : Nat), s.powered = true → n < 4 →
    Runs (.tsiFifoPop n) s fun t => vget t.tb.tsi n {} = { vget s.tb.tsi n {} with fifo := (vget s.tb.tsi n {}).fifo.drop 1 }
      ∧ (∀ i, i ≠ n → vget t.tb.tsi i {} = vget s.tb.tsi i {}) ∧ t.tb = { s.tb with tsi := t.tb.tsi } ∧ SameBut [.tb] s t)

/-- Dispatch, posts, completion, faults and cancels (R282 to R293, R298). -/
def Obligations.HeddleDispatchesPostsAndCompletes : Prop :=
  (∀ (s : State) (c : Nat) (r : ReadyEntry), s.pick c = some r → r ∈ s.hdl.ready ∧ s.opRunning r.op = false
    ∧ ∃ g, s.gop r.op = some g ∧ bitOf g.affinity c = true ∧ s.opHeld g = false)
  ∧ (∀ (s : State) (c : Nat) (r x : ReadyEntry) (g : GOp), s.pick c = some r → x ∈ s.hdl.ready → s.gop x.op = some g → bitOf g.affinity c = true →
    s.opRunning x.op = false → s.opHeld g = false → s.servedFirst x r = false)
  ∧ (∀ (s : State) (c : Nat) (r : ReadyEntry) (g : GOp), s.powered = true → s.hdl.run = true → c ≤ 7 → (s.hcore c).waiting = true →
    (s.hcore c).opened = none → s.lowerDue c = false → s.pick c = some r → s.gop r.op = some g →
    Runs (.dispatch c) s fun t => (t.hcore c).opened = some r.op ∧ (t.hcore c).waiting = false ∧ (t.hcore c).entry = g.entry
      ∧ (t.hcore c).openAt = s.tb.taps ∧ (t.hcore c).staged = [] ∧ (t.hcore c).usedArcs = g.inArcs
      ∧ (∀ i, i < 8 → vget (t.hcore c).inputs i 0 = (g.inArcs.map fun a => (s.tokens a).headD 0).getD i 0)
      ∧ (∀ d, d ≠ c → t.hcore d = s.hcore d) ∧ (∀ a, a ∉ g.inArcs → t.tokens a = s.tokens a)
      ∧ (g.inArcs.Nodup → ∀ a, a ∈ g.inArcs → t.tokens a = (s.tokens a).drop 1)
      ∧ t.hdl.dispatches = satAdd 32 s.hdl.dispatches 1 ∧ t.hdl.delay = s.hdl.delay ∧ SameBut [.hdl, .evc] s t)
  ∧ (∀ (s : State) (c : Nat), s.hdl.run = false ∨ 7 < c ∨ (s.hcore c).waiting = false ∨ (s.hcore c).opened.isSome = true ∨ s.pick c = none
      ∨ (∃ i, i < c ∧ (s.hcore i).waiting = true ∧ (s.hcore i).opened = none ∧ (s.pick i).isSome = true) →
    exec (.dispatch c) s = .next s)
  ∧ (∀ (s : State) (c out n : Nat) (g : GOp), s.powered = true → c ≤ 7 → (s.hcore c).opened = some n → s.gop n = some g → out % 8 < g.nout →
    Runs (.hdlPost c out) s fun t => t.hcore c = { s.hcore c with staged := (s.hcore c).staged ++ [(out % 8, (s.hcore c).pval)] }
      ∧ (∀ d, d ≠ c → t.hcore d = s.hcore d) ∧ t.hdl = { s.hdl with cores := t.hdl.cores } ∧ SameBut [.hdl] s t)
  ∧ (∀ (s : State) (c out n : Nat) (g : GOp), s.powered = true → (s.hcore c).opened = some n → s.gop n = some g → g.nout ≤ out % 8 →
    exec (.hdlPost c out) s = exec (.operationFault c none) s)
  ∧ (∀ (s : State) (c out : Nat), (s.hcore c).opened = none →
    exec (.hdlPost c out) s = .next s ∧ exec (.hdlDone c out) s = .next s ∧ exec (.operationFault c none) s = .next s ∧ exec (.budgetExpiry c) s = .next s)
  ∧ (∀ (s : State) (c n v : Nat) (g : GOp), s.powered = true → c ≤ 7 → (s.hcore c).opened = some n → s.gop n = some g →
    g.budget = 0 ∨ s.tb.taps < (s.hcore c).openAt + g.budget * tapsUs → v % 2 = 1 →
    Runs (.hdlDone c v) s fun t => (t.hcore c).opened = none ∧ (t.hcore c).staged = [] ∧ t.hdl.opFault = s.hdl.opFault
      ∧ (∀ d, d ≠ c → t.hcore d = s.hcore d) ∧ t.mem = s.mem ∧ t.dict = s.dict ∧ SameBut [.hdl, .evc, .recd, .node] s t)
  ∧ (∀ (s : State) (c n v : Nat) (g : GOp), s.powered = true → c ≤ 7 → (s.hcore c).opened = some n → s.gop n = some g → g.budget ≠ 0 →
    (s.hcore c).openAt + g.budget * tapsUs ≤ s.tb.taps → v % 2 = 1 → exec (.hdlDone c v) s = exec (.budgetExpiry c) s)
  ∧ (∀ (s : State) (c v : Nat), 7 < c ∨ v % 2 = 0 → exec (.hdlDone c v) s = .next s)
  ∧ (∀ (s : State) (c : Nat), 7 < c → exec (.hdlNext c) s = .next s)
  ∧ (∀ (s : State) (c n : Nat) (g : GOp), s.powered = true → c ≤ 7 → (s.hcore c).opened = some n → s.gop n = some g → g.budget ≠ 0 →
    (s.hcore c).openAt + g.budget * tapsUs ≤ s.tb.taps →
    Runs (.hdlNext c) s fun t => (t.hcore c).opened = none ∧ (t.hcore c).waiting = true ∧ t.hdl.budget = satAdd 32 s.hdl.budget 1
      ∧ SameBut (.hdl :: faultParts) s t)
  ∧ (∀ (s : State) (c a : Nat), s.powered = true →
    Runs (.operationFault c (some a)) s fun t => t.hdl.memUe = satAdd 32 s.hdl.memUe 1 ∧ t.hdl.memUeAddr = (memAddr c a).getD a
      ∧ (t.hcore c).opened = none ∧ (∀ b, t.byteAt b = s.byteAt b) ∧ SameBut (.hdl :: .mem :: faultParts) s t)
  ∧ (∀ (s : State) (c : Nat), s.powered = true → c ≤ 7 → (s.hcore c).opened = none →
    Runs (.hdlNext c) s fun t => (t.hcore c) = { s.hcore c with waiting := true } ∧ (∀ d, d ≠ c → t.hcore d = s.hcore d)
      ∧ t.hdl = { s.hdl with cores := t.hdl.cores } ∧ SameBut [.hdl] s t)
  ∧ (∀ (s : State) (c n : Nat) (g : GOp), s.powered = true → c ≤ 7 → (s.hcore c).opened = some n → s.gop n = some g →
    g.budget = 0 ∨ s.tb.taps < (s.hcore c).openAt + g.budget * tapsUs →
    Runs (.hdlNext c) s fun t => (t.hcore c).opened = none ∧ (t.hcore c).waiting = true ∧ (∀ d, d ≠ c → t.hcore d = s.hcore d)
      ∧ SameBut [.hdl, .evc, .recd, .node] s t)
  ∧ (∀ (s : State) (c n : Nat) (g : GOp), s.powered = true → c ≤ 7 → (s.hcore c).opened = some n → s.gop n = some g → (s.opRun n).faults ≤ 1 →
    n < s.hdl.ops.length →
    Runs (.operationFault c none) s fun t => (t.hcore c).opened = none ∧ (t.hcore c).staged = [] ∧ (t.hcore c).waiting = false
      ∧ t.hdl.opFault = satAdd 32 s.hdl.opFault 1 ∧ (t.opRun n).faults = (s.opRun n).faults + 1 ∧ (t.opRun n).quarantined = (s.opRun n).quarantined
      ∧ t.mem = s.mem ∧ SameBut (.hdl :: faultParts) s t)
  ∧ (∀ (s : State) (c n : Nat) (g : GOp), s.powered = true → c ≤ 7 → (s.hcore c).opened = some n → s.gop n = some g → 2 ≤ (s.opRun n).faults →
    n < s.hdl.ops.length →
    Runs (.operationFault c none) s fun t => (t.opRun n).quarantined = true ∧ (∀ r ∈ t.hdl.ready, r.op ≠ n) ∧ SameBut (.hdl :: faultParts) s t)
  ∧ (∀ (s : State) (c n : Nat) (g : GOp), s.powered = true → c ≤ 7 → (s.hcore c).opened = some n → s.gop n = some g → g.budget ≠ 0 →
    (s.hcore c).openAt + g.budget * tapsUs ≤ s.tb.taps →
    Runs (.budgetExpiry c) s fun t => (t.hcore c).opened = none ∧ (t.hcore c).staged = [] ∧ t.hdl.budget = satAdd 32 s.hdl.budget 1
      ∧ t.hdl.opFault = s.hdl.opFault ∧ SameBut (.hdl :: faultParts) s t)
  ∧ (∀ (s : State) (c n : Nat) (g : GOp), (s.hcore c).opened = some n → s.gop n = some g →
    g.budget = 0 ∨ s.tb.taps < (s.hcore c).openAt + g.budget * tapsUs → exec (.budgetExpiry c) s = .next s)
  ∧ (∀ (s : State) (c op : Nat) (g : GOp), s.powered = true → c ≤ 7 → s.gop (op % 4096) = some g →
    Runs (.hdlCancel c op) s fun t => (∀ a, a ∈ g.inArcs → t.tokens a = []) ∧ (∀ a, a ∉ g.inArcs → t.tokens a = s.tokens a)
      ∧ t.hdl.ready = s.hdl.ready.filter (·.op != op % 4096) ∧ t.hdl.cores = s.hdl.cores ∧ SameBut [.hdl, .evc] s t)
  ∧ (∀ (s : State) (c op : Nat), 7 < c ∨ s.gop (op % 4096) = none → exec (.hdlCancel c op) s = .next s)
  ∧ (∀ (s : State) (code a : Nat), s.powered = true → s.lineUp code = true → s.arcsOf (fun p => p == .event code) = [a] →
    s.eventArcFree a = true → a < s.hdl.arcs.length → (∀ arc, s.graph.arcs[a]? = some arc → 1 ≤ arc.depth ∧ s.cancelledNow arc.consumer = none) →
    Runs (.eventToken code) s fun t => t.tokens a = [(s.blockLine code).1.toNat] ∧ t.hdl.cores = s.hdl.cores ∧ SameBut [.hdl, .evc, .node] s t)
  ∧ (∀ (s : State) (code : Nat), s.lineUp code = false ∨ (∀ a ∈ s.arcsOf (fun p => p == .event code), s.eventArcFree a = false) →
    exec (.eventToken code) s = .next s)
  ∧ (∀ (s : State) (c x : Nat) (u : Option Nat), s.powered = false →
    exec (.dispatch c) s = .next s ∧ exec (.hdlPost c x) s = .next s ∧ exec (.hdlDone c x) s = .next s ∧ exec (.hdlNext c) s = .next s
      ∧ exec (.operationFault c u) s = .next s ∧ exec (.budgetExpiry c) s = .next s ∧ exec (.hdlCancel c x) s = .next s ∧ exec (.eventToken c) s = .next s)

/-- Delay lists and the activation of a graph (R284, R295 to R297). -/
def Obligations.DelayListsAndGraphActivation : Prop :=
  (∀ (s : State) (c ticks arc l : Nat) (x : GArc), s.powered = true → c ≤ 7 → arc = (s.hcore c).dlya % 2 ^ 14 → l = (s.hcore c).dlya / 2 ^ 16 % 4 →
    s.graph.arcs[arc]? = some x → x.producer = .delay → (vget s.hdl.delay l {}).fill < 1024 →
    Runs (.hdlDly c ticks) s fun t => (∃ e ∈ (vget t.hdl.delay l {}).entries, e.due = (vget s.hdl.delay l {}).tick + ticks % 2 ^ 24 ∧ e.arc = arc
        ∧ e.value = (s.hcore c).dlyv ∧ e.handle = (t.hcore c).dlyh)
      ∧ (vget t.hdl.delay l {}).entries.length = (vget s.hdl.delay l {}).entries.length + 1 ∧ (vget t.hdl.delay l {}).out = (vget s.hdl.delay l {}).out
      ∧ (vget t.hdl.delay l {}).maxFill = max (vget s.hdl.delay l {}).maxFill ((vget s.hdl.delay l {}).fill + 1)
      ∧ (t.hcore c).dlyh / 2 ^ 30 = l ∧ (∀ i, i ≠ l → vget t.hdl.delay i {} = vget s.hdl.delay i {}) ∧ t.hdl.arcs = s.hdl.arcs
      ∧ t.node = { s.node with runs := t.node.runs } ∧ SameBut [.hdl, .node] s t)
  ∧ (∀ (s : State) (c ticks l : Nat), s.powered = true → c ≤ 7 → l = (s.hcore c).dlya / 2 ^ 16 % 4 →
    1024 ≤ (vget s.hdl.delay l {}).fill ∨ s.graph.arcs[(s.hcore c).dlya % 2 ^ 14]? = none
      ∨ (∃ x, s.graph.arcs[(s.hcore c).dlya % 2 ^ 14]? = some x ∧ x.producer ≠ .delay) →
    Runs (.hdlDly c ticks) s fun t => (t.hcore c).dlyh = 0xFFFFFFFF ∧ t.hdl.dlyRefused = satAdd 32 s.hdl.dlyRefused 1 ∧ t.hdl.delay = s.hdl.delay
      ∧ t.inRun .hdlDlyRefused 0 = true ∧ t.node = { s.node with runs := t.node.runs } ∧ SameBut [.hdl, .node, .recd, .evc] s t)
  ∧ (∀ (s : State) (c x : Nat), 7 < c → exec (.hdlDly c x) s = .next s ∧ exec (.hdlDlycan c x) s = .next s)
  ∧ (∀ (e : DlyEntry) (l : List DlyEntry), (∀ x ∈ l, x ∈ insertDly e l) ∧ e ∈ insertDly e l ∧ (insertDly e l).length = l.length + 1
    ∧ (l.Pairwise (fun a b => a.due ≤ b.due) → (insertDly e l).Pairwise fun a b => a.due ≤ b.due))
  ∧ (∀ (s : State) (c h : Nat) (e : DlyEntry), s.powered = true → c ≤ 7 → (vget s.hdl.delay (h / 2 ^ 30 % 4) {}).entries.find? (·.handle == h) = some e →
    Runs (.hdlDlycan c h) s fun t => (vget t.hdl.delay (h / 2 ^ 30 % 4) {}).entries = (vget s.hdl.delay (h / 2 ^ 30 % 4) {}).entries.filter (·.handle != h)
      ∧ (∀ i, i ≠ h / 2 ^ 30 % 4 → vget t.hdl.delay i {} = vget s.hdl.delay i {}) ∧ t.hdl.arcs = s.hdl.arcs ∧ t.hdl.cancelRace = s.hdl.cancelRace
      ∧ SameBut [.hdl] s t)
  ∧ (∀ (s : State) (c h : Nat) (e : DlyEntry) (es : List DlyEntry), s.powered = true → c ≤ 7 →
    (vget s.hdl.delay (h / 2 ^ 30 % 4) {}).entries.find? (·.handle == h) = none → (vget s.hdl.delay (h / 2 ^ 30 % 4) {}).out = e :: es →
    (e :: es).any (·.handle == h) = true →
    Runs (.hdlDlycan c h) s fun t => (vget t.hdl.delay (h / 2 ^ 30 % 4) {}).out = (e :: es).filter (·.handle != h) ∧ t.hdl.arcs = s.hdl.arcs
      ∧ t.hdl.cancelRace = (if e.handle = h then satAdd 32 s.hdl.cancelRace 1 else s.hdl.cancelRace) ∧ SameBut [.hdl, .evc] s t)
  ∧ (∀ (s : State) (c h : Nat), (vget s.hdl.delay (h / 2 ^ 30 % 4) {}).entries.find? (·.handle == h) = none →
    (∀ e ∈ (vget s.hdl.delay (h / 2 ^ 30 % 4) {}).out, e.handle ≠ h) → exec (.hdlDlycan c h) s = .next s)
  ∧ (∀ (s : State) (l : Nat), (vget (s.dlyRelease l).hdl.delay l {}).out = (vget s.hdl.delay l {}).out.drop 1
    ∧ (vget (s.dlyRelease l).hdl.delay l {}).entries = (vget s.hdl.delay l {}).entries)
  ∧ (∀ (s : State) (l : Nat), s.powered = true → l ≤ 3 → s.node.nodeState ≠ .boot →
    (vget s.hdl.delay l {}).lastAt + nsTaps (s.objEff (Obj.DLY_TICK0 + l)) ≤ s.tb.taps →
    Runs (.delayTick l) s fun t => (vget t.hdl.delay l {}).tick = (vget s.hdl.delay l {}).tick + 1
      ∧ (vget t.hdl.delay l {}).lastAt = (vget s.hdl.delay l {}).lastAt + nsTaps (s.objEff (Obj.DLY_TICK0 + l))
      ∧ ((∀ e ∈ (vget s.hdl.delay l {}).entries, e.since ≠ s.tb.taps) →
        (vget t.hdl.delay l {}).entries = (vget s.hdl.delay l {}).entries.filter (fun e => decide ((vget s.hdl.delay l {}).tick + 1 < e.due))
        ∧ (vget t.hdl.delay l {}).out = (vget s.hdl.delay l {}).out ++ (vget s.hdl.delay l {}).entries.filter (fun e => decide (e.due ≤ (vget s.hdl.delay l {}).tick + 1)))
      ∧ (vget t.hdl.delay l {}).fill = (vget s.hdl.delay l {}).fill
      ∧ (∀ i, i ≠ l → vget t.hdl.delay i {} = vget s.hdl.delay i {}) ∧ t.hdl.cores = s.hdl.cores ∧ SameBut [.hdl, .evc, .node, .recd] s t)
  ∧ (∀ (s : State) (l : Nat), 3 < l ∨ s.node.nodeState = .boot
      ∨ s.tb.taps < (vget s.hdl.delay l {}).lastAt + nsTaps (s.objEff (Obj.DLY_TICK0 + l)) → exec (.delayTick l) s = .next s)
  ∧ (∀ (s : State) (v : Nat), s.powered = true → v ≠ 1 → Runs (.graphActivate v) s (Refused .range Obj.GRAPH_ACTIVATE s))
  ∧ (∀ s : State, s.node.nodeState = .service ∨ s.node.nodeState = .hold → Runs (.graphActivate 1) s (Refused .state Obj.GRAPH_ACTIVATE s))
  ∧ (∀ s : State, s.powered = true → s.node.nodeState ≠ .service → s.node.nodeState ≠ .hold →
    (vget s.hdl.banks (1 - s.hdl.bank) {}).fwDigest ≠ s.fwDigest ∨ (vget s.hdl.banks (1 - s.hdl.bank) {}).ok = false →
    Runs (.graphActivate 1) s (Refused .refused Obj.GRAPH_ACTIVATE s))
  ∧ (∀ s : State, s.powered = true → s.node.nodeState ≠ .service → s.node.nodeState ≠ .hold →
    (vget s.hdl.banks (1 - s.hdl.bank) {}).fwDigest = s.fwDigest → (vget s.hdl.banks (1 - s.hdl.bank) {}).ok = true →
    Runs (.graphActivate 1) s fun t => t.hdl = { s.hdl with run := false, activating := true } ∧ t.obj Obj.GRAPH_ACTIVATE = 1
      ∧ t.dict = { s.dict with objs := t.dict.objs } ∧ SameBut [.dict, .hdl] s t)
  ∧ (∀ (s : State) (g : GraphImage), s.powered = true → s.hdl.activating = true → s.coresBusy = false → vget s.hdl.banks (1 - s.hdl.bank) {} = g →
    Runs .graphLoad s fun t => t.hdl.bank = 1 - s.hdl.bank ∧ t.graph = g ∧ t.hdl.activating = false ∧ t.hdl.run = !g.ops.isEmpty
      ∧ t.hdl.arcs = g.arcs.map GArc.initial ∧ (∀ l, l < 4 → (vget t.hdl.delay l {}).fill = 0) ∧ t.hdl.cores = s.hdl.cores
      ∧ (g.sections = [] → t.mem = s.mem) ∧ SameBut [.hdl, .mem] s t)
  ∧ (∀ s : State, s.hdl.activating = false ∨ s.coresBusy = true → exec .graphLoad s = .next s)
  ∧ (∀ (s : State) (c x : Nat), s.powered = false → exec (.hdlDly c x) s = .next s ∧ exec (.hdlDlycan c x) s = .next s ∧ exec (.delayTick c) s = .next s
    ∧ exec (.graphActivate x) s = .next s ∧ exec .graphLoad s = .next s)

/-- The scrubber, the load windows and the event counters (R278, R279, R299 to R302). -/
def Obligations.ScrubberLoadWindowsAndEventCounters : Prop :=
  (∀ (s : State) (addr a bits : Nat), s.powered = true → memAddr 0 addr = some a → s.mem.doubleAt (wordOf a) = false → wordOf a ≠ lastScrubWord →
    bits = 1 ∨ (bits = 0 ∧ s.mem.errors.any (·.addr == wordOf a) = true) →
    Runs (.scrubRead addr bits) s fun t => t.hdl.memCe = satAdd 32 s.hdl.memCe 1 ∧ (∀ b, t.byteAt b = s.byteAt b)
      ∧ (∀ e ∈ t.mem.errors, e.addr ≠ wordOf a) ∧ t.hdl.memUe = s.hdl.memUe ∧ SameBut [.mem, .hdl, .evc] s t)
  ∧ (∀ (s : State) (addr a bits : Nat), s.powered = true → memAddr 0 addr = some a → 2 ≤ bits ∨ s.mem.doubleAt (wordOf a) = true → wordOf a ≠ lastScrubWord →
    Runs (.scrubRead addr bits) s fun t => t.mem.doubleAt (wordOf a) = true ∧ (∀ b, t.byteAt b = s.byteAt b) ∧ t.hdl.memCe = s.hdl.memCe
      ∧ t.node = { s.node with runs := t.node.runs } ∧ SameBut [.mem, .hdl, .evc, .recd, .node] s t)
  ∧ (∀ (s : State) (addr a : Nat), s.powered = true → memAddr 0 addr = some a → (∀ e ∈ s.mem.errors, e.addr ≠ wordOf a) → wordOf a ≠ lastScrubWord →
    exec (.scrubRead addr 0) s = .next s)
  ∧ (∀ (s : State) (addr a bits : Nat), s.powered = true → wordOf a = lastScrubWord → memAddr 0 addr = some a →
    Runs (.scrubRead addr bits) s fun t => t.hdl.scrubMs = (s.tb.taps - s.hdl.scrubAt) / tapsMs % 2 ^ 32 ∧ t.hdl.scrubAt = s.tb.taps
      ∧ (s.tb.taps ≤ s.hdl.scrubAt + s.obj Obj.HDL_SCRUB_PERIOD * tapsMs → t.inRun .memScrubLate 0 = false) ∧ (∀ b, t.byteAt b = s.byteAt b)
      ∧ SameBut [.mem, .hdl, .evc, .recd, .node] s t)
  ∧ (∀ (s : State) (addr bits : Nat), memAddr 0 addr = none → exec (.scrubRead addr bits) s = .next s)
  ∧ (∀ s : State, s.powered = true → s.hdl.scrubAt + s.obj Obj.HDL_SCRUB_PERIOD * tapsMs < s.tb.taps →
    Runs .scrubLate s fun t => t.inRun .memScrubLate 0 = true ∧ t.node = { s.node with runs := t.node.runs } ∧ SameBut recordParts s t)
  ∧ (∀ s : State, s.tb.taps ≤ s.hdl.scrubAt + s.obj Obj.HDL_SCRUB_PERIOD * tapsMs → exec .scrubLate s = .next s)
  ∧ (∀ s : State, s.tb.taps < s.hdl.loadAt + s.obj Obj.LOAD_WINDOW * tapsMs → exec .loadWindowEnd s = .next s)
  ∧ (∀ s : State, s.powered = true → s.hdl.loadAt + s.obj Obj.LOAD_WINDOW * tapsMs ≤ s.tb.taps →
    Runs .loadWindowEnd s fun t => t.hdl.loadAt = s.tb.taps ∧ (∀ c, c < 8 → (t.hcore c).busy = 0 ∧ (t.hcore c).load ≤ 65535
        ∧ (s.hdl.loadAt < s.tb.taps → (t.hcore c).load = min 65535 ((s.hcore c).busy * 65536 / (s.tb.taps - s.hdl.loadAt)))
        ∧ (t.hcore c).opened = (s.hcore c).opened)
      ∧ t.hdl = { s.hdl with cores := t.hdl.cores, loadAt := t.hdl.loadAt } ∧ SameBut [.hdl] s t)
  ∧ (∀ (s : State) (n w : Nat), s.powered = true → n < 16 → s.obj (Obj.EC_MODE + 256 * n) = 2 → (vget s.evc.ec n {}).inWindow = false → s.ecDue n = some w →
    Runs (.ecWindowStart n) s fun t => (vget t.evc.ec n {}).inWindow = true ∧ (vget t.evc.ec n {}).winEnd = w + s.obj (Obj.EC_WLENGTH + 256 * n) * tapsUs
      ∧ (vget t.evc.ec n {}).startNt = s.obj (Obj.EC_WSTART + 256 * n) ∧ (vget t.evc.ec n {}).value = (vget s.evc.ec n {}).value
      ∧ (∀ i, i ≠ n → vget t.evc.ec i {} = vget s.evc.ec i {}) ∧ t.evc = { s.evc with ec := t.evc.ec } ∧ SameBut [.evc] s t)
  ∧ (∀ (s : State) (n : Nat), s.obj (Obj.EC_MODE + 256 * n) ≠ 2 ∨ 16 ≤ n ∨ (vget s.evc.ec n {}).inWindow = true ∨ s.ecDue n = none →
    exec (.ecWindowStart n) s = .next s)
  ∧ (∀ (s : State) (n : Nat), (vget s.evc.ec n {}).startTap = none ∨ (vget s.evc.ec n {}).startNt ≠ s.obj (Obj.EC_WSTART + 256 * n) →
    s.ecDue n = s.ecFirst n)
  ∧ (∀ (s : State) (n : Nat), s.tb.ntF < ntOf96 (s.obj (Obj.EC_WSTART + 256 * n)) → s.ecFirst n = none)
  ∧ (∀ (s : State) (n : Nat), ntOf96 (s.obj (Obj.EC_WSTART + 256 * n)) ≤ s.tb.ntF → ntOf96 (s.obj (Obj.EC_WSTART + 256 * n)) ≤ s.tb.ntFAt (s.tb.taps - 128) →
    s.ecFirst n = some (max s.tb.taps (vget s.evc.ec n {}).winEnd))
  ∧ (∀ (s : State) (n a w : Nat), (vget s.evc.ec n {}).startTap = some a → (vget s.evc.ec n {}).startNt = s.obj (Obj.EC_WSTART + 256 * n) →
    w = s.tb.taps - (s.tb.taps - a) % (s.obj (Obj.EC_WPERIOD + 256 * n) * tapsUs) →
    s.ecDue n = (if s.tb.taps < w + s.obj (Obj.EC_WLENGTH + 256 * n) * tapsUs ∧ (vget s.evc.ec n {}).winEnd ≤ w then some w else none))
  ∧ (∀ (s : State) (n : Nat), s.powered = true → n < 16 → (vget s.evc.ec n {}).inWindow = true → (vget s.evc.ec n {}).winEnd ≤ s.tb.taps →
    Runs (.ecWindowEnd n) s fun t => vget t.evc.ec n {} = { (vget s.evc.ec n {}).clear s.tb.taps with
        inWindow := false, cap := (vget s.evc.ec n {}).value }
      ∧ (vget t.evc.ec n {}).value = 0
      ∧ (∀ i, i ≠ n → vget t.evc.ec i {} = vget s.evc.ec i {}) ∧ t.evc.evt = setBit32 s.evc.evt n ∧ SameBut [.evc] s t)
  ∧ (∀ (s : State) (n : Nat), 16 ≤ n ∨ (vget s.evc.ec n {}).inWindow = false ∨ s.tb.taps < (vget s.evc.ec n {}).winEnd → exec (.ecWindowEnd n) s = .next s)
  ∧ (∀ (s : State) (n : Nat), s.powered = true → n < 16 →
    Runs (.ecLoRead n) s fun t => vget t.evc.ec n {} = { vget s.evc.ec n {} with hi := (vget s.evc.ec n {}).value / 2 ^ 32 }
      ∧ (∀ i, i ≠ n → vget t.evc.ec i {} = vget s.evc.ec i {}) ∧ t.evc = { s.evc with ec := t.evc.ec } ∧ SameBut [.evc] s t)
  ∧ (∀ (s : State) (n v : Nat) (mode : Bool), s.powered = true → n ≤ 15 → (if mode then v ≤ 2 else v ≤ 255 ∧ ecSourceOk v = true) →
    Runs (.ecConfigWrite n mode v) s fun t => t.obj ((if mode then Obj.EC_MODE else Obj.EC_SOURCE) + 256 * n) = v
      ∧ (vget t.evc.ec n {}).value = 0 ∧ (vget t.evc.ec n {}).cap = 0 ∧ (vget t.evc.ec n {}).hi = 0
      ∧ (vget t.evc.ec n {}).startTap = (vget s.evc.ec n {}).startTap
      ∧ (vget t.evc.ec n {}).inWindow = (if mode = true ∧ v ≠ 2 then false else (vget s.evc.ec n {}).inWindow)
      ∧ (∀ i, i ≠ n → vget t.evc.ec i {} = vget s.evc.ec i {}) ∧ t.dict = { s.dict with objs := t.dict.objs } ∧ SameBut [.dict, .evc] s t)
  ∧ (∀ (s : State) (n v : Nat) (mode : Bool), s.powered = true → 15 < n →
    Runs (.ecConfigWrite n mode v) s (Refused .noObject ((if mode then Obj.EC_MODE else Obj.EC_SOURCE) + 256 * n) s))
  ∧ (∀ (s : State) (n v : Nat) (mode : Bool), s.powered = true → n ≤ 15 → (if mode then 2 < v else 255 < v ∨ ecSourceOk v = false) →
    Runs (.ecConfigWrite n mode v) s (Refused .range ((if mode then Obj.EC_MODE else Obj.EC_SOURCE) + 256 * n) s))
  ∧ (∀ (s : State) (n : Nat), 16 ≤ n → exec (.ecLoRead n) s = .next s)
  ∧ (∀ (s : State) (n v : Nat) (mode : Bool), s.powered = false →
    exec (.scrubRead n v) s = .next s ∧ exec .scrubLate s = .next s ∧ exec .loadWindowEnd s = .next s ∧ exec (.ecWindowStart n) s = .next s
      ∧ exec (.ecWindowEnd n) s = .next s ∧ exec (.ecLoRead n) s = .next s ∧ exec (.ecConfigWrite n mode v) s = .next s)
  ∧ (∀ (m n : Nat) (e : Ec), e.count m n = (if m = 1 ∨ (m = 2 ∧ e.inWindow = true) then { e with value := (e.value + n) % 2 ^ 48 } else e))

/-- Holding, acceptance and application of journal entries (R311 to R323). -/
def Obligations.EntriesAreHeldAcceptedAndApplied : Prop :=
  (∀ (s : State) (port : Nat) (e : JEntry), s.tb.refOk = true → s.powered = true → s.isMember = false → port < 6 → e.lane = s.ownLane → e.accepted = true →
    e.jsn ≤ s.laneDue s.ownLane →
    exec (.entryReceive port e) s = .next { s with jrn := { s.jrn with dups := satAdd 32 s.jrn.dups 1 } })
  ∧ (∀ (s : State) (port : Nat) (e : JEntry), s.tb.refOk = true → s.powered = true → s.isMember = false → port < 6 → e.lane = s.ownLane → e.accepted = true →
    s.dict.userPending = [] → (s.laneOf s.ownLane).applied < e.jsn → e.pjsn = (s.laneOf s.ownLane).applied → (s.laneOf s.ownLane).gapped = [] → s.concerns e = false →
    Runs (.entryReceive port e) s fun t => t.laneOf s.ownLane = { s.laneOf s.ownLane with applied := e.jsn }
      ∧ (∀ l, l ≠ s.ownLane → t.laneOf l = s.laneOf l) ∧ t.jrn = { s.jrn with lanes := t.jrn.lanes } ∧ SameBut [.jrn] s t)
  ∧ (∀ (s : State) (port : Nat) (e : JEntry), s.tb.refOk = true → s.powered = true → s.isMember = false → port < 6 → e.lane = s.ownLane → e.accepted = true →
    s.dict.userPending = [] → (s.laneOf s.ownLane).applied < e.jsn → e.pjsn = (s.laneOf s.ownLane).applied → (s.laneOf s.ownLane).gapped = [] → s.concerns e = true →
    e.etype = .fence →
    Runs (.entryReceive port e) s fun t => (t.laneOf s.ownLane).applied = e.jsn ∧ t.jrn.lastFence = e.value ∧ t.jrn.lastFenceJsn = e.jsn
      ∧ (∀ n, n < 16 → (vget t.evc.ec n {}).fsn
            = (if (vget s.evc.ec n {}).clrAt = some s.tb.taps then (vget s.evc.ec n {}).clrVal else (vget s.evc.ec n {}).value) ∧ (vget t.evc.ec n {}).fid = e.value % 2 ^ 32)
      ∧ t.node = { s.node with runs := t.node.runs } ∧ SameBut (.jrn :: recordParts) s t)
  ∧ (∀ (s : State) (port : Nat) (e : JEntry), s.tb.refOk = true → s.powered = true → s.isMember = false → port < 6 → e.lane = s.ownLane → e.accepted = true →
    s.dict.userPending = [] → (s.laneOf s.ownLane).applied < e.jsn → e.pjsn = (s.laneOf s.ownLane).applied → (s.laneOf s.ownLane).gapped = [] → s.concerns e = true →
    e.etype = .write → s.entryWaits e = false → e.confirm = false → e.jsn ≤ s.objJsn (e.index * 256 + e.sub) →
    Runs (.entryReceive port e) s fun t => t.laneOf s.ownLane = { s.laneOf s.ownLane with applied := e.jsn } ∧ SameBut [.jrn] s t)
  ∧ (∀ (s : State) (port : Nat) (e : JEntry), s.tb.refOk = true → s.powered = true → s.isMember = false → port < 6 → e.lane = s.ownLane → e.accepted = true →
    s.dict.userPending = [] → (s.laneOf s.ownLane).applied < e.jsn → e.pjsn = (s.laneOf s.ownLane).applied → (s.laneOf s.ownLane).gapped = [] → s.concerns e = true →
    e.etype = .write → s.entryWaits e = false → e.confirm = false → s.objJsn (e.index * 256 + e.sub) < e.jsn →
    s.writeCheck s.node.role (e.index * 256 + e.sub) e.value e.role ≠ .ok →
    Runs (.entryReceive port e) s fun t => t.laneOf s.ownLane = { s.laneOf s.ownLane with applied := e.jsn } ∧ t.dict.objs = s.dict.objs
      ∧ t.dict.refusedCount = satAdd 32 s.dict.refusedCount 1 ∧ SameBut (.jrn :: .dict :: recordParts) s t)
  ∧ (∀ (s : State) (port : Nat) (e : JEntry), s.tb.refOk = true → s.powered = true → s.isMember = false → port < 6 → e.lane = s.ownLane → e.accepted = true →
    s.laneDue s.ownLane < e.jsn → e.pjsn ≠ s.laneDue s.ownLane → (s.laneOf s.ownLane).gapped.length < 16 →
    (∀ x ∈ (s.laneOf s.ownLane).gapped, x.jsn ≠ e.jsn) →
    Runs (.entryReceive port e) s fun t => t.laneOf s.ownLane = { s.laneOf s.ownLane with gapped := (s.laneOf s.ownLane).gapped ++ [e] }
      ∧ t.jrn.catchups = satAdd 32 s.jrn.catchups 1 ∧ t.dict = s.dict ∧ SameBut (.jrn :: .link :: recordParts) s t)
  ∧ (∀ (s : State) (port : Nat) (e : JEntry), s.tb.refOk = true → s.powered = true → s.isMember = false → port < 6 → e.lane = s.ownLane → e.accepted = true →
    s.laneDue s.ownLane < e.jsn → e.pjsn = s.laneDue s.ownLane → (s.laneOf s.ownLane).gapped = [] →
    s.dict.userPending ≠ [] ∨ s.entryWaits e = true →
    Runs (.entryReceive port e) s fun t => t.dict = { s.dict with userPending := s.dict.userPending ++ [e] } ∧ SameBut [.dict] s t)
  ∧ (∀ (s : State) (port : Nat) (e : JEntry), e.lane ≠ s.ownLane ∨ 6 ≤ port ∨ (s.isMember = false ∧ e.accepted = false)
      ∨ s.tb.refOk = false ∨ s.powered = false →
    exec (.entryReceive port e) s = .next s)
  ∧ (∀ (s : State) (port : Nat) (e : JEntry), s.tb.refOk = true → s.powered = true → s.takesEntries = true → port < 6 →
    e.lane = s.ownLane → e.jsn ≤ laneLast (s.laneOf s.ownLane) →
    exec (.entryReceive port e) s = .next { s with jrn := { s.jrn with dups := satAdd 32 s.jrn.dups 1 } })
  ∧ (∀ (s : State) (port : Nat) (e : JEntry), s.tb.refOk = true → s.powered = true → s.takesEntries = true → s.isActive = false → port < 6 →
    e.lane = s.ownLane → laneLast (s.laneOf s.ownLane) < e.jsn → e.pjsn = laneLast (s.laneOf s.ownLane) → e.accepted = false →
    (s.laneOf s.ownLane).gapped = [] → (∀ h ∈ (s.laneOf s.ownLane).entries, h.e.jsn ≤ (s.laneOf s.ownLane).applied ∨ h.accepted = false) →
    s.dict.userPending = [] →
    Runs (.entryReceive port e) s fun t => (t.laneOf s.ownLane).entries.map (·.e) = (s.laneOf s.ownLane).entries.map (·.e) ++ [e]
      ∧ (t.laneOf s.ownLane).applied = (s.laneOf s.ownLane).applied ∧ t.jrn.journalBytes = s.jrn.journalBytes + entrySize e
      ∧ SameBut (.jrn :: .bob :: .link :: recordParts) s t)
  ∧ (∀ (s : State) (port : Nat) (e : JEntry), s.tb.refOk = true → s.powered = true → s.isMember = true → s.jrn.pstate = .resync → s.jrn.snapDone = false → port < 6 →
    e.lane = s.ownLane →
    exec (.entryReceive port e) s = .next { s with jrn := { s.jrn with snapStored := s.jrn.snapStored ++ [e] } })
  ∧ (∀ (s : State) (lane jsn : Nat), s.isActive = false ∨ lane ≠ s.ownLane ∨ s.tb.refOk = false → exec (.commitAckReceive lane jsn) s = .next s)
  ∧ (∀ (s : State) (lane jsn : Nat), s.tb.refOk = true → s.powered = true → s.isActive = true → lane = s.ownLane → s.jrn.alone = false →
    (∀ h ∈ (s.laneOf lane).entries, h.accepted = true ∨ jsn < h.e.jsn ∧ h.acked = false) →
    (∀ h ∈ (s.laneOf lane).entries, h.e.jsn ≤ (s.laneOf lane).applied ∨ h.accepted = false) → s.dict.userPending = [] →
    Runs (.commitAckReceive lane jsn) s fun t => (t.laneOf lane).applied = (s.laneOf lane).applied
      ∧ (t.laneOf lane).entries = (s.laneOf lane).entries.map (fun h => if h.e.jsn ≤ jsn then { h with acked := true } else h) ∧ SameBut [.jrn] s t)
  ∧ (∀ (s : State) (lane jsn : Nat) (h : HeldEntry), s.tb.refOk = true → s.powered = true → s.isActive = true → s.isArm = true → lane = s.ownLane →
    (s.laneOf lane).entries = [h] → h.committed = true → h.accepted = false → h.e.jsn ≤ jsn → (s.laneOf lane).applied < h.e.jsn → s.concerns h.e = false →
    s.dict.userPending = [] →
    Runs (.commitAckReceive lane jsn) s fun t => (t.laneOf lane).entries
        = [{ h with acked := true, accepted := true, e := { h.e with applyAt := s.applyAtNow, accepted := true } }]
      ∧ (t.laneOf lane).applied = h.e.jsn ∧ SameBut (.jrn :: .link :: recordParts) s t)
  ∧ (∀ (s : State) (lane jsn k : Nat), s.isMember = false ∨ s.isActive = true ∨ lane ≠ s.ownLane ∨ s.tb.refOk = false → exec (.acceptReceive lane jsn k) s = .next s)
  ∧ (∀ (s : State) (lane jsn k : Nat), s.tb.refOk = true → s.powered = true → s.isMember = true → s.isActive = false → lane = s.ownLane →
    (∀ h ∈ (s.laneOf lane).entries, s.concerns h.e = false) → jsn ≤ laneCommitted (s.laneOf lane) → s.dict.userPending = [] →
    Runs (.acceptReceive lane jsn k) s fun t => (∀ h ∈ (t.laneOf lane).entries, h.e.jsn ≤ jsn → h.accepted = true)
      ∧ (∀ h ∈ (t.laneOf lane).entries, h.e.jsn = jsn → h.e.applyAt = k) ∧ (t.laneOf lane).entries.map (·.e.jsn) = (s.laneOf lane).entries.map (·.e.jsn)
      ∧ (s.laneOf lane).applied ≤ (t.laneOf lane).applied ∧ SameBut [.jrn] s t)
  ∧ (∀ (s : State) (lane jsn k : Nat), s.tb.refOk = true → s.powered = true → s.isMember = true → s.jrn.pstate = .standby → s.jrn.healthyWas = true → lane = s.ownLane →
    (∀ h ∈ (s.laneOf lane).entries, s.concerns h.e = false) → laneCommitted (s.laneOf lane) < jsn → s.dict.userPending = [] →
    Runs (.acceptReceive lane jsn k) s fun t => t.jrn.pstate = .unhealthy ∧ t.jrn.upLostTx = true ∧ bitOf t.jrn.health 1 = false
      ∧ SameBut [.jrn, .dict] s t)
  ∧ (∀ (s : State) (src lane epoch jsn : Nat), s.isStation = false ∨ 15 < lane ∨ s.tb.refOk = false → exec (.acceptedReceive src lane epoch jsn) s = .next s)
  ∧ (∀ (s : State) (src lane epoch jsn : Nat), s.tb.refOk = true → s.powered = true → s.isStation = true → lane ≤ 15 → s.isActive = false → s.dict.waiting = [] →
    Runs (.acceptedReceive src lane epoch jsn) s fun t => (∀ h ∈ (t.laneOf lane).entries, h.e.jsn ≤ jsn → h.accepted = true)
      ∧ (∀ x, x ∈ t.jrn.fencePending ↔ x ∈ s.jrn.fencePending ∧ ¬(x.2 = lane ∧ x.1 ≤ jsn))
      ∧ (∀ l, l ≠ lane → t.laneOf l = s.laneOf l) ∧ t.jrn.lastJsn = s.jrn.lastJsn ∧ SameBut [.jrn] s t)
  ∧ (∀ (s : State) (src lane epoch jsn : Nat), s.tb.refOk = true → s.powered = true → s.isStation = true → lane ≤ 15 → s.isActive = true → s.dict.waiting = [] →
    s.jrn.fencePending = [] → s.jrn.alone = false → (s.laneOf 0xFFFF).entries = [] → s.armEpoch lane < epoch →
    Runs (.acceptedReceive src lane epoch jsn) s fun t => t.armEpoch lane = epoch ∧ lane ∈ t.jrn.busyArms ∧ t.jrn.lastJsn = s.jrn.lastJsn + 1
      ∧ SameBut (.jrn :: .link :: .bob :: recordParts) s t)
  ∧ (∀ (s : State) (src jsn c status : Nat) (w : Waiting), s.tb.refOk = true → s.powered = true → s.isStation = true → c ≠ 0 →
    s.dict.waiting.find? (fun x => x.jsn == c && x.jsn != 0 && x.confirm) = some w →
    Runs (.appliedReceive src jsn c status) s fun t => w ∉ t.dict.waiting
      ∧ (∃ r ∈ t.dict.responses, r.tid = w.tid ∧ r.status = statusOfCode status ∧ r.target = w.target) ∧ SameBut [.free, .jrn, .dict, .link] s t)
  ∧ (∀ (s : State) (src jsn confirm status : Nat), s.isMember = false ∨ s.tb.refOk = false → exec (.appliedReceive src jsn confirm status) s = .next s)
  ∧ (∀ (s : State) (src jsn status : Nat), s.tb.refOk = true → s.powered = true → s.isMember = true →
    Runs (.appliedReceive src jsn 0 status) s fun t => (∃ x ∈ t.jrn.targets, x.addr = src ∧ jsn ≤ x.applied)
      ∧ (∀ x ∈ s.jrn.targets, x.addr ≠ src → x ∈ t.jrn.targets) ∧ t.jrn = { s.jrn with targets := t.jrn.targets } ∧ SameBut [.free, .jrn] s t)
  ∧ (∀ (s : State) (k : Nat), s.takesEntries = false ∨ s.powered = false → exec (.applyAtReached k) s = .next s)
  ∧ (∀ (s : State) (k : Nat) (h : HeldEntry), s.powered = true → s.takesEntries = true → s.dict.userPending = [] →
    (s.laneOf s.ownLane).entries.find? (fun x => decide ((s.laneOf s.ownLane).applied < x.e.jsn)) = some h →
    h.accepted = false ∨ (s.concerns h.e = true ∧ k < h.e.applyAt) → exec (.applyAtReached k) s = .next s)
  ∧ (∀ (s : State) (k : Nat) (h : HeldEntry), s.powered = true → s.takesEntries = true → s.dict.userPending = [] →
    (s.laneOf s.ownLane).entries.filter (fun x => decide ((s.laneOf s.ownLane).applied < x.e.jsn)) = [h] →
    h.accepted = true → s.concerns h.e = false →
    Runs (.applyAtReached k) s fun t => t.laneOf s.ownLane = { s.laneOf s.ownLane with applied := h.e.jsn } ∧ SameBut [.jrn] s t)
  ∧ (∀ (s : State) (k : Nat) (h : HeldEntry), s.powered = true → s.takesEntries = true → s.dict.userPending = [] →
    (s.laneOf s.ownLane).entries.filter (fun x => decide ((s.laneOf s.ownLane).applied < x.e.jsn)) = [h] →
    h.accepted = true → s.concerns h.e = true → h.e.applyAt ≤ k → h.e.etype = .fence →
    Runs (.applyAtReached k) s fun t => (t.laneOf s.ownLane).applied = h.e.jsn ∧ t.jrn.lastFence = h.e.value ∧ t.jrn.lastFenceJsn = h.e.jsn
      ∧ SameBut (.jrn :: recordParts) s t)

/-- HEAD, CATCHUP, state transfer, trimming and the SNAPSHOT partition (R314, R321 to R323). -/
def Obligations.HeadsCatchUpsTransfersAndTrimming : Prop :=
  (∀ (s : State) (lane : Nat), s.isActive = false ∨ (s.isArm = true ∧ lane ≠ s.node.arm) ∨ (s.isArm = false ∧ lane ≠ 0xFFFE) ∨ s.headDue = false ∨ s.powered = false →
    exec (.headSend lane) s = .next s)
  ∧ (∀ (s : State) (lane p : Nat), s.powered = true → s.isActive = true → s.isArm = true → lane = s.node.arm → s.headDue = true →
    (s.routeDown s.memberB (cellAddr lane 0x3FFF)).filter s.lit = [p] → p < 6 →
    (s.port p).fits (s.mkFrame .journal .down (cellAddr lane 0x3FFF) false (vget s.link.eseq FloenClass.journal.code 0) (s.headBytes lane)) = true →
    Runs (.headSend lane) s fun t => (t.port p).queue = (s.port p).queue
        ++ [⟨s.mkFrame .journal .down (cellAddr lane 0x3FFF) false (vget s.link.eseq FloenClass.journal.code 0) (s.headBytes lane), s.tb.taps⟩]
      ∧ (∀ q, q ≠ p → t.port q = s.port q) ∧ t.node = { s.node with runs := t.node.runs }
      ∧ t.jrn = { s.jrn with headAt := some s.tb.taps } ∧ SameBut [.link, .node, .jrn] s t)
  ∧ (∀ (s : State) (lane : Nat), s.powered = true → Runs (.headSend lane) s fun t => t.jrn = { s.jrn with headAt := t.jrn.headAt }
      ∧ (s.isActive = true → s.headsLane lane = true → s.headDue = true → t.jrn.headAt = some s.tb.taps) ∧ SameBut (.jrn :: .link :: recordParts) s t)
  ∧ (∀ (s : State) (lane head trim : Nat), lane ≠ s.ownLane ∨ s.tb.refOk = false → exec (.headReceive lane head trim) s = .next s)
  ∧ (∀ (s : State) (lane head trim : Nat), s.tb.refOk = true → s.powered = true → s.isMember = false → lane = s.ownLane →
    Runs (.headReceive lane head trim) s fun t => t.laneOf lane = { s.laneOf lane with head := head, trim := trim } ∧ t.jrn.headSeen = true
      ∧ (∀ l, l ≠ lane → t.laneOf l = s.laneOf l) ∧ t.jrn = { s.jrn with lanes := t.jrn.lanes, headSeen := true }
      ∧ SameBut (.jrn :: .link :: recordParts) s t)
  ∧ (∀ (s : State) (lane head trim : Nat), s.tb.refOk = true → s.powered = true → s.isMember = true → lane = s.ownLane →
    Runs (.headReceive lane head trim) s fun t => t.jrn = { s.jrn with headSeen := true } ∧ SameBut (.jrn :: .link :: recordParts) s t)
  ∧ (∀ (s : State) (src lane applied : Nat) (unclean : Bool), s.isActive = false ∨ s.journalsLane lane = false ∨ s.tb.refOk = false →
    exec (.catchupReceive src lane applied unclean) s = .next s)
  ∧ (∀ (s : State) (src lane applied : Nat) (unclean : Bool), s.tb.refOk = true → s.powered = true → s.isActive = true → s.journalsLane lane = true →
    Runs (.catchupReceive src lane applied unclean) s fun t => (∃ x ∈ t.jrn.targets, x.addr = src ∧ applied ≤ x.applied)
      ∧ (∀ x ∈ s.jrn.targets, x.addr ≠ src → x ∈ t.jrn.targets) ∧ t.jrn = { s.jrn with targets := t.jrn.targets }
      ∧ SameBut (.free :: .jrn :: .link :: .bob :: recordParts) s t)
  ∧ (∀ (s : State) (base : Nat) (rs : List ImageRec) (last : Bool), s.tb.refOk = false ∨ s.powered = false → exec (.imageReceive base rs last) s = .next s)
  ∧ (∀ (s : State) (base : Nat) (rs : List ImageRec), s.tb.refOk = true → s.powered = true →
    exec (.imageReceive base rs false) s = .next { s with jrn := { s.jrn with imageRx := s.jrn.imageRx ++ rs } })
  ∧ (∀ (s : State) (base : Nat) (rs : List ImageRec), s.tb.refOk = true → s.powered = true → imageComplete (s.jrn.imageRx ++ rs) = false →
    Runs (.imageReceive base rs true) s fun t => t.jrn = { s.jrn with imageRx := [] } ∧ t.dict = s.dict ∧ SameBut (.jrn :: .link :: recordParts) s t)
  ∧ (∀ (s : State) (base : Nat), s.tb.refOk = true → s.powered = true → s.jrn.imageRx = [] → s.dict.objs = [] → s.dict.userPending = [] → (s.laneOf s.ownLane).gapped = [] →
    Runs (.imageReceive base [] true) s fun t => (t.laneOf s.ownLane).applied = base ∧ t.dict = s.dict
      ∧ t.jrn.transfers = satAdd 32 s.jrn.transfers 1 ∧ t.jrn.unclean = false
      ∧ (∀ h, h ∈ (t.laneOf s.ownLane).entries ↔ h ∈ (s.laneOf s.ownLane).entries ∧ base < h.e.jsn) ∧ t.mem = s.mem)
  ∧ (∀ (s : State) (base : Nat) (r : ImageRec), s.tb.refOk = true → s.powered = true → s.jrn.imageRx = [] → s.dict.objs = [] → s.dict.userPending = [] → (s.laneOf s.ownLane).gapped = [] →
    r.isFence = true → r.offset = 0 → r.bytes.length = r.total → 0 < r.total →
    Runs (.imageReceive base [r] true) s fun t => (t.laneOf s.ownLane).applied = base ∧ t.jrn.lastFence = leNat r.bytes
      ∧ t.jrn.lastFenceJsn = r.jsn ∧ t.dict = s.dict ∧ t.mem = s.mem)
  ∧ (∀ (s : State) (base : Nat) (rs : List ImageRec), s.tb.refOk = true → s.powered = true → s.isMember = true → imageComplete (s.jrn.imageRx ++ rs) = true →
    Runs (.imageReceive base rs true) s fun t => (t.laneOf s.ownLane).applied = base ∧ t.jrn.transfers = satAdd 32 s.jrn.transfers 1
      ∧ t.jrn.imageRx = [] ∧ t.jrn.unclean = false)
  ∧ (∀ (s : State) (lane : Nat), s.holdsLane lane = false ∨ s.powered = false → exec (.trimAdvance lane) s = .next s)
  ∧ (∀ (s : State) (lane : Nat), s.powered = true → s.holdsLane lane = true →
    Runs (.trimAdvance lane) s fun t => (∃ gone, (s.laneOf lane).entries = gone ++ (t.laneOf lane).entries ∧ ∀ h ∈ gone, h.accepted = true)
      ∧ (t.laneOf lane).applied = (s.laneOf lane).applied ∧ (∀ l, l ≠ lane → t.laneOf l = s.laneOf l) ∧ t.jrn.targets = s.jrn.targets
      ∧ SameBut (.jrn :: recordParts) s t)
  ∧ (∀ (s : State) (lane : Nat), s.powered = true → s.holdsLane lane = true → s.bob.mounted = false →
    (∀ h ∈ (s.laneOf lane).entries, h.e.jsn ≤ s.lowestApplied lane ∧ h.accepted = true ∧ (lane = s.ownLane → h.e.jsn ≤ (s.laneOf lane).applied)) →
    Runs (.trimAdvance lane) s fun t => (t.laneOf lane).entries = [] ∧ (∀ h ∈ (s.laneOf lane).entries.getLast?, (t.laneOf lane).trim = h.e.jsn)
      ∧ t.inRun .jrnFull 0 = false)
  ∧ (∀ s : State, s.powered = true → s.storeTakes = true →
    Runs .snapshotWrite s fun t => t.bob.snap.valid = true ∧ (∀ c, c ∈ t.bob.snap.objs ↔ c ∈ s.dict.objs ∧ isPers c.key = true)
      ∧ t.bob.snap.applied = (s.laneOf s.ownLane).applied ∧ t.bob.snap.bypass = s.node.bypassMark ∧ 3 ∈ t.bob.work
      ∧ t.bob = { s.bob with snap := t.bob.snap, work := t.bob.work, preempts := t.bob.preempts } ∧ SameBut [.bob] s t)
  ∧ (∀ s : State, s.storeTakes = false ∨ s.powered = false → exec .snapshotWrite s = .next s)

/-- PAIR frames, the pair states of R329 and the commit set (R312, R316, R329 to R332). -/
def Obligations.PairFramesDecideStateAndCommitSet : Prop :=
  (∀ s : State, s.isMember = false ∨ s.node.joined = false ∨ s.pairDue = false ∨ s.powered = false → exec .pairSend s = .next s)
  ∧ (∀ s : State, s.powered = true → s.isMember = true → s.node.joined = true → s.pairDue = true →
    Runs .pairSend s fun t => (s.jrn.pstate = .none → t.jrn.pstate = if s.tb.state = .locked then .init else .none)
      ∧ (s.jrn.pstate ≠ .none → t.jrn = { s.jrn with pairAt := some s.tb.taps }) ∧ t.jrn.pairAt = some s.tb.taps ∧ t.jrn.epoch = s.jrn.epoch ∧ SameBut (.jrn :: .link :: recordParts) s t)
  ∧ (∀ (s : State) (m : PairMsg), s.isMember = false ∨ s.tb.refOk = false → exec (.pairReceive m) s = .next s)
  ∧ (∀ (s : State) (m : PairMsg), s.tb.refOk = true → s.powered = true → s.isMember = true → s.jrn.pstate = .yielded →
    Runs (.pairReceive m) s fun t => t.jrn.partner = some m ∧ t.jrn.partnerTap = s.tb.taps ∧ t.jrn.pstate = .yielded ∧ t.dict = s.dict
      ∧ t.jrn.epoch = (if m.pstate = .active then max s.jrn.epoch m.epoch else s.jrn.epoch) ∧ t.mem = s.mem ∧ t.gate = s.gate ∧ t.trdl = s.trdl)
  ∧ (∀ (s : State) (m : PairMsg), s.tb.refOk = true → s.powered = true → s.isMember = true → s.jrn.pstate = .init → m.pstate = .active →
    m.progDigest = digest4 s.programDigest → m.graphDigest = digest4 s.graphDigest →
    Runs (.pairReceive m) s fun t => t.jrn.partner = some m
      ∧ t.jrn.pstate = (if s.objB Obj.AUTO_RESYNC then .resync else .unhealthy) ∧ t.jrn.upLostTx = true ∧ t.jrn.epoch = max s.jrn.epoch m.epoch)
  ∧ (∀ (s : State) (m : PairMsg), s.tb.refOk = true → s.powered = true → s.isMember = true → s.jrn.pstate = .init → m.pstate = .init → s.winsOver m = false →
    m.progDigest = digest4 s.programDigest → m.graphDigest = digest4 s.graphDigest →
    Runs (.pairReceive m) s fun t => t.jrn.partner = some m ∧ t.jrn.pstate = .resync ∧ t.jrn.resyncs = satAdd 32 s.jrn.resyncs 1
      ∧ t.jrn.epoch = s.jrn.epoch ∧ t.jrn.snapTap = s.tb.taps ∧ t.jrn.snapParts = [] ∧ t.jrn.verified = false)
  ∧ (∀ (s : State) (m : PairMsg), s.tb.refOk = true → s.powered = true → s.isMember = true → s.jrn.pstate = .init → m.pstate = .init ∨ m.pstate = .resync →
    s.winsOver m = true → m.progDigest = digest4 s.programDigest → m.graphDigest = digest4 s.graphDigest → (s.laneOf s.ownLane).entries = [] →
    Runs (.pairReceive m) s fun t => t.jrn.partner = some m ∧ t.jrn.pstate = .active ∧ t.jrn.alone = true ∧ t.jrn.upLostTx = false
      ∧ t.jrn.epoch = s.jrn.epoch ∧ t.jrn.activeFrom = s.pairCycle + 1)
  ∧ (∀ (s : State) (m : PairMsg), s.tb.refOk = true → s.powered = true → s.isMember = true → s.jrn.pstate = .init →
    (m.pstate = .resync ∧ s.winsOver m = false) ∨ m.pstate = .none ∨ m.pstate = .standby ∨ m.pstate = .unhealthy ∨ m.pstate = .yielded →
    m.progDigest = digest4 s.programDigest → m.graphDigest = digest4 s.graphDigest →
    Runs (.pairReceive m) s fun t => t.jrn.partner = some m ∧ t.jrn.pstate = .init ∧ t.jrn.epoch = s.jrn.epoch ∧ SameBut [.jrn, .node] s t)
  ∧ (∀ (s : State) (m : PairMsg), s.tb.refOk = true → s.powered = true → s.isMember = true → s.jrn.pstate = .active → (s.laneOf s.ownLane).entries = [] →
    m.progDigest = digest4 s.programDigest → m.graphDigest = digest4 s.graphDigest →
    Runs (.pairReceive m) s fun t => t.jrn.partner = some m ∧ t.jrn.pstate = .active ∧ t.jrn.epoch = s.jrn.epoch
      ∧ t.jrn.dropped = (if m.pstate = .standby ∧ m.health = 63 then s.jrn.dropped else if s.jrn.alone then s.jrn.dropped && m.pstate != .resync else true)
      ∧ t.jrn.alone = (if m.pstate = .standby ∧ m.health = 63 then s.jrn.alone && s.jrn.dropped else true) ∧ SameBut (.jrn :: recordParts) s t)
  ∧ (∀ (s : State) (m : PairMsg), s.tb.refOk = true → s.powered = true → s.isMember = true → s.jrn.pstate = .resync →
    m.progDigest = digest4 s.programDigest → m.graphDigest = digest4 s.graphDigest →
    Runs (.pairReceive m) s fun t => t.jrn.partner = some m ∧ t.jrn.pstate = (if m.pstate = .active ∨ m.pstate = .init then .resync else .unhealthy)
      ∧ t.jrn.resyncAborts = (if m.pstate = .active ∨ m.pstate = .init then s.jrn.resyncAborts else satAdd 32 s.jrn.resyncAborts 1) ∧ t.dict = s.dict)
  ∧ (∀ (s : State) (m : PairMsg), s.tb.refOk = true → s.powered = true → s.isMember = true → s.jrn.pstate = .unhealthy →
    s.abortWait = true ∨ s.objB Obj.AUTO_RESYNC = false ∨ m.pstate ≠ .active →
    Runs (.pairReceive m) s fun t => t.jrn.partner = some m ∧ t.jrn.pstate = .unhealthy ∧ t.jrn.resyncs = s.jrn.resyncs ∧ t.dict = s.dict)
  ∧ (∀ (s : State) (m : PairMsg), s.tb.refOk = true → s.powered = true → s.isMember = true → s.jrn.pstate = .standby →
    Runs (.pairReceive m) s fun t => t.jrn.partner = some m ∧ (t.jrn.pstate = .standby ∨ t.jrn.pstate = .unhealthy)
      ∧ t.jrn.epoch = (if m.pstate = .active then max s.jrn.epoch m.epoch else s.jrn.epoch)
      ∧ (m.pstate = .active → s.jrn.epoch < m.epoch → t.recd.gapOpen = true))
  ∧ (∀ (s t : State) (m n : PairMsg), n.epoch = s.jrn.epoch → n.committed = laneCommitted (s.laneOf s.ownLane) → m.epoch = t.jrn.epoch →
    m.committed = laneCommitted (t.laneOf t.ownLane) → s.memberB ≠ t.memberB → (s.winsOver m = true ↔ t.winsOver n = false))
  ∧ (∀ s : State, s.isMember = false ∨ s.partnerFresh = true ∨ s.powered = false ∨ (s.isActive = false ∧ s.jrn.pHealthyWas = false) → exec .partnerSilent s = .next s)
  ∧ (∀ s : State, s.powered = true → s.isMember = true → s.isActive = false → s.partnerFresh = false → s.jrn.pHealthyWas = true →
    Runs .partnerSilent s fun t => t.jrn = { s.jrn with pHealthyWas := false, evt := setBit32 s.jrn.evt 3 } ∧ SameBut [.jrn] s t)
  ∧ (∀ s : State, s.powered = true → s.isActive = true → s.partnerFresh = false → s.jrn.alone = false → (s.laneOf s.ownLane).entries = [] →
    Runs .partnerSilent s fun t => t.jrn.alone = true ∧ t.jrn.dropped = true ∧ t.jrn.pstate = .active ∧ t.inRun .jrnSingle 0 = true
      ∧ SameBut (.jrn :: recordParts) s t)
  ∧ (∀ s : State, s.isActive = false ∨ s.jrn.alone = true ∨ (∀ h ∈ (s.laneOf s.ownLane).entries, h.accepted = true ∨ h.acked = true
      ∨ s.tb.taps < h.since + 10 * tapsMs) ∨ s.powered = false → exec .commitAckTimeout s = .next s)
  ∧ (∀ (s : State) (h : HeldEntry), s.powered = true → s.isActive = true → s.jrn.alone = false → h ∈ (s.laneOf s.ownLane).entries →
    h.accepted = false → h.acked = false → h.since + 10 * tapsMs ≤ s.tb.taps → (∀ x ∈ (s.laneOf s.ownLane).entries, x.committed = false) →
    (∀ x ∈ (s.laneOf s.ownLane).entries, x.e.jsn ≤ (s.laneOf s.ownLane).applied ∨ x.accepted = false) → s.dict.userPending = [] →
    Runs .commitAckTimeout s fun t => t.jrn.alone = true ∧ t.jrn.dropped = true ∧ t.laneOf s.ownLane = s.laneOf s.ownLane
      ∧ SameBut (.jrn :: recordParts) s t)
  ∧ (∀ s : State, s.isMember = false ∨ s.jrn.pstate ≠ .init ∨ s.tb.taps < s.jrn.partnerTap + s.obj Obj.PAIR_WAIT * tapsS ∨ s.powered = false →
    exec .pairWaitTimeout s = .next s)
  ∧ (∀ s : State, s.powered = true → s.isMember = true → s.jrn.pstate = .init → s.jrn.partnerTap + s.obj Obj.PAIR_WAIT * tapsS ≤ s.tb.taps →
    s.sys.trial = false → (s.laneOf s.ownLane).entries = [] →
    Runs .pairWaitTimeout s fun t => t.jrn.pstate = .active ∧ t.jrn.alone = true ∧ t.jrn.upLostTx = false ∧ t.jrn.epoch = s.jrn.epoch
      ∧ t.jrn.lastJsn = max s.jrn.lastJsn (s.laneOf s.ownLane).trim ∧ t.trdl = { s.trdl with ovrConsec := 0, ovrCycles := [] }
      ∧ SameBut (.jrn :: .trdl :: .link :: recordParts) s t)
  ∧ (∀ s : State, s.isMember = false ∨ s.jrn.pstate ≠ .standby ∨ (∀ l ∈ s.jrn.lanes, ∀ h ∈ l.entries, h.committed = true ∨ s.tb.taps ≤ h.since + tapsMs) ∨ s.powered = false →
    exec .healthJournalLost s = .next s)
  ∧ (∀ (s : State) (l : Lane) (h : HeldEntry), s.powered = true → s.isMember = true → s.jrn.pstate = .standby → s.jrn.healthyWas = true →
    l ∈ s.jrn.lanes → h ∈ l.entries → h.committed = false → h.since + tapsMs < s.tb.taps →
    Runs .healthJournalLost s fun t => bitOf t.jrn.health 1 = false ∧ t.jrn.pstate = .unhealthy ∧ t.jrn.upLostTx = true
      ∧ (s.isStation = true → t.dict.sessions = []) ∧ (s.isStation = false → t.dict = s.dict) ∧ SameBut [.jrn, .dict] s t)
  ∧ (∀ (s : State) (c : Nat), s.tb.refOk = true → s.powered = true → s.isMember = true → s.isActive = false →
    exec (.yieldReceive c) s = .next { s with jrn := { s.jrn with yieldCause := some (c % 256) } })
  ∧ (∀ (s : State) (c : Nat), s.isMember = false ∨ s.isActive = true ∨ s.tb.refOk = false → exec (.yieldReceive c) s = .next s)
  ∧ (∀ (s : State) (port m : Nat), s.tb.refOk = true → s.powered = true → s.isStation = true → 2 ≤ port → port < 6 → m ≤ 1 →
    Runs (.primaryReceive port m) s fun t => vget t.jrn.primaryNotice (port - 2) none = some m
      ∧ (∀ i, i ≠ port - 2 → vget t.jrn.primaryNotice i none = vget s.jrn.primaryNotice i none) ∧ t.jrn = { s.jrn with primaryNotice := t.jrn.primaryNotice }
      ∧ SameBut [.jrn] s t)
  ∧ (∀ (s : State) (port m : Nat), s.isStation = false ∨ port < 2 ∨ 6 ≤ port ∨ 1 < m ∨ s.tb.refOk = false → exec (.primaryReceive port m) s = .next s)

/-- The passing of the active role (R328, R332, R335, R344). -/
def Obligations.TheActiveRolePassesOnce : Prop :=
  (∀ s : State, s.isMember = false ∨ s.jrn.pstate ≠ .standby ∨ s.healthy = false ∨ s.jrn.triggerAt ≠ some s.tb.taps ∨ s.powered = false → exec .takeover s = .next s)
  ∧ (∀ s : State, s.powered = true → s.isArm = true → s.jrn.pstate = .standby → s.healthy = true → s.jrn.triggerAt = some s.tb.taps →
    (s.laneOf s.ownLane).entries = [] →
    Runs .takeover s fun t => t.jrn.pstate = .active ∧ t.jrn.epoch = (s.jrn.epoch + 1) % 2 ^ 32 ∧ t.jrn.lastCause = s.jrn.triggerCause
      ∧ t.jrn.switches = satAdd 32 s.jrn.switches 1 ∧ t.jrn.upLostTx = false ∧ t.jrn.busy = true ∧ t.jrn.yieldCause = none
      ∧ t.jrn.lastTime = nt96 s.tb.ntF ∧ t.recd.gapOpen = true ∧ t.trdl.vars = s.trdl.vars ∧ t.trdl.ovrConsec = 0 ∧ t.arm.stallRun = 0
      ∧ t.laneOf s.ownLane = s.laneOf s.ownLane ∧ t.mem = s.mem ∧ t.gate = s.gate ∧ t.adc = s.adc
      ∧ SameBut (.jrn :: .arm :: .trdl :: .link :: recordParts) s t)
  ∧ (∀ s : State, s.powered = true → s.isStation = true → s.jrn.pstate = .standby → s.healthy = true → s.jrn.triggerAt = some s.tb.taps →
    (s.laneOf 0xFFFF).entries = [] →
    Runs .takeover s fun t => t.jrn.pstate = .active ∧ t.jrn.epoch = (s.jrn.epoch + 1) % 2 ^ 32 ∧ t.jrn.lastCause = s.jrn.triggerCause
      ∧ t.jrn.switches = satAdd 32 s.jrn.switches 1 ∧ t.jrn.upLostTx = false ∧ t.jrn.lastJsn = max s.jrn.lastJsn (laneLast (s.laneOf 0xFFFF)) + 1
      ∧ (∃ h ∈ (t.laneOf 0xFFFF).entries, h.e.etype = .switch ∧ h.e.swEpoch = (s.jrn.epoch + 1) % 2 ^ 32 ∧ h.e.swAddr = s.addr
        ∧ h.e.swCause = s.jrn.triggerCause) ∧ t.mem = s.mem ∧ t.gate = s.gate ∧ t.trdl.vars = s.trdl.vars)
  ∧ (∀ (s : State) (v : Nat), s.powered = true → s.isActive = true → s.partnerHealthy = true → v = s.addr →
    Runs (.switchover v) s fun t => t.jrn.pstate = .yielded ∧ t.jrn.upLostTx = true ∧ t.jrn.lastCause = 2 ∧ t.jrn.lastTime = nt96 s.tb.ntF
      ∧ t.jrn.epoch = s.jrn.epoch ∧ (s.isStation = true → t.dict.sessions = []) ∧ (s.isStation = false → t.dict = s.dict)
      ∧ SameBut (.jrn :: .dict :: .link :: recordParts) s t)
  ∧ (∀ (s : State) (v : Nat), s.powered = true → s.isMember = true → v ≠ s.addr → Runs (.switchover v) s (Refused .range Obj.SWITCHOVER s))
  ∧ (∀ (s : State) (v : Nat), s.powered = true → s.isMember = true → s.isActive = false → v = s.addr →
    Runs (.switchover v) s (Refused .state Obj.SWITCHOVER s))
  ∧ (∀ (s : State) (v : Nat), s.powered = true → s.isActive = true → s.partnerHealthy = false → v = s.addr →
    Runs (.switchover v) s (Refused .refused Obj.SWITCHOVER s))
  ∧ (∀ (s : State) (v : Nat), s.powered = true → s.isMember = false →
    Runs (.switchover v) s (Refused .noObject Obj.SWITCHOVER s) ∧ Runs (.resyncStart v) s (Refused .noObject Obj.RESYNC_START s))
  ∧ (∀ (s : State) (v : Nat), s.powered = false → exec (.switchover v) s = .next s ∧ exec (.resyncStart v) s = .next s)
  ∧ (∀ s : State, s.isActive = false ∨ s.pulseMissing = false ∨ s.powered = false → exec .pulseWatchdog s = .next s)
  ∧ (∀ s : State, s.powered = true → s.isActive = true → s.pulseMissing = true → s.isStation = true →
    Runs .pulseWatchdog s fun t => t.jrn.pstate = .yielded ∧ t.jrn.lastCause = 4 ∧ t.jrn.upLostTx = true ∧ t.dict.sessions = [] ∧ t.gate = s.gate
      ∧ t.sel = s.sel ∧ SameBut (.jrn :: .dict :: .link :: recordParts) s t)
  ∧ (∀ s : State, s.powered = true → s.isArm = true → s.isActive = true → s.pulseMissing = true → s.partnerHealthy = false →
    Runs .pulseWatchdog s fun t => t.jrn.pstate = .yielded ∧ t.jrn.lastCause = 4 ∧ t.node.armBlocked = true)
  ∧ (∀ s : State, s.powered = true → s.isArm = true → s.isActive = true → s.pulseMissing = true → s.partnerHealthy = true → s.jrn.busy = false →
    Runs .pulseWatchdog s fun t => t.jrn.pstate = .yielded ∧ t.jrn.lastCause = 4 ∧ t.node.armBlocked = s.node.armBlocked ∧ t.sel = s.sel
      ∧ t.gate = s.gate)

/-- Resynchronising and mirroring (R333, R334, R339 to R341, R344). -/
def Obligations.ResynchronisingAMember : Prop :=
  (∀ (s : State) (v : Nat), s.powered = true → s.isMember = true → v = s.addr → s.jrn.pstate = .unhealthy →
    Runs (.resyncStart v) s fun t => t.jrn.pstate = .resync ∧ t.jrn.upLostTx = true ∧ t.jrn.resyncs = satAdd 32 s.jrn.resyncs 1
      ∧ t.jrn.snapTap = s.tb.taps ∧ t.jrn.snapParts = [] ∧ t.jrn.snapDone = false ∧ t.jrn.verified = false ∧ t.jrn.verifyRun = 0
      ∧ t.jrn.lanes = s.jrn.lanes ∧ SameBut (.jrn :: .link :: recordParts) s t)
  ∧ (∀ (s : State) (v : Nat), s.powered = true → s.isMember = true → v ≠ s.addr → Runs (.resyncStart v) s (Refused .range Obj.RESYNC_START s))
  ∧ (∀ (s : State) (v : Nat), s.powered = true → s.isMember = true → v = s.addr → s.jrn.pstate ≠ .unhealthy →
    Runs (.resyncStart v) s (Refused .state Obj.RESYNC_START s))
  ∧ (∀ s : State, s.isMember = false ∨ s.jrn.pstate ≠ .unhealthy ∨ s.objB Obj.AUTO_RESYNC = false ∨ s.resyncReady = false
      ∨ (∀ a, s.jrn.abortAt = some a → s.tb.taps < a + tapsS) ∨ s.powered = false →
    exec .resyncRetry s = .next s)
  ∧ (∀ (s : State) (a : Nat), s.powered = true → s.isMember = true → s.jrn.pstate = .unhealthy → s.objB Obj.AUTO_RESYNC = true → s.resyncReady = true →
    s.jrn.abortAt = some a → a + tapsS ≤ s.tb.taps →
    Runs .resyncRetry s fun t => t.jrn.pstate = .resync ∧ t.jrn.resyncs = satAdd 32 s.jrn.resyncs 1 ∧ t.jrn.snapTap = s.tb.taps
      ∧ SameBut (.jrn :: .link :: recordParts) s t)
  ∧ (∀ (s : State) (off : Nat), s.isActive = false ∨ s.tb.refOk = false → exec (.snapReqReceive off) s = .next s)
  ∧ (∀ s : State, s.tb.refOk = true → s.powered = true → s.isActive = true →
    Runs (.snapReqReceive 0) s fun t => t.jrn = { s.jrn with
        snapFrozen := snapBytes s.snapNow, snapSize := (snapBytes s.snapNow).length, snapNext := t.jrn.snapNext, snapNextAt := t.jrn.snapNextAt }
      ∧ t.jrn.snapNext = (if s.tb.taps < s.jrn.snapNextAt then some 0 else if 1000 < (snapBytes s.snapNow).length then some 1000 else none)
      ∧ SameBut (.jrn :: .link :: .bob :: recordParts) s t)
  ∧ (∀ (s : State) (off : Nat), s.tb.refOk = true → s.powered = true → s.isActive = true → off ≠ 0 →
    Runs (.snapReqReceive off) s fun t => t.jrn = { s.jrn with snapNext := t.jrn.snapNext, snapNextAt := t.jrn.snapNextAt }
      ∧ SameBut (.jrn :: .link :: recordParts) s t)
  ∧ (∀ (s : State) (off total : Nat) (d : List Byte) (last : Bool), s.jrn.pstate ≠ .resync ∨ s.jrn.snapDone = true ∨ (last = true ∧ off + d.length ≠ total) ∨ s.tb.refOk = false →
    exec (.snapReceive off total d last) s = .next s)
  ∧ (∀ (s : State) (off total : Nat) (d : List Byte) (last : Bool), s.tb.refOk = true → s.powered = true → s.jrn.pstate = .resync → s.jrn.snapDone = false →
    (last = true → off + d.length = total) →
    (snapJoin ((off, d) :: s.jrn.snapParts.filter (·.1 != off)).length ((off, d) :: s.jrn.snapParts.filter (·.1 != off)) 0).length ≠ total →
    Runs (.snapReceive off total d last) s fun t => t.jrn = { s.jrn with
        snapSize := total, snapAskAt := s.tb.taps, snapParts := (off, d) :: s.jrn.snapParts.filter (·.1 != off) }
      ∧ SameBut (.jrn :: .link :: recordParts) s t)
  ∧ (∀ (s : State) (d : List Byte), s.tb.refOk = true → s.powered = true → s.jrn.pstate = .resync → s.jrn.snapDone = false → d ≠ [] → s.jrn.snapParts = [] →
    snapOfBytes d = none →
    Runs (.snapReceive 0 d.length d true) s fun t => t.jrn = { s.jrn with snapSize := d.length, snapParts := [], snapAskAt := s.tb.taps } ∧ t.dict = s.dict
      ∧ SameBut (.jrn :: .link :: recordParts) s t)
  ∧ (∀ (s : State) (b : List Byte) (d : SnapData), s.tb.refOk = true → s.powered = true → s.jrn.pstate = .resync → s.jrn.snapDone = false → b ≠ [] →
    s.jrn.snapParts = [] → s.jrn.snapStored = [] → snapOfBytes b = some d →
    Runs (.snapReceive 0 b.length b true) s fun t => t.jrn.snapDone = true ∧ t.jrn.lanes = d.lanes ∧ t.jrn.targets = d.targets
      ∧ t.jrn.armEpochs = d.epochs ∧ t.jrn.snapParts = [] ∧ t.bob.snap.valid = true)
  ∧ (∀ b : List Byte, b.length < 32 ∨ b.drop (b.length - 32) ≠ Crc.sha256 (b.take (b.length - 32)) → snapOfBytes b = none)
  ∧ (∀ s : State, s.jrn.pstate ≠ .resync ∨ s.jrn.snapDone = true ∨ s.tb.taps < s.jrn.snapAskAt + 2 * tapsMs ∨ s.powered = false → exec .snapReqRetry s = .next s)
  ∧ (∀ s : State, s.powered = true → s.jrn.pstate = .resync → s.jrn.snapDone = false → s.jrn.snapAskAt + 2 * tapsMs ≤ s.tb.taps →
    Runs .snapReqRetry s fun t => t.jrn = { s.jrn with snapAskAt := s.tb.taps } ∧ SameBut (.jrn :: .link :: recordParts) s t)
  ∧ (∀ s : State, s.isMember = false ∨ s.jrn.pstate ≠ .resync ∨ s.jrn.snapDone = false ∨ s.jrn.verifyRun < s.obj Obj.VERIFY_CYCLES ∨ s.powered = false →
    exec .resyncVerified s = .next s)
  ∧ (∀ s : State, s.powered = true → s.isMember = true → s.jrn.pstate = .resync → s.jrn.snapDone = true → s.obj Obj.VERIFY_CYCLES ≤ s.jrn.verifyRun →
    s.sys.trial = false → s.jrn.healthyWas = false →
    Runs .resyncVerified s fun t => t.jrn.pstate = .standby ∧ t.jrn.upLostTx = false ∧ t.jrn.verified = true ∧ bitOf t.jrn.health 1 = true
      ∧ t.jrn.resyncMs = (s.tb.taps - s.jrn.snapTap) / tapsMs ∧ t.jrn.lanes = s.jrn.lanes ∧ SameBut [.jrn] s t)
  ∧ (∀ s : State, s.jrn.pstate ≠ .resync ∨ s.jrn.snapDone = true
      ∨ s.tb.taps < s.jrn.snapTap + max 1 ((s.jrn.snapSize + 1048575) / 1048576) * 160 * tapsMs ∨ s.powered = false → exec .resyncTimeout s = .next s)
  ∧ (∀ s : State, s.powered = true → s.jrn.pstate = .resync → s.jrn.snapDone = false →
    s.jrn.snapTap + max 1 ((s.jrn.snapSize + 1048575) / 1048576) * 160 * tapsMs ≤ s.tb.taps →
    Runs .resyncTimeout s fun t => t.jrn.pstate = .unhealthy ∧ t.jrn.resyncAborts = satAdd 32 s.jrn.resyncAborts 1 ∧ t.jrn.snapParts = []
      ∧ t.jrn.snapStored = [] ∧ t.dict = s.dict ∧ SameBut (.jrn :: .link :: recordParts) s t)
  ∧ (∀ (s : State) (b : List Byte), s.shadows = false ∨ segOk b = false ∨ s.tb.refOk = false → exec (.mirrorReceive b) s = .next s)
  ∧ (∀ (s : State) (b : List Byte) (k : Nat), s.tb.refOk = true → s.powered = true → s.shadows = true → segOk b = true → s.jrn.epochDone = some k →
    segCycle b ≤ k →
    exec (.mirrorReceive b) s = .next (if segCycle b = s.jrn.adoptedK ∨ s.jrn.epochLate = some (segCycle b) then s
      else { s with jrn := { s.jrn with epochLate := some (segCycle b), discarded := satAdd 32 s.jrn.discarded 1 } }))
  ∧ (∀ (s : State) (b : List Byte), s.tb.refOk = true → s.powered = true → s.shadows = true → segOk b = true →
    (∀ k, s.jrn.epochDone = some k → k < segCycle b) →
    exec (.mirrorReceive b) s = .next (if (segCycle b, b) ∈ s.jrn.epochRx then s
      else { s with jrn := { s.jrn with epochRx := (segCycle b, b) :: s.jrn.epochRx } }))

/-- The island's inputs, comparators and enables (R190, R348, R350 to R356). -/
def Obligations.SafetyInputsComparatorsAndEnables : Prop :=
  (∀ (s : State) (n : Nat) (level : Bool), s.powered = true → n < 2 →
    Runs (.safeInFilter n level) s fun t => vget t.sel.sinB n false = (level && s.sys.vddioB) ∧ (∀ i, i ≠ n → vget t.sel.sinB i false = vget s.sel.sinB i false)
      ∧ t.sel.sinC = s.sel.sinC ∧ bitOf t.sel.causes 0 = t.sinActive ∧ (bitOf s.sel.causes 0 = false → t.sinActive = true → t.sel.spb = true)
      ∧ t.mem = s.mem ∧ SameBut faultParts s t)
  ∧ (∀ (s : State) (n : Nat) (level : Bool), 2 ≤ n → exec (.safeInFilter n level) s = .next s)
  ∧ (∀ s : State, s.sinDiscrepant = false ∨ s.sel.discrepant = true ∨ s.sel.failedC = true ∨ s.lasted s.sel.sinDiscAt (s.obj Obj.SIN_DISC * tapsMs) = false →
    exec .sinDiscrepancy s = .next s)
  ∧ (∀ s : State, s.powered = true → s.sinDiscrepant = true → s.sel.discrepant = false → s.sel.failedC = false →
    s.lasted s.sel.sinDiscAt (s.obj Obj.SIN_DISC * tapsMs) = true →
    Runs .sinDiscrepancy s fun t => t.sel.discrepant = true ∧ bitOf t.sel.causes 1 = true ∧ t.sel.spb = true ∧ SameBut faultParts s t)
  ∧ (∀ (s : State) (a b : Bool), s.sel.testedC = false ∨ s.elapsed s.sel.coreAt (10 * tapsUs) = false → exec (.safetyCoreSample a b) s = .next s)
  ∧ (∀ (s : State) (a b : Bool), s.powered = true → s.sel.testedC = true → s.elapsed s.sel.coreAt (10 * tapsUs) = true →
    Runs (.safetyCoreSample a b) s fun t => t.sel.sinB = s.sel.sinB
      ∧ vget t.sel.sinC 0 false = (if (sampleIn (vget s.sel.coreSamp 0 (false, 0)) (a && s.sys.vddioB)).2 = 3 then a && s.sys.vddioB else vget s.sel.sinC 0 false)
      ∧ vget t.sel.sinC 1 false = (if (sampleIn (vget s.sel.coreSamp 1 (false, 0)) (b && s.sys.vddioB)).2 = 3 then b && s.sys.vddioB else vget s.sel.sinC 1 false)
      ∧ (∀ n, n < 4 → (t.wcAt n).state = (s.wcAt n).state) ∧ t.sel.coreAt = s.tb.taps ∧ SameBut (.sys :: .bob :: faultParts) s t)
  ∧ (∀ (o : Bool × Nat) (l : Bool), (sampleIn o l).1 = l ∧ ((sampleIn o l).2 = 3 → o.1 = l ∧ 2 ≤ o.2) ∧ (o.1 ≠ l → (sampleIn o l).2 = 1))
  ∧ (∀ (s : State) (n uv : Nat), 4 ≤ n → exec (.wcStateChange n uv) s = .next s)
  ∧ (∀ (s : State) (n uv : Nat), s.powered = true → n < 4 →
    Runs (.wcStateChange n uv) s fun t => (t.wcAt n).state = wcNext (s.wcAt n).state (s.obj (Obj.WC_LOW + 256 * n)) (s.obj (Obj.WC_HIGH + 256 * n)) uv
      ∧ (∀ m, m ≠ n → t.wcAt m = s.wcAt m) ∧ ((t.wcAt n).state ≠ (s.wcAt n).state → bitOf t.sel.causes 5 = t.wcSpb ∧ t.sel.sdi = t.sdiNow)
      ∧ SameBut (.sel :: .gate :: recordParts) s t)
  ∧ (∀ (c : WcState) (low high uv : Nat), wcNext (wcNext c low high uv) low high uv = wcNext c low high uv)
  ∧ (∀ (low high uv : Nat), low < high → 2 * uv < 3125 * low → wcNext .inside low high uv = .below)
  ∧ (∀ (low high uv : Nat), low < high → 3125 * high ≤ 2 * uv → wcNext .inside low high uv = .above)
  ∧ (∀ (s : State) (n : Nat), 4 ≤ n ∨ wcActs (s.wcUse n) (s.wcAt n).state = false ∨ s.sel.failedB = true ∨ (s.wcAt n).tripped = true
      ∨ s.elapsed (s.wcAt n).since (s.wcFiltTaps n) = false →
    exec (.wcFilterExpiry n) s = .next s)
  ∧ (∀ (s : State) (n : Nat), s.powered = true → n < 4 → wcActs (s.wcUse n) (s.wcAt n).state = true → s.sel.failedB = false →
    s.elapsed (s.wcAt n).since (s.wcFiltTaps n) = true →
    (s.wcAt n).tripped = false → s.wcUse n = 1 → s.isCell = true → s.sel.sby = false →
    Runs (.wcFilterExpiry n) s fun t => t.sel.sby = true ∧ t.sel.sbyCause = (if s.sel.sbyCause = 0 then 1 else s.sel.sbyCause)
      ∧ t.node.nodeState = .bypass ∧ t.node.bypassMark = true ∧ (t.wcAt n).tripped = true ∧ SameBut (.sys :: .bob :: faultParts) s t)
  ∧ (∀ (s : State) (n : Nat), s.powered = true → n < 4 → wcActs (s.wcUse n) (s.wcAt n).state = true → s.sel.failedB = false →
    s.elapsed (s.wcAt n).since (s.wcFiltTaps n) = true →
    (s.wcAt n).tripped = false → s.wcUse n ≠ 1 →
    Runs (.wcFilterExpiry n) s fun t => bitOf t.sel.causes 5 = true ∧ (bitOf s.sel.causes 5 = false → t.sel.spb = true) ∧ (t.wcAt n).tripped = true
      ∧ t.sel.sby = s.sel.sby ∧ SameBut faultParts s t)
  ∧ (∀ (s : State) (n : Nat), s.powered = true → n < 4 → wcActs (s.wcUse n) (s.wcAt n).state = true → s.sel.failedB = false →
    s.elapsed (s.wcAt n).since (s.wcFiltTaps n) = true →
    (s.wcAt n).tripped = false → s.wcUse n = 1 → s.isCell = false ∨ s.sel.sby = true →
    Runs (.wcFilterExpiry n) s fun t => (t.wcAt n).tripped = true ∧ t.sel = { s.sel with wc := t.sel.wc } ∧ SameBut [.sel] s t)
  ∧ (∀ (s : State) (n : Nat), 4 ≤ n ∨ s.wcUse n ≠ 4 ∨ (s.wcAt n).state ≠ .below
      ∨ s.elapsed (s.wcAt n).since (s.obj Obj.SDI_TIME * tapsMs) = false → exec (.sdiTimer n) s = .next s)
  ∧ (∀ (s : State) (n : Nat), s.powered = true → n < 4 → s.wcUse n = 4 → (s.wcAt n).state = .below →
    s.elapsed (s.wcAt n).since (s.obj Obj.SDI_TIME * tapsMs) = true →
    Runs (.sdiTimer n) s fun t => (t.wcAt n).belowSdi = true ∧ t.sel.sdi = t.sdiNow ∧ ((s.wcAt n).fault = false → t.sel.sdi = true) ∧ t.sel.spb = s.sel.spb ∧ SameBut (.sel :: recordParts) s t)
  ∧ (∀ (s : State) (n : Nat), s.powered = true → n < 2 → s.elapsed (vget s.sel.pulseAt n 0) 0 = true → s.objB Obj.OFFPULSE_EN = true → s.enActive n = true →
    Runs (.offpulse n true) s fun t => t.enActive n = false ∧ t.sel.pulses = satAdd 32 s.sel.pulses 1
      ∧ vget t.sel.pulseAt n 0 = vget s.sel.pulseAt n 0 + 100 * tapsMs
      ∧ t.sel = { s.sel with enPulse := t.sel.enPulse, pulses := t.sel.pulses, pulseAt := t.sel.pulseAt } ∧ SameBut [.sel] s t)
  ∧ (∀ (s : State) (n : Nat), s.powered = true → n < 2 → s.elapsed (vget s.sel.pulseAt n 0) 0 = true → s.objB Obj.OFFPULSE_EN = false ∨ s.enActive n = false →
    Runs (.offpulse n true) s fun t => vget t.sel.pulseAt n 0 = vget s.sel.pulseAt n 0 + 100 * tapsMs
      ∧ t.sel = { s.sel with pulseAt := t.sel.pulseAt } ∧ SameBut [.sel] s t)
  ∧ (∀ (s : State) (n : Nat), 2 ≤ n ∨ s.elapsed (vget s.sel.pulseAt n 0) 0 = false → exec (.offpulse n true) s = .next s)
  ∧ (∀ (s : State) (n : Nat), 2 ≤ n ∨ vget s.sel.enPulse n false = false ∨ s.elapsed (s.lastEnEdge n) (nsTaps 300) = false → exec (.offpulse n false) s = .next s)
  ∧ (∀ (s : State) (n : Nat), s.powered = true → n < 2 → vget s.sel.enPulse n false = true → s.elapsed (s.lastEnEdge n) (nsTaps 300) = true →
    Runs (.offpulse n false) s fun t => vget t.sel.enPulse n true = false ∧ t.sel = { s.sel with enPulse := t.sel.enPulse } ∧ SameBut [.sel] s t)
  ∧ (∀ (s : State) (n : Nat) (level : Bool), s.powered = true → n < 2 → s.fbDue n = true → (level && s.sys.vddioB) ≠ s.enActive n →
    Runs (.offpulseCheck n level) s fun t => vget t.sel.fb n false = (level && s.sys.vddioB) ∧ vget t.sel.fbBad n false = true ∧ bitOf t.sel.causes 6 = true
      ∧ t.sel.spb = true ∧ SameBut faultParts s t)
  ∧ (∀ (s : State) (n : Nat) (level : Bool), s.powered = true → n < 2 → s.fbDue n = true → (level && s.sys.vddioB) = s.enActive n → vget s.sel.fbBad (1 - n) false = false →
    Runs (.offpulseCheck n level) s fun t => vget t.sel.fb n false = (level && s.sys.vddioB) ∧ vget t.sel.fbBad n true = false ∧ bitOf t.sel.causes 6 = false
      ∧ t.sel.spb = s.sel.spb ∧ SameBut [.sel] s t)
  ∧ (∀ (s : State) (n : Nat) (level : Bool), s.powered = true → n < 2 → s.fbDue n = true → (level && s.sys.vddioB) = s.enActive n → vget s.sel.fbBad (1 - n) false = true →
    Runs (.offpulseCheck n level) s fun t => vget t.sel.fb n false = (level && s.sys.vddioB) ∧ vget t.sel.fbBad n true = false
      ∧ t.sel = { s.sel with fb := t.sel.fb, fbBad := t.sel.fbBad } ∧ SameBut [.sel] s t)
  ∧ (∀ (s : State) (n x : Nat) (a b : Bool), s.powered = false →
    exec (.safeInFilter n a) s = .next s ∧ exec .sinDiscrepancy s = .next s ∧ exec (.safetyCoreSample a b) s = .next s ∧ exec (.wcStateChange n x) s = .next s
      ∧ exec (.wcFilterExpiry n) s = .next s ∧ exec (.sdiTimer n) s = .next s ∧ exec (.offpulse n a) s = .next s ∧ exec (.offpulseCheck n a) s = .next s
      ∧ exec (.permitWithdraw a) s = .next s)
  ∧ (∀ (s : State) (n : Nat) (level : Bool), 2 ≤ n ∨ s.fbDue n = false → exec (.offpulseCheck n level) s = .next s)
  ∧ (∀ (s : State) (core : Bool), s.powered = true →
    Runs (.permitWithdraw core) s fun t => t.sel = (if core then { s.sel with permitC := false } else { s.sel with permitB := false })
      ∧ (s.sel.degraded = false → ∀ n, t.enActive n = false) ∧ SameBut [.sel] s t)

/-- Safety frames and the demands they carry (R358 to R367). -/
def Obligations.SafetyFramesAndTheirDemands : Prop :=
  (∀ s : State, s.sel.failedC = true ∨ s.tb.refOk = false ∨ s.powered = false → exec .safetyFrameChangeSend s = .next s)
  ∧ (∀ s : State, s.elapsed s.sel.sfAt (s.obj Obj.SF_PERIOD * 10 * tapsUs) = false ∨ s.tb.refOk = false ∨ s.powered = false → exec .safetyFrameSend s = .next s)
  ∧ (∀ s : State, s.tb.refOk = true → s.powered = true → s.sel.failedC = true → s.elapsed s.sel.sfAt (s.obj Obj.SF_PERIOD * 10 * tapsUs) = true →
    exec .safetyFrameSend s = .next { s with sel := { s.sel with sfAt := s.tb.taps } })
  ∧ (∀ s : State, s.tb.refOk = true → s.powered = true → s.sel.failedC = false → s.elapsed s.sel.sfAt (s.obj Obj.SF_PERIOD * 10 * tapsUs) = true →
    Runs .safetyFrameSend s fun t => (∀ p, p ∈ s.connPorts → s.lit p = true →
        (t.conn p).txSeq = ((s.conn p).txSeq + 1) % 65536 ∧ (∃ f, (t.conn p).txLast = some f ∧ f.seq = (s.conn p).txSeq ∧ f.texp = s.obj Obj.TEXP))
      ∧ (∀ p, p ∉ s.connPorts ∨ s.lit p = false → t.conn p = s.conn p) ∧ t.sel = { s.sel with conns := t.sel.conns, sfAt := s.tb.taps }
      ∧ SameBut (.sel :: .link :: recordParts) s t)
  ∧ (∀ s : State, (∀ p ∈ s.connPorts, ∃ f, (s.conn p).txLast = some f ∧ sameSdata f (s.sdata p) = true) →
    exec .safetyFrameChangeSend s = .next s)
  ∧ (∀ s : State, s.tb.refOk = true → s.powered = true →
    Runs .safetyFrameChangeSend s fun t => (∀ p, p ∉ s.connPorts ∨ s.lit p = false → t.conn p = s.conn p) ∧ t.sel = { s.sel with conns := t.sel.conns }
      ∧ SameBut (.sel :: .link :: recordParts) s t)
  ∧ (∀ (s : State) (p : Nat) (bs : List Byte), vget s.sys.admitted p none = none ∨ p ∉ s.connPorts ∨ s.sel.failedC = true ∨ s.tb.refOk = false ∨ s.powered = false →
    exec (.safetyFrameReceive p bs) s = .next s)
  ∧ (∀ (s : State) (p pk : Nat) (bs : List Byte), s.tb.refOk = true → s.powered = true → vget s.sys.admitted p none = some pk → p ∈ s.connPorts → s.sel.failedC = false →
    safetyFormOk bs = false →
    exec (.safetyFrameReceive p bs) s = .next { s with sel := { s.sel with frameErr := satAdd 32 s.sel.frameErr 1 } })
  ∧ (∀ (s : State) (p pk : Nat) (bs : List Byte), s.tb.refOk = true → s.powered = true → vget s.sys.admitted p none = some pk → p ∈ s.connPorts → s.sel.failedC = false →
    safetyFormOk bs = true → (safetyOfBytes bs).connId ≠ connIdOf pk ownKey ∨ (safetyOfBytes bs).texp ≠ s.obj Obj.TEXP →
    Runs (.safetyFrameReceive p bs) s fun t => t.conn p = { s.conn p with mismatch := true, mismatchAt := if (s.conn p).mismatch then (s.conn p).mismatchAt else s.tb.taps } ∧ t.sel.frameErr = satAdd 32 s.sel.frameErr 1
      ∧ (∀ q, q ≠ p → t.conn q = s.conn q) ∧ t.sel.causes = s.sel.causes ∧ SameBut [.sel] s t)
  ∧ (∀ (s : State) (p pk d : Nat) (bs : List Byte), s.tb.refOk = true → s.powered = true → vget s.sys.admitted p none = some pk → p ∈ s.connPorts → s.sel.failedC = false →
    safetyFormOk bs = true → (safetyOfBytes bs).connId = connIdOf pk ownKey → (safetyOfBytes bs).texp = s.obj Obj.TEXP →
    d = ((safetyOfBytes bs).seq + 65536 - (s.conn p).lastSeq) % 65536 → d = 0 ∨ 16 < d → (s.conn p).start = false ∨ (safetyOfBytes bs).init = false →
    exec (.safetyFrameReceive p bs) s = .next { s with sel := { s.sel with seqGap := satAdd 32 s.sel.seqGap 1 } })
  ∧ (∀ (s : State) (p pk d : Nat) (bs : List Byte), s.tb.refOk = true → s.powered = true → vget s.sys.admitted p none = some pk → p ∈ s.connPorts → s.sel.failedC = false →
    safetyFormOk bs = true → (safetyOfBytes bs).connId = connIdOf pk ownKey → (safetyOfBytes bs).texp = s.obj Obj.TEXP →
    d = ((safetyOfBytes bs).seq + 65536 - (s.conn p).lastSeq) % 65536 →
    (1 ≤ d ∧ d ≤ 16) ∨ ((s.conn p).start = true ∧ (safetyOfBytes bs).init = true) →
    Runs (.safetyFrameReceive p bs) s fun t => (t.conn p).valid = true ∧ (t.conn p).last = some (safetyOfBytes bs)
      ∧ (t.conn p).lastSeq = (safetyOfBytes bs).seq ∧ (t.conn p).lastTap = s.tb.taps ∧ (t.conn p).start = false ∧ (t.conn p).mismatch = false
      ∧ (∀ q, q ≠ p → t.conn q = s.conn q) ∧ (p < 2 → bitOf t.sel.causes 4 = false ∧ bitOf t.sel.causes 3 = t.parentDemand.isSome)
      ∧ t.sel.seqGap = (if (s.conn p).start = false ∧ d ≠ 1 then satAdd 32 s.sel.seqGap 1 else s.sel.seqGap) ∧ t.sel.frameErr = s.sel.frameErr
      ∧ (p < 2 → s.dnm = false → t.sel.dnmAcc = false) ∧ (p < 2 → (safetyOfBytes bs).spbDem = true → t.sel.dnmAcc = false)
      ∧ (p < 2 → s.dnm = true → (safetyOfBytes bs).spbDem = false →
        (∃ x, (1 - p, x, dnmValue (safetyOfBytes bs)) ∈ s.sel.dnmSeen ∧ inWindow x (200 * tapsUs) s.tb.taps = true) → t.sel.dnmAcc = true)
      ∧ SameBut faultParts s t)
  ∧ (∀ (s : State) (p : Nat), s.powered = false → exec (.safetyConnExpiry p) s = .next s ∧ exec (.safetyParamPersist p) s = .next s ∧ exec .dnmDisagree s = .next s)
  ∧ (∀ (s : State) (p : Nat), (s.conn p).valid = false ∨ p ∉ s.connPorts ∨ s.elapsed (s.conn p).lastTap s.texpTaps = false → exec (.safetyConnExpiry p) s = .next s)
  ∧ (∀ (s : State) (p : Nat), s.powered = true → s.sel.failedC = true → p ∈ s.connPorts → (s.conn p).valid = true → s.elapsed (s.conn p).lastTap s.texpTaps = true →
    Runs (.safetyConnExpiry p) s fun t => t.conn p = { s.conn p with valid := false } ∧ (∀ q, q ≠ p → t.conn q = s.conn q)
      ∧ t.sel = { s.sel with conns := t.sel.conns } ∧ SameBut [.sel] s t)
  ∧ (∀ (s : State) (p : Nat), s.powered = true → s.sel.failedC = false → s.isStation = false → p < 2 → (s.conn p).valid = true →
    (s.conn (1 - p)).valid = false → s.elapsed (s.conn p).lastTap s.texpTaps = true →
    Runs (.safetyConnExpiry p) s fun t => (t.conn p).valid = false ∧ bitOf t.sel.causes 4 = true ∧ t.sel.spb = true ∧ t.sel.dnmAcc = false
      ∧ SameBut faultParts s t)
  ∧ (∀ (s : State) (p : Nat), s.powered = true → s.sel.failedC = false → p ∈ s.connPorts → (s.conn p).valid = true → 2 ≤ p ∨ (s.conn (1 - p)).valid = true →
    s.elapsed (s.conn p).lastTap s.texpTaps = true →
    Runs (.safetyConnExpiry p) s fun t => (t.conn p).valid = false ∧ bitOf t.sel.causes 4 = bitOf s.sel.causes 4 ∧ (∀ q, q ≠ p → t.conn q = s.conn q)
      ∧ (p < 2 → t.sel.dnmAcc = false) ∧ t.inRun .safetyConnLost p = true
      ∧ SameBut faultParts s t)
  ∧ (∀ (s : State) (p : Nat), (s.conn p).mismatch = false ∨ s.elapsed (s.conn p).mismatchAt s.texpTaps = false ∨ s.inRun .safetyParam p = true →
    exec (.safetyParamPersist p) s = .next s)
  ∧ (∀ (s : State) (p : Nat), s.powered = true → (s.conn p).mismatch = true → s.elapsed (s.conn p).mismatchAt s.texpTaps = true → s.inRun .safetyParam p = false →
    Runs (.safetyParamPersist p) s fun t => t.inRun .safetyParam p = true ∧ t.sel.spb = true ∧ bitOf t.sel.causes 11 = true
      ∧ (s.node.nodeState = .service ∨ s.node.nodeState = .hold → t.node.nodeState = .block) ∧ SameBut faultParts s t)
  ∧ (∀ s : State, s.dnm = false ∨ s.dnmAgree = true ∨ s.lasted s.sel.dnmDisAt s.texpTaps = false ∨ s.inRun .safetyDnmDisagree 0 = true → exec .dnmDisagree s = .next s)
  ∧ (∀ s : State, s.powered = true → s.dnm = true → s.dnmAgree = false → s.lasted s.sel.dnmDisAt s.texpTaps = true →
    Runs .dnmDisagree s fun t => t.inRun .safetyDnmDisagree 0 = true ∧ t.sel = s.sel ∧ SameBut recordParts s t)

/-- Channel monitoring, degraded mode and the safety parameter set (R370 to R376). -/
def Obligations.ChannelsDegradedModeAndTheParameterSet : Prop :=
  (∀ s : State, s.powered = true →
    Runs .supplyMonitor s fun t => t.sel.supOk = false ∧ bitOf t.sel.causes 9 = true ∧ (bitOf s.sel.causes 9 = false → t.sel.spb = true)
      ∧ SameBut faultParts s t)
  ∧ (∀ s : State, s.powered = true →
    Runs .supplyReturn s fun t => t.sel.supOk = true ∧ bitOf t.sel.causes 9 = false ∧ t.sel.spb = s.sel.spb ∧ SameBut [.sel] s t)
  ∧ (∀ (s : State) (c : Instr), c = .heartbeatMiss ∨ c = .coreLockstepError → s.powered = true → s.sel.failedC = true →
    exec c s = .next { s with sel := { s.sel with testedC := false } })
  ∧ (∀ (s : State) (c : Instr), c = .heartbeatMiss ∨ c = .coreLockstepError → s.powered = true → s.sel.degraded = false → s.sel.failedB = false →
    s.sel.failedC = false →
    Runs c s fun t => t.sel.degraded = true ∧ t.sel.failedC = true ∧ t.sel.failedB = false ∧ t.sel.degMin = 0 ∧ t.sel.coreOk = false
      ∧ t.sel.testedC = false ∧ t.sel.badgOk = s.sel.badgOk ∧ t.sys.keep.degraded = true
      ∧ (bitOf s.sel.causes 0 = s.sinActive → bitOf s.sel.causes 5 = s.wcSpb → s.sel.sysTrip = s.tripWanted → t.sel.spb = s.sel.spb)
      ∧ SameBut (.sys :: .bob :: faultParts) s t)
  ∧ (∀ (s : State) (c : Instr), c = .heartbeatMiss ∨ c = .coreLockstepError → s.powered = true → s.sel.degraded = true ∨ s.sel.failedB = true →
    s.sel.failedC = false →
    Runs c s fun t => t.sel.failedC = true ∧ t.sel.failedB = true ∧ bitOf t.sel.causes 7 = true ∧ t.sel.spb = true
      ∧ SameBut (.sys :: .bob :: faultParts) s t)
  ∧ (∀ s : State, exec (.ioscCheck true) s = .next s)
  ∧ (∀ s : State, s.sel.discPending = false → exec (.injectionTest true) s = .next s)
  ∧ (∀ (s : State) (c : Instr), c = .ioscCheck false ∨ (c = .injectionTest false ∧ (s.sel.discPending = false ∨ s.sel.missB = true)) → s.powered = true →
    s.sel.degraded = false → s.sel.failedB = false → s.sel.failedC = false →
    Runs c s fun t => t.sel.degraded = true ∧ t.sel.failedB = true ∧ t.sel.failedC = false ∧ t.sel.degMin = 0 ∧ t.sel.badgOk = false
      ∧ t.sel.testedB = false ∧ t.sel.coreOk = s.sel.coreOk
      ∧ (bitOf s.sel.causes 0 = s.sinActive → bitOf s.sel.causes 5 = s.wcSpb → s.sel.sysTrip = s.tripWanted → t.sel.spb = s.sel.spb)
      ∧ SameBut (.sys :: .bob :: faultParts) s t)
  ∧ (∀ s : State, s.powered = true → s.sel.failedB = true → exec (.ioscCheck false) s = .next { s with sel := { s.sel with testedB := false } })
  ∧ (∀ (s : State) (ok : Bool), s.powered = true → s.sel.discPending = true → s.sel.missB = false ∨ ok = true →
    Runs (.injectionTest ok) s fun t => t.sel.failedB = true ∧ t.sel.failedC = true ∧ t.sel.discPending = false ∧ bitOf t.sel.causes 7 = true
      ∧ t.sel.spb = true ∧ SameBut (.sys :: .bob :: faultParts) s t)
  ∧ (∀ s : State, s.channelSees.1 = s.channelSees.2 ∨ s.lasted s.sel.decAt (100 * tapsUs) = false → exec .decisionDiscrepancy s = .next s)
  ∧ (∀ s : State, s.powered = true → s.channelSees.1 ≠ s.channelSees.2 → s.sel.degraded = true → s.lasted s.sel.decAt (100 * tapsUs) = true →
    exec .decisionDiscrepancy s = .next { s with sel := { s.sel with
      testedB := s.sel.testedB && !s.sel.failedB, testedC := s.sel.testedC && !s.sel.failedC } })
  ∧ (∀ s : State, s.powered = true → s.channelSees.1 ≠ s.channelSees.2 → s.sel.degraded = false → s.lasted s.sel.decAt (100 * tapsUs) = true →
    Runs .decisionDiscrepancy s fun t => t.sel.discPending = true ∧ t.sel.missB = !s.channelSees.1 ∧ t.sel.missC = !s.channelSees.2
      ∧ t.sel.spb = s.sel.spb ∧ t.inRun .safetyDiscrepancy 0 = true ∧ SameBut faultParts s t)
  ∧ (∀ (s : State) (n : Nat), 4 ≤ n ∨ (s.wcAt n).fault = true → exec (.wcStageDisagree n) s = .next s)
  ∧ (∀ (s : State) (n : Nat), s.powered = true → n < 4 → (s.wcAt n).fault = false → s.wcUse n = 2 ∨ s.wcUse n = 3 →
    Runs (.wcStageDisagree n) s fun t => (t.wcAt n).fault = true ∧ bitOf t.sel.wcOk n = false ∧ bitOf t.sel.causes 5 = true
      ∧ (bitOf s.sel.causes 5 = false → t.sel.spb = true) ∧ SameBut faultParts s t)
  ∧ (∀ (s : State) (n : Nat), s.powered = true → n < 4 → (s.wcAt n).fault = false → s.wcUse n = 1 → s.isCell = true → s.sel.sby = false →
    Runs (.wcStageDisagree n) s fun t => (t.wcAt n).fault = true ∧ t.sel.sby = true ∧ t.node.nodeState = .bypass
      ∧ SameBut (.sys :: .bob :: faultParts) s t)
  ∧ (∀ (s : State) (n : Nat), s.powered = true → n < 4 → (s.wcAt n).fault = false → s.wcUse n = 0 ∨ s.wcUse n = 4 ∨ (s.wcUse n = 1 ∧ (s.isCell = false ∨ s.sel.sby = true)) →
    Runs (.wcStageDisagree n) s fun t => (t.wcAt n).fault = true ∧ bitOf t.sel.wcOk n = false ∧ t.sel.sby = s.sel.sby ∧ t.sel.sdi = t.sdiNow
      ∧ SameBut faultParts s t)
  ∧ (∀ s : State, s.sel.degraded = false ∨ (s.powered = false ∧ s.sys.hibernating = false) ∨ (s.powered = true ∧ s.elapsed s.sel.degAt (60 * tapsS) = false) → exec .degMinute s = .next s)
  ∧ (∀ s : State, s.powered = true → s.sel.degraded = true → s.elapsed s.sel.degAt (60 * tapsS) = true →
    Runs .degMinute s fun t => t.sel.degMin = satAdd 16 s.sel.degMin 1 ∧ t.sys.keep.degMin = t.sel.degMin ∧ t.sel.degAt = s.tb.taps
      ∧ (60 * s.obj Obj.DEG_HOURS ≤ t.sel.degMin → bitOf t.sel.causes 8 = true ∧ (bitOf s.sel.causes 8 = false → t.sel.spb = true))
      ∧ t.sel.degStage = t.degRow ∧ t.bob.snap.degStage = t.degRow
      ∧ (t.sel.degMin < 60 * s.obj Obj.DEG_HOURS → t.sel.spb = s.sel.spb ∧ bitOf t.sel.causes 8 = false ∧ SameBut (.sel :: .sys :: .bob :: recordParts) s t)
      ∧ SameBut (.sys :: .bob :: faultParts) s t)
  ∧ (∀ s : State, s.powered = false → s.sys.hibernating = true → s.sel.degraded = true →
    Runs .degMinute s fun t => t.sel = { s.sel with degMin := satAdd 16 s.sel.degMin 1 } ∧ t.sys.keep = { s.sys.keep with degMin := satAdd 16 s.sel.degMin 1 }
      ∧ SameBut [.sel, .sys] s t)
  ∧ (∀ (s : State) (v : Nat), s.powered = true → v ≠ s.addr → Runs (.degClear v) s (Refused .range Obj.DEG_CLEAR s))
  ∧ (∀ s : State, s.powered = true → s.rwsState = false → Runs (.degClear s.addr) s (Refused .state Obj.DEG_CLEAR s))
  ∧ (∀ s : State, s.powered = true → s.rwsState = true → s.sel.testedB = false ∨ s.sel.testedC = false ∨ s.sel.discPending = true ∨ s.sel.wc.any (·.fault) = true →
    Runs (.degClear s.addr) s (Refused .refused Obj.DEG_CLEAR s))
  ∧ (∀ s : State, s.powered = true → s.rwsState = true → s.sel.testedB = true → s.sel.testedC = true → s.sel.discPending = false →
    s.sel.wc.any (·.fault) = false →
    Runs (.degClear s.addr) s fun t => t.sel.degraded = false ∧ t.sel.failedB = false ∧ t.sel.failedC = false ∧ t.sel.degMin = 0
      ∧ t.sel.permitB = (s.sel.permitB || s.sel.failedB) ∧ t.sel.permitC = (s.sel.permitC || s.sel.failedC) ∧ t.sel.degStage = 0
      ∧ t.sel.scvOk = false ∧ bitOf t.sel.causes 7 = false ∧ bitOf t.sel.causes 8 = false ∧ (s.sel.spb = true → t.sel.spb = true)
      ∧ t.sys.keep.degraded = false ∧ SameBut (.sys :: .bob :: faultParts) s t)
  ∧ (∀ (s : State) (v : Nat), s.powered = true → s.sel.sealEn = true → Runs (.scvConfirm v) s (Refused .sealed Obj.SCV_CONFIRM s))
  ∧ (∀ (s : State) (v : Nat), s.powered = true → s.sel.sealEn = false → s.rwsState = false → Runs (.scvConfirm v) s (Refused .state Obj.SCV_CONFIRM s))
  ∧ (∀ (s : State) (v : Nat), s.powered = true → s.sel.sealEn = false → s.rwsState = true → s.obj Obj.TEXP < 3 * s.obj Obj.SF_PERIOD →
    Runs (.scvConfirm v) s (Refused .refused Obj.SCV_CONFIRM s))
  ∧ (∀ s : State, s.powered = true → s.sel.sealEn = false → s.rwsState = true → 3 * s.obj Obj.SF_PERIOD ≤ s.obj Obj.TEXP →
    Runs (.scvConfirm s.sel.scv) s fun t => t.sel = { s.sel with scvOk := true, scvConfirmed := s.sel.scv, scvTime := nt96 s.tb.ntF }
      ∧ t.sys.keep.scvConfirmed = s.sel.scv ∧ t.bob.snap.scvConfirmed = s.sel.scv ∧ SameBut [.sel, .sys, .bob] s t)
  ∧ (∀ (s : State) (v : Nat), s.powered = true → s.sel.sealEn = false → s.rwsState = true → 3 * s.obj Obj.SF_PERIOD ≤ s.obj Obj.TEXP → v ≠ s.sel.scv →
    Runs (.scvConfirm v) s fun t => t.sel = { s.sel with scvOk := false } ∧ t.dict.refusedCount = satAdd 32 s.dict.refusedCount 1
      ∧ t.dict.objs = s.dict.objs ∧ SameBut (.sel :: .dict :: recordParts) s t)
  ∧ (∀ (s : State) (key v : Nat), s.powered = true → isSpsKey key = false ∨ s.objRow s.node.role key = none → Runs (.spsWrite key v) s (Refused .noObject key s))
  ∧ (∀ (s : State) (key v : Nat) (r : ObjRow), s.powered = true → isSpsKey key = true → s.objRow s.node.role key = some r → s.sel.sealEn = true →
    Runs (.spsWrite key v) s (Refused .sealed key s))
  ∧ (∀ (s : State) (key v : Nat) (r : ObjRow), s.powered = true → isSpsKey key = true → s.objRow s.node.role key = some r → s.sel.sealEn = false →
    rangeOk s.node.role s.addr r key v = false ∨ s.partnerOk key v = false → Runs (.spsWrite key v) s (Refused .range key s))
  ∧ (∀ (s : State) (key v : Nat) (r : ObjRow), s.powered = true → isSpsKey key = true → s.objRow s.node.role key = some r → s.sel.sealEn = false →
    rangeOk s.node.role s.addr r key v = true → s.partnerOk key v = true → s.rwsState = false →
    Runs (.spsWrite key v) s (Refused .state key s))
  ∧ (∀ (s : State) (key v : Nat) (r : ObjRow), s.powered = true → isSpsKey key = true → s.objRow s.node.role key = some r → s.sel.sealEn = false →
    rangeOk s.node.role s.addr r key v = true → s.partnerOk key v = true → s.rwsState = true →
    Runs (.spsWrite key v) s fun t => t.obj key = v ∧ (∀ k, k ≠ key → t.obj k = s.obj k) ∧ t.sel.scvOk = false ∧ t.sel.scv = Crc.scrc t.spsImage
      ∧ t.mem = s.mem ∧ SameBut (.sys :: .bob :: faultParts) s t)
  ∧ (∀ (s : State) (n : Nat) (r : ObjRow), s.powered = true → n < 4 → s.objRow s.node.role (Obj.WC_USE + 256 * n) = some r → s.sel.sealEn = false →
    isSpsKey (Obj.WC_USE + 256 * n) = true → rangeOk s.node.role s.addr r (Obj.WC_USE + 256 * n) 1 = true → s.partnerOk (Obj.WC_USE + 256 * n) 1 = true →
    s.rwsState = true → s.isCell = true → (s.wcAt n).tripped = true → (s.wcAt n).state = .above → s.sel.failedB = false →
    wcNext .above (s.obj (Obj.WC_LOW + 256 * n)) (s.obj (Obj.WC_HIGH + 256 * n)) (s.wcAt n).uv = .above →
    Runs (.spsWrite (Obj.WC_USE + 256 * n) 1) s fun t => t.sel.sby = true)
  ∧ (∀ (s : State) (n v : Nat) (b : Bool), s.powered = false →
    exec .supplyMonitor s = .next s ∧ exec .supplyReturn s = .next s ∧ exec .heartbeatMiss s = .next s ∧ exec .coreLockstepError s = .next s
      ∧ exec (.ioscCheck b) s = .next s ∧ exec (.injectionTest b) s = .next s ∧ exec .decisionDiscrepancy s = .next s ∧ exec (.wcStageDisagree n) s = .next s
      ∧ exec (.degClear v) s = .next s ∧ exec (.scvConfirm v) s = .next s ∧ exec (.spsWrite n v) s = .next s)

/-- The event recorder (R389, R392 to R404). -/
def Obligations.RecordsAreFoldedSentAndStored : Prop :=
  (∀ (r : Rec) (now : Nat) (n : Record) (sent : Bool), r.folds now n = true → (r.make now n sent).nextRsn = r.nextRsn
    ∧ (r.make now n sent).den.length = r.den.length ∧ (r.make now n sent).repeats = satAdd 32 r.repeats 1 ∧ (r.make now n sent).records = r.records)
  ∧ (∀ (r : Rec) (now : Nat) (n : Record) (sent : Bool), r.folds now n = false → (r.make now n sent).nextRsn = (r.nextRsn + 1) % 2 ^ 32
    ∧ (r.make now n sent).repeats = r.repeats ∧ (r.den.length < 64 → ∃ d ∈ (r.make now n sent).den, d.record = { n with rsn := r.nextRsn } ∧ d.sent = sent))
  ∧ (∀ (r : Rec) (now : Nat) (n : Record) (sent : Bool), r.folds now n = false → r.den.length = 64 → r.media = false →
    ((∀ d ∈ (r.close false).den, d.free = false) → (r.make now n sent).den = (r.close false).den ∧ (r.make now n sent).denDrops = satAdd 32 r.denDrops 1)
      ∧ (∀ x, oldestSlot (·.free) (r.close false).den = some x → x.free = true ∧ (∀ d ∈ (r.close false).den, d.free = true → x.age ≤ d.age)
        ∧ (∃ d ∈ (r.make now n sent).den, d.record = { n with rsn := r.nextRsn } ∧ d.sent = sent) ∧ (r.make now n sent).denDrops = r.denDrops))
  ∧ (∀ (r : Rec) (now : Nat) (n : Record) (sent : Bool), (r.den.filter fun d => d.state == .opened).length ≤ 1 → r.den.length ≤ 64 →
    ((r.make now n sent).den.filter fun d => d.state == .opened).length ≤ 1 ∧ (r.make now n sent).den.length ≤ 64)
  ∧ (∀ s : State, s.recd.openSlot = none ∨ inWindow s.recd.openAt tapsS s.tb.taps = true ∨ s.powered = false → exec .foldWindowEnd s = .next s)
  ∧ (∀ s : State, s.powered = true → s.recd.openSlot.isSome = true → inWindow s.recd.openAt tapsS s.tb.taps = false →
    Runs .foldWindowEnd s fun t => t.recd.openSlot = none ∧ t.recd.den.length = s.recd.den.length ∧ t.recd.nextRsn = s.recd.nextRsn
      ∧ (∀ d ∈ s.recd.den, d.state ≠ .opened → d ∈ t.recd.den) ∧ SameBut [.recd] s t)
  ∧ (∀ s : State, s.isStation = true ∨ s.eventPorts.filter s.lit = [] ∨ s.tb.refOk = false ∨ s.powered = false → exec .eventFrameSend s = .next s)
  ∧ (∀ (s : State) (p dst n : Nat) (f : Frame), s.tb.refOk = true → s.powered = true → s.isStation = false → s.eventPorts.filter s.lit = [p] → s.toSend false ≠ [] →
    s.toSend true = [] → (∀ d ∈ s.toSend false, Record_place d.record = false) → dst = (s.port p).peer.addr → n = (assoc s.recd.fseqTx dst).getD 0 →
    f = s.mkFrame .event .up dst false (vget s.link.eseq FloenClass.event.code 0) (eventPayload n ((s.toSend false).map (·.record))) →
    (s.port p).fits f = true → p < 6 →
    Runs .eventFrameSend s fun t => (t.port p).queue = (s.port p).queue ++ [⟨f, s.tb.taps⟩] ∧ (∀ q, q ≠ p → t.port q = s.port q)
      ∧ assoc t.recd.fseqTx dst = some ((n + 1) % 65536) ∧ t.recd.den = s.recd.den.map (fun d => if (s.toSend false).contains d then { d with sent := true } else d)
      ∧ t.node = { s.node with runs := t.node.runs } ∧ SameBut [.recd, .link, .node] s t)
  ∧ (∀ (s : State) (src : Nat) (pl : List Byte), leNat (pl.take 1) ≠ 1 ∨ leNat ((pl.drop 1).take 1) = 0 ∨ 21 < leNat ((pl.drop 1).take 1)
      ∨ pl.length ≠ 4 + 48 * leNat ((pl.drop 1).take 1) ∨ s.tb.refOk = false ∨ s.powered = false → exec (.eventFrameReceive src pl) s = .next s)
  ∧ (∀ (s : State) (src l : Nat) (pl : List Byte), s.tb.refOk = true → s.powered = true → leNat (pl.take 1) = 1 → leNat ((pl.drop 1).take 1) = 1 → pl.length = 52 →
    assoc s.recd.fseqRx src = some l → Record.checkOk (pl.drop 4) = false →
    Runs (.eventFrameReceive src pl) s fun t => t.recd.fwdGaps = satAdd 32 s.recd.fwdGaps ((leNat ((pl.drop 2).take 2) + 65535 - l) % 65536)
      ∧ assoc t.recd.fseqRx src = some (leNat ((pl.drop 2).take 2)) ∧ t.recd.den = s.recd.den ∧ t.recd.nextArn = s.recd.nextArn ∧ SameBut [.recd] s t)
  ∧ (∀ (s : State) (src : Nat) (pl : List Byte) (x : Record), s.tb.refOk = true → s.powered = true → s.isStation = false → leNat (pl.take 1) = 1 →
    leNat ((pl.drop 1).take 1) = 1 → pl.length = 52 → Record.checkOk (pl.drop 4) = true → x = Record.ofBytes (pl.drop 4) →
    s.recd.holdsRelayed x = false → s.recd.den.length < 64 →
    Runs (.eventFrameReceive src pl) s fun t => t.recd.nextArn = (s.recd.nextArn + 1) % 2 ^ 32 ∧ t.recd.relayedCnt = satAdd 32 s.recd.relayedCnt 1
      ∧ t.recd.den = s.recd.den ++ [{ record := x, relayed := true, state := .closed, sent := !Record_onward x, arn := s.recd.nextArn, age := s.recd.denAge }]
      ∧ t.recd.nextRsn = s.recd.nextRsn ∧ SameBut [.recd] s t)
  ∧ (∀ (s : State) (src : Nat) (pl : List Byte) (x : Record), s.tb.refOk = true → s.powered = true → s.isStation = false → leNat (pl.take 1) = 1 →
    leNat ((pl.drop 1).take 1) = 1 → pl.length = 52 → Record.checkOk (pl.drop 4) = true → x = Record.ofBytes (pl.drop 4) →
    s.recd.holdsRelayed x = true → x.typ ≠ 0x0C01 →
    Runs (.eventFrameReceive src pl) s fun t => t.recd.den = s.recd.den ∧ t.recd.nextArn = s.recd.nextArn ∧ SameBut [.recd] s t)
  ∧ (∀ (s : State) (src : Nat) (pl : List Byte) (x : Record), s.tb.refOk = true → s.powered = true → s.isStation = true → leNat (pl.take 1) = 1 →
    leNat ((pl.drop 1).take 1) = 1 → pl.length = 52 → Record.checkOk (pl.drop 4) = true → x = Record.ofBytes (pl.drop 4) →
    Runs (.eventFrameReceive src pl) s fun t => (x.typ = 0x0C01 → (x.source % 2 ^ 19, s.tb.taps) ∈ t.recd.mediaSources)
      ∧ (x.typ = 0x0005 → ∀ e ∈ t.recd.mediaSources, e.1 ≠ x.source % 2 ^ 19)
      ∧ (s.recd.holdsRelayed x = false → s.recd.den.length < 64 →
        t.recd.den = s.recd.den ++ [{ record := x, relayed := true, state := .closed, sent := true, arn := s.recd.nextArn, age := s.recd.denAge }]))
  ∧ (∀ s : State, s.recd.media = false ∨ s.elapsed s.recd.mediaAt (10 * tapsS) = false ∨ s.tb.refOk = false ∨ s.powered = false → exec .mediaRepeat s = .next s)
  ∧ (∀ s : State, s.tb.refOk = true → s.powered = true → s.recd.media = true → s.elapsed s.recd.mediaAt (10 * tapsS) = true →
    Runs .mediaRepeat s fun t => t.recd.mediaAt = s.tb.taps ∧ t.recd.den.map (·.record) = s.recd.den.map (·.record) ∧ t.recd.nextRsn = s.recd.nextRsn
      ∧ SameBut (.link :: recordParts) s t)
  ∧ (∀ s : State, s.tb.refOk = true → s.powered = true → s.recd.media = true → s.elapsed s.recd.mediaAt (10 * tapsS) = true → s.isStation = true →
    Runs .mediaRepeat s fun t => t.recd.den.map (·.record) = s.recd.den.map (·.record) ∧ (∀ d ∈ t.recd.den, d.state = .pinned → d.sent = true)
      ∧ SameBut [.recd] s t)
  ∧ (∀ (s : State) (src : Nat), s.powered = true →
    Runs (.mediaFlagExpiry src) s fun t => (∀ x, x ∈ t.recd.mediaSources ↔ x ∈ s.recd.mediaSources ∧ (x.1 ≠ src ∨ s.elapsed x.2 (60 * tapsS) = false))
      ∧ t.recd = { s.recd with mediaSources := t.recd.mediaSources } ∧ SameBut [.recd] s t)
  ∧ (∀ (s : State) (n v : Nat) (r : SessRole), s.powered = false → exec (.mediaFlagExpiry n) s = .next s ∧ exec (.recClear v r) s = .next s)
  ∧ (∀ (s : State) (v : Nat), v % 2 = 0 ∨ s.powered = false → exec (.userRecord v) s = .next s)
  ∧ (∀ (s : State) (v : Nat), s.powered = true → v % 2 = 1 → s.recd.utype < 0x8000 ∨ 1 < s.recd.uclass →
    exec (.userRecord v) s = .next { s with recd := { s.recd with evt := setBit32 s.recd.evt 3 } })
  ∧ (∀ (s : State) (v : Nat), s.powered = true → v % 2 = 1 → 0x8000 ≤ s.recd.utype → s.recd.uclass ≤ 1 → s.recd.den.length < 64 → s.recd.openSlot = none →
    Runs (.userRecord v) s fun t => t.recd.nextRsn = (s.recd.nextRsn + 1) % 2 ^ 32
      ∧ (∃ d ∈ t.recd.den, d.record.typ = s.recd.utype ∧ d.record.rsn = s.recd.nextRsn ∧ d.record.cls = (if s.recd.uclass = 1 then .f1 else .f0)
        ∧ d.record.payload = vget s.recd.upay 0 0 + 2 ^ 32 * vget s.recd.upay 1 0 + 2 ^ 64 * vget s.recd.upay 2 0 + 2 ^ 96 * vget s.recd.upay 3 0)
      ∧ t.node = { s.node with runs := t.node.runs } ∧ SameBut recordParts s t)
  ∧ (∀ (s : State) (v : Nat), s.powered = true → v % 2 = 1 → 0x8000 ≤ s.recd.utype → s.recd.uclass ≤ 1 →
    Runs (.userRecord v) s fun t => SameBut recordParts s t
      ∧ (s.recd.den.length < 64 → t.recd = s.recd.make s.tb.taps (s.mkRecord s.recd.utype 17 (if s.recd.uclass = 1 then .f1 else .f0)
        (vget s.recd.upay 0 0 + 2 ^ 32 * vget s.recd.upay 1 0 + 2 ^ 64 * vget s.recd.upay 2 0 + 2 ^ 96 * vget s.recd.upay 3 0)) (s.isStation || s.recd.uclass != 1)))
  ∧ (∀ s : State, s.storeTakes = false ∨ s.powered = false → exec .denStore s = .next s)
  ∧ (∀ s : State, s.powered = true → s.storeTakes = true → (s.recd.storeDen false).events.length ≤ s.eventsCap →
    Runs .denStore s fun t => t.recd = s.recd.storeDen false ∧ (∀ d ∈ t.recd.den, d.state ≠ .closed) ∧ t.recd.den.length = s.recd.den.length
      ∧ (∀ d ∈ s.recd.den, d.state = .closed → s.recd.unstored d = true → d.entry ∈ t.recd.events)
      ∧ t.recd.events.take s.recd.events.length = s.recd.events ∧ t.bob = { s.bob with work := t.bob.work, preempts := t.bob.preempts }
      ∧ t.node = { s.node with runs := t.node.runs } ∧ SameBut [.recd, .bob, .node] s t)
  ∧ (∀ s : State, s.powered = true → s.storeTakes = true → s.eventsCap < (s.recd.storeDen false).events.length → s.eventsCap ≠ 0 →
    Runs .denStore s fun t => (∃ k, (s.recd.storeDen false).events.length ≤ s.eventsCap + 21 * k ∧ t.recd.events = (s.recd.storeDen false).events.drop (21 * k)
        ∧ t.recd.evLsn = s.recd.evLsn + k
        ∧ t.recd.overwritten = satAdd 32 s.recd.overwritten (((s.recd.storeDen false).events.take (21 * k)).filter (!·.lost)).length)
      ∧ t.inRun .recWrap 0 = true ∧ SameBut (.bob :: .free :: recordParts) s t)
  ∧ (∀ (s : State) (v : Nat), s.powered = true → Runs (.recClear v .observer) s (Refused .role Obj.REC_CLEAR s)
    ∧ Runs (.recClear v .operator) s (Refused .role Obj.REC_CLEAR s))
  ∧ (∀ (s : State) (v : Nat) (r : SessRole), s.powered = true → r = .engineer ∨ r = .safetyEngineer →
    (v ≠ s.addr → Runs (.recClear v r) s (Refused .range Obj.REC_CLEAR s))
      ∧ (v = s.addr → s.recd.media = true → Runs (.recClear v r) s (Refused .media Obj.REC_CLEAR s))
      ∧ (v = s.addr → s.recd.media = false → Runs (.recClear v r) s fun t =>
        t.recd.firstRsn = s.recd.nextRsn ∧ t.recd.firstArn = s.recd.nextArn ∧ t.recd.events = []
          ∧ t.recd.evLsn = s.recd.evLsn + sectorsOf s.recd.events.length ∧ SameBut (.bob :: recordParts) s t))
  ∧ (∀ s : State, s.atSecond = false ∨ s.powered = false → exec .optSave s = .next s)
  ∧ (∀ s : State, s.powered = true → s.atSecond = true →
    Runs .optSave s fun t => t.sys.keep.rsn = s.recd.nextRsn ∧ t.sys.keep.opt = s.optNow ∧ t.sys.keep.pcc = s.recd.pcc
      ∧ t.sys = { s.sys with keep := t.sys.keep }
      ∧ (s.storeTakes = true → t.bob.snap = { s.bob.snap with
          valid := true, rsn := s.recd.nextRsn, opt := s.optNow, pcc := s.recd.pcc, arn := s.recd.nextArn })
      ∧ (s.storeTakes = true → t.bob = { s.bob with snap := t.bob.snap, work := t.bob.work, preempts := t.bob.preempts } ∧ 3 ∈ t.bob.work)
      ∧ (s.storeTakes = false → t.bob = s.bob) ∧ SameBut [.sys, .bob] s t)

/-- The Bobbin store (R315, R391, R399, R400, R406 to R412). -/
def Obligations.TheStoreIsFormattedServicedAndWorn : Prop :=
  (∀ (s : State) (v cs p : Nat) (o k u : Bool) (q : PhysBlock) (c : SectorRef) (d e : List Byte) (w : FlashOp), s.powered = false →
    exec (.bobFormat v) s = .next s ∧ exec (.mediaService v o k) s = .next s ∧ exec (.chipTimeout cs) s = .next s ∧ exec (.bobScrubRead p c d o u e) s = .next s
      ∧ exec .bobScrubLate s = .next s ∧ exec (.wearLevelMove q) s = .next s ∧ exec (.flashOpDone w o) s = .next s)
  ∧ (∀ (s : State) (v : Nat), s.powered = true → v ≠ s.addr → Runs (.bobFormat v) s (Refused .range Obj.BOB_FORMAT s))
  ∧ (∀ s : State, s.powered = true → s.node.nodeState = .service ∨ s.node.nodeState = .hold ∨ (s.isMember = true ∧ s.jrn.pstate ≠ .unhealthy) →
    Runs (.bobFormat s.addr) s (Refused .state Obj.BOB_FORMAT s))
  ∧ (∀ (s : State) (l : List Nat), s.powered = true → s.node.nodeState ≠ .service → s.node.nodeState ≠ .hold →
    s.isMember = false ∨ s.jrn.pstate = .unhealthy → s.layoutFit ((List.range 7).map (s.partWanted false)) = some l →
    Runs (.bobFormat s.addr) s fun t => (∀ i, i < 7 → vget t.bob.partSize i 0 = l.getD i 0) ∧ (∀ i, i < 2 → vget t.bob.superblock i false = true)
      ∧ t.recd.events = [] ∧ t.recd.evLsn = 0 ∧ (∀ x ∈ t.jrn.lanes, x.entries = [] ∧ x.gapped = []) ∧ t.jrn.journalBytes = 0 ∧ t.jrn.ramBytes = 0
      ∧ (∀ x, x ∈ t.bob.sectors ↔ x ∈ s.bob.sectors ∧ erasedBy false (x.part - 1) = false)
      ∧ t.recd.den = s.recd.den ∧ t.bob.snap = s.bob.snap ∧ t.bob.mounted = s.bob.mounted
      ∧ t.obj Obj.USER_FILE = 0 ∧ (∀ k, k ≠ Obj.USER_FILE → t.obj k = s.obj k) ∧ SameBut [.recd, .jrn, .bob, .dict, .free] s t)
  ∧ (∀ s : State, s.powered = true → s.node.nodeState ≠ .service → s.node.nodeState ≠ .hold → s.isMember = false ∨ s.jrn.pstate = .unhealthy →
    s.layoutFit ((List.range 7).map (s.partWanted false)) = none → s.recd.media = false →
    Runs (.bobFormat s.addr) s fun t => t.recd.media = true ∧ t.bob.mounted = false ∧ t.bob.partSize = s.bob.partSize
      ∧ SameBut (.bob :: .sys :: .link :: recordParts) s t)
  ∧ (∀ (two : Bool) (c0 c1 : Nat) (w l : List Nat), layoutFrom (layoutFits two c0 c1) w 1024 = some l →
    layoutFits two c0 c1 l = true ∧ (∀ i, i < 7 → (if shrinks i then partMin (i + 1) ≤ l.getD i 0 else l.getD i 0 = w.getD i 0))
      ∧ (w.length = 7 → (∀ i, i < 7 → shrinks i = true → partMin (i + 1) ≤ w.getD i 0) → layoutFits two c0 c1 w = true → l = w))
  ∧ (∀ (c0 c1 : Nat) (l : List Nat), (layoutFits false c0 c1 l = true ↔
      l.getD 0 0 + l.getD 1 0 + 2 * l.getD 2 0 + 2 * l.getD 3 0 + l.getD 4 0 + l.getD 5 0 + l.getD 6 0 ≤ c0)
    ∧ (layoutFits true c0 c1 l = true → l.getD 0 0 + l.getD 2 0 + l.getD 3 0 ≤ c0 ∧ l.getD 1 0 + l.getD 2 0 + l.getD 3 0 ≤ c1
      ∧ l.getD 0 0 + l.getD 1 0 + 2 * l.getD 2 0 + 2 * l.getD 3 0 + l.getD 4 0 + l.getD 5 0 + l.getD 6 0 ≤ c0 + c1))
  ∧ (∀ (s : State) (v : Nat) (ok blank : Bool), s.powered = true → v ≠ s.addr → Runs (.mediaService v ok blank) s (Refused .range Obj.MEDIA_SERVICE s))
  ∧ (∀ (s : State) (ok blank : Bool), s.powered = true → vget s.pins.flashType 0 0 = 0 →
    Runs (.mediaService s.addr ok blank) s fun t => t.dict = { s.dict with
        refusedCount := satAdd 32 s.dict.refusedCount 1, lastRefusal := Status.media.code * 2 ^ 24 + Obj.MEDIA_SERVICE }
      ∧ t.recd.media = true ∧ t.bob.mounted = false ∧ SameBut (.bob :: .sys :: .link :: .dict :: recordParts) s t)
  ∧ (∀ s : State, s.powered = true → vget s.pins.flashType 0 0 ≠ 0 → s.bob.hasSuperblock = true →
    Runs (.mediaService s.addr false false) s fun t => t.dict = { s.dict with
        refusedCount := satAdd 32 s.dict.refusedCount 1, lastRefusal := Status.media.code * 2 ^ 24 + Obj.MEDIA_SERVICE }
      ∧ t.recd.media = s.recd.media ∧ t.bob.mounted = s.bob.mounted ∧ t.bob.type0 = vget s.pins.flashType 0 0 ∧ SameBut (.bob :: .dict :: recordParts) s t)
  ∧ (∀ (s : State) (ok blank : Bool), s.powered = true → vget s.pins.flashType 0 0 ≠ 0 → blank = true ∨ s.bob.hasSuperblock = false →
    s.layoutFit ((List.range 7).map (s.partWanted true)) = none →
    Runs (.mediaService s.addr ok blank) s fun t => t.dict.refusedCount = satAdd 32 s.dict.refusedCount 1 ∧ t.recd.media = true ∧ t.bob.mounted = false
      ∧ SameBut (.bob :: .sys :: .link :: .dict :: recordParts) s t)
  ∧ (∀ (s : State) (l : List Nat) (blank : Bool), s.powered = true → vget s.pins.flashType 0 0 ≠ 0 → blank = true ∨ s.bob.hasSuperblock = false →
    s.layoutFit ((List.range 7).map (s.partWanted true)) = some l →
    (Runs (.mediaService s.addr false blank) s fun t => t.dict.refusedCount = satAdd 32 s.dict.refusedCount 1 ∧ t.recd.media = s.recd.media
        ∧ (∀ i, i < 7 → vget t.bob.partSize i 0 = l.getD i 0) ∧ (∀ i, i < 2 → vget t.sys.slots i none = none)
        ∧ SameBut (.jrn :: .bob :: .sys :: .dict :: .free :: recordParts) s t)
      ∧ Runs (.mediaService s.addr true blank) s fun t => t.bob.mounted = true ∧ t.recd.media = false
        ∧ (∀ i, i < 7 → vget t.bob.partSize i 0 = l.getD i 0) ∧ (∀ i, i < 2 → vget t.sys.slots i none = none)
        ∧ t.bob.snap.bypass = s.node.bypassMark ∧ t.bob.snap.sby = s.sel.sby ∧ SameBut (.jrn :: .bob :: .sys :: .dict :: .free :: recordParts) s t)
  ∧ (∀ s : State, s.powered = true → vget s.pins.flashType 0 0 ≠ 0 → s.bob.hasSuperblock = true →
    Runs (.mediaService s.addr true false) s fun t => t.bob.mounted = true ∧ t.bob.sbMark = false ∧ t.bob.snap = { s.bob.snap with media := false }
      ∧ t.recd.media = false ∧ t.bob.partSize = s.bob.partSize ∧ t.bob.scrubFrom = s.tb.taps ∧ (∀ i, i < 2 → vget t.bob.flushed i 0 = 0)
      ∧ (s.recd.media = true → t.sys.keep.media = false ∧ ∀ d ∈ t.recd.den, d.state ≠ .pinned)
      ∧ SameBut (.bob :: .sys :: .jrn :: .free :: recordParts) s t)
  ∧ (∀ (s : State) (cs : Nat), 2 ≤ cs ∨ vget s.pins.flashType cs 0 = 0 → exec (.chipTimeout cs) s = .next s)
  ∧ (∀ (s : State) (cs : Nat), s.powered = true → cs < 2 → vget s.pins.flashType cs 0 ≠ 0 → s.recd.media = false →
    Runs (.chipTimeout cs) s fun t => t.bob.timeouts = satAdd 32 s.bob.timeouts 1 ∧ t.recd.media = true ∧ t.bob.mounted = false
      ∧ t.sys.keep.media = true ∧ t.bob.snap = s.bob.snap ∧ (s.recd.den.length < 64 → ∃ d ∈ t.recd.den, d.state = .pinned ∧ d.record.payload = 5 + cs * 2 ^ 8)
      ∧ SameBut (.bob :: .sys :: .link :: recordParts) s t)
  ∧ (∀ (s : State) (cs : Nat), s.powered = true → cs < 2 → vget s.pins.flashType cs 0 ≠ 0 → s.recd.media = true →
    exec (.chipTimeout cs) s = .next { s with bob := { s.bob with timeouts := satAdd 32 s.bob.timeouts 1 } })
  ∧ (∀ (s : State) (p : Nat) (c : SectorRef) (d o : List Byte) (rf u : Bool), s.bob.mounted = false ∨ s.flashStopped = true →
    exec (.bobScrubRead p c d rf u o) s = .next s)
  ∧ (∀ (s : State) (p : Nat) (c : SectorRef) (d o : List Byte) (rf u : Bool), s.powered = true → s.bob.mounted = true → s.flashStopped = false → s.foreground = true →
    exec (.bobScrubRead p c d rf u o) s = .next { s with bob := { s.bob with preempts := satAdd 32 s.bob.preempts 1 } })
  ∧ (∀ (s : State) (p b : Nat) (c : SectorRef) (d o : List Byte) (rf : Bool), s.powered = true → s.bob.mounted = true → s.flashStopped = false →
    s.foreground = false → sectorErrors d = some b →
    Runs (.bobScrubRead p c d rf false o) s fun t => t.bob.corrBits = satAdd 32 s.bob.corrBits b
      ∧ t.bob.corrSect = (if b = 0 then s.bob.corrSect else satAdd 32 s.bob.corrSect 1)
      ∧ t.bob.reloc = (if rf = true ∨ s.obj Obj.REFRESH_THRESHOLD ≤ b then satAdd 32 s.bob.reloc 1 else s.bob.reloc)
      ∧ t.bob.uncorr = s.bob.uncorr ∧ t.bob.scrubAt = (if s.bob.scrubbing then s.bob.scrubAt else s.tb.taps) ∧ t.bob.mounted = true
      ∧ ((∃ x ∈ s.bob.sectors, scrubKey p c.copy c.lsn < scrubKey x.part x.copy x.lsn) → t.bob.scrubbing = true ∧ t.bob.scrubFrom = s.bob.scrubFrom)
      ∧ ((∀ x ∈ s.bob.sectors, scrubKey x.part x.copy x.lsn ≤ scrubKey p c.copy c.lsn) → t.bob.scrubbing = false ∧ t.bob.scrubFrom = s.tb.taps
        ∧ t.inRun .bobScrubLate 0 = false)
      ∧ t.node = { s.node with runs := t.node.runs } ∧ SameBut [.bob, .node] s t)
  ∧ (∀ (s : State) (p : Nat) (c : SectorRef) (d o : List Byte) (rf u : Bool), s.powered = true → s.bob.mounted = true → s.flashStopped = false →
    s.foreground = false → u = true ∨ sectorErrors d = none →
    Runs (.bobScrubRead p c d rf u o) s fun t => t.bob.uncorr = satAdd 32 s.bob.uncorr 1 ∧ t.bob.corrBits = s.bob.corrBits
      ∧ (p = 3 ∨ p = 4 → ∀ b, sectorErrors o = some b → t.bob.reloc = satAdd 32 s.bob.reloc 1 ∧ SameBut [.bob, .node] s t)
      ∧ (p = 3 ∨ p = 4 → sectorErrors o = none → t.recd.media = true ∧ (s.recd.media = false → s.recd.den.length < 64 →
          ∃ x ∈ t.recd.den, x.state = .pinned ∧ x.record.payload = 4 + c.place.cs * 2 ^ 8 + c.place.block % 2 ^ 32 * 2 ^ 32 + p * 2 ^ 64)
        ∧ SameBut (.bob :: .sys :: .link :: recordParts) s t)
      ∧ (p = 1 ∨ p = 2 → vget t.sys.slots (p - 1) none = (vget s.sys.slots (p - 1) none).map (fun f => { f with digestOk := false })
        ∧ vget t.sys.slots (2 - p) none = vget s.sys.slots (2 - p) none ∧ SameBut [.bob, .sys, .node] s t)
      ∧ (p = 5 → t.recd.events.length = s.recd.events.length ∧ (∀ i e, s.recd.events[i]? = some e →
          t.recd.events[i]? = some (if s.recd.evLsn + i / 21 = c.lsn then { e with lost := true } else e))
        ∧ t.recd = { s.recd with events := t.recd.events } ∧ SameBut [.bob, .recd, .node] s t)
      ∧ (p = 6 → SameBut [.bob, .node] s t)
      ∧ (p = 7 → t.dict = { s.dict with objs := t.dict.objs } ∧ (∀ k, k ≠ Obj.USER_FILE → t.obj k = s.obj k) ∧ SameBut [.bob, .dict, .node] s t))
  ∧ (∀ s : State, s.bob.mounted = false ∨ s.elapsed s.bob.scrubFrom (s.obj Obj.BOB_SCRUB_PERIOD * 3600 * tapsS) = false → exec .bobScrubLate s = .next s)
  ∧ (∀ s : State, s.powered = true → s.bob.mounted = true → s.elapsed s.bob.scrubFrom (s.obj Obj.BOB_SCRUB_PERIOD * 3600 * tapsS) = true →
    Runs .bobScrubLate s fun t => t.inRun .bobScrubLate 0 = true ∧ t.bob = { s.bob with evt := setBit32 s.bob.evt 5 } ∧ SameBut (.bob :: recordParts) s t)
  ∧ (∀ (s : State) (q : PhysBlock), s.bob.mounted = false ∨ s.flashStopped = true
      ∨ erMaxOf (s.bob.device q.cs) ≤ s.bob.eraseCount q + s.obj Obj.WL_DELTA ∨ (∃ e ∈ s.bob.device q.cs, e.2 < s.bob.eraseCount q) →
    exec (.wearLevelMove q) s = .next s)
  ∧ (∀ (s : State) (q : PhysBlock), s.powered = true → s.bob.mounted = true → s.bob.eraseCount q + s.obj Obj.WL_DELTA < erMaxOf (s.bob.device q.cs) →
    (∀ e ∈ s.bob.device q.cs, s.bob.eraseCount q ≤ e.2) → s.flashStopped = false → s.foreground = true →
    exec (.wearLevelMove q) s = .next { s with bob := { s.bob with preempts := satAdd 32 s.bob.preempts 1 } })
  ∧ (∀ (s : State) (q : PhysBlock), s.powered = true → s.bob.mounted = true → s.bob.eraseCount q + s.obj Obj.WL_DELTA < erMaxOf (s.bob.device q.cs) →
    (∀ e ∈ s.bob.device q.cs, s.bob.eraseCount q ≤ e.2) → s.flashStopped = false → s.foreground = false →
    Runs (.wearLevelMove q) s fun t => t.bob.eraseCount q = s.bob.eraseCount q + 1
      ∧ (∀ x, PhysBlock_key x ≠ PhysBlock_key q → t.bob.eraseCount x = s.bob.eraseCount x) ∧ (∀ x, x ∈ t.bob.sectors ↔ x ∈ s.bob.sectors ∧ x.place ≠ q)
      ∧ t.bob = { s.bob with erases := t.bob.erases, sectors := t.bob.sectors } ∧ SameBut [.bob] s t)
  ∧ (∀ (s : State) (w : FlashOp) (ok : Bool), s.bob.mounted = false ∨ s.flashStopped = true → exec (.flashOpDone w ok) s = .next s)
  ∧ (∀ (s : State) (q : PhysBlock), s.powered = true → s.bob.mounted = true → s.flashStopped = false →
    Runs (.flashOpDone (.erase q) true) s fun t => t.bob.eraseCount q = s.bob.eraseCount q + 1
      ∧ (∀ x, PhysBlock_key x ≠ PhysBlock_key q → t.bob.eraseCount x = s.bob.eraseCount x) ∧ (∀ x, x ∈ t.bob.sectors ↔ x ∈ s.bob.sectors ∧ x.place ≠ q)
      ∧ t.bob = { s.bob with erases := t.bob.erases, sectors := t.bob.sectors, work := t.bob.work } ∧ SameBut [.bob] s t)
  ∧ (∀ (s : State) (q : PhysBlock), s.powered = true → s.bob.mounted = true → s.flashStopped = false → s.bob.spareLeft ≠ 0 →
    Runs (.flashOpDone (.erase q) false) s fun t => t.bob.eraseFail = satAdd 32 s.bob.eraseFail 1 ∧ t.bob.spareLeft = s.bob.spareLeft - 1
      ∧ (4 * (s.bob.spareLeft - 1) < s.bob.spareInit → t.inRun .bobWorn 0 = true)
      ∧ (s.bob.spareInit ≤ 4 * (s.bob.spareLeft - 1) → t.recd = s.recd ∧ t.bob.evt = s.bob.evt)
      ∧ t.recd.media = s.recd.media ∧ SameBut (.bob :: recordParts) s t)
  ∧ (∀ (s : State) (q : PhysBlock), s.powered = true → s.bob.mounted = true → s.flashStopped = false → s.bob.spareLeft = 0 → s.recd.media = false →
    Runs (.flashOpDone (.erase q) false) s fun t => t.bob.eraseFail = satAdd 32 s.bob.eraseFail 1 ∧ t.recd.media = true ∧ t.bob.mounted = true ∧ t.bob.sbMark = true
      ∧ (s.recd.den.length < 64 → ∃ x ∈ t.recd.den, x.state = .pinned ∧ x.record.payload = 3 + q.cs * 2 ^ 8 + q.block % 2 ^ 32 * 2 ^ 32 + s.bob.partAt q * 2 ^ 64)
      ∧ SameBut (.bob :: .sys :: .link :: recordParts) s t)
  ∧ (∀ (s : State) (p : Nat) (q : PhysBlock) (l : List (Nat × Nat)), s.powered = true → s.bob.mounted = true → s.flashStopped = false →
    (assoc s.bob.tries (PhysBlock_key q)).getD 0 < 2 →
    Runs (.flashOpDone (.program p q l) false) s fun t => t.bob.progFail = satAdd 32 s.bob.progFail 1
      ∧ assoc t.bob.tries (PhysBlock_key q) = some ((assoc s.bob.tries (PhysBlock_key q)).getD 0 + 1)
      ∧ t.bob = { s.bob with progFail := t.bob.progFail, tries := t.bob.tries } ∧ SameBut [.bob] s t)
  ∧ (∀ (s : State) (p : Nat) (q : PhysBlock) (l : List (Nat × Nat)), s.powered = true → s.bob.mounted = true → s.flashStopped = false →
    2 ≤ (assoc s.bob.tries (PhysBlock_key q)).getD 0 →
    Runs (.flashOpDone (.program p q l) false) s fun t => t.bob.progFail = satAdd 32 s.bob.progFail 1 ∧ assoc t.bob.tries (PhysBlock_key q) = none
      ∧ (s.bob.spareLeft ≠ 0 → t.bob.spareLeft = s.bob.spareLeft - 1 ∧ t.recd.media = s.recd.media)
      ∧ (s.bob.spareLeft = 0 → t.recd.media = true) ∧ SameBut (.bob :: .sys :: .link :: recordParts) s t)
  ∧ (∀ (s : State) (p : Nat) (q : PhysBlock) (l : List (Nat × Nat)), s.powered = true → s.bob.mounted = true → s.flashStopped = false → p ≠ 3 ∨ s.isMember = false →
    Runs (.flashOpDone (.program p q l) true) s fun t =>
      (∀ e ∈ l, ∃ x ∈ t.bob.sectors, x.part = p ∧ x.copy = e.1 ∧ x.lsn = e.2 ∧ x.place = q)
      ∧ (∀ x ∈ s.bob.sectors, (x.copy, x.lsn) ∉ l ∨ x.part ≠ p → x ∈ t.bob.sectors) ∧ t.bob.wseq % 2 ^ 32 = (s.bob.wseq + l.length) % 2 ^ 32
      ∧ partPriority p ∉ t.bob.work ∧ assoc t.bob.tries (PhysBlock_key q) = none
      ∧ t.bob = { s.bob with work := t.bob.work, sectors := t.bob.sectors, wseq := t.bob.wseq, tries := t.bob.tries } ∧ SameBut [.bob] s t)
  ∧ (∀ (s : State) (q : PhysBlock) (l : List (Nat × Nat)), s.powered = true → s.bob.mounted = true → s.flashStopped = false → s.isMember = true → s.recd.media = true →
    Runs (.flashOpDone (.program 3 q l) true) s fun t => SameBut [.bob] s t)
  ∧ (∀ (s : State) (q : PhysBlock) (l : List (Nat × Nat)), s.powered = true → s.bob.mounted = true → s.flashStopped = false → s.isMember = true → s.recd.media = false →
    s.sys.pfailLow = true →
    Runs (.flashOpDone (.program 3 q l) true) s fun t => t.jrn.ramBytes = 0 ∧ (∀ h ∈ (t.laneOf s.ownLane).entries, h.ram = false)
      ∧ (t.laneOf s.ownLane).entries.map (·.committed) = (s.laneOf s.ownLane).entries.map (·.committed) ∧ SameBut [.bob, .jrn] s t)
  ∧ (∀ (s : State) (q : PhysBlock) (l : List (Nat × Nat)), s.powered = true → s.bob.mounted = true → s.flashStopped = false → s.isMember = true → s.recd.media = false →
    s.sys.pfailLow = false → s.jrn.pstate ≠ .active → s.jrn.pstate ≠ .standby →
    Runs (.flashOpDone (.program 3 q l) true) s fun t => (∀ h ∈ (t.laneOf s.ownLane).entries, h.committed = true ∧ h.ram = false)
      ∧ (t.laneOf s.ownLane).entries.map (·.e) = (s.laneOf s.ownLane).entries.map (·.e) ∧ t.jrn.ramBytes = 0 ∧ SameBut [.bob, .jrn] s t)
  ∧ (∀ (s : State) (p b : Nat) (c : SectorRef) (d o : List Byte) (rf : Bool), s.powered = true → s.bob.mounted = true → s.flashStopped = false → sectorErrors d = some b →
    Runs (.flashOpDone (.read p c d rf false o) true) s fun t => t.bob.corrBits = satAdd 32 s.bob.corrBits b
      ∧ t.bob.corrSect = (if b = 0 then s.bob.corrSect else satAdd 32 s.bob.corrSect 1)
      ∧ t.bob.reloc = (if rf = true ∨ s.obj Obj.REFRESH_THRESHOLD ≤ b then satAdd 32 s.bob.reloc 1 else s.bob.reloc)
      ∧ t.bob.uncorr = s.bob.uncorr ∧ SameBut [.bob] s t)
  ∧ (∀ (s : State) (p : Nat) (c : SectorRef) (d o : List Byte) (rf u ok : Bool), s.powered = true → s.bob.mounted = true → s.flashStopped = false →
    ok = false ∨ u = true ∨ sectorErrors d = none →
    Runs (.flashOpDone (.read p c d rf u o) ok) s fun t => t.bob.uncorr = satAdd 32 s.bob.uncorr 1 ∧ t.bob.corrBits = s.bob.corrBits)

/-- The step and the queue (the model's form, log entries 3 and 4). -/
def Obligations.AStepRunsTheFrontCommand : Prop :=
  (∀ (c : Instr) (rest : List Instr) (s : State), step { s with pending := c :: rest } = exec c { s with pending := rest })
  ∧ (∀ s : State, s.pending = [] → s.tb.refOk = true → s.powered = true →
    ∃ t, step s = .next t ∧ t.tb.taps = s.tb.taps + 128 ∧ t.tb.state = s.tb.state ∧ t.tb.refOk = true
      ∧ (s.tb.slewEnd = none → s.ptpRuns = false → t.tb = { s.tb with taps := s.tb.taps + 128 })
      ∧ (∀ l, l < 4 → (vget t.hdl.delay l {}).out = (vget s.hdl.delay l {}).out.tail) ∧ t.gate = { s.gate with goSeen := t.gate.goSeen }
      ∧ t.sel = { s.sel with
          sinDiscAt := t.sel.sinDiscAt, decAt := t.sel.decAt, dnmDisAt := t.sel.dnmDisAt, enSeen := t.sel.enSeen }
      ∧ t.bob = { s.bob with load := t.bob.load, fgBusy := t.bob.fgBusy } ∧ t.node = { s.node with runs := t.node.runs }
      ∧ (s.jrn.snapNext = none → t.jrn = s.jrn ∧ ∀ p, (t.port p).queue = (s.port p).queue)
      ∧ ((∀ l, l < 4 → (vget s.hdl.delay l {}).out = []) → t.hdl = { s.hdl with cores := t.hdl.cores } ∧ t.recd = s.recd)
      ∧ SameBut [.tb, .hdl, .evc, .gate, .sel, .link, .bob, .node, .jrn, .recd, .free] s t)
  ∧ (∀ s : State, s.pending = [] → s.tb.refOk = false ∨ s.powered = false → step s = .next s)
  ∧ (∀ (s : State) (nbits w : Nat), decodeTableWord nbits w = none ∧ s.withFetchWord nbits w = s)

/-- Reset (R7, R348, R432) and the invariants. -/
def Obligations.ResetMeetsTheInvariants : Prop :=
  State.reset.Inv ∧ State.reset.LegsApart ∧ State.reset.node.nodeState = .boot ∧ State.reset.sel.spb = true ∧ State.reset.sel.causes = 0x1000
    ∧ (∀ n, State.reset.enActive n = false) ∧ (∀ i, i < 4 → (State.reset.gate.switch i).on = false) ∧ (∀ a, State.reset.byteAt a = 0)
    ∧ State.reset.jrn.pstate = .none ∧ (∀ p, (State.reset.port p).queue = []) ∧ State.reset.pending = []

/-- The invariant of the memory and the Den (R276, R401). -/
def Obligations.EveryStepKeepsMemoryCanonicalAndTheDenBounded : Prop :=
  ∀ s t : State, s.Inv → step s = .next t → t.Inv

/-- No command stops, and none touches the queue or the straps. -/
def Obligations.EveryCommandCompletesAndLeavesQueueAndPins : Prop :=
  ∀ (c : Instr) (s : State), ∃ t, exec c s = .next t ∧ t.pending = s.pending ∧ t.pins = s.pins

/-- A device in OFF (R7, R29). -/
def Obligations.ADeviceInOffHeedsOnlyItsSupplies : Prop :=
  (∀ (c : Instr) (s : State), s.node.nodeState = .off → (∀ v a, c ≠ .suppliesValid v a) → c ≠ .brownout → c ≠ .vinLoss → c ≠ .wake →
    (c = .degMinute → s.sys.hibernating = false ∨ s.sel.degraded = false) → exec c s = .next s)
  ∧ ∀ s : State, s.node.nodeState = .off → s.pending = [] → step s = .next s

/-- Frames, records and safety frames read back (R205, R359, R385). -/
def Obligations.FramesRecordsAndSafetyFramesReadBackWhole : Prop :=
  (∀ f : Frame, f.dst < 2 ^ 19 → f.src < 2 ^ 19 → f.hops < 2 ^ 8 → f.hseq < 2 ^ 16 → f.eseq < 2 ^ 16 → f.payload.length ≤ 1024 →
    Frame.ofBytes f.bytes = f ∧ Frame.hcsOk f.bytes = true ∧ Frame.crcOk f.bytes = true ∧ f.bytes.length = f.size)
  ∧ (∀ r : Record, r.typ < 2 ^ 16 → r.source < 2 ^ 24 → r.rsn < 2 ^ 32 → r.opt < 2 ^ 40 → r.pcc < 2 ^ 24 → r.repeatCount < 2 ^ 16 →
    r.ntS < 2 ^ 32 → r.ntNs < 2 ^ 32 → r.payload < 2 ^ 128 → r.copyFlags = none →
    Record.ofBytes r.bytes = r ∧ Record.checkOk r.bytes = true ∧ r.bytes.length = 48)
  ∧ (∀ bs : List Byte, Record.checkOk bs = true → (Record.ofBytes bs).bytes = bs)
  ∧ (∀ f : SafetyFrame, f.connId < 2 ^ 32 → f.seq < 2 ^ 16 → f.texp < 2 ^ 16 → f.nstate < 2 ^ 8 → f.demandId < 2 ^ 32 →
    safetyOfBytes (safetyBytes f) = f ∧ safetyFormOk (safetyBytes f) = true ∧ (safetyBytes f).length = 22)

end
end

