-- ==== Sys2Proof/Laws/Bytes.lean ====
section
/-!
SUPPORT. Sys2Proof/Laws/Bytes.lean: the little-endian bytes of a number give it back (R3), a CRC stays within its width (R206, R361), and a
safety frame carries its own check and its CONN_ID (R359, R362).
-/
namespace Sys2Proof

theorem leNat_leBytes (n v : Nat) : leNat (leBytes n v) = v % 256 ^ n := by
  induction n generalizing v with
  | zero => simp [leBytes, leNat, Nat.mod_one]
  | succ n ih => rw [leBytes, leNat, ih, Nat.pow_succ, Nat.mul_comm (256 ^ n), Nat.mod_mul]; simp

theorem length_leBytes (n v : Nat) : (leBytes n v).length = n := by
  induction n generalizing v with
  | zero => rfl
  | succ n ih => simp [leBytes, ih]

theorem leNat_lt (bs : List Byte) : leNat bs < 256 ^ bs.length := by
  induction bs with
  | nil => simp [leNat]
  | cons b bs ih => have := b.isLt; simp only [leNat, List.length_cons, Nat.pow_succ]; omega

theorem Crc.shift1_lt (w poly crc : Nat) (h : poly < 2 ^ w) : Crc.shift1 w poly crc < 2 ^ w := by
  have hm : crc * 2 % 2 ^ w < 2 ^ w := Nat.mod_lt _ (Nat.two_pow_pos w)
  unfold Crc.shift1
  split
  · exact Nat.xor_lt_two_pow hm h
  · exact hm

theorem Crc.shiftN_lt (w poly n crc : Nat) (hp : poly < 2 ^ w) (h : crc < 2 ^ w) : Crc.shiftN w poly n crc < 2 ^ w := by
  induction n generalizing crc with
  | zero => exact h
  | succ n ih => exact ih _ (Crc.shift1_lt w poly crc hp)

theorem Crc.scrc_lt (bs : List Byte) : Crc.scrc bs < 2 ^ 32 := by
  have h : ∀ (l : List Byte) (c : Nat), c < 2 ^ 32 → Crc.run 32 0x741B8CD7 false c l < 2 ^ 32 := by
    intro l
    induction l with
    | nil => exact fun _ h => h
    | cons b l ih =>
      intro c hc
      refine ih _ (Crc.shiftN_lt _ _ _ _ (by decide) (Nat.xor_lt_two_pow hc ?_))
      have := b.isLt
      simp; omega
  exact Nat.xor_lt_two_pow (h bs _ (by decide)) (by decide)

namespace Machine

theorem connIdOf_lt (a b : Nat) : connIdOf a b < 2 ^ 32 := by
  refine Nat.lt_of_lt_of_le (leNat_lt _) ?_
  have h : ((Crc.sha256 (leBytes 32 a ++ leBytes 32 b)).take 4).length ≤ 4 := List.length_take_le ..
  exact Nat.pow_le_pow_right (by decide) h

/-- A safety frame as sent passes the checks of form at its receiver (R364). -/
theorem safetyBytes_formOk (f : SafetyFrame) : safetyFormOk (safetyBytes f) = true := by
  generalize hb : leBytes 1 1 ++ leBytes 1 (b2n f.init) ++ leBytes 4 f.connId ++ leBytes 2 f.seq ++ leBytes 2 f.texp ++ safetyData f = b
  have hl : b.length = 18 := by rw [← hb]; simp [safetyData, length_leBytes]
  have hs : safetyBytes f = b ++ leBytes 4 (Crc.scrc b) := by rw [← hb]; rfl
  have h1 : (safetyBytes f).take 1 = [1#8] := rfl
  have hc : Crc.scrc b % 256 ^ 4 = Crc.scrc b := Nat.mod_eq_of_lt (Nat.lt_of_lt_of_le (Crc.scrc_lt b) (by decide))
  unfold safetyFormOk
  rw [h1, hs, ← hl, List.drop_left, List.take_left, leNat_leBytes, hc]
  simp [hl, length_leBytes, leNat]

/-- The CONN_ID of a frame as sent is read back (R359, R362). -/
theorem safetyBytes_connId (f : SafetyFrame) (h : f.connId < 2 ^ 32) : (safetyOfBytes (safetyBytes f)).connId = f.connId :=
  (leNat_leBytes 4 f.connId).trans (Nat.mod_eq_of_lt (Nat.lt_of_lt_of_le h (by decide)))

end Machine

end Sys2Proof
end

