-- ==== Sys2Proof/Laws/State.lean ====
section
/-!
SUPPORT. Sys2Proof/Laws/State.lean: what each unit's update does to each field of State: its own field takes the new value, every other one keeps its
value. Later proofs cite these and never unfold a record update.
-/
namespace Sys2Proof.Machine

@[simp] theorem State.upPins_pins (s : State) (f) : (s.upPins f).pins = f s.pins := rfl
@[simp] theorem State.upPins_node (s : State) (f) : (s.upPins f).node = s.node := rfl
@[simp] theorem State.upPins_dict (s : State) (f) : (s.upPins f).dict = s.dict := rfl
@[simp] theorem State.upPins_weft (s : State) (f) : (s.upPins f).weft = s.weft := rfl
@[simp] theorem State.upPins_arm (s : State) (f) : (s.upPins f).arm = s.arm := rfl
@[simp] theorem State.upPins_trdl (s : State) (f) : (s.upPins f).trdl = s.trdl := rfl
@[simp] theorem State.upPins_gate (s : State) (f) : (s.upPins f).gate = s.gate := rfl
@[simp] theorem State.upPins_adc (s : State) (f) : (s.upPins f).adc = s.adc := rfl
@[simp] theorem State.upPins_link (s : State) (f) : (s.upPins f).link = s.link := rfl
@[simp] theorem State.upPins_tb (s : State) (f) : (s.upPins f).tb = s.tb := rfl
@[simp] theorem State.upPins_hdl (s : State) (f) : (s.upPins f).hdl = s.hdl := rfl
@[simp] theorem State.upPins_evc (s : State) (f) : (s.upPins f).evc = s.evc := rfl
@[simp] theorem State.upPins_mem (s : State) (f) : (s.upPins f).mem = s.mem := rfl
@[simp] theorem State.upPins_jrn (s : State) (f) : (s.upPins f).jrn = s.jrn := rfl
@[simp] theorem State.upPins_sel (s : State) (f) : (s.upPins f).sel = s.sel := rfl
@[simp] theorem State.upPins_recd (s : State) (f) : (s.upPins f).recd = s.recd := rfl
@[simp] theorem State.upPins_bob (s : State) (f) : (s.upPins f).bob = s.bob := rfl
@[simp] theorem State.upPins_sys (s : State) (f) : (s.upPins f).sys = s.sys := rfl
@[simp] theorem State.upPins_inbox (s : State) (f) : (s.upPins f).inbox = s.inbox := rfl
@[simp] theorem State.upPins_free (s : State) (f) : (s.upPins f).free = s.free := rfl
@[simp] theorem State.upPins_pending (s : State) (f) : (s.upPins f).pending = s.pending := rfl

@[simp] theorem State.upNode_node (s : State) (f) : (s.upNode f).node = f s.node := rfl
@[simp] theorem State.upNode_pins (s : State) (f) : (s.upNode f).pins = s.pins := rfl
@[simp] theorem State.upNode_dict (s : State) (f) : (s.upNode f).dict = s.dict := rfl
@[simp] theorem State.upNode_weft (s : State) (f) : (s.upNode f).weft = s.weft := rfl
@[simp] theorem State.upNode_arm (s : State) (f) : (s.upNode f).arm = s.arm := rfl
@[simp] theorem State.upNode_trdl (s : State) (f) : (s.upNode f).trdl = s.trdl := rfl
@[simp] theorem State.upNode_gate (s : State) (f) : (s.upNode f).gate = s.gate := rfl
@[simp] theorem State.upNode_adc (s : State) (f) : (s.upNode f).adc = s.adc := rfl
@[simp] theorem State.upNode_link (s : State) (f) : (s.upNode f).link = s.link := rfl
@[simp] theorem State.upNode_tb (s : State) (f) : (s.upNode f).tb = s.tb := rfl
@[simp] theorem State.upNode_hdl (s : State) (f) : (s.upNode f).hdl = s.hdl := rfl
@[simp] theorem State.upNode_evc (s : State) (f) : (s.upNode f).evc = s.evc := rfl
@[simp] theorem State.upNode_mem (s : State) (f) : (s.upNode f).mem = s.mem := rfl
@[simp] theorem State.upNode_jrn (s : State) (f) : (s.upNode f).jrn = s.jrn := rfl
@[simp] theorem State.upNode_sel (s : State) (f) : (s.upNode f).sel = s.sel := rfl
@[simp] theorem State.upNode_recd (s : State) (f) : (s.upNode f).recd = s.recd := rfl
@[simp] theorem State.upNode_bob (s : State) (f) : (s.upNode f).bob = s.bob := rfl
@[simp] theorem State.upNode_sys (s : State) (f) : (s.upNode f).sys = s.sys := rfl
@[simp] theorem State.upNode_inbox (s : State) (f) : (s.upNode f).inbox = s.inbox := rfl
@[simp] theorem State.upNode_free (s : State) (f) : (s.upNode f).free = s.free := rfl
@[simp] theorem State.upNode_pending (s : State) (f) : (s.upNode f).pending = s.pending := rfl

@[simp] theorem State.upDict_dict (s : State) (f) : (s.upDict f).dict = f s.dict := rfl
@[simp] theorem State.upDict_pins (s : State) (f) : (s.upDict f).pins = s.pins := rfl
@[simp] theorem State.upDict_node (s : State) (f) : (s.upDict f).node = s.node := rfl
@[simp] theorem State.upDict_weft (s : State) (f) : (s.upDict f).weft = s.weft := rfl
@[simp] theorem State.upDict_arm (s : State) (f) : (s.upDict f).arm = s.arm := rfl
@[simp] theorem State.upDict_trdl (s : State) (f) : (s.upDict f).trdl = s.trdl := rfl
@[simp] theorem State.upDict_gate (s : State) (f) : (s.upDict f).gate = s.gate := rfl
@[simp] theorem State.upDict_adc (s : State) (f) : (s.upDict f).adc = s.adc := rfl
@[simp] theorem State.upDict_link (s : State) (f) : (s.upDict f).link = s.link := rfl
@[simp] theorem State.upDict_tb (s : State) (f) : (s.upDict f).tb = s.tb := rfl
@[simp] theorem State.upDict_hdl (s : State) (f) : (s.upDict f).hdl = s.hdl := rfl
@[simp] theorem State.upDict_evc (s : State) (f) : (s.upDict f).evc = s.evc := rfl
@[simp] theorem State.upDict_mem (s : State) (f) : (s.upDict f).mem = s.mem := rfl
@[simp] theorem State.upDict_jrn (s : State) (f) : (s.upDict f).jrn = s.jrn := rfl
@[simp] theorem State.upDict_sel (s : State) (f) : (s.upDict f).sel = s.sel := rfl
@[simp] theorem State.upDict_recd (s : State) (f) : (s.upDict f).recd = s.recd := rfl
@[simp] theorem State.upDict_bob (s : State) (f) : (s.upDict f).bob = s.bob := rfl
@[simp] theorem State.upDict_sys (s : State) (f) : (s.upDict f).sys = s.sys := rfl
@[simp] theorem State.upDict_inbox (s : State) (f) : (s.upDict f).inbox = s.inbox := rfl
@[simp] theorem State.upDict_free (s : State) (f) : (s.upDict f).free = s.free := rfl
@[simp] theorem State.upDict_pending (s : State) (f) : (s.upDict f).pending = s.pending := rfl

@[simp] theorem State.upWeft_weft (s : State) (f) : (s.upWeft f).weft = f s.weft := rfl
@[simp] theorem State.upWeft_pins (s : State) (f) : (s.upWeft f).pins = s.pins := rfl
@[simp] theorem State.upWeft_node (s : State) (f) : (s.upWeft f).node = s.node := rfl
@[simp] theorem State.upWeft_dict (s : State) (f) : (s.upWeft f).dict = s.dict := rfl
@[simp] theorem State.upWeft_arm (s : State) (f) : (s.upWeft f).arm = s.arm := rfl
@[simp] theorem State.upWeft_trdl (s : State) (f) : (s.upWeft f).trdl = s.trdl := rfl
@[simp] theorem State.upWeft_gate (s : State) (f) : (s.upWeft f).gate = s.gate := rfl
@[simp] theorem State.upWeft_adc (s : State) (f) : (s.upWeft f).adc = s.adc := rfl
@[simp] theorem State.upWeft_link (s : State) (f) : (s.upWeft f).link = s.link := rfl
@[simp] theorem State.upWeft_tb (s : State) (f) : (s.upWeft f).tb = s.tb := rfl
@[simp] theorem State.upWeft_hdl (s : State) (f) : (s.upWeft f).hdl = s.hdl := rfl
@[simp] theorem State.upWeft_evc (s : State) (f) : (s.upWeft f).evc = s.evc := rfl
@[simp] theorem State.upWeft_mem (s : State) (f) : (s.upWeft f).mem = s.mem := rfl
@[simp] theorem State.upWeft_jrn (s : State) (f) : (s.upWeft f).jrn = s.jrn := rfl
@[simp] theorem State.upWeft_sel (s : State) (f) : (s.upWeft f).sel = s.sel := rfl
@[simp] theorem State.upWeft_recd (s : State) (f) : (s.upWeft f).recd = s.recd := rfl
@[simp] theorem State.upWeft_bob (s : State) (f) : (s.upWeft f).bob = s.bob := rfl
@[simp] theorem State.upWeft_sys (s : State) (f) : (s.upWeft f).sys = s.sys := rfl
@[simp] theorem State.upWeft_inbox (s : State) (f) : (s.upWeft f).inbox = s.inbox := rfl
@[simp] theorem State.upWeft_free (s : State) (f) : (s.upWeft f).free = s.free := rfl
@[simp] theorem State.upWeft_pending (s : State) (f) : (s.upWeft f).pending = s.pending := rfl

@[simp] theorem State.upArm_arm (s : State) (f) : (s.upArm f).arm = f s.arm := rfl
@[simp] theorem State.upArm_pins (s : State) (f) : (s.upArm f).pins = s.pins := rfl
@[simp] theorem State.upArm_node (s : State) (f) : (s.upArm f).node = s.node := rfl
@[simp] theorem State.upArm_dict (s : State) (f) : (s.upArm f).dict = s.dict := rfl
@[simp] theorem State.upArm_weft (s : State) (f) : (s.upArm f).weft = s.weft := rfl
@[simp] theorem State.upArm_trdl (s : State) (f) : (s.upArm f).trdl = s.trdl := rfl
@[simp] theorem State.upArm_gate (s : State) (f) : (s.upArm f).gate = s.gate := rfl
@[simp] theorem State.upArm_adc (s : State) (f) : (s.upArm f).adc = s.adc := rfl
@[simp] theorem State.upArm_link (s : State) (f) : (s.upArm f).link = s.link := rfl
@[simp] theorem State.upArm_tb (s : State) (f) : (s.upArm f).tb = s.tb := rfl
@[simp] theorem State.upArm_hdl (s : State) (f) : (s.upArm f).hdl = s.hdl := rfl
@[simp] theorem State.upArm_evc (s : State) (f) : (s.upArm f).evc = s.evc := rfl
@[simp] theorem State.upArm_mem (s : State) (f) : (s.upArm f).mem = s.mem := rfl
@[simp] theorem State.upArm_jrn (s : State) (f) : (s.upArm f).jrn = s.jrn := rfl
@[simp] theorem State.upArm_sel (s : State) (f) : (s.upArm f).sel = s.sel := rfl
@[simp] theorem State.upArm_recd (s : State) (f) : (s.upArm f).recd = s.recd := rfl
@[simp] theorem State.upArm_bob (s : State) (f) : (s.upArm f).bob = s.bob := rfl
@[simp] theorem State.upArm_sys (s : State) (f) : (s.upArm f).sys = s.sys := rfl
@[simp] theorem State.upArm_inbox (s : State) (f) : (s.upArm f).inbox = s.inbox := rfl
@[simp] theorem State.upArm_free (s : State) (f) : (s.upArm f).free = s.free := rfl
@[simp] theorem State.upArm_pending (s : State) (f) : (s.upArm f).pending = s.pending := rfl

@[simp] theorem State.upTrdl_trdl (s : State) (f) : (s.upTrdl f).trdl = f s.trdl := rfl
@[simp] theorem State.upTrdl_pins (s : State) (f) : (s.upTrdl f).pins = s.pins := rfl
@[simp] theorem State.upTrdl_node (s : State) (f) : (s.upTrdl f).node = s.node := rfl
@[simp] theorem State.upTrdl_dict (s : State) (f) : (s.upTrdl f).dict = s.dict := rfl
@[simp] theorem State.upTrdl_weft (s : State) (f) : (s.upTrdl f).weft = s.weft := rfl
@[simp] theorem State.upTrdl_arm (s : State) (f) : (s.upTrdl f).arm = s.arm := rfl
@[simp] theorem State.upTrdl_gate (s : State) (f) : (s.upTrdl f).gate = s.gate := rfl
@[simp] theorem State.upTrdl_adc (s : State) (f) : (s.upTrdl f).adc = s.adc := rfl
@[simp] theorem State.upTrdl_link (s : State) (f) : (s.upTrdl f).link = s.link := rfl
@[simp] theorem State.upTrdl_tb (s : State) (f) : (s.upTrdl f).tb = s.tb := rfl
@[simp] theorem State.upTrdl_hdl (s : State) (f) : (s.upTrdl f).hdl = s.hdl := rfl
@[simp] theorem State.upTrdl_evc (s : State) (f) : (s.upTrdl f).evc = s.evc := rfl
@[simp] theorem State.upTrdl_mem (s : State) (f) : (s.upTrdl f).mem = s.mem := rfl
@[simp] theorem State.upTrdl_jrn (s : State) (f) : (s.upTrdl f).jrn = s.jrn := rfl
@[simp] theorem State.upTrdl_sel (s : State) (f) : (s.upTrdl f).sel = s.sel := rfl
@[simp] theorem State.upTrdl_recd (s : State) (f) : (s.upTrdl f).recd = s.recd := rfl
@[simp] theorem State.upTrdl_bob (s : State) (f) : (s.upTrdl f).bob = s.bob := rfl
@[simp] theorem State.upTrdl_sys (s : State) (f) : (s.upTrdl f).sys = s.sys := rfl
@[simp] theorem State.upTrdl_inbox (s : State) (f) : (s.upTrdl f).inbox = s.inbox := rfl
@[simp] theorem State.upTrdl_free (s : State) (f) : (s.upTrdl f).free = s.free := rfl
@[simp] theorem State.upTrdl_pending (s : State) (f) : (s.upTrdl f).pending = s.pending := rfl

@[simp] theorem State.upGate_gate (s : State) (f) : (s.upGate f).gate = f s.gate := rfl
@[simp] theorem State.upGate_pins (s : State) (f) : (s.upGate f).pins = s.pins := rfl
@[simp] theorem State.upGate_node (s : State) (f) : (s.upGate f).node = s.node := rfl
@[simp] theorem State.upGate_dict (s : State) (f) : (s.upGate f).dict = s.dict := rfl
@[simp] theorem State.upGate_weft (s : State) (f) : (s.upGate f).weft = s.weft := rfl
@[simp] theorem State.upGate_arm (s : State) (f) : (s.upGate f).arm = s.arm := rfl
@[simp] theorem State.upGate_trdl (s : State) (f) : (s.upGate f).trdl = s.trdl := rfl
@[simp] theorem State.upGate_adc (s : State) (f) : (s.upGate f).adc = s.adc := rfl
@[simp] theorem State.upGate_link (s : State) (f) : (s.upGate f).link = s.link := rfl
@[simp] theorem State.upGate_tb (s : State) (f) : (s.upGate f).tb = s.tb := rfl
@[simp] theorem State.upGate_hdl (s : State) (f) : (s.upGate f).hdl = s.hdl := rfl
@[simp] theorem State.upGate_evc (s : State) (f) : (s.upGate f).evc = s.evc := rfl
@[simp] theorem State.upGate_mem (s : State) (f) : (s.upGate f).mem = s.mem := rfl
@[simp] theorem State.upGate_jrn (s : State) (f) : (s.upGate f).jrn = s.jrn := rfl
@[simp] theorem State.upGate_sel (s : State) (f) : (s.upGate f).sel = s.sel := rfl
@[simp] theorem State.upGate_recd (s : State) (f) : (s.upGate f).recd = s.recd := rfl
@[simp] theorem State.upGate_bob (s : State) (f) : (s.upGate f).bob = s.bob := rfl
@[simp] theorem State.upGate_sys (s : State) (f) : (s.upGate f).sys = s.sys := rfl
@[simp] theorem State.upGate_inbox (s : State) (f) : (s.upGate f).inbox = s.inbox := rfl
@[simp] theorem State.upGate_free (s : State) (f) : (s.upGate f).free = s.free := rfl
@[simp] theorem State.upGate_pending (s : State) (f) : (s.upGate f).pending = s.pending := rfl

@[simp] theorem State.upAdc_adc (s : State) (f) : (s.upAdc f).adc = f s.adc := rfl
@[simp] theorem State.upAdc_pins (s : State) (f) : (s.upAdc f).pins = s.pins := rfl
@[simp] theorem State.upAdc_node (s : State) (f) : (s.upAdc f).node = s.node := rfl
@[simp] theorem State.upAdc_dict (s : State) (f) : (s.upAdc f).dict = s.dict := rfl
@[simp] theorem State.upAdc_weft (s : State) (f) : (s.upAdc f).weft = s.weft := rfl
@[simp] theorem State.upAdc_arm (s : State) (f) : (s.upAdc f).arm = s.arm := rfl
@[simp] theorem State.upAdc_trdl (s : State) (f) : (s.upAdc f).trdl = s.trdl := rfl
@[simp] theorem State.upAdc_gate (s : State) (f) : (s.upAdc f).gate = s.gate := rfl
@[simp] theorem State.upAdc_link (s : State) (f) : (s.upAdc f).link = s.link := rfl
@[simp] theorem State.upAdc_tb (s : State) (f) : (s.upAdc f).tb = s.tb := rfl
@[simp] theorem State.upAdc_hdl (s : State) (f) : (s.upAdc f).hdl = s.hdl := rfl
@[simp] theorem State.upAdc_evc (s : State) (f) : (s.upAdc f).evc = s.evc := rfl
@[simp] theorem State.upAdc_mem (s : State) (f) : (s.upAdc f).mem = s.mem := rfl
@[simp] theorem State.upAdc_jrn (s : State) (f) : (s.upAdc f).jrn = s.jrn := rfl
@[simp] theorem State.upAdc_sel (s : State) (f) : (s.upAdc f).sel = s.sel := rfl
@[simp] theorem State.upAdc_recd (s : State) (f) : (s.upAdc f).recd = s.recd := rfl
@[simp] theorem State.upAdc_bob (s : State) (f) : (s.upAdc f).bob = s.bob := rfl
@[simp] theorem State.upAdc_sys (s : State) (f) : (s.upAdc f).sys = s.sys := rfl
@[simp] theorem State.upAdc_inbox (s : State) (f) : (s.upAdc f).inbox = s.inbox := rfl
@[simp] theorem State.upAdc_free (s : State) (f) : (s.upAdc f).free = s.free := rfl
@[simp] theorem State.upAdc_pending (s : State) (f) : (s.upAdc f).pending = s.pending := rfl

@[simp] theorem State.upLink_link (s : State) (f) : (s.upLink f).link = f s.link := rfl
@[simp] theorem State.upLink_pins (s : State) (f) : (s.upLink f).pins = s.pins := rfl
@[simp] theorem State.upLink_node (s : State) (f) : (s.upLink f).node = s.node := rfl
@[simp] theorem State.upLink_dict (s : State) (f) : (s.upLink f).dict = s.dict := rfl
@[simp] theorem State.upLink_weft (s : State) (f) : (s.upLink f).weft = s.weft := rfl
@[simp] theorem State.upLink_arm (s : State) (f) : (s.upLink f).arm = s.arm := rfl
@[simp] theorem State.upLink_trdl (s : State) (f) : (s.upLink f).trdl = s.trdl := rfl
@[simp] theorem State.upLink_gate (s : State) (f) : (s.upLink f).gate = s.gate := rfl
@[simp] theorem State.upLink_adc (s : State) (f) : (s.upLink f).adc = s.adc := rfl
@[simp] theorem State.upLink_tb (s : State) (f) : (s.upLink f).tb = s.tb := rfl
@[simp] theorem State.upLink_hdl (s : State) (f) : (s.upLink f).hdl = s.hdl := rfl
@[simp] theorem State.upLink_evc (s : State) (f) : (s.upLink f).evc = s.evc := rfl
@[simp] theorem State.upLink_mem (s : State) (f) : (s.upLink f).mem = s.mem := rfl
@[simp] theorem State.upLink_jrn (s : State) (f) : (s.upLink f).jrn = s.jrn := rfl
@[simp] theorem State.upLink_sel (s : State) (f) : (s.upLink f).sel = s.sel := rfl
@[simp] theorem State.upLink_recd (s : State) (f) : (s.upLink f).recd = s.recd := rfl
@[simp] theorem State.upLink_bob (s : State) (f) : (s.upLink f).bob = s.bob := rfl
@[simp] theorem State.upLink_sys (s : State) (f) : (s.upLink f).sys = s.sys := rfl
@[simp] theorem State.upLink_inbox (s : State) (f) : (s.upLink f).inbox = s.inbox := rfl
@[simp] theorem State.upLink_free (s : State) (f) : (s.upLink f).free = s.free := rfl
@[simp] theorem State.upLink_pending (s : State) (f) : (s.upLink f).pending = s.pending := rfl

@[simp] theorem State.upTb_tb (s : State) (f) : (s.upTb f).tb = f s.tb := rfl
@[simp] theorem State.upTb_pins (s : State) (f) : (s.upTb f).pins = s.pins := rfl
@[simp] theorem State.upTb_node (s : State) (f) : (s.upTb f).node = s.node := rfl
@[simp] theorem State.upTb_dict (s : State) (f) : (s.upTb f).dict = s.dict := rfl
@[simp] theorem State.upTb_weft (s : State) (f) : (s.upTb f).weft = s.weft := rfl
@[simp] theorem State.upTb_arm (s : State) (f) : (s.upTb f).arm = s.arm := rfl
@[simp] theorem State.upTb_trdl (s : State) (f) : (s.upTb f).trdl = s.trdl := rfl
@[simp] theorem State.upTb_gate (s : State) (f) : (s.upTb f).gate = s.gate := rfl
@[simp] theorem State.upTb_adc (s : State) (f) : (s.upTb f).adc = s.adc := rfl
@[simp] theorem State.upTb_link (s : State) (f) : (s.upTb f).link = s.link := rfl
@[simp] theorem State.upTb_hdl (s : State) (f) : (s.upTb f).hdl = s.hdl := rfl
@[simp] theorem State.upTb_evc (s : State) (f) : (s.upTb f).evc = s.evc := rfl
@[simp] theorem State.upTb_mem (s : State) (f) : (s.upTb f).mem = s.mem := rfl
@[simp] theorem State.upTb_jrn (s : State) (f) : (s.upTb f).jrn = s.jrn := rfl
@[simp] theorem State.upTb_sel (s : State) (f) : (s.upTb f).sel = s.sel := rfl
@[simp] theorem State.upTb_recd (s : State) (f) : (s.upTb f).recd = s.recd := rfl
@[simp] theorem State.upTb_bob (s : State) (f) : (s.upTb f).bob = s.bob := rfl
@[simp] theorem State.upTb_sys (s : State) (f) : (s.upTb f).sys = s.sys := rfl
@[simp] theorem State.upTb_inbox (s : State) (f) : (s.upTb f).inbox = s.inbox := rfl
@[simp] theorem State.upTb_free (s : State) (f) : (s.upTb f).free = s.free := rfl
@[simp] theorem State.upTb_pending (s : State) (f) : (s.upTb f).pending = s.pending := rfl

@[simp] theorem State.upHdl_hdl (s : State) (f) : (s.upHdl f).hdl = f s.hdl := rfl
@[simp] theorem State.upHdl_pins (s : State) (f) : (s.upHdl f).pins = s.pins := rfl
@[simp] theorem State.upHdl_node (s : State) (f) : (s.upHdl f).node = s.node := rfl
@[simp] theorem State.upHdl_dict (s : State) (f) : (s.upHdl f).dict = s.dict := rfl
@[simp] theorem State.upHdl_weft (s : State) (f) : (s.upHdl f).weft = s.weft := rfl
@[simp] theorem State.upHdl_arm (s : State) (f) : (s.upHdl f).arm = s.arm := rfl
@[simp] theorem State.upHdl_trdl (s : State) (f) : (s.upHdl f).trdl = s.trdl := rfl
@[simp] theorem State.upHdl_gate (s : State) (f) : (s.upHdl f).gate = s.gate := rfl
@[simp] theorem State.upHdl_adc (s : State) (f) : (s.upHdl f).adc = s.adc := rfl
@[simp] theorem State.upHdl_link (s : State) (f) : (s.upHdl f).link = s.link := rfl
@[simp] theorem State.upHdl_tb (s : State) (f) : (s.upHdl f).tb = s.tb := rfl
@[simp] theorem State.upHdl_evc (s : State) (f) : (s.upHdl f).evc = s.evc := rfl
@[simp] theorem State.upHdl_mem (s : State) (f) : (s.upHdl f).mem = s.mem := rfl
@[simp] theorem State.upHdl_jrn (s : State) (f) : (s.upHdl f).jrn = s.jrn := rfl
@[simp] theorem State.upHdl_sel (s : State) (f) : (s.upHdl f).sel = s.sel := rfl
@[simp] theorem State.upHdl_recd (s : State) (f) : (s.upHdl f).recd = s.recd := rfl
@[simp] theorem State.upHdl_bob (s : State) (f) : (s.upHdl f).bob = s.bob := rfl
@[simp] theorem State.upHdl_sys (s : State) (f) : (s.upHdl f).sys = s.sys := rfl
@[simp] theorem State.upHdl_inbox (s : State) (f) : (s.upHdl f).inbox = s.inbox := rfl
@[simp] theorem State.upHdl_free (s : State) (f) : (s.upHdl f).free = s.free := rfl
@[simp] theorem State.upHdl_pending (s : State) (f) : (s.upHdl f).pending = s.pending := rfl

@[simp] theorem State.upEvc_evc (s : State) (f) : (s.upEvc f).evc = f s.evc := rfl
@[simp] theorem State.upEvc_pins (s : State) (f) : (s.upEvc f).pins = s.pins := rfl
@[simp] theorem State.upEvc_node (s : State) (f) : (s.upEvc f).node = s.node := rfl
@[simp] theorem State.upEvc_dict (s : State) (f) : (s.upEvc f).dict = s.dict := rfl
@[simp] theorem State.upEvc_weft (s : State) (f) : (s.upEvc f).weft = s.weft := rfl
@[simp] theorem State.upEvc_arm (s : State) (f) : (s.upEvc f).arm = s.arm := rfl
@[simp] theorem State.upEvc_trdl (s : State) (f) : (s.upEvc f).trdl = s.trdl := rfl
@[simp] theorem State.upEvc_gate (s : State) (f) : (s.upEvc f).gate = s.gate := rfl
@[simp] theorem State.upEvc_adc (s : State) (f) : (s.upEvc f).adc = s.adc := rfl
@[simp] theorem State.upEvc_link (s : State) (f) : (s.upEvc f).link = s.link := rfl
@[simp] theorem State.upEvc_tb (s : State) (f) : (s.upEvc f).tb = s.tb := rfl
@[simp] theorem State.upEvc_hdl (s : State) (f) : (s.upEvc f).hdl = s.hdl := rfl
@[simp] theorem State.upEvc_mem (s : State) (f) : (s.upEvc f).mem = s.mem := rfl
@[simp] theorem State.upEvc_jrn (s : State) (f) : (s.upEvc f).jrn = s.jrn := rfl
@[simp] theorem State.upEvc_sel (s : State) (f) : (s.upEvc f).sel = s.sel := rfl
@[simp] theorem State.upEvc_recd (s : State) (f) : (s.upEvc f).recd = s.recd := rfl
@[simp] theorem State.upEvc_bob (s : State) (f) : (s.upEvc f).bob = s.bob := rfl
@[simp] theorem State.upEvc_sys (s : State) (f) : (s.upEvc f).sys = s.sys := rfl
@[simp] theorem State.upEvc_inbox (s : State) (f) : (s.upEvc f).inbox = s.inbox := rfl
@[simp] theorem State.upEvc_free (s : State) (f) : (s.upEvc f).free = s.free := rfl
@[simp] theorem State.upEvc_pending (s : State) (f) : (s.upEvc f).pending = s.pending := rfl

@[simp] theorem State.upMem_mem (s : State) (f) : (s.upMem f).mem = f s.mem := rfl
@[simp] theorem State.upMem_pins (s : State) (f) : (s.upMem f).pins = s.pins := rfl
@[simp] theorem State.upMem_node (s : State) (f) : (s.upMem f).node = s.node := rfl
@[simp] theorem State.upMem_dict (s : State) (f) : (s.upMem f).dict = s.dict := rfl
@[simp] theorem State.upMem_weft (s : State) (f) : (s.upMem f).weft = s.weft := rfl
@[simp] theorem State.upMem_arm (s : State) (f) : (s.upMem f).arm = s.arm := rfl
@[simp] theorem State.upMem_trdl (s : State) (f) : (s.upMem f).trdl = s.trdl := rfl
@[simp] theorem State.upMem_gate (s : State) (f) : (s.upMem f).gate = s.gate := rfl
@[simp] theorem State.upMem_adc (s : State) (f) : (s.upMem f).adc = s.adc := rfl
@[simp] theorem State.upMem_link (s : State) (f) : (s.upMem f).link = s.link := rfl
@[simp] theorem State.upMem_tb (s : State) (f) : (s.upMem f).tb = s.tb := rfl
@[simp] theorem State.upMem_hdl (s : State) (f) : (s.upMem f).hdl = s.hdl := rfl
@[simp] theorem State.upMem_evc (s : State) (f) : (s.upMem f).evc = s.evc := rfl
@[simp] theorem State.upMem_jrn (s : State) (f) : (s.upMem f).jrn = s.jrn := rfl
@[simp] theorem State.upMem_sel (s : State) (f) : (s.upMem f).sel = s.sel := rfl
@[simp] theorem State.upMem_recd (s : State) (f) : (s.upMem f).recd = s.recd := rfl
@[simp] theorem State.upMem_bob (s : State) (f) : (s.upMem f).bob = s.bob := rfl
@[simp] theorem State.upMem_sys (s : State) (f) : (s.upMem f).sys = s.sys := rfl
@[simp] theorem State.upMem_inbox (s : State) (f) : (s.upMem f).inbox = s.inbox := rfl
@[simp] theorem State.upMem_free (s : State) (f) : (s.upMem f).free = s.free := rfl
@[simp] theorem State.upMem_pending (s : State) (f) : (s.upMem f).pending = s.pending := rfl

@[simp] theorem State.upJrn_jrn (s : State) (f) : (s.upJrn f).jrn = f s.jrn := rfl
@[simp] theorem State.upJrn_pins (s : State) (f) : (s.upJrn f).pins = s.pins := rfl
@[simp] theorem State.upJrn_node (s : State) (f) : (s.upJrn f).node = s.node := rfl
@[simp] theorem State.upJrn_dict (s : State) (f) : (s.upJrn f).dict = s.dict := rfl
@[simp] theorem State.upJrn_weft (s : State) (f) : (s.upJrn f).weft = s.weft := rfl
@[simp] theorem State.upJrn_arm (s : State) (f) : (s.upJrn f).arm = s.arm := rfl
@[simp] theorem State.upJrn_trdl (s : State) (f) : (s.upJrn f).trdl = s.trdl := rfl
@[simp] theorem State.upJrn_gate (s : State) (f) : (s.upJrn f).gate = s.gate := rfl
@[simp] theorem State.upJrn_adc (s : State) (f) : (s.upJrn f).adc = s.adc := rfl
@[simp] theorem State.upJrn_link (s : State) (f) : (s.upJrn f).link = s.link := rfl
@[simp] theorem State.upJrn_tb (s : State) (f) : (s.upJrn f).tb = s.tb := rfl
@[simp] theorem State.upJrn_hdl (s : State) (f) : (s.upJrn f).hdl = s.hdl := rfl
@[simp] theorem State.upJrn_evc (s : State) (f) : (s.upJrn f).evc = s.evc := rfl
@[simp] theorem State.upJrn_mem (s : State) (f) : (s.upJrn f).mem = s.mem := rfl
@[simp] theorem State.upJrn_sel (s : State) (f) : (s.upJrn f).sel = s.sel := rfl
@[simp] theorem State.upJrn_recd (s : State) (f) : (s.upJrn f).recd = s.recd := rfl
@[simp] theorem State.upJrn_bob (s : State) (f) : (s.upJrn f).bob = s.bob := rfl
@[simp] theorem State.upJrn_sys (s : State) (f) : (s.upJrn f).sys = s.sys := rfl
@[simp] theorem State.upJrn_inbox (s : State) (f) : (s.upJrn f).inbox = s.inbox := rfl
@[simp] theorem State.upJrn_free (s : State) (f) : (s.upJrn f).free = s.free := rfl
@[simp] theorem State.upJrn_pending (s : State) (f) : (s.upJrn f).pending = s.pending := rfl

@[simp] theorem State.upSel_sel (s : State) (f) : (s.upSel f).sel = f s.sel := rfl
@[simp] theorem State.upSel_pins (s : State) (f) : (s.upSel f).pins = s.pins := rfl
@[simp] theorem State.upSel_node (s : State) (f) : (s.upSel f).node = s.node := rfl
@[simp] theorem State.upSel_dict (s : State) (f) : (s.upSel f).dict = s.dict := rfl
@[simp] theorem State.upSel_weft (s : State) (f) : (s.upSel f).weft = s.weft := rfl
@[simp] theorem State.upSel_arm (s : State) (f) : (s.upSel f).arm = s.arm := rfl
@[simp] theorem State.upSel_trdl (s : State) (f) : (s.upSel f).trdl = s.trdl := rfl
@[simp] theorem State.upSel_gate (s : State) (f) : (s.upSel f).gate = s.gate := rfl
@[simp] theorem State.upSel_adc (s : State) (f) : (s.upSel f).adc = s.adc := rfl
@[simp] theorem State.upSel_link (s : State) (f) : (s.upSel f).link = s.link := rfl
@[simp] theorem State.upSel_tb (s : State) (f) : (s.upSel f).tb = s.tb := rfl
@[simp] theorem State.upSel_hdl (s : State) (f) : (s.upSel f).hdl = s.hdl := rfl
@[simp] theorem State.upSel_evc (s : State) (f) : (s.upSel f).evc = s.evc := rfl
@[simp] theorem State.upSel_mem (s : State) (f) : (s.upSel f).mem = s.mem := rfl
@[simp] theorem State.upSel_jrn (s : State) (f) : (s.upSel f).jrn = s.jrn := rfl
@[simp] theorem State.upSel_recd (s : State) (f) : (s.upSel f).recd = s.recd := rfl
@[simp] theorem State.upSel_bob (s : State) (f) : (s.upSel f).bob = s.bob := rfl
@[simp] theorem State.upSel_sys (s : State) (f) : (s.upSel f).sys = s.sys := rfl
@[simp] theorem State.upSel_inbox (s : State) (f) : (s.upSel f).inbox = s.inbox := rfl
@[simp] theorem State.upSel_free (s : State) (f) : (s.upSel f).free = s.free := rfl
@[simp] theorem State.upSel_pending (s : State) (f) : (s.upSel f).pending = s.pending := rfl

@[simp] theorem State.upRecd_recd (s : State) (f) : (s.upRecd f).recd = f s.recd := rfl
@[simp] theorem State.upRecd_pins (s : State) (f) : (s.upRecd f).pins = s.pins := rfl
@[simp] theorem State.upRecd_node (s : State) (f) : (s.upRecd f).node = s.node := rfl
@[simp] theorem State.upRecd_dict (s : State) (f) : (s.upRecd f).dict = s.dict := rfl
@[simp] theorem State.upRecd_weft (s : State) (f) : (s.upRecd f).weft = s.weft := rfl
@[simp] theorem State.upRecd_arm (s : State) (f) : (s.upRecd f).arm = s.arm := rfl
@[simp] theorem State.upRecd_trdl (s : State) (f) : (s.upRecd f).trdl = s.trdl := rfl
@[simp] theorem State.upRecd_gate (s : State) (f) : (s.upRecd f).gate = s.gate := rfl
@[simp] theorem State.upRecd_adc (s : State) (f) : (s.upRecd f).adc = s.adc := rfl
@[simp] theorem State.upRecd_link (s : State) (f) : (s.upRecd f).link = s.link := rfl
@[simp] theorem State.upRecd_tb (s : State) (f) : (s.upRecd f).tb = s.tb := rfl
@[simp] theorem State.upRecd_hdl (s : State) (f) : (s.upRecd f).hdl = s.hdl := rfl
@[simp] theorem State.upRecd_evc (s : State) (f) : (s.upRecd f).evc = s.evc := rfl
@[simp] theorem State.upRecd_mem (s : State) (f) : (s.upRecd f).mem = s.mem := rfl
@[simp] theorem State.upRecd_jrn (s : State) (f) : (s.upRecd f).jrn = s.jrn := rfl
@[simp] theorem State.upRecd_sel (s : State) (f) : (s.upRecd f).sel = s.sel := rfl
@[simp] theorem State.upRecd_bob (s : State) (f) : (s.upRecd f).bob = s.bob := rfl
@[simp] theorem State.upRecd_sys (s : State) (f) : (s.upRecd f).sys = s.sys := rfl
@[simp] theorem State.upRecd_inbox (s : State) (f) : (s.upRecd f).inbox = s.inbox := rfl
@[simp] theorem State.upRecd_free (s : State) (f) : (s.upRecd f).free = s.free := rfl
@[simp] theorem State.upRecd_pending (s : State) (f) : (s.upRecd f).pending = s.pending := rfl

@[simp] theorem State.upBob_bob (s : State) (f) : (s.upBob f).bob = f s.bob := rfl
@[simp] theorem State.upBob_pins (s : State) (f) : (s.upBob f).pins = s.pins := rfl
@[simp] theorem State.upBob_node (s : State) (f) : (s.upBob f).node = s.node := rfl
@[simp] theorem State.upBob_dict (s : State) (f) : (s.upBob f).dict = s.dict := rfl
@[simp] theorem State.upBob_weft (s : State) (f) : (s.upBob f).weft = s.weft := rfl
@[simp] theorem State.upBob_arm (s : State) (f) : (s.upBob f).arm = s.arm := rfl
@[simp] theorem State.upBob_trdl (s : State) (f) : (s.upBob f).trdl = s.trdl := rfl
@[simp] theorem State.upBob_gate (s : State) (f) : (s.upBob f).gate = s.gate := rfl
@[simp] theorem State.upBob_adc (s : State) (f) : (s.upBob f).adc = s.adc := rfl
@[simp] theorem State.upBob_link (s : State) (f) : (s.upBob f).link = s.link := rfl
@[simp] theorem State.upBob_tb (s : State) (f) : (s.upBob f).tb = s.tb := rfl
@[simp] theorem State.upBob_hdl (s : State) (f) : (s.upBob f).hdl = s.hdl := rfl
@[simp] theorem State.upBob_evc (s : State) (f) : (s.upBob f).evc = s.evc := rfl
@[simp] theorem State.upBob_mem (s : State) (f) : (s.upBob f).mem = s.mem := rfl
@[simp] theorem State.upBob_jrn (s : State) (f) : (s.upBob f).jrn = s.jrn := rfl
@[simp] theorem State.upBob_sel (s : State) (f) : (s.upBob f).sel = s.sel := rfl
@[simp] theorem State.upBob_recd (s : State) (f) : (s.upBob f).recd = s.recd := rfl
@[simp] theorem State.upBob_sys (s : State) (f) : (s.upBob f).sys = s.sys := rfl
@[simp] theorem State.upBob_inbox (s : State) (f) : (s.upBob f).inbox = s.inbox := rfl
@[simp] theorem State.upBob_free (s : State) (f) : (s.upBob f).free = s.free := rfl
@[simp] theorem State.upBob_pending (s : State) (f) : (s.upBob f).pending = s.pending := rfl

@[simp] theorem State.upSys_sys (s : State) (f) : (s.upSys f).sys = f s.sys := rfl
@[simp] theorem State.upSys_pins (s : State) (f) : (s.upSys f).pins = s.pins := rfl
@[simp] theorem State.upSys_node (s : State) (f) : (s.upSys f).node = s.node := rfl
@[simp] theorem State.upSys_dict (s : State) (f) : (s.upSys f).dict = s.dict := rfl
@[simp] theorem State.upSys_weft (s : State) (f) : (s.upSys f).weft = s.weft := rfl
@[simp] theorem State.upSys_arm (s : State) (f) : (s.upSys f).arm = s.arm := rfl
@[simp] theorem State.upSys_trdl (s : State) (f) : (s.upSys f).trdl = s.trdl := rfl
@[simp] theorem State.upSys_gate (s : State) (f) : (s.upSys f).gate = s.gate := rfl
@[simp] theorem State.upSys_adc (s : State) (f) : (s.upSys f).adc = s.adc := rfl
@[simp] theorem State.upSys_link (s : State) (f) : (s.upSys f).link = s.link := rfl
@[simp] theorem State.upSys_tb (s : State) (f) : (s.upSys f).tb = s.tb := rfl
@[simp] theorem State.upSys_hdl (s : State) (f) : (s.upSys f).hdl = s.hdl := rfl
@[simp] theorem State.upSys_evc (s : State) (f) : (s.upSys f).evc = s.evc := rfl
@[simp] theorem State.upSys_mem (s : State) (f) : (s.upSys f).mem = s.mem := rfl
@[simp] theorem State.upSys_jrn (s : State) (f) : (s.upSys f).jrn = s.jrn := rfl
@[simp] theorem State.upSys_sel (s : State) (f) : (s.upSys f).sel = s.sel := rfl
@[simp] theorem State.upSys_recd (s : State) (f) : (s.upSys f).recd = s.recd := rfl
@[simp] theorem State.upSys_bob (s : State) (f) : (s.upSys f).bob = s.bob := rfl
@[simp] theorem State.upSys_inbox (s : State) (f) : (s.upSys f).inbox = s.inbox := rfl
@[simp] theorem State.upSys_free (s : State) (f) : (s.upSys f).free = s.free := rfl
@[simp] theorem State.upSys_pending (s : State) (f) : (s.upSys f).pending = s.pending := rfl

/-! ### Power (R7) -/

/-- A command at a device that is off changes nothing. -/
theorem State.onPower_off (s t : State) (h : s.powered = false) : s.onPower t = s := by simp [State.onPower, h]

/-- A command at a powered device has its effect. -/
theorem State.onPower_on (s t : State) (h : s.powered = true) : s.onPower t = t := by simp [State.onPower, h]

/-- A property of the state before and of the effect holds of the result, whether the device is powered or not. -/
theorem State.onPower_cases {p : State → Prop} (s t : State) (h : p s) (h' : p t) : p (s.onPower t) := by
  unfold State.onPower; split <;> assumption

/-- A command of the REFCLK islands has its effect at a powered device with REFCLK (R243). -/
theorem State.onLane_on (s t : State) (h : s.powered = true) (h' : s.tb.refOk = true) : s.onLane t = t := by
  simp [State.onLane, State.onPower, h, h']

/-- While REFCLK is lost the islands that it drives stand still (R243). -/
theorem State.onLane_stopped (s t : State) (h : s.tb.refOk = false) : s.onLane t = s := by
  simp [State.onLane, State.onPower, h]

/-! ### Answers to writes (R50, R69) -/

/-- A write that is applied has its effect and nothing more. -/
theorem settle_ok (key jsn : Nat) (t : State) : settle key jsn (.ok, t) = t := by simp [settle]

/-- A write that is refused is counted and recorded. -/
theorem settle_no (key jsn : Nat) (st : Status) (t : State) (h : st ≠ .ok) : settle key jsn (st, t) = t.refuse st.code key jsn := by
  simp [settle, h]

end Sys2Proof.Machine
end

