-- ==== Sys2Proof/Laws/SameBut.lean ====
section
/-!
SUPPORT. Sys2Proof/Laws/SameBut.lean: how the frame of an operation is put together from the frames of its parts.
-/
namespace Sys2Proof.Machine

@[simp] theorem SameBut.refl (l : List Part) (s : State) : SameBut l s s := by
  intro p _
  cases p <;> rfl

/-- Agreement in a part is passed on. -/
theorem Part.agrees_trans {p : Part} {s t u : State} (h : p.agrees s t) (h' : p.agrees t u) : p.agrees s u := by
  cases p <;> exact Eq.trans h' h

/-- Agreement in a part goes both ways. -/
theorem Part.agrees_symm {p : Part} {s t : State} (h : p.agrees s t) : p.agrees t s := by
  cases p <;> exact Eq.symm h

theorem SameBut.trans {l : List Part} {s t u : State} (h : SameBut l s t) (h' : SameBut l t u) : SameBut l s u :=
  fun p hp => Part.agrees_trans (h p hp) (h' p hp)

theorem SameBut.mono {l k : List Part} {s t : State} (h : SameBut l s t) (hk : l ⊆ k) : SameBut k s t :=
  fun p hp => h p fun hl => hp (hk hl)

/-- After an operation whose parts are among those of a frame, the frame says what it said before. -/
theorem SameBut.iff_of {l k : List Part} {s t u : State} (h : SameBut k t u) (hk : k ⊆ l) : SameBut l s u ↔ SameBut l s t :=
  ⟨fun hu p hp => Part.agrees_trans (hu p hp) (Part.agrees_symm (h p fun hx => hp (hk hx))), fun ht => ht.trans (h.mono hk)⟩

/-- A fold of steps with one frame has it. -/
theorem SameBut.foldl {α : Type} {l : List Part} {f : State → α → State} (hf : ∀ s x, SameBut l s (f s x)) (xs : List α) (s : State) :
    SameBut l s (xs.foldl f s) := by
  induction xs generalizing s with
  | nil => exact SameBut.refl l s
  | cons x xs ih => exact (hf s x).trans (ih _)

/-- A choice between two states of one frame has it. -/
theorem SameBut.ite {l : List Part} {c : Prop} [Decidable c] {s t u : State} (h : SameBut l s t) (h' : SameBut l s u) :
    SameBut l s (if c then t else u) := by
  split <;> assumption

/-- A powered device's command has the frame of its effect; an unpowered one's changes nothing (R7). -/
theorem SameBut.onPower {l : List Part} {s t : State} (h : SameBut l s t) : SameBut l s (s.onPower t) :=
  State.onPower_cases (p := SameBut l s) s t (SameBut.refl l s) h

/-- A command of the REFCLK islands has the frame of its effect as well (R243). -/
theorem SameBut.onLane {l : List Part} {s t : State} (h : SameBut l s t) : SameBut l s (s.onLane t) :=
  SameBut.onPower (SameBut.ite h (SameBut.refl l s))

/-! ### Each unit's update -/

theorem State.upPins_sameBut (s : State) (f) : SameBut [.pins] s (s.upPins f) := by
  intro p hp
  cases p <;> first | rfl | exact absurd (List.mem_singleton.mpr rfl) hp

@[simp] theorem SameBut.upPins {l : List Part} {s t : State} (f) (h : .pins ∈ l) : SameBut l s (t.upPins f) ↔ SameBut l s t :=
  SameBut.iff_of (t.upPins_sameBut f) (by simpa using h)

theorem State.upNode_sameBut (s : State) (f) : SameBut [.node] s (s.upNode f) := by
  intro p hp
  cases p <;> first | rfl | exact absurd (List.mem_singleton.mpr rfl) hp

@[simp] theorem SameBut.upNode {l : List Part} {s t : State} (f) (h : .node ∈ l) : SameBut l s (t.upNode f) ↔ SameBut l s t :=
  SameBut.iff_of (t.upNode_sameBut f) (by simpa using h)

theorem State.upDict_sameBut (s : State) (f) : SameBut [.dict] s (s.upDict f) := by
  intro p hp
  cases p <;> first | rfl | exact absurd (List.mem_singleton.mpr rfl) hp

@[simp] theorem SameBut.upDict {l : List Part} {s t : State} (f) (h : .dict ∈ l) : SameBut l s (t.upDict f) ↔ SameBut l s t :=
  SameBut.iff_of (t.upDict_sameBut f) (by simpa using h)

theorem State.upWeft_sameBut (s : State) (f) : SameBut [.weft] s (s.upWeft f) := by
  intro p hp
  cases p <;> first | rfl | exact absurd (List.mem_singleton.mpr rfl) hp

@[simp] theorem SameBut.upWeft {l : List Part} {s t : State} (f) (h : .weft ∈ l) : SameBut l s (t.upWeft f) ↔ SameBut l s t :=
  SameBut.iff_of (t.upWeft_sameBut f) (by simpa using h)

theorem State.upArm_sameBut (s : State) (f) : SameBut [.arm] s (s.upArm f) := by
  intro p hp
  cases p <;> first | rfl | exact absurd (List.mem_singleton.mpr rfl) hp

@[simp] theorem SameBut.upArm {l : List Part} {s t : State} (f) (h : .arm ∈ l) : SameBut l s (t.upArm f) ↔ SameBut l s t :=
  SameBut.iff_of (t.upArm_sameBut f) (by simpa using h)

theorem State.upTrdl_sameBut (s : State) (f) : SameBut [.trdl] s (s.upTrdl f) := by
  intro p hp
  cases p <;> first | rfl | exact absurd (List.mem_singleton.mpr rfl) hp

@[simp] theorem SameBut.upTrdl {l : List Part} {s t : State} (f) (h : .trdl ∈ l) : SameBut l s (t.upTrdl f) ↔ SameBut l s t :=
  SameBut.iff_of (t.upTrdl_sameBut f) (by simpa using h)

theorem State.upGate_sameBut (s : State) (f) : SameBut [.gate] s (s.upGate f) := by
  intro p hp
  cases p <;> first | rfl | exact absurd (List.mem_singleton.mpr rfl) hp

@[simp] theorem SameBut.upGate {l : List Part} {s t : State} (f) (h : .gate ∈ l) : SameBut l s (t.upGate f) ↔ SameBut l s t :=
  SameBut.iff_of (t.upGate_sameBut f) (by simpa using h)

theorem State.upAdc_sameBut (s : State) (f) : SameBut [.adc] s (s.upAdc f) := by
  intro p hp
  cases p <;> first | rfl | exact absurd (List.mem_singleton.mpr rfl) hp

@[simp] theorem SameBut.upAdc {l : List Part} {s t : State} (f) (h : .adc ∈ l) : SameBut l s (t.upAdc f) ↔ SameBut l s t :=
  SameBut.iff_of (t.upAdc_sameBut f) (by simpa using h)

theorem State.upLink_sameBut (s : State) (f) : SameBut [.link] s (s.upLink f) := by
  intro p hp
  cases p <;> first | rfl | exact absurd (List.mem_singleton.mpr rfl) hp

@[simp] theorem SameBut.upLink {l : List Part} {s t : State} (f) (h : .link ∈ l) : SameBut l s (t.upLink f) ↔ SameBut l s t :=
  SameBut.iff_of (t.upLink_sameBut f) (by simpa using h)

theorem State.upTb_sameBut (s : State) (f) : SameBut [.tb] s (s.upTb f) := by
  intro p hp
  cases p <;> first | rfl | exact absurd (List.mem_singleton.mpr rfl) hp

@[simp] theorem SameBut.upTb {l : List Part} {s t : State} (f) (h : .tb ∈ l) : SameBut l s (t.upTb f) ↔ SameBut l s t :=
  SameBut.iff_of (t.upTb_sameBut f) (by simpa using h)

theorem State.upHdl_sameBut (s : State) (f) : SameBut [.hdl] s (s.upHdl f) := by
  intro p hp
  cases p <;> first | rfl | exact absurd (List.mem_singleton.mpr rfl) hp

@[simp] theorem SameBut.upHdl {l : List Part} {s t : State} (f) (h : .hdl ∈ l) : SameBut l s (t.upHdl f) ↔ SameBut l s t :=
  SameBut.iff_of (t.upHdl_sameBut f) (by simpa using h)

theorem State.upEvc_sameBut (s : State) (f) : SameBut [.evc] s (s.upEvc f) := by
  intro p hp
  cases p <;> first | rfl | exact absurd (List.mem_singleton.mpr rfl) hp

@[simp] theorem SameBut.upEvc {l : List Part} {s t : State} (f) (h : .evc ∈ l) : SameBut l s (t.upEvc f) ↔ SameBut l s t :=
  SameBut.iff_of (t.upEvc_sameBut f) (by simpa using h)

theorem State.upMem_sameBut (s : State) (f) : SameBut [.mem] s (s.upMem f) := by
  intro p hp
  cases p <;> first | rfl | exact absurd (List.mem_singleton.mpr rfl) hp

@[simp] theorem SameBut.upMem {l : List Part} {s t : State} (f) (h : .mem ∈ l) : SameBut l s (t.upMem f) ↔ SameBut l s t :=
  SameBut.iff_of (t.upMem_sameBut f) (by simpa using h)

theorem State.upJrn_sameBut (s : State) (f) : SameBut [.jrn] s (s.upJrn f) := by
  intro p hp
  cases p <;> first | rfl | exact absurd (List.mem_singleton.mpr rfl) hp

@[simp] theorem SameBut.upJrn {l : List Part} {s t : State} (f) (h : .jrn ∈ l) : SameBut l s (t.upJrn f) ↔ SameBut l s t :=
  SameBut.iff_of (t.upJrn_sameBut f) (by simpa using h)

theorem State.upSel_sameBut (s : State) (f) : SameBut [.sel] s (s.upSel f) := by
  intro p hp
  cases p <;> first | rfl | exact absurd (List.mem_singleton.mpr rfl) hp

@[simp] theorem SameBut.upSel {l : List Part} {s t : State} (f) (h : .sel ∈ l) : SameBut l s (t.upSel f) ↔ SameBut l s t :=
  SameBut.iff_of (t.upSel_sameBut f) (by simpa using h)

theorem State.upRecd_sameBut (s : State) (f) : SameBut [.recd] s (s.upRecd f) := by
  intro p hp
  cases p <;> first | rfl | exact absurd (List.mem_singleton.mpr rfl) hp

@[simp] theorem SameBut.upRecd {l : List Part} {s t : State} (f) (h : .recd ∈ l) : SameBut l s (t.upRecd f) ↔ SameBut l s t :=
  SameBut.iff_of (t.upRecd_sameBut f) (by simpa using h)

theorem State.upBob_sameBut (s : State) (f) : SameBut [.bob] s (s.upBob f) := by
  intro p hp
  cases p <;> first | rfl | exact absurd (List.mem_singleton.mpr rfl) hp

@[simp] theorem SameBut.upBob {l : List Part} {s t : State} (f) (h : .bob ∈ l) : SameBut l s (t.upBob f) ↔ SameBut l s t :=
  SameBut.iff_of (t.upBob_sameBut f) (by simpa using h)

theorem State.upSys_sameBut (s : State) (f) : SameBut [.sys] s (s.upSys f) := by
  intro p hp
  cases p <;> first | rfl | exact absurd (List.mem_singleton.mpr rfl) hp

@[simp] theorem SameBut.upSys {l : List Part} {s t : State} (f) (h : .sys ∈ l) : SameBut l s (t.upSys f) ↔ SameBut l s t :=
  SameBut.iff_of (t.upSys_sameBut f) (by simpa using h)

end Sys2Proof.Machine
end

