-- ==== Sys2Proof/Laws/Frames.lean ====
section
/-!
SUPPORT. Sys2Proof/Laws/Frames.lean: for each shared operation of the device, the parts of State that it may change: in every
other part the state is as it was. The second lemma of each pair lets a frame pass over the operation.
-/
namespace Sys2Proof.Machine

/-! ### The making of a record (R300, R392, R401) -/

theorem State.upEc_sameBut (s : State) (n : Nat) (f : Ec → Ec) : SameBut [.evc] s (s.upEc n f) := by
  unfold State.upEc
  simp

@[simp] theorem SameBut.upEc {l : List Part} {s t : State} (n : Nat) (f : Ec → Ec) (h : [.evc] ⊆ l) :
    SameBut l s (t.upEc n f) ↔ SameBut l s t :=
  SameBut.iff_of (t.upEc_sameBut n f) h

theorem State.ecEnd_sameBut (s : State) (n : Nat) : SameBut [.evc] s (s.ecEnd n) := by
  unfold State.ecEnd
  repeat' split
  all_goals simp

@[simp] theorem SameBut.ecEnd {l : List Part} {s t : State} (n : Nat) (h : [.evc] ⊆ l) :
    SameBut l s (t.ecEnd n) ↔ SameBut l s t :=
  SameBut.iff_of (t.ecEnd_sameBut n) h

theorem State.ecOpen_sameBut (s : State) (n w : Nat) : SameBut [.evc] s (s.ecOpen n w) := by
  unfold State.ecOpen
  simp

@[simp] theorem SameBut.ecOpen {l : List Part} {s t : State} (n w : Nat) (h : [.evc] ⊆ l) :
    SameBut l s (t.ecOpen n w) ↔ SameBut l s t :=
  SameBut.iff_of (t.ecOpen_sameBut n w) h

theorem State.ecStart_sameBut (s : State) (n : Nat) : SameBut [.evc] s (s.ecStart n) := by
  unfold State.ecStart
  repeat' split
  all_goals simp

@[simp] theorem SameBut.ecStart {l : List Part} {s t : State} (n : Nat) (h : [.evc] ⊆ l) :
    SameBut l s (t.ecStart n) ↔ SameBut l s t :=
  SameBut.iff_of (t.ecStart_sameBut n) h

theorem State.countOne_sameBut (s : State) (code n : Nat) (i : Nat) : SameBut [.evc] s (State.countOne code n s i) := by
  unfold State.countOne
  repeat' split
  all_goals simp

@[simp] theorem SameBut.countOne {l : List Part} {s t : State} (code n : Nat) (i : Nat) (h : [.evc] ⊆ l) :
    SameBut l s (State.countOne code n t i) ↔ SameBut l s t :=
  SameBut.iff_of (State.countOne_sameBut t code n i) h

theorem State.event_sameBut (s : State) (code n : Nat) : SameBut [.evc] s (s.event code n) := SameBut.foldl (fun t i => t.countOne_sameBut code n i) _ _

@[simp] theorem SameBut.event {l : List Part} {s t : State} (code n : Nat) (h : [.evc] ⊆ l) :
    SameBut l s (t.event code n) ↔ SameBut l s t :=
  SameBut.iff_of (t.event_sameBut code n) h

theorem State.startRun_sameBut (s : State) (n : FaultName) (arg : Nat) : SameBut [.node] s (s.startRun n arg) := by
  unfold State.startRun
  repeat' split
  all_goals simp

@[simp] theorem SameBut.startRun {l : List Part} {s t : State} (n : FaultName) (arg : Nat) (h : [.node] ⊆ l) :
    SameBut l s (t.startRun n arg) ↔ SameBut l s t :=
  SameBut.iff_of (t.startRun_sameBut n arg) h

theorem State.endRun_sameBut (s : State) (n : FaultName) (arg : Nat) : SameBut [.node] s (s.endRun n arg) := by
  unfold State.endRun
  simp

@[simp] theorem SameBut.endRun {l : List Part} {s t : State} (n : FaultName) (arg : Nat) (h : [.node] ⊆ l) :
    SameBut l s (t.endRun n arg) ↔ SameBut l s t :=
  SameBut.iff_of (t.endRun_sameBut n arg) h

theorem State.enterDen_sameBut (s : State) (n : Record) : SameBut [.recd, .evc, .node] s (s.enterDen n) := by
  unfold State.enterDen
  dsimp only
  repeat' split
  all_goals simp

@[simp] theorem SameBut.enterDen {l : List Part} {s t : State} (n : Record) (h : [.recd, .evc, .node] ⊆ l) :
    SameBut l s (t.enterDen n) ↔ SameBut l s t :=
  SameBut.iff_of (t.enterDen_sameBut n) h

theorem State.record_sameBut (s : State) (typ unit : Nat) (cls : FClass) (pay : Nat) : SameBut [.recd, .evc, .node] s (s.record typ unit cls pay) := by
  unfold State.record
  simp

@[simp] theorem SameBut.record {l : List Part} {s t : State} (typ unit : Nat) (cls : FClass) (pay : Nat) (h : [.recd, .evc, .node] ⊆ l) :
    SameBut l s (t.record typ unit cls pay) ↔ SameBut l s t :=
  SameBut.iff_of (t.record_sameBut typ unit cls pay) h

theorem State.storeWork_sameBut (s : State) (p : Nat) : SameBut [.bob] s (s.storeWork p) := by
  unfold State.storeWork
  repeat' split
  all_goals simp

@[simp] theorem SameBut.storeWork {l : List Part} {s t : State} (p : Nat) (h : [.bob] ⊆ l) :
    SameBut l s (t.storeWork p) ↔ SameBut l s t :=
  SameBut.iff_of (t.storeWork_sameBut p) h

/-! ### Sending (R208 to R215) -/

theorem State.upPort_sameBut (s : State) (p : Nat) (f : Port → Port) : SameBut [.link] s (s.upPort p f) := by
  unfold State.upPort
  simp

@[simp] theorem SameBut.upPort {l : List Part} {s t : State} (p : Nat) (f : Port → Port) (h : [.link] ⊆ l) :
    SameBut l s (t.upPort p f) ↔ SameBut l s t :=
  SameBut.iff_of (t.upPort_sameBut p f) h

theorem State.dropFrame_sameBut (s : State) (p : Nat) : SameBut [.link, .recd, .evc, .node] s (s.dropFrame p) := by
  unfold State.dropFrame
  dsimp only
  repeat' split
  all_goals simp

@[simp] theorem SameBut.dropFrame {l : List Part} {s t : State} (p : Nat) (h : [.link, .recd, .evc, .node] ⊆ l) :
    SameBut l s (t.dropFrame p) ↔ SameBut l s t :=
  SameBut.iff_of (t.dropFrame_sameBut p) h

theorem State.enqueue_sameBut (s : State) (p : Nat) (f : Frame) : SameBut [.link, .recd, .evc, .node] s (s.enqueue p f) := by
  unfold State.enqueue
  repeat' split
  all_goals simp

@[simp] theorem SameBut.enqueue {l : List Part} {s t : State} (p : Nat) (f : Frame) (h : [.link, .recd, .evc, .node] ⊆ l) :
    SameBut l s (t.enqueue p f) ↔ SameBut l s t :=
  SameBut.iff_of (t.enqueue_sameBut p f) h

theorem State.enqueueAll_sameBut (s : State) (ps : List Nat) (f : Frame) : SameBut [.link, .recd, .evc, .node] s (s.enqueueAll ps f) := SameBut.foldl (fun t p => t.enqueue_sameBut p f) _ _

@[simp] theorem SameBut.enqueueAll {l : List Part} {s t : State} (ps : List Nat) (f : Frame) (h : [.link, .recd, .evc, .node] ⊆ l) :
    SameBut l s (t.enqueueAll ps f) ↔ SameBut l s t :=
  SameBut.iff_of (t.enqueueAll_sameBut ps f) h

theorem State.takeEseq_sameBut (s : State) (c : FloenClass) : SameBut [.link] s ((s.takeEseq c).2) := by
  unfold State.takeEseq
  simp

@[simp] theorem SameBut.takeEseq {l : List Part} {s t : State} (c : FloenClass) (h : [.link] ⊆ l) :
    SameBut l s ((t.takeEseq c).2) ↔ SameBut l s t :=
  SameBut.iff_of (t.takeEseq_sameBut c) h

theorem State.sendUp_sameBut (s : State) (c : FloenClass) (dst : Nat) (anym : Bool) (pl : List Byte) : SameBut [.link, .recd, .evc, .node] s (s.sendUp c dst anym pl) := by
  unfold State.sendUp
  dsimp only
  repeat' split
  all_goals simp

@[simp] theorem SameBut.sendUp {l : List Part} {s t : State} (c : FloenClass) (dst : Nat) (anym : Bool) (pl : List Byte) (h : [.link, .recd, .evc, .node] ⊆ l) :
    SameBut l s (t.sendUp c dst anym pl) ↔ SameBut l s t :=
  SameBut.iff_of (t.sendUp_sameBut c dst anym pl) h

theorem State.sendUpOn_sameBut (s : State) (p : Nat) (c : FloenClass) (dst : Nat) (anym : Bool) (pl : List Byte) : SameBut [.link, .recd, .evc, .node] s (s.sendUpOn p c dst anym pl) := by
  unfold State.sendUpOn
  dsimp only
  simp

@[simp] theorem SameBut.sendUpOn {l : List Part} {s t : State} (p : Nat) (c : FloenClass) (dst : Nat) (anym : Bool) (pl : List Byte) (h : [.link, .recd, .evc, .node] ⊆ l) :
    SameBut l s (t.sendUpOn p c dst anym pl) ↔ SameBut l s t :=
  SameBut.iff_of (t.sendUpOn_sameBut p c dst anym pl) h

theorem State.sendDown_sameBut (s : State) (c : FloenClass) (dst : Nat) (anym : Bool) (pl : List Byte) : SameBut [.link, .recd, .evc, .node] s (s.sendDown c dst anym pl) := by
  unfold State.sendDown
  dsimp only
  repeat' split
  all_goals simp

@[simp] theorem SameBut.sendDown {l : List Part} {s t : State} (c : FloenClass) (dst : Nat) (anym : Bool) (pl : List Byte) (h : [.link, .recd, .evc, .node] ⊆ l) :
    SameBut l s (t.sendDown c dst anym pl) ↔ SameBut l s t :=
  SameBut.iff_of (t.sendDown_sameBut c dst anym pl) h

theorem State.sendDownOn_sameBut (s : State) (p : Nat) (c : FloenClass) (dst : Nat) (pl : List Byte) : SameBut [.link, .recd, .evc, .node] s (s.sendDownOn p c dst pl) := by
  unfold State.sendDownOn
  dsimp only
  simp

@[simp] theorem SameBut.sendDownOn {l : List Part} {s t : State} (p : Nat) (c : FloenClass) (dst : Nat) (pl : List Byte) (h : [.link, .recd, .evc, .node] ⊆ l) :
    SameBut l s (t.sendDownOn p c dst pl) ↔ SameBut l s t :=
  SameBut.iff_of (t.sendDownOn_sameBut p c dst pl) h

theorem State.sendCross_sameBut (s : State) (c : FloenClass) (dst : Nat) (pl : List Byte) : SameBut [.link, .recd, .evc, .node] s (s.sendCross c dst pl) := by
  unfold State.sendCross
  dsimp only
  simp

@[simp] theorem SameBut.sendCross {l : List Part} {s t : State} (c : FloenClass) (dst : Nat) (pl : List Byte) (h : [.link, .recd, .evc, .node] ⊆ l) :
    SameBut l s (t.sendCross c dst pl) ↔ SameBut l s t :=
  SameBut.iff_of (t.sendCross_sameBut c dst pl) h

theorem State.sendPartner_sameBut (s : State) (c : FloenClass) (pl : List Byte) : SameBut [.link, .recd, .evc, .node] s (s.sendPartner c pl) := by
  unfold State.sendPartner
  simp

@[simp] theorem SameBut.sendPartner {l : List Part} {s t : State} (c : FloenClass) (pl : List Byte) (h : [.link, .recd, .evc, .node] ⊆ l) :
    SameBut l s (t.sendPartner c pl) ↔ SameBut l s t :=
  SameBut.iff_of (t.sendPartner_sameBut c pl) h

theorem State.sendLocal_sameBut (s : State) (p : Nat) (c : FloenClass) (pl : List Byte) : SameBut [.link, .recd, .evc, .node] s (s.sendLocal p c pl) := by
  unfold State.sendLocal
  dsimp only
  simp

@[simp] theorem SameBut.sendLocal {l : List Part} {s t : State} (p : Nat) (c : FloenClass) (pl : List Byte) (h : [.link, .recd, .evc, .node] ⊆ l) :
    SameBut l s (t.sendLocal p c pl) ↔ SameBut l s t :=
  SameBut.iff_of (t.sendLocal_sameBut p c pl) h

/-! ### The safe pattern, the latches and BLOCK (R29, R163, R348) -/

theorem State.assertForce_sameBut (s : State) : SameBut [.gate, .evc] s (s.assertForce) := by
  unfold State.assertForce
  simp

@[simp] theorem SameBut.assertForce {l : List Part} {s t : State} (h : [.gate, .evc] ⊆ l) :
    SameBut l s (t.assertForce) ↔ SameBut l s t :=
  SameBut.iff_of (t.assertForce_sameBut) h

theorem State.safePattern_sameBut (s : State) : SameBut [.gate] s (s.safePattern) := by
  unfold State.safePattern
  simp

@[simp] theorem SameBut.safePattern {l : List Part} {s t : State} (h : [.gate] ⊆ l) :
    SameBut l s (t.safePattern) ↔ SameBut l s t :=
  SameBut.iff_of (t.safePattern_sameBut) h

theorem State.toBlock_sameBut (s : State) : SameBut [.node, .gate] s (s.toBlock) := by
  unfold State.toBlock
  repeat' split
  all_goals simp

@[simp] theorem SameBut.toBlock {l : List Part} {s t : State} (h : [.node, .gate] ⊆ l) :
    SameBut l s (t.toBlock) ↔ SameBut l s t :=
  SameBut.iff_of (t.toBlock_sameBut) h

theorem State.setCause_sameBut (s : State) (i : Nat) : SameBut [.sel, .gate, .node, .evc] s (s.setCause i) := by
  unfold State.setCause
  dsimp only
  repeat' split
  all_goals simp

@[simp] theorem SameBut.setCause {l : List Part} {s t : State} (i : Nat) (h : [.sel, .gate, .node, .evc] ⊆ l) :
    SameBut l s (t.setCause i) ↔ SameBut l s t :=
  SameBut.iff_of (t.setCause_sameBut i) h

theorem State.endCause_sameBut (s : State) (i : Nat) : SameBut [.sel] s (s.endCause i) := by
  unfold State.endCause
  repeat' split
  all_goals simp

@[simp] theorem SameBut.endCause {l : List Part} {s t : State} (i : Nat) (h : [.sel] ⊆ l) :
    SameBut l s (t.endCause i) ↔ SameBut l s t :=
  SameBut.iff_of (t.endCause_sameBut i) h

theorem State.blockRequest_sameBut (s : State) : SameBut [.sel, .gate, .node, .evc] s (s.blockRequest) := by
  unfold State.blockRequest
  repeat' split
  all_goals simp

@[simp] theorem SameBut.blockRequest {l : List Part} {s t : State} (h : [.sel, .gate, .node, .evc] ⊆ l) :
    SameBut l s (t.blockRequest) ↔ SameBut l s t :=
  SameBut.iff_of (t.blockRequest_sameBut) h

theorem State.keepBypass_sameBut (s : State) (b : Bool) : SameBut [.node, .sys, .bob] s (s.keepBypass b) := by
  unfold State.keepBypass
  simp

@[simp] theorem SameBut.keepBypass {l : List Part} {s t : State} (b : Bool) (h : [.node, .sys, .bob] ⊆ l) :
    SameBut l s (t.keepBypass b) ↔ SameBut l s t :=
  SameBut.iff_of (t.keepBypass_sameBut b) h

theorem State.latchSby_sameBut (s : State) (cause : Nat) : SameBut [.sel, .gate, .node, .evc, .sys, .bob] s (s.latchSby cause) := by
  unfold State.latchSby
  dsimp only
  repeat' split
  all_goals simp

@[simp] theorem SameBut.latchSby {l : List Part} {s t : State} (cause : Nat) (h : [.sel, .gate, .node, .evc, .sys, .bob] ⊆ l) :
    SameBut l s (t.latchSby cause) ↔ SameBut l s t :=
  SameBut.iff_of (t.latchSby_sameBut cause) h

/-! ### The system trip (R365, R368) -/

theorem State.setBlkOut_sameBut (s : State) (b : Bool) : SameBut [.link, .evc] s (s.setBlkOut b) := by
  unfold State.setBlkOut
  dsimp only
  repeat' split
  all_goals simp

@[simp] theorem SameBut.setBlkOut {l : List Part} {s t : State} (b : Bool) (h : [.link, .evc] ⊆ l) :
    SameBut l s (t.setBlkOut b) ↔ SameBut l s t :=
  SameBut.iff_of (t.setBlkOut_sameBut b) h

theorem State.tripUpdate_sameBut (s : State) : SameBut [.sel, .gate, .node, .evc, .link] s (s.tripUpdate) := by
  unfold State.tripUpdate
  dsimp only
  repeat' split
  all_goals simp

@[simp] theorem SameBut.tripUpdate {l : List Part} {s t : State} (h : [.sel, .gate, .node, .evc, .link] ⊆ l) :
    SameBut l s (t.tripUpdate) ↔ SameBut l s t :=
  SameBut.iff_of (t.tripUpdate_sameBut) h

theorem State.requestTrip_sameBut (s : State) : SameBut [.sel, .gate, .node, .evc, .link] s (s.requestTrip) := by
  unfold State.requestTrip
  dsimp only
  repeat' split
  all_goals simp

@[simp] theorem SameBut.requestTrip {l : List Part} {s t : State} (h : [.sel, .gate, .node, .evc, .link] ⊆ l) :
    SameBut l s (t.requestTrip) ↔ SameBut l s t :=
  SameBut.iff_of (t.requestTrip_sameBut) h

/-! ### Stepping down (R60, R329, R335) -/

theorem State.endSessions_sameBut (s : State) : SameBut [.dict] s (s.endSessions) := by
  unfold State.endSessions
  repeat' split
  all_goals simp

@[simp] theorem SameBut.endSessions {l : List Part} {s t : State} (h : [.dict] ⊆ l) :
    SameBut l s (t.endSessions) ↔ SameBut l s t :=
  SameBut.iff_of (t.endSessions_sameBut) h

theorem State.toYielded_sameBut (s : State) (cause : Nat) : SameBut [.jrn, .dict] s (s.toYielded cause) := by
  unfold State.toYielded
  simp

@[simp] theorem SameBut.toYielded {l : List Part} {s t : State} (cause : Nat) (h : [.jrn, .dict] ⊆ l) :
    SameBut l s (t.toYielded cause) ↔ SameBut l s t :=
  SameBut.iff_of (t.toYielded_sameBut cause) h

theorem State.sendYield_sameBut (s : State) (cause : Nat) : SameBut [.link, .recd, .evc, .node] s (s.sendYield cause) := by
  unfold State.sendYield
  simp

@[simp] theorem SameBut.sendYield {l : List Part} {s t : State} (cause : Nat) (h : [.link, .recd, .evc, .node] ⊆ l) :
    SameBut l s (t.sendYield cause) ↔ SameBut l s t :=
  SameBut.iff_of (t.sendYield_sameBut cause) h

theorem State.f3Action_sameBut (s : State) : SameBut [.recd, .evc, .node, .sel, .gate, .link, .jrn, .dict] s (s.f3Action) := by
  unfold State.f3Action
  dsimp only
  repeat' split
  all_goals simp

@[simp] theorem SameBut.f3Action {l : List Part} {s t : State} (h : [.recd, .evc, .node, .sel, .gate, .link, .jrn, .dict] ⊆ l) :
    SameBut l s (t.f3Action) ↔ SameBut l s t :=
  SameBut.iff_of (t.f3Action_sameBut) h

/-! ### Raising faults (R14 to R16, R69) -/

theorem State.noteDs0_sameBut (s : State) (cls typ src rsn : Nat) : SameBut [.link] s (s.noteDs0 cls typ src rsn) := by
  unfold State.noteDs0
  simp

@[simp] theorem SameBut.noteDs0 {l : List Part} {s t : State} (cls typ src rsn : Nat) (h : [.link] ⊆ l) :
    SameBut l s (t.noteDs0 cls typ src rsn) ↔ SameBut l s t :=
  SameBut.iff_of (t.noteDs0_sameBut cls typ src rsn) h

theorem State.recordEv_sameBut (s : State) (e : Ev) : SameBut [.link, .recd, .evc, .node] s (s.recordEv e) := by
  unfold State.recordEv
  dsimp only
  repeat' split
  all_goals simp

@[simp] theorem SameBut.recordEv {l : List Part} {s t : State} (e : Ev) (h : [.link, .recd, .evc, .node] ⊆ l) :
    SameBut l s (t.recordEv e) ↔ SameBut l s t :=
  SameBut.iff_of (t.recordEv_sameBut e) h

theorem State.resyncAbort_sameBut (s : State) : SameBut [.link, .recd, .evc, .node, .jrn] s (s.resyncAbort) := by
  unfold State.resyncAbort
  simp

@[simp] theorem SameBut.resyncAbort {l : List Part} {s t : State} (h : [.link, .recd, .evc, .node, .jrn] ⊆ l) :
    SameBut l s (t.resyncAbort) ↔ SameBut l s t :=
  SameBut.iff_of (t.resyncAbort_sameBut) h

theorem State.healthCheck_sameBut (s : State) : SameBut [.jrn, .dict] s (s.healthCheck) := by
  unfold State.healthCheck
  dsimp only
  repeat' split
  all_goals simp

@[simp] theorem SameBut.healthCheck {l : List Part} {s t : State} (h : [.jrn, .dict] ⊆ l) :
    SameBut l s (t.healthCheck) ↔ SameBut l s t :=
  SameBut.iff_of (t.healthCheck_sameBut) h

theorem State.actOn_sameBut (s : State) (top : FClass) (evs : List Ev) : SameBut [.recd, .evc, .node, .sel, .gate, .link, .jrn, .dict] s (s.actOn top evs) := by
  unfold State.actOn
  repeat' split
  all_goals simp

@[simp] theorem SameBut.actOn {l : List Part} {s t : State} (top : FClass) (evs : List Ev) (h : [.recd, .evc, .node, .sel, .gate, .link, .jrn, .dict] ⊆ l) :
    SameBut l s (t.actOn top evs) ↔ SameBut l s t :=
  SameBut.iff_of (t.actOn_sameBut top evs) h

theorem State.raiseAll_sameBut (s : State) (evs : List Ev) : SameBut [.recd, .evc, .node, .sel, .gate, .link, .jrn, .dict] s (s.raiseAll evs) := by
  have h : SameBut [.link, .recd, .evc, .node] s ((sortEvs evs).foldl State.recordEv s) := SameBut.foldl (fun t e => t.recordEv_sameBut e) _ _
  have h' : SameBut [.recd, .evc, .node, .sel, .gate, .link, .jrn, .dict] s ((sortEvs evs).foldl State.recordEv s) := h.mono (by decide)
  unfold State.raiseAll
  dsimp only
  repeat' split
  all_goals simpa using h'

@[simp] theorem SameBut.raiseAll {l : List Part} {s t : State} (evs : List Ev) (h : [.recd, .evc, .node, .sel, .gate, .link, .jrn, .dict] ⊆ l) :
    SameBut l s (t.raiseAll evs) ↔ SameBut l s t :=
  SameBut.iff_of (t.raiseAll_sameBut evs) h

theorem State.raise_sameBut (s : State) (n : FaultName) (arg : Nat) : SameBut [.recd, .evc, .node, .sel, .gate, .link, .jrn, .dict] s (s.raise n arg) := by
  unfold State.raise
  simp

@[simp] theorem SameBut.raise {l : List Part} {s t : State} (n : FaultName) (arg : Nat) (h : [.recd, .evc, .node, .sel, .gate, .link, .jrn, .dict] ⊆ l) :
    SameBut l s (t.raise n arg) ↔ SameBut l s t :=
  SameBut.iff_of (t.raise_sameBut n arg) h

theorem State.raiseRun_sameBut (s : State) (n : FaultName) (arg : Nat) : SameBut [.recd, .evc, .node, .sel, .gate, .link, .jrn, .dict] s (s.raiseRun n arg) := by
  unfold State.raiseRun
  repeat' split
  all_goals simp

@[simp] theorem SameBut.raiseRun {l : List Part} {s t : State} (n : FaultName) (arg : Nat) (h : [.recd, .evc, .node, .sel, .gate, .link, .jrn, .dict] ⊆ l) :
    SameBut l s (t.raiseRun n arg) ↔ SameBut l s t :=
  SameBut.iff_of (t.raiseRun_sameBut n arg) h

theorem State.countRefusal_sameBut (s : State) (status key : Nat) : SameBut [.dict] s (s.countRefusal status key) := by
  unfold State.countRefusal
  simp

@[simp] theorem SameBut.countRefusal {l : List Part} {s t : State} (status key : Nat) (h : [.dict] ⊆ l) :
    SameBut l s (t.countRefusal status key) ↔ SameBut l s t :=
  SameBut.iff_of (t.countRefusal_sameBut status key) h

theorem State.refuse_sameBut (s : State) (status key jsn : Nat) : SameBut [.recd, .evc, .node, .sel, .gate, .link, .jrn, .dict] s (s.refuse status key jsn) := by
  unfold State.refuse
  simp

@[simp] theorem SameBut.refuse {l : List Part} {s t : State} (status key jsn : Nat) (h : [.recd, .evc, .node, .sel, .gate, .link, .jrn, .dict] ⊆ l) :
    SameBut l s (t.refuse status key jsn) ↔ SameBut l s t :=
  SameBut.iff_of (t.refuse_sameBut status key jsn) h

/-! ### The object dictionary (R48, R52, R62) -/

theorem State.setObj_sameBut (s : State) (key value jsn : Nat) : SameBut [.dict] s (s.setObj key value jsn) := by
  unfold State.setObj
  simp

@[simp] theorem SameBut.setObj {l : List Part} {s t : State} (key value jsn : Nat) (h : [.dict] ⊆ l) :
    SameBut l s (t.setObj key value jsn) ↔ SameBut l s t :=
  SameBut.iff_of (t.setObj_sameBut key value jsn) h

theorem State.takeEffect_sameBut (s : State) : SameBut [.dict] s (s.takeEffect) := by
  unfold State.takeEffect
  simp

@[simp] theorem SameBut.takeEffect {l : List Part} {s t : State} (h : [.dict] ⊆ l) :
    SameBut l s (t.takeEffect) ↔ SameBut l s t :=
  SameBut.iff_of (t.takeEffect_sameBut) h

theorem State.upLan_sameBut (s : State) (f : Lan → Lan) : SameBut [.link] s (s.upLan f) := by
  unfold State.upLan
  simp

@[simp] theorem SameBut.upLan {l : List Part} {s t : State} (f : Lan → Lan) (h : [.link] ⊆ l) :
    SameBut l s (t.upLan f) ↔ SameBut l s t :=
  SameBut.iff_of (t.upLan_sameBut f) h

theorem State.ethSend_sameBut (s : State) (c : EthContent) : SameBut [.link] s (s.ethSend c) := by
  unfold State.ethSend
  simp

@[simp] theorem SameBut.ethSend {l : List Part} {s t : State} (c : EthContent) (h : [.link] ⊆ l) :
    SameBut l s (t.ethSend c) ↔ SameBut l s t :=
  SameBut.iff_of (t.ethSend_sameBut c) h

theorem State.sendAnswer_sameBut (s : State) (r : Response) : SameBut [.link, .recd, .evc, .node] s (s.sendAnswer r) := by
  unfold State.sendAnswer
  repeat' split
  all_goals simp

@[simp] theorem SameBut.sendAnswer {l : List Part} {s t : State} (r : Response) (h : [.link, .recd, .evc, .node] ⊆ l) :
    SameBut l s (t.sendAnswer r) ↔ SameBut l s t :=
  SameBut.iff_of (t.sendAnswer_sameBut r) h

theorem State.respond_sameBut (s : State) (r : Response) : SameBut [.dict, .link, .recd, .evc, .node] s (s.respond r) := by
  unfold State.respond
  simp

@[simp] theorem SameBut.respond {l : List Part} {s t : State} (r : Response) (h : [.dict, .link, .recd, .evc, .node] ⊆ l) :
    SameBut l s (t.respond r) ↔ SameBut l s t :=
  SameBut.iff_of (t.respond_sameBut r) h

theorem State.await_sameBut (s : State) (w : Waiting) : SameBut [.dict] s (s.await w) := by
  unfold State.await
  simp

@[simp] theorem SameBut.await {l : List Part} {s t : State} (w : Waiting) (h : [.dict] ⊆ l) :
    SameBut l s (t.await w) ↔ SameBut l s t :=
  SameBut.iff_of (t.await_sameBut w) h

theorem State.answer_sameBut (s : State) (w : Waiting) (st : Status) (param : Nat) (data : List Byte) : SameBut [.dict, .link, .recd, .evc, .node] s (s.answer w st param data) := by
  unfold State.answer
  simp

@[simp] theorem SameBut.answer {l : List Part} {s t : State} (w : Waiting) (st : Status) (param : Nat) (data : List Byte) (h : [.dict, .link, .recd, .evc, .node] ⊆ l) :
    SameBut l s (t.answer w st param data) ↔ SameBut l s t :=
  SameBut.iff_of (t.answer_sameBut w st param data) h

theorem State.answerJsn_sameBut (s : State) (w : Waiting) (st : Status) : SameBut [.dict, .link, .recd, .evc, .node] s (s.answerJsn w st) := by
  unfold State.answerJsn
  simp

@[simp] theorem SameBut.answerJsn {l : List Part} {s t : State} (w : Waiting) (st : Status) (h : [.dict, .link, .recd, .evc, .node] ⊆ l) :
    SameBut l s (t.answerJsn w st) ↔ SameBut l s t :=
  SameBut.iff_of (t.answerJsn_sameBut w st) h

theorem State.confirmResult_sameBut (s : State) (jsn : Nat) (st : Status) : SameBut [.dict, .link, .recd, .evc, .node] s (s.confirmResult jsn st) := by
  unfold State.confirmResult
  repeat' split
  all_goals simp

@[simp] theorem SameBut.confirmResult {l : List Part} {s t : State} (jsn : Nat) (st : Status) (h : [.dict, .link, .recd, .evc, .node] ⊆ l) :
    SameBut l s (t.confirmResult jsn st) ↔ SameBut l s t :=
  SameBut.iff_of (t.confirmResult_sameBut jsn st) h

end Sys2Proof.Machine
end

