-- ==== Sys2Proof/Laws/Memory.lean ====
section
/-!
SUPPORT. Sys2Proof/Laws/Memory.lean: the laws of the memories (R276): a byte read is the byte last written at its address, a
write leaves every other byte alone, and every operation keeps the canonical form.
-/
namespace Sys2Proof.Machine

/-! ### The canonical form -/

/-- Every address of the cells lies above `a`. -/
def cellsAbove (a : Nat) (cs : List Host.Cell) : Prop := ∀ c ∈ cs, a < c.1

/-- Cells in canonical form: the first is no zero entry, all others lie above it, and they are in canonical form. -/
theorem cellsWf_cons (c : Host.Cell) (cs : List Host.Cell) :
    cellsWf (c :: cs) = true ↔ c.2 ≠ 0 ∧ cellsAbove c.1 cs ∧ cellsWf cs = true := by
  induction cs generalizing c with
  | nil => simp [cellsWf, cellsAbove]
  | cons d ds ih =>
    have hd := ih d
    constructor
    · intro h
      simp only [cellsWf, Bool.and_eq_true, bne_iff_ne, decide_eq_true_eq] at h
      obtain ⟨⟨h1, h2⟩, h3⟩ := h
      refine ⟨h1, fun e he => ?_, h3⟩
      rcases List.mem_cons.mp he with rfl | he
      · exact h2
      · exact Nat.lt_trans h2 ((hd.mp h3).2.1 e he)
    · rintro ⟨h1, h2, h3⟩
      simp only [cellsWf, Bool.and_eq_true, bne_iff_ne, decide_eq_true_eq]
      exact ⟨⟨h1, h2 d (List.mem_cons_self)⟩, h3⟩

/-- Cells above an address read as unlisted at it and below it. -/
theorem cellsRead_above {cs : List Host.Cell} {a b : Nat} (h : cellsAbove a cs) (hb : b ≤ a) : cellsRead cs b = 0 := by
  induction cs with
  | nil => rfl
  | cons c cs ih =>
    have h1 := h c List.mem_cons_self
    have : (c.1 == b) = false := by simp; omega
    simp only [cellsRead, this]
    exact ih fun d hd => h d (List.mem_cons_of_mem _ hd)

/-- Removing an entry leaves the rest above what it was above. -/
theorem cellsErase_above {cs : List Host.Cell} {a b : Nat} (h : cellsAbove a cs) : cellsAbove a (cellsErase cs b) := by
  induction cs with
  | nil => exact h
  | cons c cs ih =>
    have ht : cellsAbove a cs := fun d hd => h d (List.mem_cons_of_mem _ hd)
    simp only [cellsErase]
    split
    · exact ht
    · intro d hd
      rcases List.mem_cons.mp hd with rfl | hd
      · exact h _ List.mem_cons_self
      · exact ih ht d hd

/-- Putting an entry that lies above an address leaves all above it. -/
theorem cellsPut_above {cs : List Host.Cell} {a b : Nat} {v : Byte} (h : cellsAbove a cs) (hb : a < b) :
    cellsAbove a (cellsPut cs b v) := by
  induction cs with
  | nil =>
    intro d hd
    simp only [cellsPut, List.mem_singleton] at hd
    subst hd
    exact hb
  | cons c cs ih =>
    have ht : cellsAbove a cs := fun d hd => h d (List.mem_cons_of_mem _ hd)
    have hc := h c List.mem_cons_self
    simp only [cellsPut]
    split
    · intro d hd
      rcases List.mem_cons.mp hd with rfl | hd
      · exact hb
      · exact h d hd
    · split
      · intro d hd
        rcases List.mem_cons.mp hd with rfl | hd
        · exact hb
        · exact ht d hd
      · intro d hd
        rcases List.mem_cons.mp hd with rfl | hd
        · exact hc
        · exact ih ht d hd

/-- Removing an entry keeps the canonical form. -/
theorem cellsErase_wf {cs : List Host.Cell} (h : cellsWf cs = true) (a : Nat) : cellsWf (cellsErase cs a) = true := by
  induction cs with
  | nil => rfl
  | cons c cs ih =>
    obtain ⟨h1, h2, h3⟩ := (cellsWf_cons c cs).mp h
    simp only [cellsErase]
    split
    · exact h3
    · exact (cellsWf_cons _ _).mpr ⟨h1, cellsErase_above h2, ih h3⟩

/-- Putting a byte that is not 0 keeps the canonical form. -/
theorem cellsPut_wf {cs : List Host.Cell} (h : cellsWf cs = true) (a : Nat) {v : Byte} (hv : v ≠ 0) :
    cellsWf (cellsPut cs a v) = true := by
  induction cs with
  | nil => simpa [cellsPut, cellsWf] using hv
  | cons c cs ih =>
    obtain ⟨h1, h2, h3⟩ := (cellsWf_cons c cs).mp h
    simp only [cellsPut]
    split
    · rename_i hlt
      refine (cellsWf_cons _ _).mpr ⟨hv, fun d hd => ?_, h⟩
      rcases List.mem_cons.mp hd with rfl | hd
      · exact hlt
      · exact Nat.lt_trans hlt (h2 d hd)
    · split
      · rename_i _ heq
        have heq : c.1 = a := by simpa using heq
        exact (cellsWf_cons _ _).mpr ⟨hv, heq ▸ h2, h3⟩
      · rename_i hlt hne
        have hne : c.1 ≠ a := by simpa using hne
        exact (cellsWf_cons _ _).mpr ⟨h1, cellsPut_above h2 (by omega), ih h3⟩

/-- A write keeps the canonical form. -/
theorem cellsWrite_wf {cs : List Host.Cell} (h : cellsWf cs = true) (a : Nat) (b : Byte) :
    cellsWf (cellsWrite cs a b) = true := by
  unfold cellsWrite
  split
  · exact cellsErase_wf h a
  · rename_i hb
    exact cellsPut_wf h a (by simpa using hb)

/-! ### Read after write -/

/-- A removed address reads as unlisted. -/
theorem cellsRead_erase_same {cs : List Host.Cell} (h : cellsWf cs = true) (a : Nat) : cellsRead (cellsErase cs a) a = 0 := by
  induction cs with
  | nil => rfl
  | cons c cs ih =>
    obtain ⟨-, h2, h3⟩ := (cellsWf_cons c cs).mp h
    by_cases hc : c.1 = a
    · simp only [cellsErase, beq_iff_eq, hc, if_true]
      exact cellsRead_above h2 (by omega)
    · simp only [cellsErase, beq_iff_eq, hc, if_false, cellsRead]
      exact ih h3

/-- Removing an address leaves every other one. -/
theorem cellsRead_erase_other (cs : List Host.Cell) {a b : Nat} (hab : b ≠ a) :
    cellsRead (cellsErase cs a) b = cellsRead cs b := by
  induction cs with
  | nil => rfl
  | cons c cs ih =>
    by_cases hc : c.1 = a
    · simp [cellsErase, cellsRead, hc, Ne.symm hab]
    · simp only [cellsErase, beq_iff_eq, hc, if_false, cellsRead, ih]

/-- A byte put at an address is read there. -/
theorem cellsRead_put_same (cs : List Host.Cell) (a : Nat) (v : Byte) : cellsRead (cellsPut cs a v) a = v := by
  induction cs with
  | nil => simp [cellsPut, cellsRead]
  | cons c cs ih =>
    simp only [cellsPut]
    split
    · simp [cellsRead]
    · split
      · simp [cellsRead]
      · rename_i hne
        simpa [cellsRead, hne] using ih

/-- Putting a byte leaves every other address. -/
theorem cellsRead_put_other (cs : List Host.Cell) {a b : Nat} (v : Byte) (hab : b ≠ a) :
    cellsRead (cellsPut cs a v) b = cellsRead cs b := by
  induction cs with
  | nil => simp [cellsPut, cellsRead, Ne.symm hab]
  | cons c cs ih =>
    simp only [cellsPut]
    split
    · simp [cellsRead, Ne.symm hab]
    · split
      · rename_i _ heq
        have heq : c.1 = a := by simpa using heq
        simp [cellsRead, heq, Ne.symm hab]
      · simp only [cellsRead, ih]

/-- What a write writes is read back (R276). -/
theorem Mem.read_write_same (m : Mem) (h : m.wf = true) (a : Nat) (b : Byte) : (m.write a b).read a = b := by
  unfold Mem.read Mem.write cellsWrite
  by_cases hb : b = 0
  · subst hb
    exact cellsRead_erase_same h a
  · rw [if_neg (by simpa using hb)]
    exact cellsRead_put_same m.cells a b

/-- A write leaves every other byte alone (R276). -/
theorem Mem.read_write_other (m : Mem) {a x : Nat} (b : Byte) (hx : x ≠ a) : (m.write a b).read x = m.read x := by
  unfold Mem.read Mem.write cellsWrite
  split
  · exact cellsRead_erase_other m.cells hx
  · exact cellsRead_put_other m.cells b hx

/-! ### Every memory operation keeps the canonical form -/

/-- The reset memory has it. -/
theorem Mem.wf_reset : Mem.wf {} = true := rfl

theorem Mem.write_wf (m : Mem) (h : m.wf = true) (a : Nat) (b : Byte) : (m.write a b).wf = true := cellsWrite_wf h a b

theorem Mem.writeBytes_wf (bs : List Byte) (m : Mem) (h : m.wf = true) (a : Nat) : (m.writeBytes a bs).wf = true := by
  induction bs generalizing m a with
  | nil => exact h
  | cons b bs ih => exact ih _ (m.write_wf h a b) _

@[simp] theorem Mem.heal_wf (m : Mem) (a : Nat) : (m.heal a).wf = m.wf := rfl

@[simp] theorem Mem.noteError_wf (m : Mem) (a : Nat) (d : Bool) : (m.noteError a d).wf = m.wf := rfl

@[simp] theorem Mem.heal_read (m : Mem) (a x : Nat) : (m.heal a).read x = m.read x := rfl

@[simp] theorem Mem.noteError_read (m : Mem) (a : Nat) (d : Bool) (x : Nat) : (m.noteError a d).read x = m.read x := rfl

/-- Bytes written from `a` on leave every byte outside them (R276). -/
theorem Mem.read_writeBytes_other (bs : List Byte) (m : Mem) (a x : Nat) (hx : x < a ∨ a + bs.length ≤ x) :
    (m.writeBytes a bs).read x = m.read x := by
  induction bs generalizing m a with
  | nil => rfl
  | cons b bs ih =>
    simp only [List.length_cons] at hx
    rw [Mem.writeBytes, ih _ _ (by omega), Mem.read_write_other _ _ (by omega)]

end Sys2Proof.Machine
end

