-- ==== Sys2Proof/Laws/Record.lean ====
section
/-!
SUPPORT. Sys2Proof/Laws/Record.lean: the Den never holds more than its 64 slots (R392, R401), whatever record is made.
-/
namespace Sys2Proof.Machine

/-- Closing the open record leaves the number of slots (R393). -/
@[simp] theorem Rec.close_length (r : Rec) (pf : Bool) : (r.close pf).den.length = r.den.length := by
  unfold Rec.close
  split <;> simp

/-- A replaced slot leaves the number of slots. -/
@[simp] theorem Rec.replace_length (r : Rec) (x d : DenSlot) : (r.replace x d).den.length = r.den.length := by
  simp [Rec.replace]

/-- A slot is placed only where there is room (R401). -/
theorem Rec.place_length {r r' : Rec} {d : DenSlot} (h : r.place d = some r') (hr : r.den.length ≤ 64) : r'.den.length ≤ 64 := by
  unfold Rec.place at h
  split at h
  · cases h
    simp only [List.length_append, List.length_cons, List.length_nil]
    omega
  · split at h <;> obtain ⟨x, -, rfl⟩ := Option.map_eq_some_iff.mp h <;> simpa using hr

/-- Making a record keeps the Den within its 64 slots. -/
theorem Rec.make_length (r : Rec) (now : Nat) (n : Record) (sent : Bool) (hr : r.den.length ≤ 64) :
    (r.make now n sent).den.length ≤ 64 := by
  unfold Rec.make
  split
  · simpa using hr
  · dsimp only
    split
    · rename_i r3 h3
      have h := Rec.place_length h3 (by simpa using hr)
      exact h
    · simpa using hr

/-- Counting an event leaves the recorder and the memory alone. -/
@[simp] theorem State.event_recd (s : State) (code n : Nat) : (s.event code n).recd = s.recd :=
  State.event_sameBut s code n .recd (by decide)

@[simp] theorem State.event_mem (s : State) (code n : Nat) : (s.event code n).mem = s.mem :=
  State.event_sameBut s code n .mem (by decide)

@[simp] theorem State.startRun_recd (s : State) (n : FaultName) (arg : Nat) : (s.startRun n arg).recd = s.recd :=
  State.startRun_sameBut s n arg .recd (by decide)

@[simp] theorem State.endRun_recd (s : State) (n : FaultName) (arg : Nat) : (s.endRun n arg).recd = s.recd :=
  State.endRun_sameBut s n arg .recd (by decide)

/-- A record that is made keeps what every step keeps. -/
theorem State.enterDen_inv (s : State) (n : Record) (h : s.Inv) : (s.enterDen n).Inv := by
  refine ⟨?_, ?_⟩
  · rw [show (s.enterDen n).mem = s.mem from State.enterDen_sameBut s n .mem (by decide)]
    exact h.1
  · unfold State.enterDen
    dsimp only
    repeat' split
    all_goals simp [Rec.make_length, h.2]

/-- A record of an event keeps what every step keeps. -/
theorem State.record_inv (s : State) (typ unit : Nat) (cls : FClass) (pay : Nat) (h : s.Inv) : (s.record typ unit cls pay).Inv :=
  s.enterDen_inv _ h

end Sys2Proof.Machine
end

