-- ==== Sys2Proof/Tests/Slice0.lean ====
section
/-!
SUPPORT. Sys2Proof/Tests/Slice0.lean: ill-formed commands that WellFormed refuses, the manual's worked examples and check values, one-step tests
whose expected results are the manual's, and a witness for the hypotheses of each clause of each statement.
-/
namespace Sys2Proof.Tests

set_option maxRecDepth 10000
set_option Elab.async false
set_option linter.unusedVariables false

open Sys2Proof Sys2Proof.Machine

/-! ### WellFormed refuses (R5, R6, R51, R194, R197, R205, R309, R311, R407) -/

theorem test_ports_are_below_six : WellFormed (.linkUp 6) = false ∧ WellFormed (.linkUp 5) = true := by decide
theorem test_up_ports_are_below_two : WellFormed (.shuttleReceive 2 {}) = false ∧ WellFormed (.shuttleReceive 1 {}) = true := by decide
theorem test_down_ports_start_at_two : WellFormed (.primaryReceive 1 0) = false ∧ WellFormed (.primaryReceive 6 0) = false
    ∧ WellFormed (.primaryReceive 5 0) = true := by decide
theorem test_members_are_two : WellFormed (.primaryReceive 2 2) = false := by decide
theorem test_channels_are_eight : WellFormed (.tpdSend 8) = false := by decide
theorem test_reference_inputs_are_eight : WellFormed (.refHoldExpiry 8) = false := by decide
theorem test_bridge_outputs_are_four : WellFormed (.deadtimeExpiry 4) = false := by decide
theorem test_outputs_are_eight : WellFormed (.scheduledEdge 8) = false ∧ WellFormed (.goReadback 8 true) = false := by decide
theorem test_fault_inputs_are_six : WellFormed (.fltFilterExpiry 6 true) = false ∧ WellFormed (.fltClear 64) = false := by decide
theorem test_converters_are_two : WellFormed (.tbSampleStart 2) = false ∧ WellFormed (.ofsCalSlotDone 2 0) = false := by decide
theorem test_gains_are_five : WellFormed (.ofsCalSlotDone 0 5) = false := by decide
theorem test_comparators_are_four : WellFormed (.wcFilterExpiry 4) = false := by decide
theorem test_check_units_are_four : WellFormed (.cuData 4 0) = false := by decide
theorem test_lans_are_two : WellFormed (.lanLinkChange 2 true) = false := by decide
theorem test_datasets_are_eight : WellFormed (.goosePublish 8) = false := by decide
theorem test_subscriptions_are_thirty_two : WellFormed (.gooseTimeout 32) = false := by decide
theorem test_streams_are_four : WellFormed (.svTimeout 4) = false := by decide
theorem test_worker_cores_are_eight : WellFormed (.dispatch 8) = false := by decide
theorem test_operations_are_4096 : WellFormed (.hdlCancel 0 4096) = false := by decide
theorem test_delay_lists_are_four : WellFormed (.delayTick 4) = false := by decide
theorem test_event_counters_are_sixteen : WellFormed (.ecLoRead 16) = false := by decide
theorem test_lane_codes : WellFormed (.trimAdvance 16) = false ∧ WellFormed (.trimAdvance 0xFFFE) = true ∧ WellFormed (.trimAdvance 0xFFFD) = false := by
  decide
theorem test_partitions_are_one_to_seven : WellFormed (.bobScrubRead 0 {} [] false false []) = false
    ∧ WellFormed (.bobScrubRead 8 {} [] false false []) = false := by decide
theorem test_chip_selects_are_two : WellFormed (.chipTimeout 2) = false := by decide
theorem test_store_sizes : WellFormed (.registerWrite 0 0 0 3) = false ∧ WellFormed (.registerWrite 0 0 0 4) = true := by decide
theorem test_twill_depth_is_at_most_twelve : WellFormed (.handoverReceive 10000 7000 0 13 2044 false) = false := by decide
theorem test_keys_have_24_bits : WellFormed (.objectWriteApply 0x1000000 0 1 .engineer) = false := by decide
theorem test_numbers_have_64_bits : WellFormed (.cycleStart (2 ^ 64)) = false ∧ WellFormed (.fence (2 ^ 64) .engineer) = false := by decide
theorem test_words_have_32_bits : WellFormed (.rateWrite (2 ^ 32)) = false := by decide
theorem test_raw_codes_have_16_bits : WellFormed (.conversionDone 0 65536) = false := by decide
theorem test_taps_have_8_bits : WellFormed (.ntReadLatch 256) = false := by decide
theorem test_addresses_have_48_bits : WellFormed (.ethFrameReceive 0 (2 ^ 48) none { body := .other }) = false := by decide
theorem test_times_have_96_bits : WellFormed (.timeSet (2 ^ 96)) = false := by decide
theorem test_reserved_sources : WellFormed (.mediaFlagExpiry 0x3FFC) = false ∧ WellFormed (.mediaFlagExpiry 0x40001) = false
    ∧ WellFormed (.mediaFlagExpiry 0xC1A2) = true := by decide
theorem test_payloads_hold_1024_bytes : WellFormed (.mirrorReceive (List.replicate 1025 0)) = false := by decide +kernel
theorem test_frames_hold_1044_bytes : WellFormed (.frameReceive 0 (List.replicate 1045 0)) = false := by decide +kernel
theorem test_requests : WellFormed (.read { via := .port 6, tid := 0, target := 0, index := 0, sub := 0 }) = false
    ∧ WellFormed (.read { via := .port 0, tid := 65536, target := 0, index := 0, sub := 0 }) = false
    ∧ WellFormed (.read { via := .port 0, tid := 0, target := 2 ^ 19, index := 0, sub := 0 }) = false
    ∧ WellFormed (.read { via := .port 0, tid := 0, target := 0, index := 65536, sub := 0 }) = false
    ∧ WellFormed (.read { via := .port 0, tid := 0, target := 0, index := 0, sub := 256 }) = false
    ∧ WellFormed (.read { via := .port 0, tid := 0, target := 0, index := 0, sub := 0, param := 2 ^ 32 }) = false
    ∧ WellFormed (.read { via := .port 0, tid := 0, target := 0, index := 0, sub := 0, len := 513 }) = false
    ∧ WellFormed (.read { via := .port 0, tid := 0, target := 0, index := 0, sub := 0, len := 1, value := 256 }) = false := by decide +kernel
theorem test_entries : WellFormed (.entryReceive 0 { lane := 16, jsn := 1 }) = false ∧ WellFormed (.entryReceive 0 { jsn := 2 ^ 64 }) = false
    ∧ WellFormed (.entryReceive 0 { jsn := 1, pjsn := 1 }) = false ∧ WellFormed (.entryReceive 0 { jsn := 1, applyAt := 2 ^ 64 }) = false
    ∧ WellFormed (.entryReceive 0 { jsn := 1, target := 2 ^ 19 }) = false ∧ WellFormed (.entryReceive 0 { jsn := 1, index := 65536 }) = false
    ∧ WellFormed (.entryReceive 0 { jsn := 1, sub := 256 }) = false ∧ WellFormed (.entryReceive 0 { jsn := 1, len := 65537 }) = false
    ∧ WellFormed (.entryReceive 0 { jsn := 1 }) = true := by decide
theorem test_pair_frames : WellFormed (.pairReceive { epoch := 2 ^ 32 }) = false ∧ WellFormed (.pairReceive { health := 64 }) = false
    ∧ WellFormed (.pairReceive { fwDigest := 2 ^ 32 }) = false ∧ WellFormed (.pairReceive { committed := 2 ^ 64 }) = false := by decide
theorem test_image_records : WellFormed (.imageReceive 0 [{ total := 65537 }] false) = false
    ∧ WellFormed (.imageReceive 0 [{ total := 1, offset := 1, bytes := [0] }] false) = false
    ∧ WellFormed (.imageReceive (2 ^ 64) [] false) = false := by decide

/-! ### Worked examples of the manual -/

/-- R5: cell 3:0x01A2, arm 2 ARM-B, STATION-A and STATION-B, arm 15 ARM-A. -/
theorem test_addresses : cellAddr 3 0x1A2 = 0xC1A2 ∧ armAddr 2 true = 0x48002 ∧ stationAddr false = 0x7FFFC ∧ stationAddr true = 0x7FFFE
    ∧ armAddr 15 false = 0x7C000 := by decide

/-- R5, R6: the roles that addresses imply, and reserved ones. -/
theorem test_address_roles : addrRole 0xC1A2 = .cell ∧ addrRole 0x48002 = .arm ∧ addrRole 0x7FFFC = .station ∧ addrRole (relayAddr 5 true) = .relay
    ∧ addrReserved 0x3FFD = true ∧ addrReserved 0x7FFFF = true ∧ dstReserved 0xFFFF = false := by decide

/-- 01_twill_roles: cell 3:0x01A2 stands at (7, 166), its parents at (6, 83) = 0x00CF and (6, 19) = 0x008F. -/
theorem test_place_of_0x1A2 : posPlace 0x1A2 = ⟨7, 166⟩ ∧ parentA ⟨7, 166⟩ = ⟨6, 83⟩ ∧ parentB ⟨7, 166⟩ = ⟨6, 19⟩ ∧ placePos ⟨6, 83⟩ = 0xCF
    ∧ placePos ⟨6, 19⟩ = 0x8F ∧ parentB ⟨8, 76⟩ = ⟨7, 166⟩ := by decide

/-- 02_object_dictionary: the request for REVERT_TIME of cell 3:0x01A2, with the ROLE byte that STATION-A writes. -/
theorem test_request_bytes :
    requestBytes 2 { via := .port 0, tid := 0x123, target := 0xC1A2, index := 0x2002, sub := 5, role := .engineer, confirm := true, len := 2,
                     value := 2000 }
      = [0x02, 0x01, 0x23, 0x01, 0xA2, 0xC1, 0x00, 0x00, 0x02, 0x20, 0x05, 0x02, 0, 0, 0, 0, 0xD0, 0x07] := by decide +kernel

/-- 03_weft_selection: the merged histogram of the example. -/
def exampleHist : Vector Nat 64 :=
  Vector.ofFn fun i => if i.val < 17 then (if i.val == 9 then 182 else 0) else [0, 96, 158, 241, 283, 118, 965].getD (i.val - 17) 0

/-- 03_weft_selection: M = 1,011 from the low end gives BBIN 22 and ALLOC 51. -/
theorem test_boundary : findBoundary exampleHist 1011 false = (22, 51) := by decide +kernel

/-- 03_weft_selection: the window of cycle k + 2 has WB 12,056 and WS 4. -/
theorem test_window : autoWindow 0 0 0 200 40 true {} { nbin := 2043, vmin := 12196, vmax := 12650 } = (12056, 4) := by decide +kernel

/-- 03_weft_selection: the codes 12,371 and 12,399 in the window WB 12,040, WS 4. -/
theorem test_bins : binOf { wb := 12040, ws := 4 } 12371 = 20 ∧ binOf { wb := 12040, ws := 4 } 12399 = 22 := by decide

/-- 03_weft_selection: the list DN0 to DN3 rotated left by 1. -/
theorem test_rotation : rotateLeft 0x1C05 [2, 3, 4, 5] = [3, 4, 5, 2] := by decide

/-- 04_treadle_control: the standard program of an ARM master fits its FAST budget from 800 mV down to where 88 steps last 350 ns. -/
theorem test_vcore_min : vcoreMinOf .arm 88 = 700 := by decide

/-- R206, R361: check values of "123456789". -/
theorem test_crc32c : Crc.crc32c [0x31, 0x32, 0x33, 0x34, 0x35, 0x36, 0x37, 0x38, 0x39] = 0xE3069283 := by decide +kernel

/-- 12_recorder_storage: types of PD_TIMEOUT, WEFT_LATE, TIME_STEP and MEDIA_FAULT, and the units of the example. -/
theorem test_record_types : FaultName.pdTimeout.typ = 0x0201 ∧ FaultName.weftLate.typ = 0x0305 ∧ FaultName.timeStep.typ = 0x0806
    ∧ FaultName.mediaFault.typ = 0x0C01 ∧ FaultName.weftLate.unit = 4 ∧ FaultName.linkDown.unit = 6 ∧ FaultName.childLost.unit = 15 := by decide

/-! ### States for the tests and witnesses -/

/-- An active STATION member in READY; its address is STATION-A. -/
def station : State :=
  { State.reset with node := { State.reset.node with role := .station, address := 0x7FFFC, nodeState := .ready }
                     jrn := { State.reset.jrn with pstate := .active }
                     sys := { State.reset.sys with wdRun := true, vddioB := true }
                     tb := { State.reset.tb with refOk := true } }

/-- Cell 3:0x01A2 in READY. -/
def cell : State :=
  { State.reset with node := { State.reset.node with address := 0xC1A2, nodeState := .ready, arm := 3 }
                     sys := { State.reset.sys with wdRun := true, vddioB := true }
                     tb := { State.reset.tb with refOk := true } }

/-- An active ARM master in READY. -/
def armMaster : State :=
  { State.reset with node := { State.reset.node with role := .arm, address := 0x48002, nodeState := .ready, arm := 2 }
                     jrn := { State.reset.jrn with pstate := .active }
                     sys := { State.reset.sys with wdRun := true }
                     tb := { State.reset.tb with refOk := true } }

/-- The row that a look-up finds. -/
def theRow (o : Option ObjRow) : ObjRow := o.getD (userRow 0)

/-- A session of an engineer with an open segmented write of the object with key `key`, `n` bytes of which have come. -/
def writing (key n : Nat) : State :=
  station.upDict fun d => { d with
    sessions := [{ id := 1, role := .engineer }], segWrites := [⟨.session 1, 5, 0x7FFFC, key, List.replicate n 0, 0⟩] }

/-- A cell with an open block transfer of an image of `size` bytes, and the segments that have come. -/
def staging (size : Nat) (segs : List (Nat × List Byte)) : State :=
  cell.upDict fun d => { d with blocks := [⟨.port 0, 0, Obj.IMAGE_STAGE, size, segs⟩] }

/-- A cell whose running graph has one operation with the user object 0x8000.01. -/
def userCell : State := cell.upHdl fun h => { h with banks := vset h.banks h.bank { ops := [{ entry := 0, prio := 0, affinity := 0, inArcs := [], nout := 0, budget := 0, fclass := .f1, sys := false, objects := [0x800001] }] } }

/-- A cell in lock whose core 0 is enabled with one entry of trigger `trig`. -/
def sampling (trig : Nat) (ready busy : Bool) : State :=
  let s := (cell.setObj Obj.LEN 1 0).setObj Obj.ENTRY0 (256 * trig + 8 * 65536) 0
  let s1 := (s.upTb fun t => { t with state := .locked, offset := 99920 * 65536 }).upWeft fun w => { w with tw := 100000 }
  s1.upAdc fun a => { a with cores := vset a.cores 0 { enabled := true }, refReady := ready, calBusy := busy }

/-- A state in which ten thousand seconds have passed. -/
def aged (s : State) : State := s.upTb fun t => { t with taps := 10000 * tapsS, offset := 0 }

/-- A cell in CARRIER mode whose grid has a boundary now, with a new period ready that waits for its coupled partner. -/
def carrier (wait : Nat) : State :=
  let s := (aged cell).setObj Obj.GATE_MODE 1 0
  (s.setObj Obj.COUPLED 1 0).upGate fun g => { g with act := { g.act with period := 128000 }, sh := { g.sh with period := some 64000, wait := wait } }

/-- A cell whose running graph has one operation with one input arc from HDL's own line, and a token on it. -/
def graphCell : State :=
  let g : GOp := { entry := 0, prio := 0, affinity := 1, inArcs := [0], nout := 0, budget := 0, fclass := .f1, sys := false, objects := [] }
  cell.upHdl fun h => { h with
    banks := vset h.banks h.bank { ops := [g], arcs := [{ producer := .event 7, consumer := 0, input := 0, depth := 1, overwrite := false }] }
    arcs := [[]], ops := [{}], run := true, ready := [⟨0, 0⟩], cores := vset h.cores 0 { waiting := true }, evt := 1, inten := 1 }

/-- A frame with TWIN from one cell to another one above it. -/
def twinFrame : Frame := { cls := .service, dir := .up, dst := 0xC1A2, src := 0xC002, twin := true, eseq := 7 }

/-- A cell whose port UPA is lit, with one F4 record that has not been told yet. -/
def telling : State :=
  let s := (cell.upPort 0 fun p => { p with state := .up }).upSys fun y => { y with admitted := vset y.admitted 0 (some 0) }
  s.upRecd fun r => { r with
    den := [{ record := { typ := 0x201, source := 0xC1A2, cls := .f4, rsn := 0, opt := 0, pcc := 0, ntS := 0, ntNs := 0 }, state := .pinned }] }

/-- A cell with UPA's neighbour known, whose last safety frame had sequence number 5. -/
def connected : State :=
  (cell.upSys fun y => { y with admitted := vset y.admitted 0 (some 0) }).upSel fun l => { l with conns := vset l.conns 0 { lastSeq := 5 } }

/-- A cell that has sent its SDATA on every connection. -/
def quiet : State := cell.upSel fun l => { l with conns := Vector.ofFn fun p => { txLast := some (cell.sdata p.val) } }

theorem quiet_has_sent : ∀ p ∈ quiet.connPorts, ∃ f, (quiet.conn p).txLast = some f ∧ sameSdata f (quiet.sdata p) = true := by
  intro p hp
  have h : p = 0 ∨ p = 1 ∨ p = 2 ∨ p = 3 ∨ p = 4 ∨ p = 5 := by
    have e : quiet.connPorts = [0, 1, 2, 3, 4, 5] := rfl
    simpa [e] using hp
  rcases h with rfl | rfl | rfl | rfl | rfl | rfl <;> exact ⟨_, rfl, by decide +kernel⟩

/-- Port `p` is lit: UP, with its neighbour's certificates verified. -/
def withLit (s : State) (p : Nat) : State :=
  (s.upPort p fun x => { x with state := .up }).upSys fun y => { y with admitted := vset y.admitted p (some 0) }

/-- One F4 record of another cell. -/
def childRecord : Record :=
  { typ := 0x201, source := 0xC002, cls := .f4, rsn := 3, opt := 0, pcc := 0, ntS := 1, ntNs := 2 }

/-- A cell whose port 3 has asked for its delay at tap 0, with exchange 0. -/
def asked : State := cell.upPort 3 fun p => { p with state := .up, reqXid := some 0 }

theorem asked_within : inWindow (asked.port 3).reqT1 (10 * tapsUs) asked.tapNow.1 = true := by
  have h : asked.tapNow.1 < 128 := Nat.lt_of_le_of_lt (Nat.le_of_eq (Nat.zero_add _)) (Nat.mod_lt _ (by decide))
  have e : (asked.port 3).reqT1 = 0 := by decide +kernel
  rw [inWindow, e, decide_eq_true_iff]
  exact ⟨Nat.zero_le _, Nat.lt_of_lt_of_le h (by decide)⟩

theorem asked_late : inWindow ((asked.upTb fun t => { t with taps := 128000 }).port 3).reqT1 (10 * tapsUs)
    (asked.upTb fun t => { t with taps := 128000 }).tapNow.1 = false := by
  have h : 128000 ≤ (asked.upTb fun t => { t with taps := 128000 }).tapNow.1 := Nat.le_add_right _ _
  have e : ((asked.upTb fun t => { t with taps := 128000 }).port 3).reqT1 = 0 := by decide +kernel
  rw [inWindow, e, decide_eq_false_iff_not]
  exact fun c => absurd c.2 (Nat.not_lt.mpr h)

/-! ### One command on a small state, with what the manual says of it -/

/-- The state after a command. -/
def after (c : Instr) (s : State) : State := match exec c s with | .next t => t | _ => s

/-- A binary32 from a fraction. -/
def fl (n : Int) (d : Nat := 1) : Nat := (F32.ofRat n d).toNat

/-- 06_measurement: raw 33,860 at VCAP_FS 1,200 V is code 12,400. -/
theorem test_capacitor_code :
    (after (.conversionDone 0 33860)
      (((((aged cell).setObj Obj.LEN 2 0)).setObj Obj.ENTRY0 0x280100 0).upAdc fun a => { a with cores := vset a.cores 0 { enabled := true, cur := .tb 0 } })).adc.vcapCode
      = 12400 := by decide +kernel

/-- 06_measurement: raw 9,425 at ISENS_FS 4,000 A is code 4,602, and slot 0 is valid. -/
theorem test_current_code :
    let t := after (.conversionDone 1 9425)
      (((((aged cell).setObj Obj.SENSOR_SLOT 1 0).setObj (Obj.LEN + 256) 2 0).setObj (Obj.ENTRY0 + 256) 0x280108 0).upAdc fun a =>
        { a with cores := vset a.cores 1 { enabled := true, cur := .tb 0 }, refReady := true, cal1Ok := true })
    t.weft.sens.i = 4602 ∧ t.weft.sens.valid = true := by decide +kernel

/-- 06_measurement: the table of ADC0 passes ENABLE at a TB interval of 10 µs, and not at 3 µs (R177). -/
theorem test_adc_table :
    let s := ((cell.setObj Obj.LEN 2 0).setObj Obj.ENTRY0 0x280100 0).setObj (Obj.ENTRY0 + 1) 0xC80001 0
    (s.upWeft fun w => { w with tw := 10000 }).tbRunNs 0 = 3040
      ∧ ((after (.adcEnable 0 1) (s.upWeft fun w => { w with tw := 10000 })).adcCore 0).enabled = true
      ∧ ((after (.adcEnable 0 1) (s.upWeft fun w => { w with tw := 3000 })).adcCore 0).enabled = false := by decide +kernel

/-- 05_gate_outputs: a FLT_CLEAR while the input is not yet inactive for FLT_FILT is refused and counted; a later one releases the latch. -/
theorem test_flt_clear :
    let s := cell.upGate fun g => { g with flt := vset g.flt 0 { act := true, latched := true } }
    (after (.fltClear 1) s).gate.clearRefused = 1 ∧ (vget (after (.fltClear 1) s).gate.flt 0 {}).latched = true
      ∧ (vget (after (.fltClear 1) (after (.fltFilterExpiry 0 false) s)).gate.flt 0 {}).latched = false := by decide +kernel

/-- 07_floen_links, R226: (t4 − t1) − (t3 − t2) of 104.000 ns, 1,331 taps, gives a delay of 52.000 ns, to a tap. -/
theorem test_link_delay : 51950 ≤ (Port.takeDelay {} 1331).delay ∧ (Port.takeDelay {} 1331).delay ≤ 52050 := by decide +kernel

/-- 08_time_base, R257: θ = −0.250 ns with I = 2.300 ppm, KP = 0.5 and KI = 0.05 gives I = 2.350 ppm and RATE 3,133,608. -/
theorem test_servo :
    ((((cell.setObj Obj.SERVO_KP (fl 1 2) 0).setObj Obj.SERVO_KI (fl 1 20) 0).upTb fun t => { t with servoI := F32.ofRat 23 10000000 }).servo
      (-16384) 250000).2 = 3133608 := by decide +kernel

/-- 08_time_base, R263: θ = +3.000 420 ms with Q = 1 ms and STEP_NOTICE = 20 ms at …12.345 678 s gives Δ = −3 ms at …12.366 000 s. -/
theorem test_step_schedule :
    let s := ((station.setObj Obj.STEP_QUANTUM 1000000 0).setObj Obj.STEP_NOTICE 20 0).upTb fun t => { t with
      theta := 3000420 * 65536, quantRun := 8, taps := 12345678 * 64000 / 5, offset := 0 }
    let t := after .stepSchedule { s with dict := { s.dict with inEffect := [(Obj.STEP_QUANTUM, 1000000)] } }
    t.tb.ann.stepv = true ∧ t.tb.ann.stepDelta = -3000000 ∧ t.tb.ann.stepAt = 12366000000 := by decide +kernel

/-- 07_floen_links: WIDTH 16, POLY 0x1021, INIT 0xFFFF over "123456789" gives 0x29B1 (R227, R229). -/
theorem test_check_unit :
    let s := (((((cell.setObj Obj.CU_MODE 3 0).setObj Obj.CU_WIDTH 16 0).setObj Obj.CU_POLY 0x1021 0).setObj Obj.CU_INIT 0xFFFF 0).setObj Obj.CU_XOROUT 0
      0).setObj Obj.CU_REFLECT 0 0
    let t := after (.cuData 0 0x34333231) (after (.cuStart 0 0x401) s)
    (vget (after (.cuData 0 0x39) (after (.cuStart 0 0x100) (after (.cuData 0 0x38373635) t))).link.cu 0 {}).result = 0x29B1 := by decide +kernel

/-- 09_cores_heddle: W3 takes the first operation by priority, W2 the next by number, then W3 the last. -/
theorem test_dispatch_order :
    let op (p a i : Nat) : GOp := ⟨0, p, a, [i], 0, 0, .f1, [], false⟩
    let s := cell.upHdl fun h => { h with
      run := true, arcs := [[5], [5], [5]], banks := vset h.banks h.bank { ops := [op 3 0x0C 0, op 5 0x0C 1, op 5 0x08 2] }
      ready := [⟨0, 0⟩, ⟨1, 0⟩, ⟨2, 0⟩] }
    let t := after (.dispatch 3) (after (.hdlNext 3) s)
    let u := after (.dispatch 2) (after (.hdlNext 2) t)
    (t.hcore 3).opened = some 0 ∧ (u.hcore 2).opened = some 1 ∧ ((after (.dispatch 3) (after (.hdlNext 3) u)).hcore 3).opened = some 2 := by
  decide +kernel

/-- 11_selvedge_safety: with DEG_HOURS = 24 the limit comes after 24 h, and 50 % after 12 h. -/
theorem test_degraded_minutes :
    let s (m : Nat) := ((aged cell).setObj Obj.DEG_HOURS 24 0).upSel fun l => { l with degraded := true, degMin := m, spb := false, causes := 0 }
    (after .degMinute (s 1438)).sel.spb = false ∧ (after .degMinute (s 1439)).sel.spb = true ∧ bitOf (after .degMinute (s 1439)).sel.causes 8 = true
      ∧ ((after .degMinute (s 719)).recd.den.any fun d => d.record.typ == FaultName.safetyDeg50.typ) = true
      ∧ ((after .degMinute (s 1295)).recd.den.any fun d => d.record.typ == FaultName.safetyDeg90.typ) = true := by decide +kernel

/-- 12_recorder_storage: the record of WEFT_LATE at 3:0x00CF has SOURCE 0x20C0CF. -/
theorem test_record_source :
    ((cell.upNode fun n => { n with address := 0xC0CF }).mkRecord 0x0305 4 .f1 0).source = 0x20C0CF := by decide +kernel

/-- 12_recorder_storage, R392: an identical event after 999,980 µs folds; at 1.000000 s the window has ended; at 65,535 no more folds. -/
theorem test_folding :
    let n : Record := { typ := 0x305, source := 0x20C0CF, cls := .f1, rsn := 0x2A10, opt := 0, pcc := 0, ntS := 0, ntNs := 0 }
    let r : Rec := { den := [{ record := n }] }
    r.folds (99998 * 10 * tapsUs) n = true ∧ r.folds tapsS n = false
      ∧ Rec.folds { den := [{ record := { n with repeatCount := 65535 } }] } 1 n = false := by decide +kernel

/-- 04_treadle_control, R116, R117: N_ff 1,007, h from 1 to 5, N = 1,012. -/
theorem test_hyst :
    let s := ((((((((((armMaster.setObj Obj.HYST_H (fl 2) 0).setObj Obj.DELTA_I (fl 2) 0).setObj Obj.STEP_MAX 4 0).setObj Obj.H_LIMIT 64 0).setObj Obj.N_MIN
      0 0).setObj Obj.N_MAX 2044 0).setObj Obj.N_SLEW 64 0).setObj Obj.IREF_SRC0 0x401 0).setObj Obj.UFF_SRC0 0x402 0).setObj (Obj.REFIN0 + 1)
      (fl 1138) 0).setObj (Obj.REFIN0 + 2) (fl 624200) 0
    let u := s.upTrdl fun t => { t with vMean := F32.ofRat 61990 100, iMeas := F32.ofRat 1150 1, nEff := 1008, curValid := true }
    let x := u.hystRun false { h := 1 }
    x.nFf = 1007 ∧ x.h = 5 ∧ x.nOut = 1012 ∧ x.nLim = false := by decide +kernel

/-- R312, R332: the take-over of a healthy standby makes PAIR_EPOCH 8 of 7. -/
theorem test_takeover_epoch :
    let s := ((armMaster.upTb fun t => { t with state := .locked }).upTrdl fun t => { t with std := false }).upJrn fun j => { j with
      pstate := .standby, health := 6, verified := true, yieldCause := some 2, partner := some {}, epoch := 7, triggerAt := some 0 }
    (after .takeover s).jrn.epoch = 8 ∧ (after .takeover s).jrn.pstate = .active := by decide +kernel

/-- R434: a kick with the key moves the watchdog on; another value resets the device with cause 4. -/
theorem test_watchdog_kick :
    let s := cell.upSys fun y => { y with wdRun := true, wdKickTap := 0 }
    (after (.watchdogKick 0xA5C3) s).node.nodeState = .ready ∧ (after (.watchdogKick 0xA5C4) s).sys.resetCause = 4 := by decide +kernel

/-- R29: the supplies bring a device from OFF to BOOT; 829 mV do not (R426). -/
theorem test_supplies :
    let s := cell.upNode fun n => { n with nodeState := .off }
    (after (.suppliesValid 830 1710) s).node.nodeState = .boot ∧ (after (.suppliesValid 829 1710) s).node.nodeState = .off := by decide +kernel

/-- R29: the command BLOCK takes SERVICE to BLOCK. -/
theorem test_block : (after .block (cell.upNode fun n => { n with nodeState := .service })).node.nodeState = .block := by decide +kernel

/-- R40, R45: a write of REVERT_TIME within its range is stored with its JSN; 99 is out of range. -/
theorem test_object_write :
    (after (.objectWriteApply Obj.REVERT_TIME 2000 7 .engineer) cell).obj Obj.REVERT_TIME = 2000
      ∧ (after (.objectWriteApply Obj.REVERT_TIME 2000 7 .engineer) cell).objJsn Obj.REVERT_TIME = 7
      ∧ (after (.objectWriteApply Obj.REVERT_TIME 99 7 .engineer) cell).obj Obj.REVERT_TIME = 1000
      ∧ (after (.objectWriteApply Obj.REVERT_TIME 2000 7 .operator) cell).obj Obj.REVERT_TIME = 1000 := by decide +kernel

/-- R276: a worker's word store is read back byte by byte, the low byte first. -/
theorem test_store :
    let t := after (.registerWrite 2 0x20000010 0x11223344 4) cell
    t.byteAt 0x20000010 = 0x44 ∧ t.byteAt 0x20000013 = 0x11 ∧ t.byteAt 0x20000014 = 0 := by decide +kernel

/-- 05_gate_outputs: an INSERT of a cell in the zero state with DEADTIME 38,400 taps turns S2 off at t_e(k) and S1 on 3.0 µs later. -/
def inserting : State :=
  let s := ((cell.upTb fun t => { t with taps := 6400000 }).upNode fun n => { n with nodeState := .service }).upSel fun l => { l with spb := false, causes := 0 }
  (s.upWeft fun w => { w with tw := 100000, decisions := [⟨5, .insert false, false⟩] }).upGate fun g =>
    { g with sw := vset g.sw 1 { on := true }, act := { g.act with deadtime := 38400 }, ins := .zero }

theorem test_insert :
    let t := after (.levelEdgeInstant 5) inserting
    let late (n : Nat) := after (.deadtimeExpiry 0) (t.upTb fun b => { b with taps := b.taps + n })
    (t.gate.switch 1).on = false ∧ (t.gate.switch 0).on = false ∧ ((late 38399).gate.switch 0).on = false ∧ ((late 38400).gate.switch 0).on = true := by
  decide +kernel

/-- 05_gate_outputs: FLT0 with ACTION 1 turns GO0 to GO3 off, cancels the pending switch-on of GO0 and takes the node to BLOCK. -/
theorem test_flt_trip :
    let t := after (.fltFilterExpiry 0 true) (after (.levelEdgeInstant 5) (inserting.setObj Obj.FLT_CFG0 5 0))
    t.node.nodeState = .block ∧ (t.gate.switch 0).pendingOn = none ∧ (t.gate.switch 0).on = false ∧ (t.gate.switch 1).on = false
      ∧ (t.node.faults.any fun f => f.name == .fltTrip && f.cls == .f2) = true := by decide +kernel

/-- R7: in OFF nothing but the supplies and WAKE is heeded. -/
theorem test_off : (after (.watchdogKick 0) (cell.upNode fun n => { n with nodeState := .off })).node.nodeState = .off := by decide +kernel

/-- R302, R306: an event counter counts its source while it is free running. -/
theorem test_event_counter :
    let s := (cell.setObj Obj.EC_SOURCE 0x43 0).setObj Obj.EC_MODE 1 0
    (vget (s.event 0x43).evc.ec 0 {}).value = 1 ∧ (vget (s.event 0x42).evc.ec 0 {}).value = 0 := by decide +kernel

/-- R63, R66, R69: a write at the active STATION takes the next JSN; one out of range is refused, counted and journals nothing. -/
theorem test_station_write :
    let s := station.upDict fun d => { d with sessions := [{ id := 1, role := .engineer }] }
    let r (v : Nat) : Request := { via := .session 1, target := 0x7FFFC, index := 0x2002, sub := 5, len := 2, value := v }
    (after (.write (r 2000)) s).jrn.lastJsn = s.jrn.lastJsn + 1 ∧ (after (.write (r 99)) s).jrn.lastJsn = s.jrn.lastJsn
      ∧ (after (.write (r 99)) s).dict.refusedCount = 1 := by decide +kernel

/-- R320: an entry that is next in line is applied, and the same JSN a second time is not. -/
theorem test_entry :
    let e : JEntry := { lane := 3, jsn := 1, target := 0xC1A2, accepted := true, index := 0x2002, sub := 5, role := .engineer, len := 2, value := 2000 }
    let t := after (.entryReceive 0 e) cell
    t.obj Obj.REVERT_TIME = 2000 ∧ (t.laneOf 3).applied = 1
      ∧ (after (.entryReceive 0 { e with value := 3000 }) t).obj Obj.REVERT_TIME = 2000 := by decide +kernel

/-- R205 to R207: a frame for this cell arrives whole; with a flipped payload check it is counted and dropped. -/
theorem test_frame :
    let s := withLit cell 2
    (after (.frameReceive 2 twinFrame.bytes) s).inbox.length = 1
      ∧ (after (.frameReceive 2 (twinFrame.bytes.set 19 0#8)) s).inbox = []
      ∧ ((after (.frameReceive 2 (twinFrame.bytes.set 19 0#8)) s).port 2).crcErr = 1 := by decide +kernel

/-- R221, R238: loss of light takes a port down. -/
theorem test_link_down : ((after (.linkDown 2 true) (withLit cell 2)).port 2).state ≠ .up := by decide +kernel

/-- R233: a change of dataset 0 is published with the next stNum and sqNum 0. -/
theorem test_goose :
    let t := after (.goosePublish 0) (station.setObj Obj.GP_ENABLE 1 0)
    (vget t.link.lan.gp 0 {}).stNum = 1 ∧ (vget t.link.lan.gp 0 {}).sqNum = 0 := by decide +kernel

/-- R371: missed heartbeats of the core degrade the node, which goes on with channel B. -/
theorem test_degraded :
    let t := after .heartbeatMiss cell
    t.sel.degraded = true ∧ t.sel.failedC = true ∧ t.sel.failedB = false := by decide +kernel

/-- R429: ten milliseconds of PFAIL_N high end a power fail; its fall starts the flush of a mounted store. -/
theorem test_pfail :
    (after .pfailFall (cell.upBob fun b => { b with mounted := true })).sys.flushing = true := by decide +kernel

/-- R424, R425: with no valid slot BOOT does not end. -/
theorem test_no_image :
    (after (.bootComplete (Vector.replicate 2 none) true true true 0) (cell.upNode fun n => { n with nodeState := .boot })).node.nodeState ≠ .join := by
  decide +kernel

/-- R78: the hand-over gives a cell T_W and the lead. -/
theorem test_handover :
    let t := after (.handoverReceive 10000 7000 0 9 2044 false) (cell.upSys fun y => { y with wdRun := true })
    t.weft.tw = 10000 ∧ t.weft.lead = 7000 ∧ t.weft.depth = 9 ∧ t.weft.population = 2044 := by decide +kernel

/-- R250: RATE is written as a signed 32-bit number. -/
theorem test_rate : (after (.rateWrite 0xFFFFFFFF) (station.upTb fun t => { t with refOk := true })).tb.rate = -1 := by decide +kernel

/-- R206: the default of a check unit is CRC-32C. -/
theorem test_check_unit_default :
    let t := after (.cuData 3 0x34333231) (after (.cuStart 3 0x401) (cell.setObj (Obj.CU_MODE + 768) 3 0))
    (vget (after (.cuData 3 0x39) (after (.cuStart 3 0x100) (after (.cuData 3 0x38373635) t))).link.cu 3 {}).result = 0xE3069283 := by decide +kernel

/-! ### The hypotheses of the statements can be met -/

/-- States and operands that meet the hypotheses of `Obligations.ResetsEnterBootWithTheLatchSet`, clause by clause. -/
theorem test_witness_ResetsEnterBootWithTheLatchSet :
    (∃ (s : State) (vin vdda : Nat), s.powered = false ∧ s.sys.hibernating = false ∧ 830 ≤ vin ∧ 1710 ≤ vdda)
    ∧ (∃ (s : State) (vin vdda : Nat), (s.powered = true ∨ s.sys.hibernating = true ∨ vin < 830 ∨ vdda < 1710))
    ∧ (∃ (s : State), s.sys.hibernating = true)
    ∧ (∃ (s : State), s.sys.hibernating = false)
    ∧ (∃ (s : State), s.powered = true ∧ s.sys.flushing = false)
    ∧ (∃ (s : State), s.powered = true ∧ s.sys.flushing = false)
    ∧ (∃ (s : State), s.powered = true ∧ s.sys.flushing = false ∧ s.jtagState ≠ 1)
    ∧ (∃ (s : State), s.powered = true ∧ s.sys.flushing = true)
    ∧ (∃ (s : State), s.jtagState = 1)
    ∧ (∃ (s : State) (v : Nat), s.powered = true ∧ v ≠ s.addr) :=
  ⟨⟨{ State.reset with node := { State.reset.node with nodeState := (NodeState.off) } }, 830, 1710, by decide +kernel⟩,
   ⟨State.reset, 0, 0, by decide +kernel⟩,
   ⟨{ State.reset with sys := { State.reset.sys with hibernating := true } }, by decide +kernel⟩,
   ⟨State.reset, by decide +kernel⟩,
   ⟨State.reset, by decide +kernel⟩,
   ⟨State.reset, by decide +kernel⟩,
   ⟨State.reset, by decide +kernel⟩,
   ⟨{ State.reset with sys := { State.reset.sys with flushing := true } }, by decide +kernel⟩,
   ⟨{ State.reset with sys := { State.reset.sys with jtagLocked := true } }, by decide +kernel⟩,
   ⟨State.reset, 0, by decide +kernel⟩⟩

/-- States and operands that meet the hypotheses of `Obligations.WatchdogWarnsAndExpires`, clause by clause. -/
theorem test_witness_WatchdogWarnsAndExpires :
    (∃ (s : State), s.powered = true ∧ s.sys.wdRun = true ∧ s.sys.flushing = false ∧ s.sys.wdKickTap + s.objEff Obj.WDOG_TIMEOUT * tapsMs ≤ s.tb.taps)
    ∧ (∃ (s : State), s.tb.refOk = true ∧ s.tb.taps < s.sys.wdKickTap + s.objEff Obj.WDOG_TIMEOUT * tapsMs)
    ∧ (∃ (s : State) (key : Nat), s.powered = true ∧ s.sys.wdRun = true ∧ s.sys.flushing = false ∧ key % 2 ^ 32 ≠ 0xA5C3)
    ∧ (∃ (s : State) (key : Nat), s.powered = true ∧ s.sys.wdRun = true ∧ key % 2 ^ 32 = 0xA5C3)
    ∧ (∃ (s : State), s.powered = true ∧ s.sys.wdRun = true ∧ s.sys.wdKickTap + s.objEff Obj.WDOG_TIMEOUT * tapsMs / 2 ≤ s.tb.taps)
    ∧ (∃ (s : State), s.tb.refOk = true ∧ s.tb.taps < s.sys.wdKickTap + s.objEff Obj.WDOG_TIMEOUT * tapsMs / 2)
    ∧ (∃ (s : State) (key : Nat), s.sys.wdRun = false) :=
  ⟨⟨{ State.reset with
        tb := { State.reset.tb with taps := 2147479670, refOk := true },
        sel := { State.reset.sel with frameErr := 1376770 },
        sys := { State.reset.sys with wdRun := true, wdKickTap := 57 } }, by decide +kernel⟩,
   ⟨{ State.reset with tb := { State.reset.tb with refOk := true } }, by decide +kernel⟩,
   ⟨{ State.reset with sys := { State.reset.sys with wdRun := true } }, 0, by decide +kernel⟩,
   ⟨{ State.reset with sys := { State.reset.sys with wdRun := true } }, 42435, by decide +kernel⟩,
   ⟨{ State.reset with
        tb := { State.reset.tb with taps := 1073737847, refOk := true },
        sel := { State.reset.sel with frameErr := 1376770 },
        sys := { State.reset.sys with wdRun := true, wdKickTap := 57 } }, by decide +kernel⟩,
   ⟨{ State.reset with tb := { State.reset.tb with refOk := true } }, by decide +kernel⟩,
   ⟨State.reset, 0, by decide +kernel⟩⟩

/-- States and operands that meet the hypotheses of `Obligations.LossOfSupplyAndPowerFail`, clause by clause. -/
theorem test_witness_LossOfSupplyAndPowerFail :
    (∃ (s : State), (s.powered = true ∨ s.sys.hibernating = true))
    ∧ (∃ (s : State), (s.powered = true ∨ s.sys.hibernating = true))
    ∧ (∃ (s : State), s.powered = false ∧ s.sys.hibernating = false)
    ∧ (∃ (s : State) (v : Nat), s.powered = true ∧ v ≠ s.addr)
    ∧ (∃ (s : State), (s.node.nodeState = .ready ∨ s.node.nodeState = .block))
    ∧ (∃ (s : State), s.powered = true ∧ s.node.nodeState ≠ .ready ∧ s.node.nodeState ≠ .block)
    ∧ (∃ (s : State), s.powered = true ∧ s.objEff Obj.PFAIL_USED ≠ 0 ∧ s.sys.pfailLow = false)
    ∧ (∃ (s : State), (s.objEff Obj.PFAIL_USED = 0 ∨ s.sys.pfailLow = true))
    ∧ (∃ (s : State), s.powered = true ∧ s.sys.flushing = true ∧ s.sys.pendingReset = none)
    ∧ (∃ (s : State) (c : Nat), s.powered = true ∧ s.sys.flushing = true ∧ s.sys.pendingReset = some c ∧ 3 ≤ c ∧ c ≤ 7 ∧ c ≠ 4)
    ∧ (∃ (s : State), s.sys.flushing = false)
    ∧ (∃ (s : State), (s.sys.pfailLow = false ∨ s.sys.flushing = true))
    ∧ (∃ (s : State), s.powered = true ∧ s.sys.pfailLow = true ∧ s.sys.flushing = false) :=
  ⟨⟨State.reset, by decide +kernel⟩,
   ⟨State.reset, by decide +kernel⟩,
   ⟨{ State.reset with node := { State.reset.node with nodeState := (NodeState.off) } }, by decide +kernel⟩,
   ⟨State.reset, 0, by decide +kernel⟩,
   ⟨{ State.reset with node := { State.reset.node with nodeState := (NodeState.ready) } }, by decide +kernel⟩,
   ⟨State.reset, by decide +kernel⟩,
   ⟨State.reset, by decide +kernel⟩,
   ⟨{ State.reset with sys := { State.reset.sys with pfailLow := true } }, by decide +kernel⟩,
   ⟨{ State.reset with sys := { State.reset.sys with flushing := true } }, by decide +kernel⟩,
   ⟨{ State.reset with sys := { State.reset.sys with flushing := true, pendingReset := some 3 } }, 3, by decide +kernel⟩,
   ⟨State.reset, by decide +kernel⟩,
   ⟨State.reset, by decide +kernel⟩,
   ⟨{ State.reset with sys := { State.reset.sys with pfailLow := true } }, by decide +kernel⟩⟩

/-- States and operands that meet the hypotheses of `Obligations.CoreVoltageFollowsItsSetting`, clause by clause. -/
theorem test_witness_CoreVoltageFollowsItsSetting :
    (∃ (s : State) (v vin : Nat), s.powered = true ∧ 600 ≤ v ∧ v ≤ 1000 ∧ v % 10 = 0 ∧ s.vcoreMin ≤ v ∧ v + 150 ≤ vin)
    ∧ (∃ (s : State) (v vin : Nat), s.powered = true ∧ 600 ≤ v ∧ v ≤ 1000 ∧ v % 10 = 0 ∧ (v < s.vcoreMin ∨ vin < v + 150))
    ∧ (∃ (s : State) (v vin : Nat), s.powered = true ∧ (v < 600 ∨ 1000 < v ∨ v % 10 ≠ 0))
    ∧ (∃ (s : State), s.powered = true ∧ s.sys.ramp = true ∧ s.sys.rampAt + (max (min (s.obj Obj.VCORE) (s.sys.vin - 150)) s.sys.vcoreNow - min (min (s.obj
      Obj.VCORE) (s.sys.vin - 150)) s.sys.vcoreNow) * tapsUs / 2 ≤ s.tb.taps)
    ∧ (∃ (s : State), s.sys.ramp = false)
    ∧ (∃ (s : State), s.tb.refOk = true ∧ s.tb.taps < s.sys.rampAt + (max (min (s.obj Obj.VCORE) (s.sys.vin - 150)) s.sys.vcoreNow - min (min (s.obj
      Obj.VCORE) (s.sys.vin - 150)) s.sys.vcoreNow) * tapsUs / 2)
    ∧ (∃ (s : State) (vin : Nat), s.powered = true ∧ vin < s.obj Obj.VCORE + 150)
    ∧ (∃ (s : State) (vin : Nat), s.powered = true ∧ s.sys.headroom = true ∧ s.obj Obj.VCORE + 150 ≤ vin)
    ∧ (∃ (s : State) (vin : Nat), s.powered = true ∧ s.sys.headroom = true ∧ vin < s.obj Obj.VCORE + 150)
    ∧ (∃ (s : State) (vin : Nat), s.powered = true ∧ s.obj Obj.VCORE + 150 ≤ vin)
    ∧ (∃ (s : State) (vin : Nat), s.powered = true ∧ s.sys.headroom = false) :=
  ⟨⟨armMaster, 700, 850, by decide +kernel⟩,
   ⟨armMaster, 690, 850, by decide +kernel⟩,
   ⟨State.reset, 0, 0, by decide +kernel⟩,
   ⟨{ State.reset with sys := { State.reset.sys with ramp := true } }, by decide +kernel⟩,
   ⟨State.reset, by decide +kernel⟩,
   ⟨{ State.reset with tb := { State.reset.tb with refOk := true }, sys := { State.reset.sys with rampAt := 1 } }, by decide +kernel⟩,
   ⟨State.reset, 0, by decide +kernel⟩,
   ⟨{ State.reset with sys := { State.reset.sys with headroom := true } }, 950, by decide +kernel⟩,
   ⟨{ State.reset with sys := { State.reset.sys with headroom := true } }, 0, by decide +kernel⟩,
   ⟨State.reset, 950, by decide +kernel⟩,
   ⟨State.reset, 0, by decide +kernel⟩⟩

/-- States and operands that meet the hypotheses of `Obligations.NodeCommandsMoveTheNode`, clause by clause. -/
theorem test_witness_NodeCommandsMoveTheNode :
    (∃ (s : State), s.node.nodeState = .ready ∧ s.modeMismatch = false ∧ (s.isCell = true → s.adcReadyForEnable = true) ∧ s.r10 = true ∧ (s.sel.spb =
      false ∨ s.releaseOk = true))
    ∧ (∃ (s : State), s.powered = true ∧ s.node.nodeState ≠ .ready)
    ∧ (∃ (s : State), s.node.nodeState = .ready ∧ s.modeMismatch = false ∧ (s.isCell = true → s.adcReadyForEnable = true) ∧ s.r10 = false ∧ (s.sel.spb =
      false ∨ s.releaseOk = true))
    ∧ (∃ (s : State), s.node.nodeState = .ready ∧ s.modeMismatch = false ∧ (s.isCell = true → s.adcReadyForEnable = true) ∧ s.sel.spb = true ∧ s.releaseOk =
      false)
    ∧ (∃ (s : State), s.node.nodeState = .ready ∧ (s.modeMismatch = true ∨ (s.isCell = true ∧ s.adcReadyForEnable = false)))
    ∧ (∃ (s : State), (s.node.nodeState = .ready ∨ s.node.nodeState = .service ∨ s.node.nodeState = .hold))
    ∧ (∃ (s : State), s.node.nodeState = .block)
    ∧ (∃ (s : State), (s.node.nodeState = .boot ∨ s.node.nodeState = .join))
    ∧ (∃ (s : State), s.node.nodeState = .bypass)
    ∧ (∃ (s : State), s.node.nodeState = .block ∧ s.r10 = true ∧ s.releaseOk = true)
    ∧ (∃ (s : State), s.node.nodeState = .block ∧ s.r10 = false ∧ s.releaseOk = true)
    ∧ (∃ (s : State), s.node.nodeState = .block ∧ s.releaseOk = false)
    ∧ (∃ (s : State), s.powered = true ∧ s.node.nodeState ≠ .block)
    ∧ (∃ (s : State), s.powered = true ∧ (∀ f ∈ s.node.faults, s.causeActive f = false))
    ∧ (∃ (s : State), s.powered = true ∧ (∃ f ∈ s.node.faults, s.causeActive f = true))
    ∧ (∃ (s : State), s.powered = false) :=
  ⟨⟨{ State.reset with
        node := { State.reset.node with role := (Role.station), nodeState := (NodeState.ready) },
        sel := { State.reset.sel with sealEn := true } }, by decide +kernel⟩,
   ⟨State.reset, by decide +kernel⟩,
   ⟨{ State.reset with
        node := { State.reset.node with role := (Role.arm), nodeState := (NodeState.ready) },
        sel := { State.reset.sel with spb := false } }, by decide +kernel⟩,
   ⟨{ State.reset with node := { State.reset.node with role := (Role.arm), nodeState := (NodeState.ready) } }, by decide +kernel⟩,
   ⟨{ State.reset with node := { State.reset.node with nodeState := (NodeState.ready) } }, by decide +kernel⟩,
   ⟨{ State.reset with node := { State.reset.node with nodeState := (NodeState.ready) } }, by decide +kernel⟩,
   ⟨{ State.reset with node := { State.reset.node with nodeState := (NodeState.block) } }, by decide +kernel⟩,
   ⟨State.reset, by decide +kernel⟩,
   ⟨{ State.reset with node := { State.reset.node with nodeState := (NodeState.bypass) } }, by decide +kernel⟩,
   ⟨{ State.reset with
        node := { State.reset.node with role := (Role.station), nodeState := (NodeState.block) },
        sel := { State.reset.sel with sealEn := true } }, by decide +kernel⟩,
   ⟨{ State.reset with
        node := { State.reset.node with
            role := (Role.station),
            nodeState := (NodeState.block),
            faults := [{ name := (FaultName.safeInDiscrepancy), cls := (FClass.f1) }] },
        dict := { State.reset.dict with objs := [{ key := 5246977, value := 385, jsn := 13 }, { key := 5246979, value := 2, jsn := 14 }] },
        tb := { State.reset.tb with
            taps := 31246020,
            refOk := true,
            servoI := 34#32,
            quantRun := 1,
            prevTx := (vset State.reset.tb.prevTx 3 (some 5)),
            syncQuantum := 8589934593,
            lastStep := 5253889 },
        mem := { State.reset.mem with cells := [(6, 0#8)] },
        jrn := { State.reset.jrn with pstate := (PairState.active), hiLatch := (vset State.reset.jrn.hiLatch 1 4194303) },
        sel := { State.reset.sel with
            causeEnd := #v[0, 7, 0, 1, 4, 0, 4000000, 0, 2, 0, 0, 0, 0, 0],
            sinB := (vset State.reset.sel.sinB 0 true),
            sinC := (vset State.reset.sel.sinC 1 true),
            wcOk := 5,
            fbBad := (vset State.reset.sel.fbBad 0 true),
            failedC := true,
            scvOk := true,
            wc := (vset (vset State.reset.sel.wc 0 { fault := true }) 1 { fault := true }),
            conns := (vset (vset (vset State.reset.sel.conns 0 { valid := true }) 2 { last := some { connId := 3, seq := 2, texp := 6, spbDem := true, spb := true, nstate := 1, demandId := 3 } }) 3
                { valid := true }),
            dnmAcc := true },
        recd := { State.reset.recd with pcc := 5, gapOpen := true },
        bob := { State.reset.bob with inner0 := true },
        sys := { State.reset.sys with certAt := some 11, warmResets := 4 },
        inbox := [{ 
              cls := (FloenClass.journal),
              blk := true,
              dir := (FloenDir.cross),
              dst := 2,
              src := 0,
              hops := 0,
              twin := true,
              payload := [56#8, 69#8] }],
        free := 3,
        pending := [Instr.brownout] }, by decide +kernel⟩,
   ⟨{ State.reset with node := { State.reset.node with nodeState := (NodeState.block) } }, by decide +kernel⟩,
   ⟨State.reset, by decide +kernel⟩,
   ⟨State.reset, by decide +kernel⟩,
   ⟨{ State.reset with
        node := { State.reset.node with faults := [{ name := (FaultName.safeInDiscrepancy), cls := (FClass.f0) }] },
        sel := { State.reset.sel with discrepant := true } }, by decide +kernel⟩,
   ⟨{ State.reset with node := { State.reset.node with nodeState := (NodeState.off) } }, by decide +kernel⟩⟩

/-- States and operands that meet the hypotheses of `Obligations.BypassIsLatchedUntilItsRelease`, clause by clause. -/
theorem test_witness_BypassIsLatchedUntilItsRelease :
    (∃ (s : State), s.isCell = true ∧ s.powered = true ∧ s.sel.sby = false)
    ∧ (∃ (s : State), s.isCell = true ∧ s.powered = true ∧ s.sel.sby = true)
    ∧ (∃ (s : State) (v : Nat), s.isCell = true ∧ s.powered = true ∧ v ≠ s.addr)
    ∧ (∃ (s : State) (v : Nat), s.isCell = false ∧ s.powered = true)
    ∧ (∃ (s : State), s.node.nodeState = .bypass ∧ s.sel.sdi = true ∧ s.sys.flushing = false)
    ∧ (∃ (s : State), s.node.nodeState = .bypass ∧ s.sel.sdi = true ∧ s.sys.flushing = true)
    ∧ (∃ (s : State), s.node.nodeState = .bypass ∧ s.sel.sdi = false)
    ∧ (∃ (s : State), s.powered = true ∧ s.node.nodeState ≠ .bypass)
    ∧ (∃ (s : State) (v : Nat), s.powered = true ∧ v ≠ s.addr)
    ∧ (∃ (s : State) (v : Nat), s.powered = false) :=
  ⟨⟨State.reset, by decide +kernel⟩,
   ⟨{ State.reset with sel := { State.reset.sel with sby := true } }, by decide +kernel⟩,
   ⟨State.reset, 0, by decide +kernel⟩,
   ⟨{ State.reset with node := { State.reset.node with role := (Role.arm) } }, 0, by decide +kernel⟩,
   ⟨{ State.reset with node := { State.reset.node with nodeState := (NodeState.bypass) }, sel := { State.reset.sel with sdi := true } }, by decide +kernel⟩,
   ⟨{ State.reset with
        node := { State.reset.node with nodeState := (NodeState.bypass) },
        sel := { State.reset.sel with sdi := true },
        sys := { State.reset.sys with flushing := true } }, by decide +kernel⟩,
   ⟨{ State.reset with node := { State.reset.node with nodeState := (NodeState.bypass) } }, by decide +kernel⟩,
   ⟨State.reset, by decide +kernel⟩,
   ⟨State.reset, 0, by decide +kernel⟩,
   ⟨{ State.reset with node := { State.reset.node with nodeState := (NodeState.off) } }, 0, by decide +kernel⟩⟩

/-- States and operands that meet the hypotheses of `Obligations.BootEndsInJoinAndJoinInReady`, clause by clause. -/
theorem test_witness_BootEndsInJoinAndJoinInReady :
    (∃ (s : State) (slots : Vector (Option FwSlot) 2) (us : Nat), (s.node.nodeState = .boot ∨ s.node.nodeState = .bypass) ∧ s.sys.wdRun = false ∧
      s.sys.bootFailed = false ∧ s.pins.testen = false ∧ s.tb.refOk = true ∧ s.calHolds = false ∧ (slotValid s.sys.minSvn (vget slots 0 none) = true ∨
      slotValid s.sys.minSvn (vget slots 1 none) = true) ∧ s.roleWrong = false)
    ∧ (∃ (s : State) (slots : Vector (Option FwSlot) 2) (safety self cal : Bool) (us : Nat), s.node.nodeState = .boot ∧ s.sys.wdRun = false ∧
      s.sys.bootFailed = false ∧ s.pins.testen = false ∧ s.tb.refOk = true ∧ ((safety && self && cal) = false ∨ s.roleWrong = true ∨ (slotValid
      s.sys.minSvn (vget slots 0 none) = false ∧ slotValid s.sys.minSvn (vget slots 1 none) = false)))
    ∧ (∃ (s : State) (slots : Vector (Option FwSlot) 2) (safety self cal : Bool) (us : Nat), (s.powered = false ∨ s.sys.wdRun = true ∨ s.sys.bootFailed =
      true ∨ s.pins.testen = true ∨ s.tb.refOk = false))
    ∧ (∃ (s : State), s.node.nodeState = .join ∧ s.joinReady = true ∧ s.sys.trial = false)
    ∧ (∃ (s : State), s.node.nodeState = .join ∧ s.joinReady = true ∧ s.sys.trial = true)
    ∧ (∃ (s : State), (s.node.nodeState ≠ .join ∨ s.joinReady = false)) :=
  ⟨⟨{ cell with node := { cell.node with nodeState := .boot }, sys := { cell.sys with wdRun := false } },
      (Vector.replicate 2 (some { headerOk := true, keyOk := true, sigOk := true, sizeOk := true, digestOk := true })),
      0, by decide +kernel⟩,
   ⟨{ cell with node := { cell.node with nodeState := .boot }, sys := { cell.sys with wdRun := false } },
      (Vector.replicate 2 none),
      true,
      true,
      true,
      0, by decide +kernel⟩,
   ⟨State.reset, (Vector.replicate 2 none), true, true, true, 0, by decide +kernel⟩,
   ⟨{ State.reset with
        node := { State.reset.node with role := (Role.relay), nodeState := (NodeState.join), joined := true },
        link := { State.reset.link with ports := (vset State.reset.link.ports 1 { state := (LinkState.up) }) },
        tb := { State.reset.tb with state := (TimeState.locked) },
        jrn := { State.reset.jrn with headSeen := true },
        sys := { State.reset.sys with admitted := (vset State.reset.sys.admitted 1 (some 0)) } }, by decide +kernel⟩,
   ⟨{ State.reset with
        node := { State.reset.node with nodeState := (NodeState.join), joined := true },
        adc := { State.reset.adc with refReady := true },
        link := { State.reset.link with ports := (vset State.reset.link.ports 0 { state := (LinkState.up) }) },
        tb := { State.reset.tb with state := (TimeState.locked) },
        jrn := { State.reset.jrn with headSeen := true },
        sys := { State.reset.sys with trial := true, admitted := (vset State.reset.sys.admitted 0 (some 0)) } }, by decide +kernel⟩,
   ⟨State.reset, by decide +kernel⟩⟩

/-- States and operands that meet the hypotheses of `Obligations.CertificatesDebugAccessAndActivation`, clause by clause. -/
theorem test_witness_CertificatesDebugAccessAndActivation :
    (∃ (s : State) (root : Bool) (v : Nat) (f : CertFacts), s.powered = true)
    ∧ (∃ (s : State), s.powered = true ∧ ((s.sys.certAt = none ∧ s.tb.state = .locked) ∨ (∃ a, s.sys.certAt = some a ∧ a + 3600 * tapsS ≤ s.tb.taps)))
    ∧ (∃ (s : State), s.certDue = false)
    ∧ (∃ (s : State) (p : Nat) (f : CertFacts), s.powered = true ∧ s.tb.refOk = true ∧ (p < 2 → s.isStation = false) ∧ p < 6 ∧ f.parses = true ∧ f.chainOk =
      true ∧ ((s.port p).state = .measure ∨ (s.port p).state = .up))
    ∧ (∃ (s : State) (p : Nat) (f : CertFacts), s.powered = true ∧ s.tb.refOk = true ∧ (p < 2 → s.isStation = false) ∧ p < 6 ∧ (f.parses && f.chainOk) =
      false ∧ ((s.port p).state = .measure ∨ (s.port p).state = .up))
    ∧ (∃ (s : State) (p : Nat) (f : CertFacts), s.powered = true ∧ s.tb.refOk = true ∧ (p < 2 → s.isStation = false) ∧ p < 6 ∧ ((s.port p).state = .measure
      ∨ (s.port p).state = .up))
    ∧ (∃ (s : State) (p : Nat) (op : Bool) (f : CertFacts), (s.powered = false ∨ s.tb.refOk = false ∨ 6 ≤ p ∨ (p < 2 ∧ s.isStation = true) ∨ ((s.port
      p).state ≠ .measure ∧ (s.port p).state ≠ .up)))
    ∧ (∃ (s : State), (s.node.nodeState = .ready ∨ s.node.nodeState = .block))
    ∧ (∃ (s : State), s.powered = true ∧ s.node.nodeState ≠ .ready ∧ s.node.nodeState ≠ .block)
    ∧ (∃ (s : State) (v : Nat), s.powered = true ∧ v ≠ s.addr)
    ∧ (∃ (s : State), s.powered = true ∧ s.jtagState = 1)
    ∧ (∃ (s : State) (ok : Bool), s.jtagState ≠ 1)
    ∧ (∃ (s : State) (f : FwSlot), s.powered = true ∧ s.sys.imageStatus = 2 ∧ vget s.sys.slots s.stagedSlot none = some f)
    ∧ (∃ (s : State), s.powered = true ∧ (s.sys.imageStatus ≠ 2 ∨ vget s.sys.slots s.stagedSlot none = none))
    ∧ (∃ (s : State), s.powered = true)
    ∧ (∃ (s : State) (v : Nat), s.powered = true ∧ 1 < v)
    ∧ (∃ (s : State) (r : SessRole), s.powered = true)
    ∧ (∃ (s : State) (v : Nat) (r : SessRole), s.powered = true ∧ v ≠ s.addr)
    ∧ (∃ (s : State) (v : Nat) (r : SessRole) (root : Bool) (f : CertFacts), s.powered = false) :=
  ⟨⟨State.reset, false, 0, {}, by decide +kernel⟩,
   ⟨{ State.reset with
        tb := { State.reset.tb with taps := 70368744173825, refOk := true, utcOffset := 131072 },
        sys := { State.reset.sys with certAt := some 2 } }, by decide +kernel⟩,
   ⟨State.reset, by decide +kernel⟩,
   ⟨{ State.reset with
        link := { State.reset.link with ports := (vset State.reset.link.ports 4 { state := (LinkState.measure) }) },
        tb := { State.reset.tb with refOk := true } },
      4,
      { parses := true, chainOk := true }, by decide +kernel⟩,
   ⟨{ State.reset with
        link := { State.reset.link with ports := (vset State.reset.link.ports 4 { state := (LinkState.measure) }) },
        tb := { State.reset.tb with refOk := true } },
      4,
      {}, by decide +kernel⟩,
   ⟨{ State.reset with
        link := { State.reset.link with ports := (vset State.reset.link.ports 2 { state := (LinkState.up) }) },
        tb := { State.reset.tb with refOk := true } },
      2,
      {}, by decide +kernel⟩,
   ⟨State.reset, 0, false, {}, by decide +kernel⟩,
   ⟨{ State.reset with node := { State.reset.node with nodeState := (NodeState.ready) } }, by decide +kernel⟩,
   ⟨State.reset, by decide +kernel⟩,
   ⟨State.reset, 0, by decide +kernel⟩,
   ⟨{ State.reset with sys := { State.reset.sys with jtagLocked := true } }, by decide +kernel⟩,
   ⟨State.reset, false, by decide +kernel⟩,
   ⟨{ State.reset with sys := { State.reset.sys with slots := (vset State.reset.sys.slots 1 (some {})), imageStatus := 2 } },
      {}, by decide +kernel⟩,
   ⟨State.reset, by decide +kernel⟩,
   ⟨State.reset, by decide +kernel⟩,
   ⟨State.reset, 2, by decide +kernel⟩,
   ⟨State.reset, (SessRole.observer), by decide +kernel⟩,
   ⟨State.reset, 0, (SessRole.engineer), by decide +kernel⟩,
   ⟨{ State.reset with node := { State.reset.node with nodeState := (NodeState.off) } }, 0, (SessRole.engineer), false, {}, by decide +kernel⟩⟩

/-- States and operands that meet the hypotheses of `Obligations.BoundaryTakesExactlyTheTarget`, clause by clause. -/
theorem test_witness_BoundaryTakesExactlyTheTarget :
    (∃ (hist : Vector Nat 64) (m : Nat), 0 < m ∧ m ≤ ((List.range 64).map fun j => vget hist j 0).sum)
    ∧ (∃ (hist : Vector Nat 64) (m : Nat), 0 < m ∧ m ≤ ((List.range 64).map fun j => vget hist j 0).sum) :=
  ⟨⟨(Vector.replicate 64 1), 64, by decide +kernel⟩,
   ⟨(Vector.replicate 64 1), 1, by decide +kernel⟩⟩

/-- States and operands that meet the hypotheses of `Obligations.CycleStartAndTallyOfACell`, clause by clause. -/
theorem test_witness_CycleStartAndTallyOfACell :
    (∃ (s : State) (k : Nat), s.isCell = true ∧ s.powered = true ∧ s.t0Due k = true)
    ∧ (∃ (s : State) (k : Nat), s.isCell = true ∧ s.t0Due k = false)
    ∧ (∃ (s : State) (p : Nat) (w : Warp), s.tb.refOk = true ∧ s.isCell = true ∧ s.powered = true ∧ s.weft.tw ≠ 0 ∧ 2 ≤ p ∧ p ≤ 5 ∧ s.lit p = true ∧ s.recOf
      (s.cycleOf w.cycle) = none ∧ s.weft.k < s.cycleOf w.cycle + 4 ∧ s.t0 (s.cycleOf w.cycle) ≤ s.tb.ntNs ∧ s.tb.ntNs < s.tallyAt (s.cycleOf
      w.cycle))
    ∧ (∃ (s : State) (p : Nat) (w : Warp), s.tb.refOk = true ∧ s.isCell = true ∧ s.powered = true ∧ s.weft.tw ≠ 0 ∧ 2 ≤ p ∧ p ≤ 5 ∧ s.lit p = true ∧ s.recOf
      (s.cycleOf w.cycle) = none ∧ s.tallyAt (s.cycleOf w.cycle) ≤ s.tb.ntNs)
    ∧ (∃ (s : State) (p : Nat) (w : Warp) (r : WeftRec), s.tb.refOk = true ∧ s.isCell = true ∧ s.powered = true ∧ s.weft.tw ≠ 0 ∧ 2 ≤ p ∧ p ≤ 5 ∧ s.lit p =
      true ∧ s.recOf (s.cycleOf w.cycle) = some r ∧ w.resent = true)
    ∧ (∃ (s : State) (p : Nat) (w : Warp) (r : WeftRec), s.tb.refOk = true ∧ s.isCell = true ∧ s.powered = true ∧ s.weft.tw ≠ 0 ∧ 2 ≤ p ∧ p ≤ 5 ∧ s.lit p =
      true ∧ s.recOf (s.cycleOf w.cycle) = some r ∧ w.resent = false ∧ s.holdsCycle (s.cycleOf w.cycle) = true ∧ s.t0 (s.cycleOf w.cycle) ≤ s.tb.ntNs
      ∧ s.tb.ntNs < s.tallyAt (s.cycleOf w.cycle) ∧ (w.priB == decide (4 ≤ p)) = true)
    ∧ (∃ (s : State) (p : Nat) (w : Warp), (p < 2 ∨ 5 < p ∨ s.lit p = false ∨ s.weft.tw = 0 ∨ s.tb.refOk = false))
    ∧ (∃ (s : State) (k : Nat) (o : OwnCycle), s.isCell = true ∧ s.powered = true ∧ s.weft.tw ≠ 0 ∧ s.holdsCycle k = true ∧ s.tallyAt k ≤ s.tb.ntNs ∧
      s.recOf k = none ∧ s.ownAt k = some o)
    ∧ (∃ (s : State) (k : Nat) (r : WeftRec), s.isCell = true ∧ s.recOf k = some r)
    ∧ (∃ (s : State) (k : Nat), (s.holdsCycle k = false ∨ s.tb.ntNs < s.tallyAt k)) :=
  ⟨⟨{ State.reset with weft := { State.reset.weft with tw := 1 } }, 0, by decide +kernel⟩,
   ⟨State.reset, 0, by decide +kernel⟩,
   ⟨{ State.reset with
        weft := { State.reset.weft with tw := 1 },
        link := { State.reset.link with ports := (vset State.reset.link.ports 5 { state := (LinkState.up) }) },
        tb := { State.reset.tb with refOk := true },
        sys := { State.reset.sys with admitted := (vset State.reset.sys.admitted 5 (some 0)) } },
      5,
      {}, by decide +kernel⟩,
   ⟨{ State.reset with
        weft := { State.reset.weft with tw := 1 },
        link := { State.reset.link with ports := (vset State.reset.link.ports 3 { state := (LinkState.up) }) },
        tb := { State.reset.tb with
            taps := 12439,
            offset := 32,
            rate := 32768,
            refOk := true,
            appliedDelta := (vset State.reset.tb.appliedDelta 4 8796093022207),
            syncQuantum := 1,
            slewEnd := some 2 },
        hdl := { State.reset.hdl with arcs := [[]] },
        mem := { State.reset.mem with cells := [(5767170, 2#8)], errors := [{ addr := 5, double := false }] },
        sel := { State.reset.sel with pulses := 65536 },
        recd := { State.reset.recd with mediaSources := [(7, 2)] },
        bob := { State.reset.bob with scrubFrom := 8 },
        sys := { State.reset.sys with
            resetCause := 5769474,
            vdda := 4398046511104,
            admitted := (vset (vset (vset (vset State.reset.sys.admitted 0 (some 1)) 2 (some 5)) 3 (some 65535)) 4 (some 3)) } },
      3,
      { 
        late := true,
        cycle := 1,
        nbin := 330,
        nhpos := 331,
        nhneg := 5,
        nhoff := 57,
        nout := 2,
        abs := 17179869185,
        miss := 4000000000,
        vsum := 2,
        vmin := 5,
        vmax := 1000000,
        sens0 := { i := (-7), valid := true, overRange := true },
        sens1 := { i := 770, valid := true },
        hist := #v[2, 3, 4, 6, 1, 0, 2, 4, 770, 2, 65534, 51200000, 1073741824, 65536, 4, 2, 2, 8, 6, 32769, 6, 4, 6, 2147483648, 5, 4194304, 5, 2049, 137438953471, 32768, 769, 330, 2000, 1000000, 4, 262146, 770, 8589934591, 65534, 274877906945, 0, 32, 5, 1, 255, 3146503, 15, 6, 32, 32, 32768, 7, 5, 2, 2, 2, 5, 262144, 8, 65536, 4, 4, 1048575, 6] }, by decide +kernel⟩,
   ⟨{ State.reset with
        weft := { State.reset.weft with tw := 1, recs := [{ k := 5 }] },
        link := { State.reset.link with ports := (vset State.reset.link.ports 4 { state := (LinkState.up) }) },
        tb := { State.reset.tb with refOk := true },
        sys := { State.reset.sys with admitted := (vset State.reset.sys.admitted 4 (some 0)) } },
      4,
      { resent := true, cycle := 5 },
      { k := 5 }, by decide +kernel⟩,
   ⟨{ State.reset with
        weft := { State.reset.weft with tw := 1, k := 4, recs := [{ k := 4 }], begun := true },
        link := { State.reset.link with ports := (vset State.reset.link.ports 4 { state := (LinkState.up) }) },
        tb := { State.reset.tb with taps := 52, refOk := true },
        sys := { State.reset.sys with admitted := (vset State.reset.sys.admitted 4 (some 0)) } },
      4,
      { priB := true, cycle := 4 },
      { k := 4 }, by decide +kernel⟩,
   ⟨State.reset, 0, {}, by decide +kernel⟩,
   ⟨{ State.reset with
        weft := { State.reset.weft with tw := 1, k := 4, begun := true },
        tb := { State.reset.tb with taps := 12420, offset := (-4), rate := 4, refOk := true, latNt := 1, alignRun := 262144 },
        hdl := { State.reset.hdl with cancelRace := 7, memCe := 4 },
        evc := { State.reset.evc with ec := (vset State.reset.evc.ec 6 { startNt := 7 }), evt := 5#32 },
        sel := { State.reset.sel with discrepant := true, sealEn := true, wc := (vset State.reset.sel.wc 2 { state := (WcState.above) }) },
        recd := { State.reset.recd with nextRsn := 8, media := true } },
      4,
      { 
        k := 4,
        cls := (CellClass.notContributor),
        insAt0 := (Insertion.safeOpen),
        vcode := 0,
        bin := 0,
        codeReady := false,
        sens := {},
        sensReady := false }, by decide +kernel⟩,
   ⟨{ State.reset with weft := { State.reset.weft with recs := [{ k := 0 }] } }, 0, { k := 0 }, by decide +kernel⟩,
   ⟨State.reset, 0, by decide +kernel⟩⟩

/-- States and operands that meet the hypotheses of `Obligations.ShuttleIsTakenOnceAndOnlyWhenValid`, clause by clause. -/
theorem test_witness_ShuttleIsTakenOnceAndOnlyWhenValid :
    (∃ (s : State) (p : Nat) (x : Shuttle) (r : WeftRec), s.tb.refOk = true ∧ s.isCell = true ∧ s.powered = true ∧ s.lit p = true ∧ s.weft.tw ≠ 0 ∧
      s.recOf (s.cycleOf x.cycle) = some r ∧ s.weft.decisions.any (·.k == s.cycleOf x.cycle) = false ∧ s.shuttleValid p (s.cycleOf x.cycle) r x =
      true)
    ∧ (∃ (s : State) (p : Nat) (x : Shuttle), s.tb.refOk = true ∧ s.isCell = true ∧ s.powered = true ∧ (s.recOf (s.cycleOf x.cycle) = none ∨
      s.weft.decisions.any (·.k == s.cycleOf x.cycle) = true ∨ (∃ r, s.recOf (s.cycleOf x.cycle) = some r ∧ s.shuttleValid p (s.cycleOf x.cycle) r x =
      false)))
    ∧ (∃ (s : State) (p : Nat) (x : Shuttle), (s.isCell = false ∨ s.lit p = false ∨ s.weft.tw = 0 ∨ s.tb.refOk = false))
    ∧ (∃ (x : Shuttle) (cls : CellClass) (bin : Nat), (x.keep = true ∨ cls ≠ .eligible))
    ∧ (∃ (x : Shuttle) (bin : Nat), x.keep = false ∧ bin = x.bbin ∧ x.alloc ≠ 0)
    ∧ (∃ (x : Shuttle) (bin : Nat), x.keep = false ∧ x.bbin < 64 ∧ ((x.dirHigh = false ∧ bin < x.bbin) ∨ (x.dirHigh = true ∧ x.bbin < bin))) :=
  ⟨⟨((withLit cell 0).upWeft fun w => { w with tw := 100000, k := 5, recs := [{ k := 5, sentTo := .a }] }),
      0,
      { cycle := 5, texecNs := 500000 },
      { k := 5, sentTo := .a }, by decide +kernel⟩,
   ⟨{ State.reset with tb := { State.reset.tb with refOk := true } }, 0, {}, by decide +kernel⟩,
   ⟨State.reset, 0, {}, by decide +kernel⟩,
   ⟨{}, (CellClass.held), 0, by decide +kernel⟩,
   ⟨{ alloc := 1 }, 64, by decide +kernel⟩,
   ⟨{ bbin := 1 }, 0, by decide +kernel⟩⟩

/-- States and operands that meet the hypotheses of `Obligations.HoldLadderEndsInBlock`, clause by clause. -/
theorem test_witness_HoldLadderEndsInBlock :
    (∃ (s : State) (k : Nat), s.isCell = true ∧ s.execDue k = true ∧ (s.node.nodeState = .service ∨ s.node.nodeState = .hold) ∧ s.weft.decisions.any (·.k
      == k) = true)
    ∧ (∃ (s : State) (k : Nat), s.isCell = true ∧ s.execDue k = true ∧ (s.node.nodeState = .service ∨ s.node.nodeState = .hold) ∧ s.weft.decisions.any (·.k
      == k) = false)
    ∧ (∃ (s : State) (k : Nat), s.isCell = true ∧ s.execDue k = true ∧ s.node.nodeState ≠ .service ∧ s.node.nodeState ≠ .hold)
    ∧ (∃ (s : State) (k : Nat), s.execDue k = false)
    ∧ (∃ (s : State), s.node.nodeState = .hold ∧ s.node.holdCount = 8)
    ∧ (∃ (s : State), (s.node.nodeState ≠ .hold ∨ s.node.holdCount ≠ 8))
    ∧ (∃ (s : State), s.isCell = true ∧ s.node.nodeState = .block ∧ s.node.orphanBypassDue = true ∧ s.sel.sby = false ∧ s.texec s.node.orphanDueK ≤
      s.tb.ntNs)
    ∧ (∃ (s : State), (s.node.nodeState ≠ .block ∨ s.node.orphanBypassDue = false ∨ s.tb.ntNs < s.texec s.node.orphanDueK ∨ s.sel.sby = true ∨ s.isCell =
      false))
    ∧ (∃ (s : State), s.powered = true ∧ s.isStation = false ∧ s.node.joined = true ∧ s.node.primary ≠ s.homeParent ∧ s.node.primary ≠ .none ∧ s.upGood (if
      s.homeParent = .b then 1 else 0) = true ∧ (s.port (if s.homeParent = .b then 1 else 0)).goodSince + s.obj Obj.REVERT_TIME * tapsMs ≤ s.tb.taps ∧
      s.atT0 = true)
    ∧ (∃ (s : State), (s.isStation = true ∨ s.node.joined = false ∨ s.node.primary = s.homeParent ∨ s.node.primary = .none ∨ s.upGood (if s.homeParent = .b
      then 1 else 0) = false ∨ s.atT0 = false ∨ s.tb.taps < (s.port (if s.homeParent = .b then 1 else 0)).goodSince + s.obj Obj.REVERT_TIME * tapsMs)) :=
  ⟨⟨{ State.reset with
        node := { State.reset.node with nodeState := (NodeState.service) },
        weft := { State.reset.weft with tw := 1, k := 4, begun := true, decisions := [{ k := 4, action := (OwnAction.insert false) }] },
        tb := { State.reset.tb with taps := 52 } },
      4, by decide +kernel⟩,
   ⟨{ State.reset with
        node := { State.reset.node with nodeState := (NodeState.service) },
        weft := { State.reset.weft with tw := 1, begun := true } },
      0, by decide +kernel⟩,
   ⟨{ State.reset with weft := { State.reset.weft with tw := 1, begun := true } }, 0, by decide +kernel⟩,
   ⟨State.reset, 0, by decide +kernel⟩,
   ⟨{ State.reset with node := { State.reset.node with nodeState := (NodeState.hold), holdCount := 8 } }, by decide +kernel⟩,
   ⟨State.reset, by decide +kernel⟩,
   ⟨{ State.reset with node := { State.reset.node with nodeState := (NodeState.block), orphanBypassDue := true } }, by decide +kernel⟩,
   ⟨State.reset, by decide +kernel⟩,
   ⟨{ State.reset with
        node := { State.reset.node with place := { State.reset.node.place with level := 1 }, joined := true, home := (Parent.none) },
        link := { State.reset.link with ports := (vset State.reset.link.ports 0 { state := (LinkState.up) }) },
        tb := { State.reset.tb with
            taps := 17179865218,
            offset := 5246980,
            rate := 524284,
            refOk := true,
            servoI := 25600000#32,
            utcOffset := (-5248003) },
        hdl := { State.reset.hdl with arrivals := [(4, 255)], cores := (vset State.reset.hdl.cores 6 { cur := 65536 }), dlyRefused := 4 },
        evc := { State.reset.evc with ec := (vset State.reset.evc.ec 6 { startNt := 7 }) },
        mem := { State.reset.mem with cells := [(9, 10#8)] },
        sel := { State.reset.sel with sealEn := true, sealSel := 57, refused := 48 },
        sys := { State.reset.sys with loaded := true, admitted := #v[some 18, some 0, some 256, none, some 2097669, some 64] },
        pending := [Instr.brownout] }, by decide +kernel⟩,
   ⟨State.reset, by decide +kernel⟩⟩

/-- States and operands that meet the hypotheses of `Obligations.AdoptionStallAndHandover`, clause by clause. -/
theorem test_witness_AdoptionStallAndHandover :
    (∃ (s : State), s.isArm = true ∧ s.isActive = true ∧ s.powered = true ∧ s.obj Obj.ADOPT_CYCLES ≤ s.arm.mmRun ∧ (s.arm.adj + s.arm.mmDiff).natAbs ≤
      s.obj Obj.ADJ_LIMIT)
    ∧ (∃ (s : State), s.isArm = true ∧ s.isActive = true ∧ s.powered = true ∧ s.obj Obj.ADOPT_CYCLES ≤ s.arm.mmRun ∧ s.obj Obj.ADJ_LIMIT < (s.arm.adj +
      s.arm.mmDiff).natAbs)
    ∧ (∃ (s : State), s.arm.mmRun < s.obj Obj.ADOPT_CYCLES)
    ∧ (∃ (s : State), (s.isArm = false ∨ s.isActive = false))
    ∧ (∃ (s : State), s.isArm = true ∧ s.isActive = true ∧ s.powered = true ∧ s.obj Obj.STALL_LIMIT ≤ s.arm.stallRun ∧ s.inRun .weftStall 0 = false)
    ∧ (∃ (s : State), s.arm.stallRun < s.obj Obj.STALL_LIMIT)
    ∧ (∃ (s : State), s.inRun .weftStall 0 = true)
    ∧ (∃ (s : State) (tw lead fx d n : Nat) (c : Bool), (s.isCell = false ∨ s.node.nodeState = .boot ∨ s.tb.refOk = false))
    ∧ (∃ (s : State), s.isArm = true ∧ s.powered = true)
    ∧ (∃ (s : State) (v : Nat), s.isArm = true ∧ s.powered = true ∧ v ≠ s.addr)
    ∧ (∃ (s : State), s.powered = true)
    ∧ (∃ (s : State) (v : Nat), s.powered = true ∧ v ≠ s.addr)
    ∧ (∃ (s : State) (tw lead fx d n : Nat) (c : Bool), s.tb.refOk = true ∧ s.isCell = true ∧ s.powered = true ∧ s.node.nodeState ≠ .boot) :=
  ⟨⟨{ State.reset with
        node := { State.reset.node with role := (Role.arm) },
        arm := { State.reset.arm with mmRun := 8 },
        jrn := { State.reset.jrn with pstate := (PairState.active) } }, by decide +kernel⟩,
   ⟨{ State.reset with
        node := { State.reset.node with role := (Role.arm) },
        arm := { State.reset.arm with mmRun := 8, mmDiff := (-25) },
        jrn := { State.reset.jrn with pstate := (PairState.active) } }, by decide +kernel⟩,
   ⟨State.reset, by decide +kernel⟩,
   ⟨State.reset, by decide +kernel⟩,
   ⟨{ State.reset with
        node := { State.reset.node with role := (Role.arm) },
        arm := { State.reset.arm with stallRun := 64 },
        jrn := { State.reset.jrn with pstate := (PairState.active) } }, by decide +kernel⟩,
   ⟨State.reset, by decide +kernel⟩,
   ⟨{ State.reset with node := { State.reset.node with runs := [((FaultName.weftStall), 0)] } }, by decide +kernel⟩,
   ⟨State.reset, 0, 0, 0, 0, 0, false, by decide +kernel⟩,
   ⟨{ State.reset with node := { State.reset.node with role := (Role.arm) } }, by decide +kernel⟩,
   ⟨{ State.reset with node := { State.reset.node with role := (Role.arm) } }, 0, by decide +kernel⟩,
   ⟨State.reset, by decide +kernel⟩,
   ⟨State.reset, 0, by decide +kernel⟩,
   ⟨{ State.reset with node := { State.reset.node with nodeState := (NodeState.block) }, tb := { State.reset.tb with refOk := true } },
      0,
      0,
      0,
      0,
      0,
      false, by decide +kernel⟩⟩

/-- States and operands that meet the hypotheses of `Obligations.ReadsAnswerWithTheValue`, clause by clause. -/
theorem test_witness_ReadsAnswerWithTheValue :
    (∃ (s : State) (r : Request) (row : ObjRow) (p : Nat), s.powered = true ∧ s.isStation = false ∧ r.via = .port p ∧ p < 2 ∧ r.target = s.addr ∧ s.rowFor
      r.target (Request_key r) = some row ∧ s.preCheck opRead r 0 = .ok)
    ∧ (∃ (s : State) (r : Request) (p : Nat), s.powered = true ∧ s.isStation = false ∧ r.via = .port p ∧ p < 2 ∧ r.target = s.addr ∧ s.preCheck opRead r 0 ≠
      .ok)
    ∧ (∃ (s : State) (r : Request) (row : ObjRow) (x : Session), s.powered = true ∧ s.isStation = true ∧ r.via = .session x.id ∧ s.dict.sessions.find? (·.id
      == x.id) = some x ∧ s.replayOf x opRead r = none ∧ r.target = s.addr ∧ s.rowFor s.addr (Request_key r) = some row ∧ s.preCheck opRead
      { r with role := x.role } 0 = .ok)
    ∧ (∃ (s : State) (r : Request) (x : Session), s.powered = true ∧ s.isStation = true ∧ r.via = .session x.id ∧ s.dict.sessions.find? (·.id == x.id) =
      some x ∧ s.replayOf x opRead r = none ∧ r.target ≠ s.addr ∧ s.preCheck opRead { r with role := x.role } 0 = .ok ∧ isCursor (Request_key r) =
      false)
    ∧ (∃ (s : State) (r : Request) (x : Session) (y : Response), s.powered = true ∧ s.isStation = true ∧ r.via = .session x.id ∧ s.dict.sessions.find? (·.id
      == x.id) = some x ∧ s.replayOf x opRead r = some y)
    ∧ (∃ (s : State) (r : Request) (p : Nat), s.powered = true ∧ r.via = .port p ∧ 2 ≤ p)
    ∧ (∃ (s : State) (r : Request) (row : ObjRow) (p : Nat), s.powered = true ∧ s.isStation = false ∧ r.via = .port p ∧ p < 2 ∧ r.target = s.addr ∧ s.rowFor
      r.target (Request_key r) = some row ∧ s.preCheck opSegRead r 0 = .ok ∧ r.param = 0 ∧ 512 < row.ty.size)
    ∧ (∃ (s : State) (r : Request) (row : ObjRow) (p : Nat) (x : SegRead), s.powered = true ∧ s.isStation = false ∧ r.via = .port p ∧ p < 2 ∧ r.target =
      s.addr ∧ s.rowFor r.target (Request_key r) = some row ∧ s.preCheck opSegRead r 0 = .ok ∧ r.param ≠ 0 ∧ (s.dict.segReads.find? fun y => y.via ==
      r.via && y.tid == r.tid && y.key == Request_key r) = some x)
    ∧ (∃ (s : State) (r : Request) (id p : Nat), ((r.via = .session id ∧ (s.dict.sessions.find? (·.id == id) = none ∨ s.isStation = false)) ∨ (r.via = .port
      p ∧ p < 2 ∧ (s.isStation = true ∨ r.target ≠ s.addr))))
    ∧ (∃ (s : State) (r : Request) (row : ObjRow) (p : Nat), s.powered = true ∧ s.isStation = false ∧ r.via = .port p ∧ p < 2 ∧ r.target = s.addr ∧ s.rowFor
      r.target (Request_key r) = some row ∧ s.preCheck opSegRead r 0 = .ok ∧ r.param ≠ 0 ∧ (∀ y ∈ s.dict.segReads, (y.via == r.via && y.tid == r.tid
      && y.key == Request_key r) = false)) :=
  ⟨⟨{ State.reset with node := { State.reset.node with address := 3 } },
      { via := (Via.port 0), target := 3, index := 4096 },
      { 
        index := 4096,
        nIdx := 1,
        sub := 0,
        nSub := 1,
        ty := OType.u 1,
        acc := OAccess.ro,
        dflt := 0,
        persist := OPersist.vol,
        roles := 15,
        range := ORange.any },
      0, by decide +kernel⟩,
   ⟨{ State.reset with node := { State.reset.node with address := 0 } }, { via := (Via.port 0) }, 0, by decide +kernel⟩,
   ⟨(station.upDict fun d => { d with sessions := [{ id := 1, role := .engineer }] }),
      { via := .session 1, target := 0x7FFFC, index := 0x2002, sub := 5 },
      (theRow (station.rowFor 0x7FFFC 0x200205)),
      { id := 1, role := .engineer }, by decide +kernel⟩,
   ⟨((station.upDict fun d => { d with sessions := [{ id := 1, role := .engineer }] }).upJrn fun j => { j with targets := [⟨0xC1A2, 0, 4⟩] }),
      { via := .session 1, target := 0xC1A2, index := 0x2002, sub := 5 },
      { id := 1, role := .engineer }, by decide +kernel⟩,
   ⟨(station.upDict fun d => { d with sessions := [{ id := 1, role := .observer, done := [{ via := .session 1, tid := 5, op := opRead, status := .ok }] }] }),
      { via := .session 1, tid := 5 },
      { id := 1, role := .observer, done := [{ via := .session 1, tid := 5, op := opRead, status := .ok }] },
      { via := .session 1, tid := 5, op := opRead, status := .ok }, by decide +kernel⟩,
   ⟨State.reset, { via := (Via.port 3) }, 3, by decide +kernel⟩,
   ⟨cell, { via := .port 0, target := 0xC1A2, index := 0x1100, sub := 2 }, (theRow (cell.rowFor 0xC1A2 0x110002)), 0, by decide +kernel⟩,
   ⟨(cell.upDict fun d => { d with segReads := [{ via := .port 0, tid := 0, key := 0x110002, snapshot := 5, size := 600 }] }),
      { via := .port 0, target := 0xC1A2, index := 0x1100, sub := 2, param := 512 },
      (theRow (cell.rowFor 0xC1A2 0x110002)),
      0,
      { via := .port 0, tid := 0, key := 0x110002, snapshot := 5, size := 600 }, by decide +kernel⟩,
   ⟨State.reset, { via := (Via.session 1) }, 1, 0, by decide +kernel⟩,
   ⟨{ State.reset with node := { State.reset.node with address := 3 } },
      { via := (Via.port 1), target := 3, index := 4097, sub := 1, param := 1 },
      { 
        index := 4097,
        nIdx := 1,
        sub := 1,
        nSub := 1,
        ty := OType.string 16,
        acc := OAccess.ro,
        dflt := 4048791273275740747,
        persist := OPersist.fixed,
        roles := 15,
        range := ORange.any },
      1, by decide +kernel⟩⟩

/-- States and operands that meet the hypotheses of `Obligations.RefusedWriteJournalsNothing`, clause by clause. -/
theorem test_witness_RefusedWriteJournalsNothing :
    (∃ (s : State) (r : Request) (x : Session), s.powered = true ∧ s.isStation = true ∧ s.isActive = true ∧ r.via = .session x.id ∧ s.dict.sessions.find?
      (·.id == x.id) = some x ∧ s.replayOf x opWrite r = none ∧ s.inFlight opWrite r = false ∧ s.preCheck opWrite { r with role := x.role } 0 ≠ .ok)
    ∧ (∃ (s : State) (r : Request) (x : Session) (row : ObjRow), s.powered = true ∧ s.isStation = true ∧ s.isActive = true ∧ r.via = .session x.id ∧
      s.dict.sessions.find? (·.id == x.id) = some x ∧ s.replayOf x opWrite r = none ∧ s.inFlight opWrite r = false ∧ s.preCheck opWrite
      { r with role := x.role } 0 = .ok ∧ s.rowFor r.target (Request_key r) = some row ∧ isCursor (Request_key r) = false ∧ Request_key r ≠ Obj.FENCE
      ∧ s.valueCheck { r with role := x.role } row r.value ≠ .ok)
    ∧ (∃ (s : State) (r : Request) (x : Session), s.powered = true ∧ s.isStation = true ∧ s.isActive = false ∧ r.via = .session x.id ∧ s.dict.sessions.find?
      (·.id == x.id) = some x ∧ s.replayOf x opWrite r = none ∧ s.inFlight opWrite r = false)
    ∧ (∃ (s : State) (r : Request) (x : Session), s.powered = true ∧ s.isStation = true ∧ s.isActive = false ∧ r.via = .session x.id ∧ s.dict.sessions.find?
      (·.id == x.id) = some x ∧ s.replayOf x opSegWrite r = none ∧ s.inFlight opSegWrite r = false)
    ∧ (∃ (s : State) (r : Request) (p : Nat), s.powered = true ∧ s.isStation = false ∧ r.via = .port p ∧ p < 2 ∧ r.target = s.addr ∧ s.preCheck opWrite r 0
      = .ok ∧ isCursor (Request_key r) = false)
    ∧ (∃ (s : State) (r : Request) (p : Nat), s.powered = true ∧ s.isStation = false ∧ r.via = .port p ∧ p < 2 ∧ r.target = s.addr ∧ s.preCheck opSegWrite r
      0 = .ok)
    ∧ (∃ (s : State) (r : Request) (row : ObjRow) (p : Nat), s.powered = true ∧ s.isStation = false ∧ r.via = .port p ∧ p < 2 ∧ r.target = s.addr ∧
      s.preCheck opWrite r 0 = .ok ∧ isCursor (Request_key r) = true ∧ s.rowFor r.target (Request_key r) = some row ∧ rangeOk s.node.role s.addr row
      (Request_key r) r.value = true)
    ∧ (∃ (s : State) (r : Request) (x : Session), s.powered = true ∧ s.isStation = true ∧ s.isActive = true ∧ r.via = .session x.id ∧ s.dict.sessions.find?
      (·.id == x.id) = some x ∧ s.replayOf x opSegWrite r = none ∧ s.inFlight opSegWrite r = false ∧ s.preCheck opSegWrite { r with role := x.role }
      r.param ≠ .ok)
    ∧ (∃ (s : State) (r : Request) (x : Session), s.powered = true ∧ s.isStation = true ∧ s.isActive = true ∧ r.via = .session x.id ∧ s.dict.sessions.find?
      (·.id == x.id) = some x ∧ s.replayOf x opBlockInit r = none ∧ s.preCheck opBlockInit { r with role := x.role } 0 ≠ .ok)
    ∧ (∃ (s : State) (row : ObjRow) (key v : Nat) (who : SessRole), SessRank who < OAccess_rank row.acc) :=
  ⟨⟨(station.upDict fun d => { d with sessions := [{ id := 1, role := .engineer }] }),
      { via := .session 1, target := 0x7FFFC, index := 0x2FFF, sub := 5, len := 2, value := 50 },
      { id := 1, role := .engineer }, by decide +kernel⟩,
   ⟨(station.upDict fun d => { d with sessions := [{ id := 1, role := .engineer }] }),
      { via := .session 1, target := 0x7FFFC, index := 0x2002, sub := 5, len := 2, value := 50 },
      { id := 1, role := .engineer },
      (theRow (station.rowFor 0x7FFFC 0x200205)), by decide +kernel⟩,
   ⟨((station.upDict fun d => { d with sessions := [{ id := 1, role := .engineer }] }).upJrn fun j => { j with pstate := .standby }),
      { via := .session 1, target := 0x7FFFC, index := 0x2002, sub := 5, len := 2, value := 50 },
      { id := 1, role := .engineer }, by decide +kernel⟩,
   ⟨((station.upDict fun d => { d with sessions := [{ id := 1, role := .engineer }] }).upJrn fun j => { j with pstate := .standby }),
      { via := .session 1, target := 0x7FFFC, index := 0x1101, sub := 1, len := 2, value := 50 },
      { id := 1, role := .engineer }, by decide +kernel⟩,
   ⟨cell, { via := .port 0, target := 0xC1A2, index := 0x2002, sub := 5, len := 2, value := 2000, role := .engineer }, 0, by decide +kernel⟩,
   ⟨cell, { via := .port 1, target := 0xC1A2, index := 0x1101, sub := 1, len := 4, value := 50, role := .engineer }, 1, by decide +kernel⟩,
   ⟨cell,
      { via := .port 1, target := 0xC1A2, index := 0x5401, sub := 1, len := 1, value := 1, role := .engineer },
      (theRow (cell.rowFor 0xC1A2 Obj.REC_STREAM)),
      1, by decide +kernel⟩,
   ⟨(station.upDict fun d => { d with sessions := [{ id := 1, role := .engineer }] }),
      { via := .session 1, target := 0x7FFFC, index := 0x2FFF, sub := 5, len := 2, value := 50 },
      { id := 1, role := .engineer }, by decide +kernel⟩,
   ⟨(station.upDict fun d => { d with sessions := [{ id := 1, role := .engineer }] }),
      { via := .session 1, target := 0x7FFFC, index := 0x2FFF, sub := 5, param := 600 },
      { id := 1, role := .engineer }, by decide +kernel⟩,
   ⟨station, (theRow (station.rowFor 0x7FFFC 0x200205)), 0x200205, 2000, .observer, by decide +kernel⟩⟩

/-- States and operands that meet the hypotheses of `Obligations.AcceptedWritesTakeTheNextNumber`, clause by clause. -/
theorem test_witness_AcceptedWritesTakeTheNextNumber :
    (∃ (s : State) (r : Request) (x : Session) (row : ObjRow), s.powered = true ∧ s.isStation = true ∧ s.isActive = true ∧ r.via = .session x.id ∧
      s.dict.sessions.find? (·.id == x.id) = some x ∧ s.replayOf x opWrite r = none ∧ s.inFlight opWrite r = false ∧ s.preCheck opWrite
      { r with role := x.role } 0 = .ok ∧ s.rowFor r.target (Request_key r) = some row ∧ isCursor (Request_key r) = false ∧ Request_key r ≠ Obj.FENCE
      ∧ s.writeRights row (Request_key r) r.value x.role = .ok ∧ s.valueCheck { r with role := x.role } row r.value = .ok)
    ∧ (∃ (s : State) (r : Request) (x : Session) (row : ObjRow), s.powered = true ∧ s.isStation = true ∧ s.isActive = true ∧ r.via = .session x.id ∧
      s.dict.sessions.find? (·.id == x.id) = some x ∧ s.replayOf x opWrite r = none ∧ s.inFlight opWrite r = false ∧ s.preCheck opWrite
      { r with role := x.role } 0 = .ok ∧ s.rowFor r.target (Request_key r) = some row ∧ isCursor (Request_key r) = false ∧ Request_key r ≠ Obj.FENCE
      ∧ s.writeRights row (Request_key r) r.value x.role = .ok ∧ s.valueCheck { r with role := x.role } row r.value = .ok ∧ s.pairCycle < s.applyAtNow
      ∧ (∀ h ∈ (s.laneOf stationLane).entries, h.e.jsn ≤ (s.laneOf stationLane).applied ∧ h.e.jsn ≤ s.jrn.lastJsn))
    ∧ (∃ (s : State) (r : Request) (x : Session) (row : ObjRow) (y : SegWrite), s.powered = true ∧ s.isStation = true ∧ s.isActive = true ∧ r.via = .session
      x.id ∧ s.dict.sessions.find? (·.id == x.id) = some x ∧ s.replayOf x opSegWrite r = none ∧ s.inFlight opSegWrite r = false ∧ (s.segWriteOf r.via
      r.tid).getD { via := r.via, tid := r.tid, target := r.target, key := Request_key r, received := [] } = y ∧ y.key = Request_key r ∧ y.target =
      r.target ∧ r.param = y.received.length ∧ s.preCheck opSegWrite { r with role := x.role } y.received.length = .ok ∧ s.rowFor r.target
      (Request_key r) = some row ∧ r.lastSeg = false)
    ∧ (∃ (s : State) (r : Request) (x : Session) (row : ObjRow) (y : SegWrite), s.powered = true ∧ s.isStation = true ∧ s.isActive = true ∧ r.via = .session
      x.id ∧ s.dict.sessions.find? (·.id == x.id) = some x ∧ s.replayOf x opSegWrite r = none ∧ s.inFlight opSegWrite r = false ∧ s.preCheck
      opSegWrite { r with role := x.role } r.param = .ok ∧ s.rowFor r.target (Request_key r) = some row ∧ (s.segWriteOf r.via r.tid).getD
      { via := r.via, tid := r.tid, target := r.target, key := Request_key r, received := [] } = y ∧ r.param ≠ y.received.length)
    ∧ (∃ (s : State) (r : Request) (x : Session) (row : ObjRow) (y : SegWrite), s.powered = true ∧ s.isStation = true ∧ s.isActive = true ∧ r.via = .session
      x.id ∧ s.dict.sessions.find? (·.id == x.id) = some x ∧ s.replayOf x opSegWrite r = none ∧ s.inFlight opSegWrite r = false ∧ (s.segWriteOf r.via
      r.tid).getD { via := r.via, tid := r.tid, target := r.target, key := Request_key r, received := [] } = y ∧ y.key = Request_key r ∧ y.target =
      r.target ∧ r.param = y.received.length ∧ s.preCheck opSegWrite { r with role := x.role } y.received.length = .ok ∧ s.rowFor r.target
      (Request_key r) = some row ∧ r.lastSeg = true ∧ isCursor (Request_key r) = false ∧ Request_key r ≠ Obj.FENCE ∧ s.writeRights row (Request_key r)
      (leNat (y.received ++ leBytes r.len r.value)) x.role = .ok ∧ (s.dropSegWrite r.via r.tid).valueCheck { r with role := x.role } row (leNat
      (y.received ++ leBytes r.len r.value)) = .ok ∧ s.pairCycle < s.applyAtNow ∧ (∀ h ∈ (s.laneOf stationLane).entries, h.e.jsn ≤ (s.laneOf
      stationLane).applied ∧ h.e.jsn ≤ s.jrn.lastJsn))
    ∧ (∃ (s : State) (v : Via) (tid : Nat), s.powered = true)
    ∧ (∃ (s : State) (r : Request) (x : Session), s.powered = true ∧ s.isStation = true ∧ r.via = .session x.id ∧ s.dict.sessions.find? (·.id == x.id) =
      some x ∧ s.replayOf x opWrite r = none ∧ s.inFlight opWrite r = true)
    ∧ (∃ (s : State) (id : Nat) (role : SessRole), s.powered = true ∧ s.isStation = true ∧ s.isActive = true ∧ role ≠ .observer ∧ 0 < id ∧ id < 2 ^ 64 ∧
      s.anyBusy = false ∧ s.pairCycle < s.applyAtNow ∧ (∀ h ∈ (s.laneOf stationLane).entries, h.e.jsn ≤ (s.laneOf stationLane).applied ∧ h.e.jsn ≤
      s.jrn.lastJsn))
    ∧ (∃ (s : State) (id : Nat) (role : SessRole) (st : Status), s.powered = true ∧ s.fenceStatus id role = st ∧ st ≠ .ok) :=
  ⟨⟨(station.upDict fun d => { d with sessions := [{ id := 1, role := .engineer }] }),
      { via := .session 1, target := 0x7FFFC, index := 0x2002, sub := 5, len := 2, value := 2000 },
      { id := 1, role := .engineer },
      (theRow (station.rowFor 0x7FFFC 0x200205)), by decide +kernel⟩,
   ⟨(station.upDict fun d => { d with sessions := [{ id := 1, role := .engineer }] }),
      { via := .session 1, target := 0x7FFFC, index := 0x2002, sub := 5, len := 2, value := 2000 },
      { id := 1, role := .engineer },
      (theRow (station.rowFor 0x7FFFC 0x200205)), by decide +kernel⟩,
   ⟨(writing 0x110101 4),
      { via := .session 1, tid := 5, target := 0x7FFFC, index := 0x1101, sub := 1, param := 4, len := 4, value := 1 },
      { id := 1, role := .engineer },
      (theRow (station.rowFor 0x7FFFC 0x110101)),
      ⟨.session 1, 5, 0x7FFFC, 0x110101, List.replicate 4 0, 0⟩, by decide +kernel⟩,
   ⟨(writing 0x110101 4),
      { via := .session 1, tid := 5, target := 0x7FFFC, index := 0x1101, sub := 1, param := 8 },
      { id := 1, role := .engineer },
      (theRow (station.rowFor 0x7FFFC 0x110101)),
      ⟨.session 1, 5, 0x7FFFC, 0x110101, List.replicate 4 0, 0⟩, by decide +kernel⟩,
   ⟨((writing 0x130001 16).upDict fun d => { d with sessions := [{ id := 1, role := .safetyEngineer }] }),
      { via := .session 1, tid := 5, target := 0x7FFFC, index := 0x1300, sub := 1, lastSeg := true, param := 16, len := 8, value := 1 },
      { id := 1, role := .safetyEngineer },
      (theRow (station.rowFor 0x7FFFC 0x130001)),
      ⟨.session 1, 5, 0x7FFFC, 0x130001, List.replicate 16 0, 0⟩, by decide +kernel⟩,
   ⟨State.reset, (Via.port 2), 0, by decide +kernel⟩,
   ⟨(station.upDict fun d => { d with sessions := [{ id := 1, role := .engineer }], waiting := [⟨.session 1, 5, opWrite, 0x7FFFC, 9, true, 0x200205, 0, true⟩] }),
      { via := .session 1, tid := 5 },
      { id := 1, role := .engineer }, by decide +kernel⟩,
   ⟨station, (2 ^ 64 - 1), .operator, by decide +kernel⟩,
   ⟨(station.upJrn fun j => { j with busy := true }), 5, .operator, .busy, by decide +kernel⟩⟩

/-- States and operands that meet the hypotheses of `Obligations.BlockTransfersAndAbort`, clause by clause. -/
theorem test_witness_BlockTransfersAndAbort :
    (∃ (s : State) (r : Request) (p : Nat), s.powered = true ∧ s.isStation = false ∧ r.via = .port p ∧ p < 2 ∧ r.target = s.addr ∧ s.preCheck opBlockInit
      r 0 = .ok ∧ s.bob.mounted = true ∧ s.recd.media = false)
    ∧ (∃ (s : State) (r : Request) (p : Nat), s.powered = true ∧ s.isStation = false ∧ r.via = .port p ∧ p < 2 ∧ r.target = s.addr ∧ s.preCheck opBlockInit
      r 0 = .ok ∧ (s.bob.mounted = false ∨ s.recd.media = true))
    ∧ (∃ (s : State) (r : Request) (p : Nat) (b : BlockXfer), s.powered = true ∧ s.isStation = false ∧ r.via = .port p ∧ p < 2 ∧ r.target = s.addr ∧
      s.preCheck opBlockData r 0 = .ok ∧ s.blockOf r = some b ∧ r.param < segCount b.size ∧ windowsDone b (r.param / 32) = true ∧ r.len = segLen
      b.size r.param)
    ∧ (∃ (s : State) (r : Request) (p : Nat), s.powered = true ∧ s.isStation = false ∧ r.via = .port p ∧ p < 2 ∧ r.target = s.addr ∧ s.blockOf r = none)
    ∧ (∃ (s : State) (r : Request) (p : Nat) (b : BlockXfer), s.powered = true ∧ s.isStation = false ∧ r.via = .port p ∧ p < 2 ∧ r.target = s.addr ∧
      s.preCheck opBlockEnd r 0 = .ok ∧ s.blockOf r = some b ∧ b.key = Obj.GRAPH ∧ (blockData b).length = b.size ∧ Crc.sha256 (blockData b) = leBytes
      r.len r.value)
    ∧ (∃ (s : State) (r : Request) (x : Session), s.powered = true ∧ s.isStation = true ∧ s.isActive = false ∧ r.via = .session x.id ∧ s.dict.sessions.find?
      (·.id == x.id) = some x)
    ∧ (∃ (s : State) (r : Request) (x : Session), s.powered = true ∧ s.isStation = true ∧ s.isActive = true ∧ r.via = .session x.id ∧ s.dict.sessions.find?
      (·.id == x.id) = some x ∧ r.target ≠ s.addr ∧ isCursor (Request_key r) = false)
    ∧ (∃ (s : State) (r : Request) (p : Nat) (b : BlockXfer), s.powered = true ∧ s.isStation = false ∧ r.via = .port p ∧ p < 2 ∧ r.target = s.addr ∧
      s.preCheck opBlockEnd r 0 = .ok ∧ s.blockOf r = some b ∧ ((blockData b).length ≠ b.size ∨ Crc.sha256 (blockData b) ≠ leBytes r.len r.value))
    ∧ (∃ (s : State) (r : Request) (p : Nat) (b : BlockXfer), s.powered = true ∧ s.isStation = false ∧ r.via = .port p ∧ p < 2 ∧ r.target = s.addr ∧
      s.preCheck opBlockEnd r 0 = .ok ∧ s.blockOf r = some b ∧ b.key = Obj.IMAGE_STAGE ∧ (blockData b).length = b.size ∧ Crc.sha256 (blockData b) =
      leBytes r.len r.value)
    ∧ (∃ (s : State) (r : Request) (p : Nat), s.powered = true ∧ s.isStation = false ∧ r.via = .port p ∧ p < 2 ∧ r.target = s.addr) :=
  ⟨⟨(cell.upBob fun b => { b with mounted := true, partSize := Vector.replicate 7 8 }),
      { via := .port 1, target := 0xC1A2, index := 0x1020, sub := 1, role := .engineer, param := 600 },
      1, by decide +kernel⟩,
   ⟨cell, { via := .port 0, target := 0xC1A2, index := 0x1020, sub := 1, role := .engineer, param := 600 }, 0, by decide +kernel⟩,
   ⟨(staging 600 []),
      { via := .port 0, target := 0xC1A2, index := 0x1020, sub := 1, role := .engineer, len := 512 },
      0,
      ⟨.port 0, 0, Obj.IMAGE_STAGE, 600, []⟩, by decide +kernel⟩,
   ⟨{ State.reset with node := { State.reset.node with address := 1 } }, { via := (Via.port 0), target := 1 }, 0, by decide +kernel⟩,
   ⟨(cell.upDict fun d => { d with blocks := [⟨.port 0, 0, Obj.GRAPH, 2, [(0, [0x4B, 0x52])]⟩] }),
      { via := .port 0, target := 0xC1A2, index := keyIndex Obj.GRAPH, sub := keySub Obj.GRAPH, role := .engineer, len := 32, value := leNat (Crc.sha256 [0x4B, 0x52]) },
      0,
      ⟨.port 0, 0, Obj.GRAPH, 2, [(0, [0x4B, 0x52])]⟩, by decide +kernel⟩,
   ⟨((station.upDict fun d => { d with sessions := [{ id := 1, role := .engineer }] }).upJrn fun j => { j with pstate := .standby }),
      { via := .session 1, target := 0x7FFFC, index := 0x1020, sub := 1 },
      { id := 1, role := .engineer }, by decide +kernel⟩,
   ⟨(station.upDict fun d => { d with sessions := [{ id := 1, role := .engineer }] }),
      { via := .session 1, target := 0xC1A2, index := 0x1020, sub := 1, param := 600, len := 32 },
      { id := 1, role := .engineer }, by decide +kernel⟩,
   ⟨(staging 600 []),
      { via := .port 0, target := 0xC1A2, index := 0x1020, sub := 1, role := .engineer, len := 32 },
      0,
      ⟨.port 0, 0, Obj.IMAGE_STAGE, 600, []⟩, by decide +kernel⟩,
   ⟨(staging 2 [(0, [0x4B, 0x52])]),
      { via := .port 0, target := 0xC1A2, index := 0x1020, sub := 1, role := .engineer, len := 32, value := leNat (Crc.sha256 [0x4B, 0x52]) },
      0,
      ⟨.port 0, 0, Obj.IMAGE_STAGE, 2, [(0, [0x4B, 0x52])]⟩, by decide +kernel⟩,
   ⟨{ State.reset with node := { State.reset.node with address := 0 } }, { via := (Via.port 0) }, 0, by decide +kernel⟩⟩

/-- States and operands that meet the hypotheses of `Obligations.SessionsAndTheirTimeouts`, clause by clause. -/
theorem test_witness_SessionsAndTheirTimeouts :
    (∃ (s : State) (id ski : Nat), s.powered = true ∧ s.isStation = true ∧ (s.jrn.pstate = .active ∨ s.jrn.pstate = .standby) ∧ (s.dict.sessions.any fun x
      => x.id == id) = false ∧ s.dict.sessions.length < s.obj Obj.MAX_SESSIONS ∧ (s.sessionRole ski ≠ .safetyEngineer ∨ ((s.dict.sessions.any fun x =>
      x.role == .safetyEngineer) = false ∧ s.partnerFresh = false)))
    ∧ (∃ (s : State) (id ski : Nat), s.powered = true ∧ s.isStation = true ∧ (s.jrn.pstate = .active ∨ s.jrn.pstate = .standby) ∧ (s.dict.sessions.any fun x
      => x.id == id) = false ∧ (s.obj Obj.MAX_SESSIONS ≤ s.dict.sessions.length ∨ (s.sessionRole ski = .safetyEngineer ∧ (s.dict.sessions.any fun x =>
      x.role == .safetyEngineer) = true)))
    ∧ (∃ (s : State) (id ski : Nat), s.powered = true ∧ s.isStation = true ∧ (s.jrn.pstate = .active ∨ s.jrn.pstate = .standby) ∧ (s.dict.sessions.any fun x
      => x.id == id) = false ∧ s.partnerFresh = true ∧ s.sessionRole ski = .safetyEngineer)
    ∧ (∃ (s : State) (id ski : Nat), (s.isStation = false ∨ (s.jrn.pstate ≠ .active ∧ s.jrn.pstate ≠ .standby) ∨ (s.dict.sessions.any fun x => x.id == id) =
      true))
    ∧ (∃ (s : State) (id : Nat), (s.dict.sessions.any fun x => x.id == id && decide (x.last + s.obj Obj.IDLE_TIMEOUT * 1000 * tapsMs ≤ s.tb.taps)) = false)
    ∧ (∃ (s : State) (id : Nat), s.powered = true ∧ (s.dict.sessions.any fun x => x.id == id && decide (x.last + s.obj Obj.IDLE_TIMEOUT * 1000 * tapsMs ≤
      s.tb.taps)) = true)
    ∧ (∃ (s : State) (v : Via) (tid : Nat), s.powered = true)
    ∧ (∃ (s : State) (v : Via) (tid : Nat) (w : Waiting), s.powered = true ∧ s.isStation = true ∧ (s.dict.waiting.find? fun x => x.via == v && x.tid == tid
      && decide (x.since + s.obj Obj.TRANSFER_TIMEOUT * tapsMs ≤ s.tb.taps)) = some w)
    ∧ (∃ (s : State) (v : Via) (tid : Nat), s.isStation = false)
    ∧ (∃ (s : State) (v : Via) (tid : Nat), (∀ x ∈ s.dict.waiting, x.via = v → x.tid = tid → s.tb.taps < x.since + s.obj Obj.TRANSFER_TIMEOUT * tapsMs)) :=
  ⟨⟨{ State.reset with node := { State.reset.node with role := (Role.station) }, jrn := { State.reset.jrn with pstate := (PairState.standby) } },
      0,
      0, by decide +kernel⟩,
   ⟨{ State.reset with
        node := { State.reset.node with role := (Role.station) },
        dict := { State.reset.dict with
            objs := [{ key := 1179905, value := 1, jsn := 23 }],
            sessions := [{ id := 1, role := (SessRole.engineer) }] },
        jrn := { State.reset.jrn with pstate := (PairState.standby) } },
      0,
      0, by decide +kernel⟩,
   ⟨((station.setObj (Obj.ROLE_MAP + 31) (3 * 2 ^ 160 + 5) 0).upJrn fun j => { j with partner := some {} }), 9, 5, by decide +kernel⟩,
   ⟨State.reset, 0, 0, by decide +kernel⟩,
   ⟨State.reset, 0, by decide +kernel⟩,
   ⟨{ State.reset with
        dict := { State.reset.dict with
            objs := [{ key := 1179906, value := 0, jsn := 129 }],
            sessions := [{ id := 1000, role := (SessRole.engineer) }] } },
      1000, by decide +kernel⟩,
   ⟨State.reset, (Via.port 2), 0, by decide +kernel⟩,
   ⟨{ State.reset with
        node := { State.reset.node with role := (Role.station) },
        dict := { State.reset.dict with
            waiting := [{ via := (Via.port 7), tid := 12800000, op := 12800000, target := 1310977, jsn := 1, confirm := false }] },
        tb := { State.reset.tb with
            taps := 34359734378,
            refOk := true,
            sstepReg := (vset State.reset.tb.sstepReg 1 52),
            lastSyncTap := 5246979,
            ptp := { State.reset.tb.ptp with pdelayA := 1 } },
        hdl := { State.reset.hdl with loadAt := 1 },
        mem := { State.reset.mem with cells := [(1310977, 3#8)], errors := [{ addr := 5255170, double := false }] },
        jrn := { State.reset.jrn with pstate := (PairState.active) },
        sel := { State.reset.sel with permitB := true, coreAt := 512, discPending := true, scvTime := 65536, sealSel := 6 },
        pending := [Instr.brownout] },
      (Via.port 7),
      12800000,
      { via := (Via.port 7), tid := 12800000, op := 12800000, target := 1310977, jsn := 1, confirm := false }, by decide +kernel⟩,
   ⟨State.reset, (Via.port 2), 0, by decide +kernel⟩,
   ⟨State.reset, (Via.port 2), 0, by decide +kernel⟩⟩

/-- States and operands that meet the hypotheses of `Obligations.ProcessDataChannels`, clause by clause. -/
theorem test_witness_ProcessDataChannels :
    (∃ (s : State) (tx : Bool) (ch v : Nat), s.powered = true ∧ ch < 8 ∧ v ≤ 1 ∧ (v = 0 ∨ s.pdMapOk tx ch = true))
    ∧ (∃ (s : State) (tx : Bool) (ch v : Nat), s.powered = true ∧ ch < 8 ∧ v ≤ 1 ∧ v ≠ 0 ∧ s.pdMapOk tx ch = false ∧ (tx = true ∨ (s.rpdAt ch).mapBad =
      true))
    ∧ (∃ (s : State) (ch : Nat), s.powered = true ∧ ch < 8 ∧ s.pdMapOk false ch = false)
    ∧ (∃ (s : State) (tx : Bool) (ch v : Nat), s.powered = true ∧ ch < 8 ∧ 1 < v)
    ∧ (∃ (s : State) (tx : Bool) (ch v : Nat), s.powered = true ∧ 8 ≤ ch)
    ∧ (∃ (s : State) (ch : Nat), s.powered = true ∧ ch < 8 ∧ s.node.joined = true ∧ s.tpdDue ch = true)
    ∧ (∃ (s : State) (ch : Nat), (8 ≤ ch ∨ s.node.joined = false ∨ s.tpdDue ch = false))
    ∧ (∃ (s : State) (src ch : Nat) (cnt : Nat) (pad : Byte) (vals : List Byte), s.tb.refOk = true ∧ s.powered = true ∧ ch < 8 ∧ cnt < 65536 ∧ s.pdEnabled
      false ch = true ∧ s.obj (Obj.RPD_SOURCE + 256 * ch) = src ∧ vals.length = mapBytes (s.pdMap false ch) ∧ (s.rpdAt ch).later cnt = true ∧
      s.pdValuesOk (mapValues (s.pdMap false ch) vals) = true ∧ s.pdMapOk false ch = true)
    ∧ (∃ (s : State) (src : Nat) (pl : List Byte), (8 ≤ leNat (pl.take 1) ∨ s.pdEnabled false (leNat (pl.take 1)) = false ∨ s.obj (Obj.RPD_SOURCE + 256 *
      leNat (pl.take 1)) ≠ src ∨ pl.length ≠ mapBytes (s.pdMap false (leNat (pl.take 1))) + 4 ∨ (s.rpdAt (leNat (pl.take 1))).later (leNat ((pl.drop
      2).take 2)) = false ∨ (s.rpdAt (leNat (pl.take 1))).lastCycle = some (leNat ((pl.drop 2).take 2))))
    ∧ (∃ (s : State), s.powered = true)
    ∧ (∃ (s : State) (ch e : Nat) (vals : List Byte), s.powered = true ∧ ch < 8 ∧ (s.rpdAt ch).pendingVals = some vals ∧ (∀ i, i < 8 → i ≠ ch → (s.rpdAt
      i).pendingVals = none) ∧ s.pdMap false ch = [e] ∧ isSpsKey (mapKey e) = false)
    ∧ (∃ (s : State) (ch : Nat), s.powered = true ∧ ch < 8 ∧ s.pdEnabled false ch = true ∧ s.rpdExpired ch = true ∧ (s.rpdAt ch).timedOut = false)
    ∧ (∃ (s : State) (ch : Nat), ((s.rpdAt ch).timedOut = true ∨ s.rpdExpired ch = false ∨ s.pdEnabled false ch = false))
    ∧ (∃ (s : State) (src ch : Nat) (cnt : Nat) (pad : Byte) (vals : List Byte), s.tb.refOk = true ∧ s.powered = true ∧ ch < 8 ∧ cnt < 65536 ∧ s.pdEnabled
      false ch = true ∧ s.obj (Obj.RPD_SOURCE + 256 * ch) = src ∧ vals.length = mapBytes (s.pdMap false ch) ∧ (s.rpdAt ch).later cnt = true ∧
      s.pdValuesOk (mapValues (s.pdMap false ch) vals) = true ∧ s.pdMapOk false ch = false) :=
  ⟨⟨State.reset, false, 0, 0, by decide +kernel⟩,
   ⟨(cell.setObj (Obj.TPD_MAP_COUNT + 768) 1 0), true, 3, 1, by decide +kernel⟩,
   ⟨(cell.setObj (Obj.RPD_MAP_COUNT + 768) 1 0), 3, by decide +kernel⟩,
   ⟨State.reset, false, 0, 2, by decide +kernel⟩,
   ⟨State.reset, false, 8, 0, by decide +kernel⟩,
   ⟨(((cell.setObj (Obj.TPD_ENABLE + 768) 1 0).setObj (Obj.TPD_DEST + 768) 0x7FFFC 0).upNode fun n => { n with joined := true }),
      3, by decide +kernel⟩,
   ⟨State.reset, 0, by decide +kernel⟩,
   ⟨{ State.reset with
        dict := { State.reset.dict with objs := [{ key := 6291457, value := 65536, jsn := 65536 }] },
        tb := { State.reset.tb with refOk := true } },
      524287,
      0,
      0,
      0#8,
      [], by decide +kernel⟩,
   ⟨State.reset, 0, [], by decide +kernel⟩,
   ⟨State.reset, by decide +kernel⟩,
   ⟨(((cell.setObj (Obj.RPD_MAP_COUNT + 256) 1 0).setObj (Obj.RPD_MAP + 256) (256 * Obj.TARGET + 4) 0).upDict fun d => { d with rpd := vset d.rpd 1 { pendingVals := some [1, 2, 3, 4] } }),
      1,
      (256 * Obj.TARGET + 4),
      [1, 2, 3, 4], by decide +kernel⟩,
   ⟨{ State.reset with
        dict := { State.reset.dict with
            objs := [{ key := 6291457, value := 262144, jsn := 5248257 }],
            rpd := (vset State.reset.dict.rpd 0 { lastCycle := some 0 }) } },
      0, by decide +kernel⟩,
   ⟨State.reset, 0, by decide +kernel⟩,
   ⟨((((cell.setObj (Obj.RPD_ENABLE + 1792) 1 0).setObj (Obj.RPD_MAP_COUNT + 1792) 1 0).setObj (Obj.RPD_MAP + 1792) (256 * 0x110101 + 4) 0).setObj (Obj.RPD_SOURCE + 1792) 5 0),
      5,
      7,
      65535,
      0,
      [1, 2, 3, 4], by decide +kernel⟩⟩

/-- States and operands that meet the hypotheses of `Obligations.WritesAtTheirTarget`, clause by clause. -/
theorem test_witness_WritesAtTheirTarget :
    (∃ (s : State) (key v jsn : Nat) (role : SessRole), s.powered = true ∧ s.writeCheck s.node.role key v role ≠ .ok)
    ∧ (∃ (s : State) (key v jsn : Nat) (role : SessRole), s.powered = true ∧ s.writeCheck s.node.role key v role = .ok ∧ isCursor key = false ∧ s.writeRange
      s.node.role s.addr key v = false)
    ∧ (∃ (s : State) (key v jsn : Nat) (role : SessRole), s.powered = true ∧ s.writeCheck s.node.role key v role = .ok ∧ isCursor key = false ∧ s.writeRange
      s.node.role s.addr key v = true ∧ isUserKey key = false ∧ isSpsKey key = false ∧ s.clearFor key = none ∧ s.apply1 key v jsn role = none ∧
      s.apply2 key v jsn = none ∧ s.apply3 key v role = none ∧ isRws key = false ∧ s.partnerOk key v = true ∧ s.dynCheck key v = .ok)
    ∧ (∃ (s : State) (v jsn : Nat) (role : SessRole), s.powered = true ∧ s.writeCheck s.node.role Obj.REBASE v role = .ok ∧ s.writeRange s.node.role s.addr
      Obj.REBASE v = true)
    ∧ (∃ (s : State) (v jsn : Nat) (role : SessRole), s.powered = true ∧ s.writeCheck s.node.role Obj.WEFT_COUNTER_CLEAR v role = .ok ∧ s.writeRange
      s.node.role s.addr Obj.WEFT_COUNTER_CLEAR v = true)
    ∧ (∃ (s : State) (key v jsn : Nat) (role : SessRole), s.powered = true ∧ isUserKey key = true ∧ s.writeCheck s.node.role key v role = .ok ∧ s.writeRange
      s.node.role s.addr key v = true ∧ s.userBusy key = false ∧ (∀ e ∈ s.dict.userPending, e.index * 256 + e.sub ≠ key))
    ∧ (∃ (s : State) (key v jsn : Nat) (role : SessRole), s.powered = true ∧ isUserKey key = true ∧ s.writeCheck s.node.role key v role = .ok ∧ s.writeRange
      s.node.role s.addr key v = true ∧ (s.userBusy key = true ∨ (s.dict.userPending.any fun e => e.index * 256 + e.sub == key) = true))
    ∧ (∃ (s : State) (e : JEntry), s.powered = true ∧ s.dict.userPending = [e] ∧ e.accepted = false ∧ s.entryWaits e = false)
    ∧ (∃ (s : State) (e : JEntry), s.powered = true ∧ s.dict.userPending = [e] ∧ e.accepted = true ∧ s.entryWaits e = false ∧ (s.concerns e = false ∨
      (e.etype = .write ∧ e.confirm = false ∧ e.target = s.addr ∧ isUserKey (e.index * 256 + e.sub) = true ∧ s.objJsn (e.index * 256 + e.sub) < e.jsn
      ∧ s.writeCheck s.node.role (e.index * 256 + e.sub) e.value e.role = .ok ∧ s.writeRange s.node.role s.addr (e.index * 256 + e.sub) e.value =
      true)))
    ∧ (∃ (s : State), s.dict.userPending.head?.all s.entryWaits = true) :=
  ⟨⟨State.reset, 0, 0, 0, (SessRole.safetyEngineer), by decide +kernel⟩,
   ⟨State.reset, 4464641, 3, 0, (SessRole.safetyEngineer), by decide +kernel⟩,
   ⟨State.reset, 5767171, 0, 0, (SessRole.safetyEngineer), by decide +kernel⟩,
   ⟨{ State.reset with node := { State.reset.node with role := (Role.arm), address := 3146501 } },
      3146501,
      0,
      (SessRole.safetyEngineer), by decide +kernel⟩,
   ⟨{ State.reset with node := { State.reset.node with address := 3153929 } }, 3153929, 0, (SessRole.safetyEngineer), by decide +kernel⟩,
   ⟨userCell, 0x800001, 7, 9, .engineer, by decide +kernel⟩,
   ⟨(userCell.upHdl fun h => { h with cores := vset h.cores 2 { opened := some 0 } }), 0x800001, 7, 9, .engineer, by decide +kernel⟩,
   ⟨(userCell.upDict fun d => { d with userPending := [{ jsn := 9, index := 0x8000, sub := 1, value := 7 }] }),
      { jsn := 9, index := 0x8000, sub := 1, value := 7 }, by decide +kernel⟩,
   ⟨(userCell.upDict fun d => { d with userPending := [{ jsn := 9, index := 0x8000, sub := 1, len := 4, value := 7, target := 0xC1A2, accepted := true, role := .engineer }] }),
      { jsn := 9, index := 0x8000, sub := 1, len := 4, value := 7, target := 0xC1A2, accepted := true, role := .engineer }, by decide +kernel⟩,
   ⟨State.reset, by decide +kernel⟩⟩

/-- States and operands that meet the hypotheses of `Obligations.StoresOfAWorkerCore`, clause by clause. -/
theorem test_witness_StoresOfAWorkerCore :
    (∃ (s : State) (core addr v size a : Nat), s.powered = true ∧ core < 8 ∧ s.mem.wf = true ∧ (size = 1 ∨ size = 2 ∨ size = 4) ∧ addr % size = 0 ∧
      memAddr core addr = some a ∧ memStoreOk core addr = true ∧ (size = 4 ∨ s.mem.doubleAt a = false))
    ∧ (∃ (s : State) (core v : Nat), s.powered = true ∧ core < 8 ∧ v < 2 ^ 32)
    ∧ (∃ (s : State) (core addr v size : Nat), s.powered = true ∧ core < 8 ∧ ((size ≠ 1 ∧ size ≠ 2 ∧ size ≠ 4) ∨ addr % size ≠ 0 ∨ (0x40000000 ≤ addr ∧ addr
      < 0x400F0000 ∧ size ≠ 4) ∨ (0x40000000 ≤ addr ∧ addr < 0x400F0000 ∧ s.storeReg core addr (v % 2 ^ 32) = none) ∨ ((addr < 0x40000000 ∨ 0x400F0000
      ≤ addr) ∧ (memAddr core addr = none ∨ memStoreOk core addr = false ∨ (size < 4 ∧ (memAddr core addr).all s.mem.doubleAt = true)))))
    ∧ (∃ (s : State) (core addr v size : Nat), 7 < core) :=
  ⟨⟨State.reset, 0, 285212672, 0, 1, 285212672, by decide +kernel⟩,
   ⟨State.reset, 0, 0, by decide +kernel⟩,
   ⟨State.reset, 0, 0, 0, 0, by decide +kernel⟩,
   ⟨State.reset, 8, 0, 0, 0, by decide +kernel⟩⟩

/-- States and operands that meet the hypotheses of `Obligations.FastExecutionCommitsAtItsEndOrNotAtAll`, clause by clause. -/
theorem test_witness_FastExecutionCommitsAtItsEndOrNotAtAll :
    (∃ (s : State) (k : Nat), s.powered = true ∧ s.isCell = true ∧ s.fastDue k = true)
    ∧ (∃ (s : State) (k : Nat) (a : Warp), s.powered = true ∧ s.isArm = true ∧ s.fastDue k = true ∧ s.arm.merged = some a ∧ s.arm.mergedK = k)
    ∧ (∃ (s : State) (k : Nat), (s.fastDue k = false ∨ s.node.role = .station ∨ s.node.role = .relay))
    ∧ (∃ (s : State) (k : Nat), s.fastDue k = true)
    ∧ (∃ (s : State) (k ns : Nat), s.powered = true ∧ s.trdl.fastBusy = some k ∧ s.trdl.fastStage.fpe = false ∧ s.isArm = false ∧ s.tb.ntNs ≤ s.fastDeadline
      k)
    ∧ (∃ (s : State) (k ns : Nat), s.powered = true ∧ s.trdl.fastBusy = some k ∧ s.trdl.fastStage.fpe = true ∧ s.isArm = false)
    ∧ (∃ (s : State) (k ns : Nat), s.powered = true ∧ s.trdl.fastBusy = some k ∧ s.trdl.fastStage.fpe = false ∧ s.isArm = false ∧ s.fastDeadline k <
      s.tb.ntNs)
    ∧ (∃ (s : State) (k ns : Nat), s.powered = true ∧ s.trdl.fastBusy = some k ∧ s.isArm = true ∧ (s.trdl.fastStage.fpe = true ∨ s.fastDeadline k <
      s.tb.ntNs))
    ∧ (∃ (s : State) (k ns : Nat), s.powered = true ∧ s.trdl.fastBusy = some k ∧ s.isArm = true ∧ s.trdl.fastStage.fpe = false ∧ s.tb.ntNs ≤ s.fastDeadline
      k)
    ∧ (∃ (s : State) (ns : Nat), s.trdl.fastBusy = none) :=
  ⟨⟨{ State.reset with
        node := { State.reset.node with nodeState := (NodeState.hold) },
        weft := { State.reset.weft with k := 16, begun := true },
        tb := { State.reset.tb with taps := 12425, offset := (-27), refOk := true, quantRun := 1 } },
      16, by decide +kernel⟩,
   ⟨{ State.reset with
        node := { State.reset.node with role := (Role.arm), nodeState := (NodeState.bypass) },
        weft := { State.reset.weft with begun := true },
        arm := { State.reset.arm with merged := some {} } },
      0,
      {}, by decide +kernel⟩,
   ⟨State.reset, 0, by decide +kernel⟩,
   ⟨{ State.reset with
        node := { State.reset.node with nodeState := (NodeState.hold) },
        weft := { State.reset.weft with k := 770, begun := true },
        tb := { State.reset.tb with
            taps := 12397,
            offset := 8,
            rate := 51200000,
            refOk := true,
            latTap := 1,
            latNt := 1,
            sstep := { State.reset.tb.sstep with delta := 256 },
            prevTx := (vset State.reset.tb.prevTx 4 (some (-1099511627775))),
            ann := { State.reset.tb.ann with ret := true },
            utcOffset := 7 },
        hdl := { State.reset.hdl with dispatches := 1 },
        mem := { State.reset.mem with errors := [{ addr := 2, double := false }] },
        jrn := { State.reset.jrn with
            pstate := (PairState.active),
            abortAt := some 33,
            entriesIn := [{ 
                  lane := 7,
                  jsn := 7,
                  pjsn := 513,
                  applyAt := 770,
                  target := 8,
                  system := true,
                  etype := (EType.switch),
                  index := 770,
                  sub := 3,
                  len := 6,
                  value := 3,
                  swEpoch := 8,
                  swAddr := 48,
                  swCause := 16383 }] },
        sel := { State.reset.sel with scvTime := 1 },
        recd := { State.reset.recd with openAt := 255, utype := 1, denDrops := 1, fwdLost := 4194304, gapOpen := true },
        inbox := [{ 
              cls := (FloenClass.safety),
              dir := (FloenDir.up),
              dst := 63,
              anym := true,
              src := 770,
              hops := 25600,
              hseq := 1000000000,
              eseq := 770,
              payload := [5#8, 2#8, 2#8] }],
        pending := [Instr.brownout] },
      770, by decide +kernel⟩,
   ⟨{ State.reset with trdl := { State.reset.trdl with fastBusy := some 0 } }, 0, 0, by decide +kernel⟩,
   ⟨{ State.reset with trdl := { State.reset.trdl with fastBusy := some 0, fastStage := { State.reset.trdl.fastStage with fpe := true } } },
      0,
      0, by decide +kernel⟩,
   ⟨{ State.reset with
        trdl := { State.reset.trdl with fastBusy := some 0 },
        tb := { State.reset.tb with taps := 61574, rate := (-2), refOk := true } },
      0,
      32, by decide +kernel⟩,
   ⟨{ State.reset with
        node := { State.reset.node with role := (Role.arm) },
        trdl := { State.reset.trdl with fastBusy := some 0, fastStage := { State.reset.trdl.fastStage with fpe := true } } },
      0,
      0, by decide +kernel⟩,
   ⟨{ State.reset with node := { State.reset.node with role := (Role.arm) }, trdl := { State.reset.trdl with fastBusy := some 0 } },
      0,
      0, by decide +kernel⟩,
   ⟨State.reset, 0, by decide +kernel⟩⟩

/-- States and operands that meet the hypotheses of `Obligations.SlowExecutionsDeadlinesAndEscalation`, clause by clause. -/
theorem test_witness_SlowExecutionsDeadlinesAndEscalation :
    (∃ (s : State) (k ns : Nat), s.powered = true ∧ s.trdl.slowBusy = some k ∧ s.trdl.slowStage.fpe = false ∧ (s.isStation = false ∨ s.tb.ntNs ≤
      s.slowDeadline k))
    ∧ (∃ (s : State) (k ns : Nat), s.powered = true ∧ s.trdl.slowBusy = some k ∧ s.trdl.slowStage.fpe = true)
    ∧ (∃ (s : State) (ns : Nat), s.trdl.slowBusy = none)
    ∧ (∃ (s : State) (k : Nat), s.isCell = true ∧ s.runMode ≠ .stop ∧ s.missedCycle false = some k)
    ∧ (∃ (s : State) (k : Nat), s.isStation = true ∧ s.runMode ≠ .stop ∧ s.missedCycle true = some k)
    ∧ (∃ (s : State) (k : Nat), s.isArm = true ∧ s.runMode ≠ .stop ∧ s.trdl.slowBusy = some k ∧ s.slowDeadline k ≤ s.tb.ntNs)
    ∧ (∃ (s : State) (k : Nat), s.isArm = true ∧ s.runMode ≠ .stop ∧ s.missedCycle false = some k)
    ∧ (∃ (s : State) (slow : Bool), (s.runMode = .stop ∨ s.missedCycle slow = none))
    ∧ (∃ (s : State), s.powered = true ∧ s.ovrDue = true ∧ s.inRun .trdlOverrun 0 = false ∧ s.isArm = true ∧ s.isActive = true)
    ∧ (∃ (s : State), s.powered = true ∧ s.ovrDue = true ∧ s.inRun .trdlOverrun 0 = false ∧ s.isCell = true)
    ∧ (∃ (s : State), s.powered = true ∧ s.ovrDue = true ∧ s.inRun .trdlOverrun 0 = false)
    ∧ (∃ (s : State), (s.ovrDue = false ∨ s.inRun .trdlOverrun 0 = true))
    ∧ (∃ (s : State), s.powered = true ∧ s.isArm = true ∧ s.isActive = true ∧ s.obj Obj.CUR_LOST_LIMIT ≤ s.trdl.noCurRun ∧ s.inRun .trdlNoCurrent 0 = false)
    ∧ (∃ (s : State), (s.isArm = false ∨ s.isActive = false ∨ s.trdl.noCurRun < s.obj Obj.CUR_LOST_LIMIT ∨ s.inRun .trdlNoCurrent 0 = true))
    ∧ (∃ (s : State) (j : Nat), s.isStation = true ∧ s.runMode ≠ .stop ∧ s.boundaryDue j = true ∧ s.trdl.slowBusy = none)
    ∧ (∃ (s : State) (j : Nat), s.powered = true ∧ s.boundaryDue j = true)
    ∧ (∃ (s : State) (j : Nat), s.boundaryDue j = false) :=
  ⟨⟨{ State.reset with trdl := { State.reset.trdl with slowBusy := some 0 } }, 0, 0, by decide +kernel⟩,
   ⟨{ State.reset with trdl := { State.reset.trdl with slowBusy := some 0, slowStage := { State.reset.trdl.slowStage with fpe := true } } },
      0,
      0, by decide +kernel⟩,
   ⟨State.reset, 0, by decide +kernel⟩,
   ⟨{ State.reset with
        node := { State.reset.node with nodeState := (NodeState.ready) },
        trdl := { State.reset.trdl with fastBusy := some 0 },
        tb := { State.reset.tb with
            taps := 61554,
            offset := (-1),
            rate := 1,
            refOk := true,
            sstep := { State.reset.tb.sstep with late := true },
            stepNt := 3,
            refBackTap := 4398046511104,
            utcOffset := (-5248513) },
        hdl := { State.reset.hdl with arrivals := [(4, 255)], dlyRefused := 4 },
        evc := { State.reset.evc with ec := (vset State.reset.evc.ec 6 { startNt := 7 }) },
        mem := { State.reset.mem with errors := [{ addr := 5000, double := true }] },
        jrn := { State.reset.jrn with pstate := (PairState.init), triggerAt := some 2 },
        sel := { State.reset.sel with coreOk := true, missB := true, sealSel := 1073741824, pulses := 54 },
        sys := { State.reset.sys with loaded := true },
        inbox := [{ cls := (FloenClass.mirror), dir := (FloenDir.cross), dst := 1000, src := 32, hops := 0, hseq := 5000, eseq := 512, payload := [2#8] }],
        free := 1 },
      0, by decide +kernel⟩,
   ⟨{ State.reset with
        node := { State.reset.node with role := (Role.station), nodeState := (NodeState.block) },
        tb := { State.reset.tb with taps := 2093188, offset := 2, rate := (-5), refOk := true, utcOffset := (-5248513) },
        hdl := { State.reset.hdl with dlyRefused := 4 },
        evc := { State.reset.evc with ec := (vset State.reset.evc.ec 6 { startNt := 7 }) },
        jrn := { State.reset.jrn with pstate := (PairState.standby) },
        sel := { State.reset.sel with sealEn := true, sealSel := 512 },
        inbox := [{ cls := (FloenClass.mirror), dir := (FloenDir.cross), dst := 1000, src := 5000, hops := 4999, hseq := 1, eseq := 1, payload := [1#8] }] },
      0, by decide +kernel⟩,
   ⟨{ State.reset with
        node := { State.reset.node with role := (Role.arm), nodeState := (NodeState.block) },
        trdl := { State.reset.trdl with slowBusy := some 0 },
        tb := { State.reset.tb with taps := 12393, offset := 4, rate := (-5), refOk := true },
        hdl := { State.reset.hdl with cores := (vset State.reset.hdl.cores 6 { cur := 65536 }), dlyRefused := 4 },
        evc := { State.reset.evc with ec := (vset State.reset.evc.ec 6 { startNt := 7 }) },
        jrn := { State.reset.jrn with pstate := (PairState.yielded) },
        sel := { State.reset.sel with sealEn := true, sealSel := 33 } },
      0, by decide +kernel⟩,
   ⟨{ State.reset with
        node := { State.reset.node with role := (Role.arm), nodeState := (NodeState.block) },
        trdl := { State.reset.trdl with fastBusy := some 0 },
        tb := { State.reset.tb with
            taps := 16529,
            rate := 5,
            refOk := true,
            latTraw := 6,
            sstep := { State.reset.tb.sstep with late := true },
            sstepReg := (vset State.reset.tb.sstepReg 2 1),
            servoI := 2#32,
            stepNt := 3,
            syncSeqTx := (vset State.reset.tb.syncSeqTx 1 1),
            refBackTap := 4398046511104,
            utcOffset := (-5248513) },
        hdl := { State.reset.hdl with arrivals := [(4, 255)], dlyRefused := 4 },
        evc := { State.reset.evc with ec := (vset State.reset.evc.ec 6 { startNt := 7 }) },
        mem := { State.reset.mem with errors := [{ addr := 5000, double := true }, { addr := 512, double := false }] },
        jrn := { State.reset.jrn with pstate := (PairState.active), triggerAt := some 2, busyRefusals := 67108863 },
        sel := { State.reset.sel with
            coreOk := true,
            enSeen := (vset State.reset.sel.enSeen 1 (true, 0)),
            degStage := 1,
            missB := true,
            sealSel := 512,
            pulses := 54 },
        sys := { State.reset.sys with flushing := true, loaded := true },
        inbox := [{ cls := (FloenClass.mirror), dir := (FloenDir.cross), dst := 1000, src := 32, hops := 0, hseq := 5000, eseq := 512, payload := [2#8] }],
        free := 1,
        pending := [Instr.brownout] },
      0, by decide +kernel⟩,
   ⟨State.reset, false, by decide +kernel⟩,
   ⟨{ State.reset with
        node := { State.reset.node with role := (Role.arm) },
        trdl := { State.reset.trdl with ovrConsec := 3 },
        jrn := { State.reset.jrn with pstate := (PairState.active) } }, by decide +kernel⟩,
   ⟨{ State.reset with trdl := { State.reset.trdl with ovrConsec := 3 } }, by decide +kernel⟩,
   ⟨{ State.reset with trdl := { State.reset.trdl with ovrConsec := 3 } }, by decide +kernel⟩,
   ⟨State.reset, by decide +kernel⟩,
   ⟨{ State.reset with
        node := { State.reset.node with role := (Role.arm) },
        trdl := { State.reset.trdl with noCurRun := 50 },
        jrn := { State.reset.jrn with pstate := (PairState.active) } }, by decide +kernel⟩,
   ⟨State.reset, by decide +kernel⟩,
   ⟨{ State.reset with node := { State.reset.node with role := (Role.station), nodeState := (NodeState.service) } }, 0, by decide +kernel⟩,
   ⟨{ State.reset with node := { State.reset.node with role := (Role.station) } }, 0, by decide +kernel⟩,
   ⟨State.reset, 0, by decide +kernel⟩⟩

/-- States and operands that meet the hypotheses of `Obligations.ReferencesProgramsAndTheIndexLimits`, clause by clause. -/
theorem test_witness_ReferencesProgramsAndTheIndexLimits :
    (∃ (s : State) (n : Nat), s.powered = true ∧ n < 8 ∧ (vget s.trdl.refin n {}).held = true ∧ (vget s.trdl.refin n {}).falling = false ∧ isZeroF (s.objF
      (Obj.REFIN_FB_RATE0 + n)) = false ∧ (vget s.trdl.refin n {}).since + s.obj Obj.REF_HOLD * tapsMs ≤ s.tb.taps)
    ∧ (∃ (s : State) (n : Nat), (8 ≤ n ∨ (vget s.trdl.refin n {}).held = false ∨ (vget s.trdl.refin n {}).falling = true ∨ isZeroF (s.objF
      (Obj.REFIN_FB_RATE0 + n)) = true ∨ s.tb.taps < (vget s.trdl.refin n {}).since + s.obj Obj.REF_HOLD * tapsMs))
    ∧ (∃ (s : State) (v : Nat), s.powered = true ∧ s.node.role = .relay)
    ∧ (∃ (s : State) (v : Nat), s.powered = true ∧ s.node.role ≠ .relay ∧ 1 < v)
    ∧ (∃ (s : State) (v : Nat), s.powered = true ∧ s.node.role ≠ .relay ∧ v ≤ 1 ∧ s.node.nodeState = .service)
    ∧ (∃ (s : State), s.powered = true ∧ s.node.role ≠ .relay ∧ s.node.nodeState ≠ .service ∧ programOk (vget s.trdl.banks (if s.trdl.staged then 1 -
      s.trdl.bank else s.trdl.bank) {}) = false)
    ∧ (∃ (s : State) (p : TProgram), s.powered = true ∧ s.node.role ≠ .relay ∧ s.node.nodeState ≠ .service ∧ vget s.trdl.banks (if s.trdl.staged then 1 -
      s.trdl.bank else s.trdl.bank) {} = p ∧ programOk p = true ∧ (p.fast ≠ [] ∨ p.slow ≠ []) ∧ vcoreMinOf s.node.role ((segPath p.fast).getD 0) ≤
      s.vcoreBound)
    ∧ (∃ (s : State) (p : TProgram), s.powered = true ∧ s.node.role ≠ .relay ∧ s.node.nodeState ≠ .service ∧ vget s.trdl.banks (if s.trdl.staged then 1 -
      s.trdl.bank else s.trdl.bank) {} = p ∧ ((p.fast = [] ∧ p.slow = []) ∨ s.vcoreBound < vcoreMinOf s.node.role ((segPath p.fast).getD 0)))
    ∧ (∃ (s : State), s.powered = true ∧ s.node.role ≠ .relay ∧ s.node.nodeState ≠ .service)
    ∧ (∃ (i t : Nat) (rest : List TInstr), t ≤ i)
    ∧ (∃ (l : List TInstr), l ≠ [] ∧ TInstr.tend ∉ l)
    ∧ (∃ (s : State) (first : Bool) (x : Stage), x.mode ≠ .track ∧ (s.hystRun first x).hystRan = true ∧ x.hystRan = false)
    ∧ (∃ (s : State) (first : Bool) (x : Stage), x.mode = .track ∧ (s.hystRun first x).hystRan = true ∧ x.hystRan = false) :=
  ⟨⟨{ State.reset with
        dict := { State.reset.dict with objs := [{ key := 3420673, value := 3448836, jsn := 524289 }] },
        trdl := { State.reset.trdl with refin := (vset State.reset.trdl.refin 0 { held := true }) },
        tb := { State.reset.tb with taps := 268431497, refOk := true },
        evc := { State.reset.evc with inten := 32#32 },
        sel := { State.reset.sel with discrepant := true, missC := true, sealSel := 5, demandId := 8, dnmDisAt := some 3 },
        sys := { State.reset.sys with warmResets := 65536000000000 },
        inbox := [{ cls := (FloenClass.journal), dir := (FloenDir.down), dst := 65535, src := 16777215, hops := 0, hseq := 2, payload := [18#8, 0#8, 1#8] },
           { 
              cls := (FloenClass.weft),
              dir := (FloenDir.cross),
              dst := 0,
              anym := true,
              src := 13,
              hops := 134217729,
              hseq := 25,
              eseq := 8,
              payload := [8#8, 2#8] }],
        pending := [Instr.brownout] },
      0, by decide +kernel⟩,
   ⟨State.reset, 0, by decide +kernel⟩,
   ⟨{ State.reset with node := { State.reset.node with role := (Role.relay) } }, 0, by decide +kernel⟩,
   ⟨State.reset, 2, by decide +kernel⟩,
   ⟨{ State.reset with node := { State.reset.node with nodeState := (NodeState.service) } }, 0, by decide +kernel⟩,
   ⟨{ State.reset with
        trdl := { State.reset.trdl with banks := (vset State.reset.trdl.banks 1 { slow := [(TInstr.tmax 0 0 5)] }), staged := true } }, by decide +kernel⟩,
   ⟨{ State.reset with trdl := { State.reset.trdl with banks := (vset State.reset.trdl.banks 1 { slow := [(TInstr.tend)] }), staged := true } },
      { slow := [(TInstr.tend)] }, by decide +kernel⟩,
   ⟨State.reset, {}, by decide +kernel⟩,
   ⟨State.reset, by decide +kernel⟩,
   ⟨0, 0, [], by decide +kernel⟩,
   ⟨[(TInstr.pi 0)], by decide +kernel⟩,
   ⟨State.reset, false, {}, by decide +kernel⟩,
   ⟨State.reset, false, { mode := (RunMode.track) }, by decide +kernel⟩⟩

/-- States and operands that meet the hypotheses of `Obligations.NoLegEverConductsThrough`, clause by clause. -/
theorem test_witness_NoLegEverConductsThrough :
    (∃ (s t : State), s.LegsApart ∧ step s = .next t) :=
  ⟨State.reset, State.reset, ⟨by decide +kernel, by decide +kernel⟩, rfl⟩

/-- States and operands that meet the hypotheses of `Obligations.LegsFollowTheDecisionThroughTheDeadTime`, clause by clause. -/
theorem test_witness_LegsFollowTheDecisionThroughTheDeadTime :
    (∃ (s : State) (k : Nat) (d : Decision) (neg : Bool), s.tb.refOk = true ∧ s.edgeDue k = true ∧ s.bridgeDriven = true ∧ s.weft.decisions.find? (·.k ==
      k) = some d ∧ d.late = false ∧ d.action = .insert neg)
    ∧ (∃ (s : State) (k : Nat) (d : Decision), s.tb.refOk = true ∧ s.edgeDue k = true ∧ s.bridgeDriven = true ∧ s.weft.decisions.find? (·.k == k) = some d ∧
      d.late = false ∧ d.action = .goZero)
    ∧ (∃ (s : State) (k : Nat), s.tb.refOk = true ∧ s.powered = true ∧ s.edgeDue k = true ∧ (s.bridgeDriven = false ∨ s.weft.decisions.find? (·.k == k) =
      none ∨ (∃ d, s.weft.decisions.find? (·.k == k) = some d ∧ (d.late = true ∨ d.action = .keep))))
    ∧ (∃ (s : State) (k : Nat), (s.edgeDue k = false ∨ s.tb.refOk = false))
    ∧ (∃ (s : State) (out : Nat), s.tb.refOk = true ∧ s.bridgeDriven = true ∧ out < 4 ∧ s.gate.switchDue s.tb.taps out = true)
    ∧ (∃ (s : State) (out : Nat), (s.bridgeDriven = false ∨ 4 ≤ out ∨ s.gate.switchDue s.tb.taps out = false))
    ∧ (∃ (g : Gate) (now i : Nat), g.switchDue now i = true)
    ∧ (∃ (s : State) (out : Nat) (e : SchedEdge), s.tb.refOk = true ∧ s.powered = true ∧ s.dueEdge out = some e ∧ e.out = 6)
    ∧ (∃ (s : State) (out : Nat) (e : SchedEdge), s.tb.refOk = true ∧ s.powered = true ∧ s.dueEdge out = some e ∧ e.out = 7)
    ∧ (∃ (s : State) (out : Nat) (e : SchedEdge), s.tb.refOk = true ∧ s.powered = true ∧ s.dueEdge out = some e ∧ e.out < 4)
    ∧ (∃ (s : State) (out : Nat), s.dueEdge out = none)
    ∧ (∃ (s : State) (v : Nat), s.powered = true ∧ s.obj Obj.GATE_MODE = 2 ∧ s.gateTw ≠ 0 ∧ bitOf v 2 = true)
    ∧ (∃ (s : State) (v : Nat), s.powered = true ∧ (s.obj Obj.GATE_MODE ≠ 2 ∨ bitOf v 2 = false ∨ s.gateTw = 0))
    ∧ (∃ (s : State) (v : Nat), s.powered = true)
    ∧ (∃ (s : State) (v : Nat), s.powered = true ∧ v ≤ 255)
    ∧ (∃ (s : State) (v : Nat), s.powered = true ∧ 255 < v) :=
  ⟨⟨{ State.reset with
        node := { State.reset.node with nodeState := (NodeState.service) },
        weft := { State.reset.weft with tw := 1, decisions := [{ k := 3, action := (OwnAction.insert true) }] },
        tb := { State.reset.tb with taps := 38, refOk := true },
        sel := { State.reset.sel with spb := false } },
      3,
      { k := 3, action := (OwnAction.insert true) },
      true, by decide +kernel⟩,
   ⟨{ State.reset with
        node := { State.reset.node with nodeState := (NodeState.service) },
        weft := { State.reset.weft with tw := 1, decisions := [{ k := 0, action := (OwnAction.goZero) }] },
        tb := { State.reset.tb with refOk := true },
        sel := { State.reset.sel with spb := false } },
      0,
      { k := 0, action := (OwnAction.goZero) }, by decide +kernel⟩,
   ⟨{ State.reset with
        node := { State.reset.node with role := (Role.relay), nodeState := (NodeState.ready) },
        tb := { State.reset.tb with taps := 137438949490, refOk := true },
        sel := { State.reset.sel with spb := false } },
      65537, by decide +kernel⟩,
   ⟨State.reset, 0, by decide +kernel⟩,
   ⟨{ State.reset with
        node := { State.reset.node with nodeState := (NodeState.service) },
        gate := { State.reset.gate with sw := (vset State.reset.gate.sw 1 { pendingOn := some 0 }) },
        tb := { State.reset.tb with refOk := true },
        sel := { State.reset.sel with spb := false } },
      1, by decide +kernel⟩,
   ⟨State.reset, 0, by decide +kernel⟩,
   ⟨{ sw := #v[{ pendingOn := some 0 }, {}, {}, {}] }, 0, 0, by decide +kernel⟩,
   ⟨{ State.reset with
        gate := { State.reset.gate with sched := [{ out := 6, tap := (-4), level := false }] },
        tb := { State.reset.tb with refOk := true } },
      6,
      { out := 6, tap := (-4), level := false }, by decide +kernel⟩,
   ⟨{ State.reset with
        gate := { State.reset.gate with sched := [{ out := 7, tap := 16383, level := true }] },
        tb := { State.reset.tb with
            taps := 16533,
            rate := 7,
            refOk := true,
            state := (TimeState.holdover),
            latTap := 8,
            refBackTap := 4398046511104 },
        evc := { State.reset.evc with evt := 5#32, inten := 36#32 },
        recd := { State.reset.recd with nextRsn := 8, pcc := 40 },
        bob := { State.reset.bob with scrubAt := 1000000 },
        sys := { State.reset.sys with vcoreNow := 8, ramp := true },
        pending := [Instr.brownout] },
      7,
      { out := 7, tap := 16383, level := true }, by decide +kernel⟩,
   ⟨{ State.reset with
        gate := { State.reset.gate with sched := [{ out := 3, tap := (-16), level := false }] },
        tb := { State.reset.tb with refOk := true } },
      0,
      { out := 3, tap := (-16), level := false }, by decide +kernel⟩,
   ⟨State.reset, 0, by decide +kernel⟩,
   ⟨{ State.reset with
        dict := { State.reset.dict with objs := [{ key := 3670017, value := 2, jsn := 6 }] },
        weft := { State.reset.weft with tw := 1 } },
      4, by decide +kernel⟩,
   ⟨State.reset, 0, by decide +kernel⟩,
   ⟨State.reset, 0, by decide +kernel⟩,
   ⟨State.reset, 0, by decide +kernel⟩,
   ⟨State.reset, 256, by decide +kernel⟩⟩

/-- States and operands that meet the hypotheses of `Obligations.CarrierPeriodsAndCoupledLoads`, clause by clause. -/
theorem test_witness_CarrierPeriodsAndCoupledLoads :
    (∃ (s : State) (b : Int), s.gate.act.period ≠ 0)
    ∧ (∃ (mp d l : Nat), d ≤ l ∧ mp ≤ l)
    ∧ (∃ (s : State) (b : Int), s.tb.refOk = true ∧ s.powered = true ∧ s.boundary = some b)
    ∧ (∃ (s : State) (v : Nat) (d : F32), s.tb.refOk = true ∧ s.powered = true ∧ s.boundary.isSome = true ∧ s.objB Obj.COUPLED = true ∧ s.gate.sh.period =
      some v ∧ s.gate.sh.ripe s.tb.taps 0 = true ∧ s.gate.sh.dutyPartner = true ∧ s.gate.sh.duty = some d ∧ s.gate.sh.ripe s.tb.taps 4 = true)
    ∧ (∃ (s : State) (v : Nat), s.tb.refOk = true ∧ s.powered = true ∧ s.boundary.isSome = true ∧ s.objB Obj.COUPLED = true ∧ s.gate.sh.period = some v ∧
      s.gate.sh.ripe s.tb.taps 0 = true ∧ s.gate.sh.dutyPartner = false ∧ s.gate.sh.wait ≠ 3)
    ∧ (∃ (s : State) (v : Nat), s.tb.refOk = true ∧ s.powered = true ∧ s.boundary.isSome = true ∧ s.objB Obj.COUPLED = true ∧ s.gate.sh.period = some v ∧
      s.gate.sh.ripe s.tb.taps 0 = true ∧ s.gate.sh.dutyPartner = false ∧ s.gate.sh.wait = 3)
    ∧ (∃ (s : State), (s.boundary = none ∨ s.tb.refOk = false)) :=
  ⟨⟨{ State.reset with gate := { State.reset.gate with act := { State.reset.gate.act with period := 1 } } }, 0, by decide +kernel⟩,
   ⟨0, 0, 0, by decide +kernel⟩,
   ⟨(carrier 0), (10000 * tapsS), by decide +kernel⟩,
   ⟨{ State.reset with
        node := { State.reset.node with nodeState := (NodeState.hold) },
        dict := { State.reset.dict with objs := [{ key := 3670017, value := 1, jsn := 262146 }] },
        gate := { State.reset.gate with
            act := { State.reset.gate.act with period := 1 },
            sh := { State.reset.gate.sh with period := some 0, duty := some 0#32, dutyPartner := true } },
        tb := { State.reset.tb with taps := 1, refOk := true } },
      0,
      0#32, by decide +kernel⟩,
   ⟨(carrier 2), 64000, by decide +kernel⟩,
   ⟨(carrier 3), 64000, by decide +kernel⟩,
   ⟨State.reset, by decide +kernel⟩⟩

/-- States and operands that meet the hypotheses of `Obligations.FaultInputsReadbackAndDelayLine`, clause by clause. -/
theorem test_witness_FaultInputsReadbackAndDelayLine :
    (∃ (s : State) (n : Nat) (l : Bool), s.isCell = true ∧ n ≤ 5 ∧ s.fltBall n l ≠ bitOf (s.obj (Obj.FLT_CFG0 + n)) 1 ∧ (s.node.nodeState = .service ∨
      s.node.nodeState = .hold) ∧ bitOf (s.obj (Obj.FLT_CFG0 + n)) 0 = true ∧ (vget s.gate.flt n {}).latched = false ∧ bitsOf (s.obj (Obj.FLT_CFG0 +
      n)) 3 2 = 1)
    ∧ (∃ (s : State) (n : Nat) (l : Bool), s.isCell = true ∧ n ≤ 5 ∧ s.fltBall n l ≠ bitOf (s.obj (Obj.FLT_CFG0 + n)) 1 ∧ s.powered = true ∧
      s.node.nodeState ≠ .boot ∧ s.sel.sby = false ∧ bitOf (s.obj (Obj.FLT_CFG0 + n)) 0 = true ∧ (vget s.gate.flt n {}).latched = false ∧ bitsOf
      (s.obj (Obj.FLT_CFG0 + n)) 3 2 = 2)
    ∧ (∃ (s : State) (n : Nat) (l : Bool), s.powered = true ∧ n ≤ 5 ∧ s.fltBall n l ≠ bitOf (s.obj (Obj.FLT_CFG0 + n)) 1 ∧ s.node.nodeState ≠ .boot ∧ bitOf
      (s.obj (Obj.FLT_CFG0 + n)) 0 = true ∧ (vget s.gate.flt n {}).latched = false ∧ bitsOf (s.obj (Obj.FLT_CFG0 + n)) 3 2 = 0)
    ∧ (∃ (s : State) (n : Nat) (l : Bool), s.powered = true ∧ n ≤ 5 ∧ (s.fltBall n l = bitOf (s.obj (Obj.FLT_CFG0 + n)) 1 ∨ bitOf (s.obj (Obj.FLT_CFG0 + n))
      0 = false ∨ s.node.nodeState = .boot ∨ (vget s.gate.flt n {}).latched = true))
    ∧ (∃ (s : State) (n : Nat) (l : Bool), s.powered = true ∧ n ≤ 5 ∧ s.fltBall n l ≠ bitOf (s.obj (Obj.FLT_CFG0 + n)) 1 ∧ s.node.nodeState ≠ .boot ∧ bitOf
      (s.obj (Obj.FLT_CFG0 + n)) 0 = true ∧ (vget s.gate.flt n {}).latched = false ∧ bitsOf (s.obj (Obj.FLT_CFG0 + n)) 3 2 ≠ 0)
    ∧ (∃ (s : State) (n : Nat) (a : Bool), 5 < n)
    ∧ (∃ (s : State) (m : Nat), s.powered = true ∧ m ≤ 63 ∧ (∀ n, n < 6 → bitOf m n = true → (vget s.gate.flt n {}).latched = true → (vget s.gate.flt n
      {}).act = false))
    ∧ (∃ (s : State) (m n : Nat), s.powered = true ∧ m ≤ 63 ∧ n < 6 ∧ bitOf m n = true ∧ (vget s.gate.flt n {}).latched = true ∧ (vget s.gate.flt n {}).act
      = true)
    ∧ (∃ (s : State) (m : Nat), s.powered = true ∧ 63 < m)
    ∧ (∃ (s : State) (out : Nat) (l : Bool), s.powered = true ∧ out ≤ 7 ∧ s.gate.hiz = false ∧ s.lastGoEdge out + 2560 ≤ s.tb.taps ∧ (l && s.sys.vddioB) ≠
      s.goLevel out ∧ s.inRun .goReadback out = false)
    ∧ (∃ (s : State) (out : Nat) (l : Bool), s.powered = true ∧ out ≤ 7 ∧ s.gate.hiz = false ∧ s.lastGoEdge out + 1280 ≤ s.tb.taps ∧ (l && s.sys.vddioB) =
      s.goLevel out)
    ∧ (∃ (s : State) (out : Nat) (l : Bool), s.powered = true ∧ out ≤ 7 ∧ s.gate.hiz = false ∧ s.lastGoEdge out + 1280 ≤ s.tb.taps ∧ (l && s.sys.vddioB) ≠
      s.goLevel out ∧ (s.inRun .goReadback out = true ∨ s.tb.taps < s.lastGoEdge out + 2560))
    ∧ (∃ (s : State) (out : Nat) (l : Bool), (s.gate.hiz = true ∨ 7 < out ∨ s.tb.taps < s.lastGoEdge out + 1280))
    ∧ (∃ (s : State) (n : Nat), s.tb.refOk = true ∧ s.powered = true ∧ s.node.nodeState ≠ .boot ∧ s.gate.calAt + s.obj Obj.CAL_PERIOD * tapsMs ≤ s.tb.taps ∧
      140 ≤ n ∧ n ≤ 250)
    ∧ (∃ (s : State) (n : Nat), s.tb.refOk = true ∧ s.powered = true ∧ s.node.nodeState ≠ .boot ∧ s.gate.calAt + s.obj Obj.CAL_PERIOD * tapsMs ≤ s.tb.taps ∧
      (n < 140 ∨ 250 < n))
    ∧ (∃ (s : State) (n : Nat), (s.tb.refOk = false ∨ s.node.nodeState = .boot ∨ s.tb.taps < s.gate.calAt + s.obj Obj.CAL_PERIOD * tapsMs))
    ∧ (∃ (s : State) (l : Bool), s.powered = true ∧ s.bypassCommanded = true ∧ s.obj Obj.GO4_MODE = 1 ∧ (s.tb.refOk = false ∨ l = s.pulseOn))
    ∧ (∃ (s : State) (l : Bool), (s.bypassCommanded = false ∨ s.obj Obj.GO4_MODE ≠ 1 ∨ (s.tb.refOk = true ∧ l ≠ s.pulseOn))) :=
  ⟨⟨{ State.reset with
        node := { State.reset.node with nodeState := (NodeState.service) },
        dict := { State.reset.dict with objs := [{ key := 3671041, value := 5, jsn := 54 }] } },
      0,
      true, by decide +kernel⟩,
   ⟨{ State.reset with
        node := { State.reset.node with nodeState := (NodeState.block) },
        dict := { State.reset.dict with objs := [{ key := 3671041, value := 25, jsn := 5 }] } },
      0,
      true, by decide +kernel⟩,
   ⟨{ State.reset with
        node := { State.reset.node with nodeState := (NodeState.bypass) },
        dict := { State.reset.dict with objs := [{ key := 3671041, value := 3671041, jsn := 4 }] } },
      0,
      true, by decide +kernel⟩,
   ⟨State.reset, 0, false, by decide +kernel⟩,
   ⟨{ State.reset with
        node := { State.reset.node with nodeState := (NodeState.hold) },
        dict := { State.reset.dict with objs := [{ key := 3671041, value := 55, jsn := 8 }] } },
      0,
      false, by decide +kernel⟩,
   ⟨State.reset, 6, false, by decide +kernel⟩,
   ⟨State.reset, 0, by decide +kernel⟩,
   ⟨(cell.upGate fun g => { g with flt := vset g.flt 5 { latched := true, act := true } }), 63, 5, by decide +kernel⟩,
   ⟨State.reset, 64, by decide +kernel⟩,
   ⟨((aged cell).upGate fun g => { g with hiz := false }), 3, true, by decide +kernel⟩,
   ⟨((aged cell).upGate fun g => { g with hiz := false }), 3, false, by decide +kernel⟩,
   ⟨(((aged cell).upGate fun g => { g with hiz := false }).startRun .goReadback 7), 7, true, by decide +kernel⟩,
   ⟨State.reset, 0, false, by decide +kernel⟩,
   ⟨{ State.reset with
        node := { State.reset.node with nodeState := (NodeState.ready) },
        tb := { State.reset.tb with
            taps := 134213760,
            refOk := true,
            theta := 140,
            lastSeq := (vset State.reset.tb.lastSeq 4 (some 141)),
            rootPtp := true },
        hdl := { State.reset.hdl with arrivals := [(7, 2000000000)], cores := (vset State.reset.hdl.cores 6 { cur := 65536 }) },
        mem := { State.reset.mem with cells := [(5246979, 5#8)] },
        sel := { State.reset.sel with scv := 12800, sealEn := true, sealSel := 4, f4Req := true, seqGap := 12800000 },
        recd := { State.reset.recd with pcc := 40 },
        sys := { State.reset.sys with ramp := true },
        inbox := [{ 
              cls := (FloenClass.mirror),
              dir := (FloenDir.cross),
              dst := 1000,
              src := 3672065,
              hops := 12799999,
              hseq := 140,
              eseq := 3672065,
              payload := [250#8] }],
        free := 1 },
      250, by decide +kernel⟩,
   ⟨{ State.reset with
        node := { State.reset.node with nodeState := (NodeState.ready) },
        tb := { State.reset.tb with taps := 134213754, refOk := true },
        jrn := { State.reset.jrn with shadowApplied := 2 } },
      65534, by decide +kernel⟩,
   ⟨State.reset, 0, by decide +kernel⟩,
   ⟨{ State.reset with sel := { State.reset.sel with sby := true } }, false, by decide +kernel⟩,
   ⟨State.reset, false, by decide +kernel⟩⟩

/-- States and operands that meet the hypotheses of `Obligations.ReferenceAndCalibration`, clause by clause. -/
theorem test_witness_ReferenceAndCalibration :
    (∃ (s : State), s.powered = true ∧ s.objB Obj.REF_EN = true ∧ s.adc.refReady = false ∧ s.adc.refSince + 3 * tapsMs ≤ s.tb.taps)
    ∧ (∃ (s : State), (s.objB Obj.REF_EN = false ∨ s.adc.refReady = true ∨ s.tb.taps < s.adc.refSince + 3 * tapsMs))
    ∧ (∃ (s : State), s.objB Obj.REF_EN = false)
    ∧ (∃ (s : State), s.powered = true ∧ s.objB Obj.REF_EN = true)
    ∧ (∃ (s : State) (a b : Bool), s.powered = true ∧ s.adc.calBusy = true)
    ∧ (∃ (s : State) (a b : Bool), s.adc.calBusy = false)
    ∧ (∃ (s : State), (s.node.nodeState = .join ∨ s.node.nodeState = .ready ∨ s.node.nodeState = .block))
    ∧ (∃ (s : State) (v : Nat), (s.node.nodeState = .join ∨ s.node.nodeState = .ready ∨ s.node.nodeState = .block) ∧ v ≠ s.addr)
    ∧ (∃ (s : State) (v : Nat), s.powered = true ∧ s.node.nodeState ≠ .join ∧ s.node.nodeState ≠ .ready ∧ s.node.nodeState ≠ .block)
    ∧ (∃ (s : State) (c g : Nat), s.powered = true ∧ c < 2 ∧ g < 5 ∧ (s.adcCore c).cur = .slot g ∧ (s.adcCore c).startTap + 25600 ≤ s.tb.taps)
    ∧ (∃ (s : State) (c g : Nat), (2 ≤ c ∨ 5 ≤ g ∨ (s.adcCore c).cur ≠ .slot g ∨ s.tb.taps < (s.adcCore c).startTap + 25600))
    ∧ (∃ (s : State) (c g : Nat), s.powered = true ∧ c < 2 ∧ g < 5 ∧ vget (s.adcCore c).ofsAt g 0 + s.obj Obj.OFS_CAL_PERIOD * tapsS ≤ s.tb.taps ∧ s.inRun
      .adcCalStarved (8 * c + g) = false)
    ∧ (∃ (s : State) (v : Nat), s.powered = false)
    ∧ (∃ (s : State) (c g : Nat), (2 ≤ c ∨ 5 ≤ g ∨ s.inRun .adcCalStarved (8 * c + g) = true ∨ s.tb.taps < vget (s.adcCore c).ofsAt g 0 + s.obj
      Obj.OFS_CAL_PERIOD * tapsS)) :=
  ⟨⟨{ State.reset with tb := { State.reset.tb with taps := 67104891, refOk := true }, hdl := { State.reset.hdl with run := true } }, by decide +kernel⟩,
   ⟨State.reset, by decide +kernel⟩,
   ⟨{ State.reset with dict := { State.reset.dict with objs := [{ key := 3932161, value := 0, jsn := 3 }] } }, by decide +kernel⟩,
   ⟨State.reset, by decide +kernel⟩,
   ⟨{ State.reset with adc := { State.reset.adc with calBusy := true } }, false, false, by decide +kernel⟩,
   ⟨State.reset, false, false, by decide +kernel⟩,
   ⟨{ State.reset with node := { State.reset.node with nodeState := (NodeState.ready) } }, by decide +kernel⟩,
   ⟨{ State.reset with node := { State.reset.node with nodeState := (NodeState.ready) } }, 0, by decide +kernel⟩,
   ⟨State.reset, 0, by decide +kernel⟩,
   ⟨{ State.reset with
        adc := { State.reset.adc with cores := (vset State.reset.adc.cores 1 { cur := (AdcWork.slot 4) }) },
        tb := { State.reset.tb with taps := 28777, refOk := true, steps := 262146, depth := 5 },
        mem := { State.reset.mem with cells := [(4000000000, 0#8)] } },
      1,
      4, by decide +kernel⟩,
   ⟨State.reset, 0, 0, by decide +kernel⟩,
   ⟨{ State.reset with
        tb := { State.reset.tb with taps := 137438949492, refOk := true },
        hdl := { State.reset.hdl with cores := (vset State.reset.hdl.cores 6 { cur := 65536 }) },
        sel := { State.reset.sel with sealSel := 524284 },
        inbox := [{ 
              cls := (FloenClass.mirror),
              dir := (FloenDir.cross),
              dst := 1000,
              src := 3932165,
              hops := 7,
              hseq := 4,
              eseq := 3932165,
              payload := [5#8] }],
        free := 1 },
      0,
      3, by decide +kernel⟩,
   ⟨{ State.reset with node := { State.reset.node with nodeState := (NodeState.off) } }, 0, by decide +kernel⟩,
   ⟨State.reset, 0, 0, by decide +kernel⟩⟩

/-- States and operands that meet the hypotheses of `Obligations.ConversionsAndTheirResults`, clause by clause. -/
theorem test_witness_ConversionsAndTheirResults :
    (∃ (s : State) (c e : Nat), s.tb.refOk = true ∧ s.powered = true ∧ c < 2 ∧ (s.adcCore c).enabled = true ∧ s.tbArmed = true ∧ s.adcStart c 1 = some e ∧
      s.tbNow (s.adcEntry c e) = true ∧ s.tbBegun c e = false ∧ s.adc.refReady = true ∧ s.adc.calBusy = false)
    ∧ (∃ (s : State) (c : Nat), (1 < c ∨ (s.adcCore c).enabled = false ∨ s.tbArmed = false ∨ s.adcStart c 1 = none ∨ (∃ e, s.adcStart c 1 = some e ∧
      (s.tbNow (s.adcEntry c e) = false ∨ s.tbBegun c e = true))))
    ∧ (∃ (s : State) (c : Nat), s.tb.refOk = false)
    ∧ (∃ (s : State) (c e : Nat), s.tb.refOk = true ∧ s.powered = true ∧ c < 2 ∧ (s.adcCore c).enabled = true ∧ s.tbArmed = true ∧ s.adcStart c 1 = some e ∧
      s.tbNow (s.adcEntry c e) = true ∧ s.tbBegun c e = false ∧ s.adc.refReady = true ∧ s.adc.calBusy = true)
    ∧ (∃ (s : State) (c e : Nat), s.tb.refOk = true ∧ s.powered = true ∧ c < 2 ∧ (s.adcCore c).enabled = true ∧ s.tbArmed = true ∧ s.adcStart c 1 = some e ∧
      s.tbNow (s.adcEntry c e) = true ∧ s.tbBegun c e = false ∧ s.adc.refReady = false)
    ∧ (∃ (s : State) (c e : Nat), s.powered = true ∧ c < 2 ∧ (s.adcCore c).cur = .none ∧ s.adc.refReady = true ∧ s.adc.calBusy = false ∧ (s.adcCore
      c).enabled = true ∧ (s.adcCore c).urgPend = some e ∧ s.workFits c (.urgent e) = true)
    ∧ (∃ (s : State) (c e : Nat), s.powered = true ∧ c < 2 ∧ (s.adcCore c).cur = .none ∧ s.adc.refReady = true ∧ s.adc.calBusy = false ∧ (s.adcCore
      c).enabled = true ∧ (s.adcCore c).urgPend = none ∧ (s.adcCore c).tbRest = some e ∧ s.workFits c (.tbRest e) = true)
    ∧ (∃ (s : State) (c : Nat), s.powered = true ∧ c < 2 ∧ (s.adcCore c).cur = .none ∧ s.adc.refReady = true ∧ s.adc.calBusy = false ∧ (s.adcCore c).urgPend
      = none ∧ (s.adcCore c).tbRest = none ∧ (∀ n, n < 4 → vget (s.adcCore c).cmptPend n none = none) ∧ (s.adcCore c).swPend = none ∧ s.slotFree c =
      true ∧ s.workFits c (.slot (s.adcCore c).nextSlot) = true)
    ∧ (∃ (s : State) (c e : Nat), s.powered = true ∧ c < 2 ∧ (s.adcCore c).cur = .none ∧ s.adc.refReady = true ∧ s.adc.calBusy = false ∧ (s.adcCore
      c).enabled = true ∧ (s.adcCore c).nextWork = .sw e ∧ s.workFits c (.sw e) = true)
    ∧ (∃ (s : State) (c n e : Nat), s.powered = true ∧ c < 2 ∧ (s.adcCore c).cur = .none ∧ s.adc.refReady = true ∧ s.adc.calBusy = false ∧ (s.adcCore
      c).enabled = true ∧ (s.adcCore c).nextWork = .cmpt n e ∧ s.workFits c (.cmpt n e) = true)
    ∧ (∃ (s : State) (c : Nat), ((s.adcCore c).cur ≠ .none ∨ s.adc.refReady = false ∨ s.adc.calBusy = true ∨ s.workFits c (s.adcCore c).nextWork = false ∨ 1
      < c ∨ ((s.adcCore c).enabled = false ∧ s.slotFree c = false)))
    ∧ (∃ (s : State) (c raw e : Nat), s.powered = true ∧ c < 2 ∧ ((s.adcCore c).cur = .urgent e ∨ (s.adcCore c).cur = .sw e ∨ (s.adcCore c).cur = .tbRest e
      ∨ (s.adcCore c).cur = .tb e) ∧ s.holdTap c ≤ s.tb.taps ∧ s.isCapacitor c e = false ∧ s.isSensor c e = false)
    ∧ (∃ (s : State) (c raw n e : Nat), s.powered = true ∧ c < 2 ∧ (s.adcCore c).cur = .cmpt n e ∧ n < 4 ∧ s.holdTap c ≤ s.tb.taps ∧ s.isCapacitor c e =
      false ∧ s.isSensor c e = false)
    ∧ (∃ (s : State) (c raw g : Nat), (s.adcCore c).cur = .slot g)
    ∧ (∃ (s : State) (c raw e : Nat), s.powered = true ∧ c < 2 ∧ ((s.adcCore c).cur = .urgent e ∨ (s.adcCore c).cur = .sw e ∨ (s.adcCore c).cur = .tbRest e)
      ∧ s.holdTap c ≤ s.tb.taps ∧ (s.isCapacitor c e = true ∨ s.isSensor c e = true))
    ∧ (∃ (s : State) (raw : Nat), s.isCell = true ∧ s.powered = true ∧ (s.adcCore 0).cur = .tb 0 ∧ s.holdTap 0 ≤ s.tb.taps)
    ∧ (∃ (s : State) (raw : Nat), s.isCell = true ∧ s.powered = true ∧ (s.adcCore 1).cur = .tb 0 ∧ s.obj Obj.SENSOR_SLOT ≠ 0 ∧ s.holdTap 1 ≤ s.tb.taps)
    ∧ (∃ (s : State) (c raw : Nat), ((s.adcCore c).cur = .none ∨ 1 < c ∨ s.tb.taps < s.holdTap c))
    ∧ (∃ (s : State) (c : Nat), s.powered = true ∧ c < 2 ∧ s.obj (Obj.CONS + 256 * c) = 0)
    ∧ (∃ (s : State) (c : Nat), s.obj (Obj.CONS + 256 * c) ≠ 0) :=
  ⟨⟨(sampling 1 true false), 0, 0, by decide +kernel⟩,
   ⟨State.reset, 0, by decide +kernel⟩,
   ⟨State.reset, 0, by decide +kernel⟩,
   ⟨(sampling 1 true true), 0, 0, by decide +kernel⟩,
   ⟨(sampling 1 false false), 0, 0, by decide +kernel⟩,
   ⟨((sampling 6 true false).upAdc fun a => { a with cores := vset a.cores 0 { enabled := true, urgPend := some 0 } }),
      0,
      0, by decide +kernel⟩,
   ⟨{ State.reset with
        adc := { State.reset.adc with cores := (vset State.reset.adc.cores 0 { enabled := true, tbRest := some 0 }), refReady := true } },
      0,
      0, by decide +kernel⟩,
   ⟨((aged cell).upAdc fun a => { a with refReady := true }), 1, by decide +kernel⟩,
   ⟨((sampling 6 true false).upAdc fun a => { a with cores := vset a.cores 0 { enabled := true, swPend := some 0 } }), 0, 0, by decide +kernel⟩,
   ⟨((sampling 6 true false).upAdc fun a => { a with cores := vset a.cores 0 { enabled := true, cmptPend := vset (Vector.replicate 4 none) 3 (some 0) } }),
      0,
      3,
      0, by decide +kernel⟩,
   ⟨State.reset, 0, by decide +kernel⟩,
   ⟨{ State.reset with
        dict := { State.reset.dict with objs := [{ key := 3940609, value := 7, jsn := 1 }] },
        adc := { State.reset.adc with cores := (vset State.reset.adc.cores 1 { cur := (AdcWork.tbRest 0) }) } },
      1,
      0,
      0, by decide +kernel⟩,
   ⟨{ State.reset with
        adc := { State.reset.adc with cores := (vset State.reset.adc.cores 1 { cur := (AdcWork.cmpt 0 2) }) },
        tb := { State.reset.tb with taps := 1024 } },
      1,
      0,
      0,
      2, by decide +kernel⟩,
   ⟨{ State.reset with adc := { State.reset.adc with cores := (vset State.reset.adc.cores 0 { cur := (AdcWork.slot 6) }) } },
      0,
      0,
      6, by decide +kernel⟩,
   ⟨{ State.reset with
        adc := { State.reset.adc with cores := (vset State.reset.adc.cores 0 { cur := (AdcWork.tbRest 0) }) },
        tb := { State.reset.tb with taps := 1024 } },
      0,
      0,
      0, by decide +kernel⟩,
   ⟨{ State.reset with
        adc := { State.reset.adc with cores := (vset State.reset.adc.cores 0 { cur := (AdcWork.tb 0) }) },
        tb := { State.reset.tb with taps := 1024 } },
      0, by decide +kernel⟩,
   ⟨{ State.reset with
        dict := { State.reset.dict with objs := [{ key := 3145986, value := 11, jsn := 49 }] },
        adc := { State.reset.adc with cores := (vset State.reset.adc.cores 1 { cur := (AdcWork.tb 0) }) },
        tb := { State.reset.tb with taps := 1024 } },
      0, by decide +kernel⟩,
   ⟨State.reset, 0, 0, by decide +kernel⟩,
   ⟨State.reset, 0, by decide +kernel⟩,
   ⟨{ State.reset with dict := { State.reset.dict with objs := [{ key := 3936259, value := 3936259, jsn := 16383 }] } }, 0, by decide +kernel⟩⟩

/-- States and operands that meet the hypotheses of `Obligations.TriggersUrgentRequestsAndEnable`, clause by clause. -/
theorem test_witness_TriggersUrgentRequestsAndEnable :
    (∃ (s : State) (c e : Nat), s.powered = true ∧ c < 2 ∧ (s.adcCore c).enabled = true ∧ s.adcStart c 6 = some e ∧ s.adc.refReady = true ∧ s.adc.calBusy
      = false ∧ (s.adcCore c).runBusy 6 = false)
    ∧ (∃ (s : State) (c e : Nat), s.powered = true ∧ c < 2 ∧ (s.adcCore c).enabled = true ∧ s.adcStart c 6 = some e ∧ s.adc.refReady = true ∧ (s.adc.calBusy
      = true ∨ (s.adcCore c).runBusy 6 = true))
    ∧ (∃ (s : State) (c e : Nat), s.powered = true ∧ c < 2 ∧ (s.adcCore c).enabled = true ∧ s.adcStart c 6 = some e ∧ s.adc.refReady = false)
    ∧ (∃ (s : State) (c v : Nat), (v % 2 = 0 ∨ 2 ≤ c ∨ (s.adcCore c).enabled = false ∨ s.adcStart c 6 = none))
    ∧ (∃ (s : State) (n : Nat), s.tb.refOk = true ∧ s.powered = true ∧ s.cmptDue n = true ∧ s.adc.refReady = true ∧ s.adc.calBusy = false)
    ∧ (∃ (s : State) (n : Nat), s.cmptDue n = true)
    ∧ (∃ (s : State) (n c : Nat), s.tb.refOk = true ∧ s.powered = true ∧ s.cmptDue n = true ∧ c < 2 ∧ (s.adcCore c).enabled = true ∧ (s.adcStart c (2 +
      n)).isSome = true ∧ s.adc.refReady = true ∧ (s.adc.calBusy = true ∨ (s.adcCore c).runBusy (2 + n) = true))
    ∧ (∃ (s : State) (c v : Nat), s.powered = true ∧ bitOf v 4 = false)
    ∧ (∃ (s : State) (c v : Nat), 1 < c)
    ∧ (∃ (s : State) (n : Nat), (s.cmptDue n = false ∨ s.tb.refOk = false))
    ∧ (∃ (s : State) (c v : Nat), s.powered = true ∧ c < 2 ∧ bitOf v 4 = true ∧ (s.adcCore c).urgPend = none ∧ s.adcSampling c = false ∧ (s.adcCore
      c).inSlot = false)
    ∧ (∃ (s : State) (c v : Nat), s.powered = true ∧ c < 2 ∧ bitOf v 4 = true ∧ (s.adcCore c).urgPend = none ∧ (s.adcSampling c = true ∨ (s.adcCore
      c).inSlot = true))
    ∧ (∃ (s : State) (c v : Nat), s.powered = true ∧ c < 2 ∧ bitOf v 4 = true ∧ (s.adcCore c).urgPend.isSome = true)
    ∧ (∃ (s : State) (c v : Nat), s.powered = true ∧ c < 2 ∧ v ≤ 1 ∧ s.adcLocked = false ∧ (v = 0 ∨ s.adcTableOk c = true))
    ∧ (∃ (s : State) (c v : Nat), s.powered = true ∧ 1 < c)
    ∧ (∃ (s : State) (c v : Nat), s.powered = true ∧ c < 2 ∧ 1 < v)
    ∧ (∃ (s : State) (c v : Nat), s.powered = true ∧ c < 2 ∧ v ≤ 1 ∧ s.adcLocked = true)
    ∧ (∃ (s : State) (c : Nat), s.powered = true ∧ c < 2 ∧ s.adcLocked = false ∧ s.adcTableOk c = false) :=
  ⟨⟨(sampling 6 true false), 0, 0, by decide +kernel⟩,
   ⟨(sampling 6 true true), 0, 0, by decide +kernel⟩,
   ⟨(sampling 6 false false), 0, 0, by decide +kernel⟩,
   ⟨State.reset, 0, 0, by decide +kernel⟩,
   ⟨{ State.reset with
        node := { State.reset.node with role := (Role.relay), nodeState := (NodeState.block) },
        gate := { State.reset.gate with act := { State.reset.gate.act with cmpt := (vset State.reset.gate.act.cmpt 1 4) } },
        adc := { State.reset.adc with refReady := true },
        tb := { State.reset.tb with taps := 1, offset := 16383, refOk := true } },
      1, by decide +kernel⟩,
   ⟨{ State.reset with
        node := { State.reset.node with role := (Role.station), nodeState := (NodeState.service) },
        gate := { State.reset.gate with act := { State.reset.gate.act with cmpt := (vset State.reset.gate.act.cmpt 3 0) } },
        tb := { State.reset.tb with
            taps := 1,
            offset := (-1),
            rate := (-4),
            refOk := true,
            stepReg := (vset State.reset.tb.stepReg 2 7),
            sstepReg := (vset State.reset.tb.sstepReg 1 6),
            quantRun := 4294967295,
            retTheta := (vset State.reset.tb.retTheta 0 (some 7)) },
        evc := { State.reset.evc with inten := 1#32 },
        jrn := { State.reset.jrn with snapNext := some 1 },
        sel := { State.reset.sel with
            spb := false,
            wcOk := 6,
            fb := (vset State.reset.sel.fb 1 true),
            missC := true,
            discPending := true,
            sealSel := 2,
            refused := 1 },
        recd := { State.reset.recd with fwdLost := 1 },
        bob := { State.reset.bob with scrubbing := true },
        sys := { State.reset.sys with vdda := 7, tj := (-2), slot := 4, pendingReset := some 8 } },
      3, by decide +kernel⟩,
   ⟨((((sampling 3 true true).upNode fun n => { n with role := .relay }).upTb fun t => { t with taps := 1, offset := 16383 }).upGate fun g => { g with act := { g.act with cmpt := vset g.act.cmpt 1 4 } }),
      1,
      0, by decide +kernel⟩,
   ⟨State.reset, 0, 0, by decide +kernel⟩,
   ⟨State.reset, 2, 0, by decide +kernel⟩,
   ⟨State.reset, 0, by decide +kernel⟩,
   ⟨{ State.reset with tb := { State.reset.tb with taps := 1024 } }, 0, 16, by decide +kernel⟩,
   ⟨State.reset, 0, 62499984, by decide +kernel⟩,
   ⟨{ State.reset with adc := { State.reset.adc with cores := (vset State.reset.adc.cores 0 { urgPend := some 0 }) } },
      0,
      16, by decide +kernel⟩,
   ⟨cell, 1, 0, by decide +kernel⟩,
   ⟨State.reset, 2, 0, by decide +kernel⟩,
   ⟨State.reset, 0, 2, by decide +kernel⟩,
   ⟨{ State.reset with node := { State.reset.node with nodeState := (NodeState.service) } }, 0, 0, by decide +kernel⟩,
   ⟨(((cell.setObj Obj.LEN 2 0).setObj Obj.ENTRY0 (0x600 + 8 * 65536) 0).setObj (Obj.ENTRY0 + 1) (0x600 + 8 * 65536) 0), 0, by decide +kernel⟩⟩

/-- States and operands that meet the hypotheses of `Obligations.PortsComeUpStepByStep`, clause by clause. -/
theorem test_witness_PortsComeUpStepByStep :
    (∃ (s : State) (p : Nat), s.floen p = true ∧ s.pastBoot = true ∧ s.portEnabled p = true ∧ (s.port p).state = .disabled)
    ∧ (∃ (s : State) (p : Nat), s.isStation = true ∧ p < 2 ∧ s.pastBoot = true ∧ s.portEnabled p = true ∧ (s.port p).txDark = true)
    ∧ (∃ (s : State) (p : Nat), (6 ≤ p ∨ s.pastBoot = false ∨ s.portEnabled p = false ∨ (s.floen p = true ∧ (s.port p).state ≠ .disabled) ∨ (s.floen p =
      false ∧ (s.port p).txDark = false)))
    ∧ (∃ (s : State) (p : Nat), (s.powered = false ∨ s.tb.refOk = false ∨ s.floen p = false))
    ∧ (∃ (s : State) (p : Nat), s.tb.refOk = true ∧ s.powered = true ∧ s.floen p = true ∧ (s.port p).state = .down ∧ (s.port p).modAbs = false)
    ∧ (∃ (s : State) (p : Nat), (s.floen p = false ∨ (s.port p).state ≠ .down ∨ (s.port p).modAbs = true))
    ∧ (∃ (s : State) (p : Nat), s.tb.refOk = true ∧ s.powered = true ∧ s.floen p = true ∧ (s.port p).state = .lock)
    ∧ (∃ (s : State) (p : Nat), (s.port p).state ≠ .lock)
    ∧ (∃ (s : State) (p : Nat), s.tb.refOk = true ∧ s.powered = true ∧ s.floen p = true ∧ (s.port p).state = .hello ∧ 2 ≤ (s.port p).peer.lstate ∧ (s.port
      p).portOk = true ∧ s.heldOff p = true)
    ∧ (∃ (s : State) (p : Nat), ((s.port p).state ≠ .hello ∨ (s.port p).peer.lstate < 2 ∨ (s.port p).portOk = false ∨ s.heldOff p = false))
    ∧ (∃ (s : State) (p : Nat), s.tb.refOk = true ∧ s.powered = true ∧ s.floen p = true ∧ (s.port p).state = .measure ∧ 8 ≤ (s.port p).exchanges ∧ 3 ≤
      (s.port p).peer.lstate ∧ (s.port p).delay ≤ 5000000)
    ∧ (∃ (s : State) (p : Nat), ((s.port p).state ≠ .measure ∨ (s.port p).exchanges < 8 ∨ (s.port p).peer.lstate < 3 ∨ 5000000 < (s.port p).delay)) :=
  ⟨⟨cell, 5, by decide +kernel⟩,
   ⟨(station.upPort 1 fun p => { p with txDark := true }), 1, by decide +kernel⟩,
   ⟨State.reset, 0, by decide +kernel⟩,
   ⟨State.reset, 0, by decide +kernel⟩,
   ⟨{ State.reset with
        link := { State.reset.link with ports := (vset State.reset.link.ports 3 { state := (LinkState.down) }) },
        tb := { State.reset.tb with refOk := true } },
      3, by decide +kernel⟩,
   ⟨State.reset, 0, by decide +kernel⟩,
   ⟨{ State.reset with
        link := { State.reset.link with ports := (vset State.reset.link.ports 3 { state := (LinkState.lock) }) },
        tb := { State.reset.tb with refOk := true } },
      3, by decide +kernel⟩,
   ⟨State.reset, 0, by decide +kernel⟩,
   ⟨{ State.reset with
        link := { State.reset.link with
            ports := (vset State.reset.link.ports 2 { state := (LinkState.hello), peer := { lstate := 2 }, portOk := true }) },
        tb := { State.reset.tb with refOk := true } },
      2, by decide +kernel⟩,
   ⟨State.reset, 0, by decide +kernel⟩,
   ⟨{ State.reset with
        link := { State.reset.link with
            ports := (vset State.reset.link.ports 1 { state := (LinkState.measure), peer := { lstate := 3 }, exchanges := 8 }) },
        tb := { State.reset.tb with refOk := true } },
      1, by decide +kernel⟩,
   ⟨State.reset, 0, by decide +kernel⟩⟩

/-- States and operands that meet the hypotheses of `Obligations.PortsAreLostAndHeldOff`, clause by clause. -/
theorem test_witness_PortsAreLostAndHeldOff :
    (∃ (s : State) (p : Nat) (los : Bool), s.powered = true ∧ s.floen p = true ∧ (s.port p).alive = true)
    ∧ (∃ (s : State) (p : Nat) (los : Bool), s.powered = true ∧ p < 6 ∧ (s.floen p = false ∨ (s.port p).alive = false))
    ∧ (∃ (s : State) (p : Nat) (los : Bool), 6 ≤ p)
    ∧ (∃ (s : State) (p : Nat), s.powered = true ∧ s.floen p = true ∧ 4 ≤ ((s.port p).lossTaps.filter fun t => inWindow t tapsS s.tb.taps).length)
    ∧ (∃ (s : State) (p : Nat), (s.floen p = false ∨ ((s.port p).lossTaps.filter fun t => inWindow t tapsS s.tb.taps).length < 4))
    ∧ (∃ (s : State) (p : Nat), s.powered = true ∧ s.floen p = true ∧ (s.port p).lossTaps.headD 0 + 10 * tapsS ≤ s.tb.taps)
    ∧ (∃ (s : State) (p : Nat), (s.floen p = false ∨ s.tb.taps < (s.port p).lossTaps.headD 0 + 10 * tapsS))
    ∧ (∃ (s : State) (p : Nat) (x : LsBlock), s.tb.refOk = true ∧ s.powered = true ∧ s.floen p = true ∧ (s.port p).alive = true ∧ ((s.port p).state ≠ .up ∨
      3 ≤ x.lstate))
    ∧ (∃ (s : State) (p : Nat) (x : LsBlock), s.tb.refOk = true ∧ s.powered = true ∧ s.floen p = true ∧ (s.port p).state = .up ∧ x.lstate < 3)
    ∧ (∃ (s : State) (p : Nat) (x : LsBlock), (s.floen p = false ∨ (s.port p).alive = false ∨ s.tb.refOk = false))
    ∧ (∃ (s : State) (p : Nat), s.powered = true ∧ p < 6)
    ∧ (∃ (s : State) (p : Nat), s.powered = true ∧ p < 6)
    ∧ (∃ (s : State) (p : Nat) (gone : Bool), 6 ≤ p)
    ∧ (∃ (s : State) (p : Nat) (b : Bool) (x : LsBlock), s.powered = false)
    ∧ (∃ (s : State), s.powered = true ∧ s.isStation = true ∧ s.link.blkOrig = true ∧ s.sel.sysTrip = false ∧ s.link.blkSince + 50 * tapsUs ≤ s.tb.taps)
    ∧ (∃ (s : State), (s.isStation = false ∨ s.link.blkOrig = false ∨ s.sel.sysTrip = true ∨ s.tb.taps < s.link.blkSince + 50 * tapsUs)) :=
  ⟨⟨{ State.reset with link := { State.reset.link with ports := (vset State.reset.link.ports 4 { state := (LinkState.up) }) } },
      4,
      false, by decide +kernel⟩,
   ⟨State.reset, 0, false, by decide +kernel⟩,
   ⟨State.reset, 6, false, by decide +kernel⟩,
   ⟨{ State.reset with link := { State.reset.link with ports := (vset State.reset.link.ports 5 { lossTaps := [0, 0, 0, 0] }) } },
      5, by decide +kernel⟩,
   ⟨State.reset, 0, by decide +kernel⟩,
   ⟨{ State.reset with tb := { State.reset.tb with taps := 137438949490, refOk := true } }, 1, by decide +kernel⟩,
   ⟨State.reset, 0, by decide +kernel⟩,
   ⟨{ State.reset with
        link := { State.reset.link with ports := (vset State.reset.link.ports 3 { state := (LinkState.lock) }) },
        tb := { State.reset.tb with refOk := true } },
      3,
      {}, by decide +kernel⟩,
   ⟨{ State.reset with
        link := { State.reset.link with ports := (vset State.reset.link.ports 2 { state := (LinkState.up) }) },
        tb := { State.reset.tb with refOk := true } },
      2,
      {}, by decide +kernel⟩,
   ⟨State.reset, 0, {}, by decide +kernel⟩,
   ⟨State.reset, 0, by decide +kernel⟩,
   ⟨State.reset, 0, by decide +kernel⟩,
   ⟨State.reset, 6, false, by decide +kernel⟩,
   ⟨{ State.reset with node := { State.reset.node with nodeState := (NodeState.off) } }, 0, false, {}, by decide +kernel⟩,
   ⟨{ State.reset with
        node := { State.reset.node with role := (Role.station) },
        link := { State.reset.link with blkOrig := true },
        tb := { State.reset.tb with
            taps := 1044596,
            refOk := true,
            latTap := 1,
            latNt := 1,
            prevTx := (vset State.reset.tb.prevTx 1 (some (-6))),
            lastSeq := (vset State.reset.tb.lastSeq 3 (some 512)) },
        hdl := { State.reset.hdl with arrivals := [(4, 255)], cores := (vset State.reset.hdl.cores 6 { cur := 65536 }) },
        evc := { State.reset.evc with evt := 7#32, inten := 36#32 },
        mem := { State.reset.mem with errors := [{ addr := 6, double := true }] },
        sel := { State.reset.sel with
            sinB := (vset State.reset.sel.sinB 1 true),
            discrepant := true,
            supOk := true,
            pulseAt := (vset State.reset.sel.pulseAt 0 8),
            coreAt := 6,
            fb := (vset State.reset.sel.fb 0 true),
            scvTime := 3,
            demandId := 1 },
        recd := { State.reset.recd with inten := 3955359744#32 },
        free := 1 }, by decide +kernel⟩,
   ⟨State.reset, by decide +kernel⟩⟩

/-- States and operands that meet the hypotheses of `Obligations.FramesAreCheckedDeliveredForwardedAndSent`, clause by clause. -/
theorem test_witness_FramesAreCheckedDeliveredForwardedAndSent :
    (∃ (s : State) (p : Nat) (bs : List Byte), (s.floen p = false ∨ ((s.port p).state ≠ .up ∧ (s.port p).state ≠ .measure) ∨ s.tb.refOk = false ∨
      s.powered = false))
    ∧ (∃ (s : State) (p : Nat) (bs : List Byte), s.tb.refOk = true ∧ s.powered = true ∧ s.floen p = true ∧ (s.port p).state = .up ∧ 16 ≤ bs.length ∧
      Frame.hcsOk bs = false)
    ∧ (∃ (s : State) (p : Nat) (bs : List Byte), s.tb.refOk = true ∧ s.powered = true ∧ s.floen p = true ∧ (s.port p).state = .up ∧ bs.length < 16)
    ∧ (∃ (s : State) (p : Nat) (bs : List Byte), s.tb.refOk = true ∧ s.powered = true ∧ s.lit p = true ∧ p < 6 ∧ 16 ≤ bs.length ∧ Frame.hcsOk bs = true ∧
      (Frame.ofBytes bs).dir ≠ .down ∧ s.dirOk p (Frame.ofBytes bs) = false)
    ∧ (∃ (s : State) (p : Nat) (bs : List Byte), s.tb.refOk = true ∧ s.powered = true ∧ s.lit p = true ∧ p < 6 ∧ 16 ≤ bs.length ∧ Frame.hcsOk bs = true ∧
      (Frame.ofBytes bs).dir ≠ .down ∧ s.dirOk p (Frame.ofBytes bs) = true ∧ addrsOk (Frame.ofBytes bs) = false)
    ∧ (∃ (s : State) (p : Nat) (bs : List Byte), s.tb.refOk = true ∧ s.powered = true ∧ s.lit p = true ∧ p < 6 ∧ 16 ≤ bs.length ∧ Frame.hcsOk bs = true ∧
      (Frame.ofBytes bs).dir ≠ .down ∧ s.dirOk p (Frame.ofBytes bs) = true ∧ addrsOk (Frame.ofBytes bs) = true ∧ s.deliveredHere (Frame.ofBytes bs) =
      false ∧ (Frame.ofBytes bs).hops = 0)
    ∧ (∃ (s : State) (p : Nat) (bs : List Byte), s.tb.refOk = true ∧ s.powered = true ∧ s.lit p = true ∧ p < 6 ∧ 16 ≤ bs.length ∧ Frame.hcsOk bs = true ∧
      (Frame.ofBytes bs).dir ≠ .down ∧ s.dirOk p (Frame.ofBytes bs) = true ∧ addrsOk (Frame.ofBytes bs) = true ∧ (s.deliveredHere (Frame.ofBytes bs) =
      true ∨ (Frame.ofBytes bs).hops ≠ 0) ∧ Frame.cutOff bs = true)
    ∧ (∃ (s : State) (p : Nat) (bs : List Byte), s.tb.refOk = true ∧ s.powered = true ∧ s.lit p = true ∧ p < 6 ∧ 16 ≤ bs.length ∧ Frame.hcsOk bs = true ∧
      (Frame.ofBytes bs).dir ≠ .down ∧ s.dirOk p (Frame.ofBytes bs) = true ∧ addrsOk (Frame.ofBytes bs) = true ∧ (s.deliveredHere (Frame.ofBytes bs) =
      true ∨ (Frame.ofBytes bs).hops ≠ 0) ∧ Frame.cutOff bs = false ∧ Frame.crcOk bs = false)
    ∧ (∃ (s : State) (p : Nat) (bs : List Byte) (f : Frame), s.tb.refOk = true ∧ s.powered = true ∧ s.lit p = true ∧ p < 6 ∧ 16 ≤ bs.length ∧ Frame.hcsOk bs
      = true ∧ Frame.cutOff bs = false ∧ Frame.crcOk bs = true ∧ f = Frame.ofBytes bs ∧ f.dir = .localDir ∧ f.twin = false ∧ f.anym = false ∧ s.dirOk
      p f = true ∧ addrsOk f = true ∧ s.boundUnit 2 f = none)
    ∧ (∃ (s : State) (p : Nat) (bs : List Byte) (f : Frame), s.tb.refOk = true ∧ s.powered = true ∧ s.lit p = true ∧ 2 ≤ p ∧ p < 6 ∧ 16 ≤ bs.length ∧
      Frame.hcsOk bs = true ∧ Frame.cutOff bs = false ∧ Frame.crcOk bs = true ∧ f = Frame.ofBytes bs ∧ f.dir = .up ∧ f.twin = false ∧ s.dirOk p f =
      true ∧ addrsOk f = true ∧ s.named f = true ∧ s.boundUnit 2 f = none ∧ f.cls ≠ .journal)
    ∧ (∃ (s : State) (p q : Nat) (bs : List Byte) (f : Frame), s.tb.refOk = true ∧ s.powered = true ∧ s.isCell = true ∧ s.lit p = true ∧ 2 ≤ p ∧ p < 6 ∧ 16
      ≤ bs.length ∧ Frame.hcsOk bs = true ∧ Frame.cutOff bs = false ∧ Frame.crcOk bs = true ∧ f = Frame.ofBytes bs ∧ f.dir = .up ∧ f.hops ≠ 0 ∧
      s.named f = false ∧ s.dirOk p f = true ∧ addrsOk f = true ∧ s.primaryPort = some q ∧ s.lit q = true ∧ (s.port q).fits (frameHop f) = true)
    ∧ (∃ (s : State) (p : Nat) (bs : List Byte) (f : Frame) (e : DupEntry), s.tb.refOk = true ∧ s.powered = true ∧ s.lit p = true ∧ p < 6 ∧ 16 ≤ bs.length ∧
      Frame.hcsOk bs = true ∧ Frame.cutOff bs = false ∧ Frame.crcOk bs = true ∧ f = Frame.ofBytes bs ∧ f.dir = .up ∧ s.deliveredHere f = true ∧
      dupFiltered f = true ∧ s.dirOk p f = true ∧ addrsOk f = true ∧ s.link.dup.find? (fun x => x.src == f.src && x.cls == f.cls) = some e ∧ e.fresh
      f.eseq = false)
    ∧ (∃ (s : State) (p : Nat) (e : QEntry), (s.port p).queue.find? (fun x => x.frame.cls == .weft) = some e)
    ∧ (∃ (s : State) (p : Nat) (e : QEntry), (∀ x ∈ (s.port p).queue, x.frame.cls ≠ .weft) ∧ (s.port p).queue.find? (fun x => x.frame.cls == .safety) = some
      e)
    ∧ (∃ (s : State) (p : Nat), (s.port p).queue ≠ [])
    ∧ (∃ (s : State) (p : Nat) (e : QEntry) (aged : Bool), s.tb.refOk = true ∧ s.powered = true ∧ s.floen p = true ∧ (s.port p).state = .up ∧ s.choose p =
      some (e, aged) ∧ e.frame.cls ≠ .time ∧ s.boundUnit 1 e.frame = none)
    ∧ (∃ (s : State) (p : Nat) (e : QEntry) (aged : Bool), s.tb.refOk = true ∧ s.powered = true ∧ s.floen p = true ∧ ((s.port p).state = .up ∨ (s.port
      p).state = .measure) ∧ s.choose p = some (e, aged) ∧ e.frame.cls = .time ∧ s.boundUnit 1 e.frame = none)
    ∧ (∃ (s : State) (p u : Nat) (e : QEntry) (aged : Bool), s.tb.refOk = true ∧ s.powered = true ∧ s.floen p = true ∧ (s.port p).state = .up ∧ s.choose p =
      some (e, aged) ∧ e.frame.cls ≠ .time ∧ e.frame.src = s.addr ∧ s.boundUnit 1 e.frame = some u)
    ∧ (∃ (s : State) (p : Nat), s.choose p = none)
    ∧ (∃ (s : State) (p : Nat), s.tb.refOk = true ∧ s.powered = true ∧ s.floen p = true ∧ ((s.port p).state = .up ∨ (s.port p).state = .measure)) :=
  ⟨⟨State.reset, 0, [], by decide +kernel⟩,
   ⟨{ State.reset with
        link := { State.reset.link with ports := (vset State.reset.link.ports 5 { state := (LinkState.up) }) },
        tb := { State.reset.tb with refOk := true } },
      5,
      [0#8, 0#8, 0#8, 0#8, 0#8, 0#8, 0#8, 0#8, 0#8, 0#8, 0#8, 0#8, 0#8, 0#8, 0#8, 0#8], by decide +kernel⟩,
   ⟨{ State.reset with
        link := { State.reset.link with ports := (vset State.reset.link.ports 4 { state := (LinkState.up) }) },
        tb := { State.reset.tb with refOk := true } },
      4,
      [], by decide +kernel⟩,
   ⟨{ State.reset with
        link := { State.reset.link with ports := (vset State.reset.link.ports 0 { state := (LinkState.up) }) },
        tb := { State.reset.tb with refOk := true },
        sys := { State.reset.sys with admitted := (vset State.reset.sys.admitted 0 (some 0)) } },
      0,
      [107#8, 4#8, 0#8, 8#8, 0#8, 0#8, 0#8, 7#8, 2#8, 0#8, 3#8, 8#8, 34#8, 0#8, 0#8, 177#8], by decide +kernel⟩,
   ⟨{ State.reset with
        link := { State.reset.link with ports := (vset State.reset.link.ports 2 { state := (LinkState.up) }) },
        tb := { State.reset.tb with refOk := true },
        sys := { State.reset.sys with admitted := (vset State.reset.sys.admitted 2 (some 0)) } },
      2,
      [71#8, 16#8, 0#8, 8#8, 255#8, 63#8, 0#8, 7#8, 6#8, 0#8, 2#8, 0#8, 5#8, 0#8, 0#8, 60#8], by decide +kernel⟩,
   ⟨{ State.reset with
        link := { State.reset.link with ports := (vset State.reset.link.ports 4 { state := (LinkState.up) }) },
        tb := { State.reset.tb with refOk := true },
        sys := { State.reset.sys with admitted := (vset State.reset.sys.admitted 4 (some 0)) } },
      4,
      [65#8, 31#8, 0#8, 0#8, 3#8, 0#8, 0#8, 0#8, 0#8, 0#8, 0#8, 8#8, 2#8, 0#8, 0#8, 50#8], by decide +kernel⟩,
   ⟨{ State.reset with
        link := { State.reset.link with ports := (vset State.reset.link.ports 5 { state := (LinkState.up) }) },
        tb := { State.reset.tb with refOk := true },
        sys := { State.reset.sys with admitted := (vset State.reset.sys.admitted 5 (some 0)) } },
      5,
      [65#8, 16#8, 0#8, 8#8, 1#8, 0#8, 0#8, 2#8, 17#8, 0#8, 19#8, 8#8, 36#8, 1#8, 0#8, 26#8], by decide +kernel⟩,
   ⟨{ State.reset with
        link := { State.reset.link with ports := (vset State.reset.link.ports 4 { state := (LinkState.up) }) },
        tb := { State.reset.tb with refOk := true },
        sys := { State.reset.sys with admitted := (vset State.reset.sys.admitted 4 (some 0)) } },
      4,
      [77#8, 7#8, 0#8, 8#8, 0#8, 0#8, 0#8, 5#8, 0#8, 0#8, 0#8, 0#8, 0#8, 0#8, 0#8, 202#8, 0#8, 0#8, 0#8, 0#8], by decide +kernel⟩,
   ⟨(withLit cell 5),
      5,
      (Frame.bytes { cls := .time, dir := .localDir, dst := 0xC1A2, src := 0xC002 }),
      (Frame.ofBytes (Frame.bytes { cls := .time, dir := .localDir, dst := 0xC1A2, src := 0xC002 })), by decide +kernel⟩,
   ⟨(withLit cell 5),
      5,
      (Frame.bytes { twinFrame with twin := false }),
      (Frame.ofBytes (Frame.bytes { twinFrame with twin := false })), by decide +kernel⟩,
   ⟨((withLit (withLit cell 0) 5).upNode fun n => { n with primary := .a }),
      5,
      0,
      (Frame.bytes { twinFrame with dst := 0x48002 }),
      (Frame.ofBytes (Frame.bytes { twinFrame with dst := 0x48002 })), by decide +kernel⟩,
   ⟨((withLit cell 2).upLink fun l => { l with dup := [⟨0xC002, .service, 7, 0⟩] }),
      2,
      twinFrame.bytes,
      (Frame.ofBytes twinFrame.bytes),
      ⟨0xC002, .service, 7, 0⟩, by decide +kernel⟩,
   ⟨{ State.reset with
        link := { State.reset.link with
            ports := (vset State.reset.link.ports 0
                { queue := [{ frame := { cls := (FloenClass.weft), dir := (FloenDir.down), dst := 8, src := 131073 }, since := 64 }] }) } },
      0,
      { frame := { cls := (FloenClass.weft), dir := (FloenDir.down), dst := 8, src := 131073 }, since := 64 }, by decide +kernel⟩,
   ⟨{ State.reset with
        link := { State.reset.link with
            ports := (vset State.reset.link.ports 0
                { queue := [{ frame := { cls := (FloenClass.safety), dir := (FloenDir.cross), dst := 16383, src := 0 }, since := 0 }] }) } },
      0,
      { frame := { cls := (FloenClass.safety), dir := (FloenDir.cross), dst := 16383, src := 0 }, since := 0 }, by decide +kernel⟩,
   ⟨{ State.reset with
        link := { State.reset.link with
            ports := (vset State.reset.link.ports 0
                { queue := [{ frame := { cls := (FloenClass.safety), dir := (FloenDir.cross), dst := 16383, src := 0 }, since := 0 }] }) } },
      0, by decide +kernel⟩,
   ⟨(cell.upLink fun l => { l with ports := vset l.ports 0 { state := .up, queue := [⟨twinFrame, 0⟩] } }),
      0,
      ⟨twinFrame, 0⟩,
      false, by decide +kernel⟩,
   ⟨(cell.upLink fun l => { l with ports := vset l.ports 5 { state := .measure, queue := [⟨{ twinFrame with cls := .time }, 0⟩] } }),
      5,
      ⟨{ twinFrame with cls := .time }, 0⟩,
      false, by decide +kernel⟩,
   ⟨(((cell.setObj (Obj.CU_BIND + 768) 0xFFFF 0).setObj (Obj.CU_MODE + 768) 1 0).upLink fun l => { l with ports := vset l.ports 0 { state := .up, queue := [⟨{ twinFrame with src := 0xC1A2 }, 0⟩] } }),
      0,
      3,
      ⟨{ twinFrame with src := 0xC1A2 }, 0⟩,
      false, by decide +kernel⟩,
   ⟨State.reset, 0, by decide +kernel⟩,
   ⟨{ State.reset with
        link := { State.reset.link with ports := (vset State.reset.link.ports 4 { state := (LinkState.up) }) },
        tb := { State.reset.tb with refOk := true } },
      4, by decide +kernel⟩⟩

/-- States and operands that meet the hypotheses of `Obligations.LinkDelayIsFilteredOverExchanges`, clause by clause. -/
theorem test_witness_LinkDelayIsFilteredOverExchanges :
    (∃ (s : State) (p : Nat), s.tb.refOk = true ∧ s.powered = true ∧ s.dreqDue p = true)
    ∧ (∃ (s : State) (p x t2 t3 : Nat), (s.measures p = false ∨ s.tb.refOk = false ∨ s.powered = false))
    ∧ (∃ (s : State) (p : Nat), s.dreqDue p = false)
    ∧ (∃ (s : State) (p x : Nat), s.tb.refOk = true ∧ s.powered = true ∧ s.measures p = true)
    ∧ (∃ (s : State) (p x t2 t3 : Nat) (d : Int), s.tb.refOk = true ∧ s.powered = true ∧ s.measures p = true ∧ (s.port p).reqXid = some x ∧ inWindow (s.port
      p).reqT1 (10 * tapsUs) s.tapNow.1 = true ∧ d = ((s.tapNow.1 : Int) - (s.port p).reqT1) - ((t3 : Int) - t2))
    ∧ (∃ (q : Port) (d : Int), q.outlier d = true ∧ q.outRun ≠ 7)
    ∧ (∃ (q : Port) (d : Int), q.outlier d = true ∧ q.outRun = 7)
    ∧ (∃ (q : Port) (d : Int), q.outlier d = false)
    ∧ (∃ (s : State) (p x t2 t3 : Nat), (s.port p).reqXid ≠ some x)
    ∧ (∃ (s : State) (p x t2 t3 : Nat), s.tb.refOk = true ∧ s.powered = true ∧ s.measures p = true ∧ (s.port p).reqXid = some x ∧ inWindow (s.port p).reqT1
      (10 * tapsUs) s.tapNow.1 = false)
    ∧ (∃ (s : State) (p : Nat), s.powered = true ∧ p < 6 ∧ inWindow (s.port p).reqT1 (10 * tapsUs) s.tb.taps = false)
    ∧ (∃ (s : State) (p : Nat), inWindow (s.port p).reqT1 (10 * tapsUs) s.tb.taps = true)
    ∧ (∃ (s : State) (p : Nat), s.powered = true ∧ p < 6 ∧ (s.port p).modAbs = false ∧ (s.port p).i2cBusy = false ∧ (∀ x, (s.port p).diagAt = some x →
      inWindow x (s.obj Obj.DIAG_INTERVAL * tapsMs) s.tb.taps = false))
    ∧ (∃ (s : State) (p : Nat), ((s.port p).modAbs = true ∨ (s.port p).i2cBusy = true ∨ (∃ x, (s.port p).diagAt = some x ∧ inWindow x (s.obj
      Obj.DIAG_INTERVAL * tapsMs) s.tb.taps = true)))
    ∧ (∃ (s : State) (p : Nat) (tc : Int) (v b tx rx fl : Nat), s.powered = false)
    ∧ (∃ (s : State) (p : Nat) (tc : Int) (v b tx rx fl : Nat), s.powered = true ∧ p < 6 ∧ (s.port p).i2cBusy = true)
    ∧ (∃ (s : State) (p : Nat) (tc : Int) (v b tx rx fl : Nat), (s.port p).i2cBusy = false)
    ∧ (∃ (s : State) (p : Nat), inWindow (s.port p).i2cAt (10 * tapsMs) s.tb.taps = true)
    ∧ (∃ (s : State) (p : Nat), s.powered = true ∧ p < 6 ∧ inWindow (s.port p).i2cAt (10 * tapsMs) s.tb.taps = false) :=
  ⟨⟨{ State.reset with
        link := { State.reset.link with ports := (vset State.reset.link.ports 1 { state := (LinkState.up) }) },
        tb := { State.reset.tb with refOk := true } },
      1, by decide +kernel⟩,
   ⟨State.reset, 0, 0, 0, 0, by decide +kernel⟩,
   ⟨State.reset, 0, by decide +kernel⟩,
   ⟨{ State.reset with
        link := { State.reset.link with ports := (vset State.reset.link.ports 1 { state := (LinkState.up) }) },
        tb := { State.reset.tb with refOk := true } },
      1,
      0, by decide +kernel⟩,
   ⟨asked, 3, 0, 0, 0, _, rfl, rfl, by decide +kernel, by decide +kernel, asked_within, rfl⟩,
   ⟨{ state := (LinkState.up), delays := [0, 0, 0, 0, 0, 0, 0, 0], delay := 5001 }, 0, by decide +kernel⟩,
   ⟨{ state := (LinkState.up), delays := [0, 0, 0, 0, 0, 0, 0, 0], outRun := 7 }, (-157), by decide +kernel⟩,
   ⟨{}, 0, by decide +kernel⟩,
   ⟨State.reset, 0, 0, 0, 0, by decide +kernel⟩,
   ⟨asked.upTb fun t => { t with taps := 128000 }, 3, 0, 0, 0, rfl, rfl, by decide +kernel, by decide +kernel, asked_late⟩,
   ⟨{ State.reset with tb := { State.reset.tb with taps := 128000 } }, 0, by decide +kernel⟩,
   ⟨State.reset, 0, by decide +kernel⟩,
   ⟨State.reset, 0, by decide +kernel⟩,
   ⟨{ State.reset with link := { State.reset.link with ports := (vset State.reset.link.ports 4 { modAbs := true }) } }, 4, by decide +kernel⟩,
   ⟨{ State.reset with node := { State.reset.node with nodeState := (NodeState.off) } }, 0, 0, 0, 0, 0, 0, 0, by decide +kernel⟩,
   ⟨{ State.reset with link := { State.reset.link with ports := (vset State.reset.link.ports 2 { i2cBusy := true }) } },
      2,
      0,
      0,
      0,
      0,
      0,
      0, by decide +kernel⟩,
   ⟨State.reset, 0, 0, 0, 0, 0, 0, 0, by decide +kernel⟩,
   ⟨State.reset, 0, by decide +kernel⟩,
   ⟨{ State.reset with tb := { State.reset.tb with taps := 134213731, refOk := true } }, 1, by decide +kernel⟩⟩

/-- States and operands that meet the hypotheses of `Obligations.CheckUnitsComputeTheirCrc`, clause by clause. -/
theorem test_witness_CheckUnitsComputeTheirCrc :
    (∃ (s : State) (u v : Nat), s.powered = true ∧ u < 4 ∧ s.cuObj u Obj.CU_MODE = 3 ∧ bitOf v 0 = true ∧ 1 ≤ bitsOf v 10 8 ∧ bitsOf v 10 8 ≤ 4)
    ∧ (∃ (s : State) (u v : Nat), s.powered = true ∧ u < 4 ∧ s.cuObj u Obj.CU_MODE = 3)
    ∧ (∃ (s : State) (u v : Nat), s.powered = true ∧ u < 4 ∧ s.cuObj u Obj.CU_MODE = 3 ∧ bitOf v 0 = false ∧ 1 ≤ bitsOf v 10 8 ∧ bitsOf v 10 8 ≤ 4)
    ∧ (∃ (s : State) (u v : Nat), s.powered = false)
    ∧ (∃ (s : State) (u v : Nat), (4 ≤ u ∨ s.cuObj u Obj.CU_MODE ≠ 3))
    ∧ (∃ (s : State) (u v : Nat), s.powered = true ∧ u < 4 ∧ v ≤ 3 ∧ cuClassOk (s.cuObj u Obj.CU_BIND) = true ∧ ((v ≠ 1 ∧ v ≠ 2) ∨ (∀ w, w < 4 → w ≠ u →
      s.cuObj w Obj.CU_MODE = v → bindOverlap (s.cuObj w Obj.CU_BIND) (s.cuObj u Obj.CU_BIND) = false)))
    ∧ (∃ (s : State) (u v : Nat), s.powered = true ∧ (4 ≤ u ∨ 3 < v ∨ cuClassOk (s.cuObj u Obj.CU_BIND) = false))
    ∧ (∃ (s : State) (u w v : Nat), s.powered = true ∧ u < 4 ∧ w < 4 ∧ w ≠ u ∧ (v = 1 ∨ v = 2) ∧ cuClassOk (s.cuObj u Obj.CU_BIND) = true ∧ s.cuObj w
      Obj.CU_MODE = v ∧ bindOverlap (s.cuObj w Obj.CU_BIND) (s.cuObj u Obj.CU_BIND) = true) :=
  ⟨⟨{ State.reset with dict := { State.reset.dict with objs := [{ key := 6029313, value := 3, jsn := 6 }] } }, 0, 25601, by decide +kernel⟩,
   ⟨{ State.reset with dict := { State.reset.dict with objs := [{ key := 6030081, value := 3, jsn := 3 }] } }, 3, 0, by decide +kernel⟩,
   ⟨{ State.reset with dict := { State.reset.dict with objs := [{ key := 6029825, value := 3, jsn := 512 }] } }, 2, 256, by decide +kernel⟩,
   ⟨{ State.reset with node := { State.reset.node with nodeState := (NodeState.off) } }, 0, 0, by decide +kernel⟩,
   ⟨State.reset, 0, 0, by decide +kernel⟩,
   ⟨{ State.reset with dict := { State.reset.dict with objs := [{ key := 6029319, value := 6, jsn := 65535 }] } }, 0, 0, by decide +kernel⟩,
   ⟨State.reset, 0, 0, by decide +kernel⟩,
   ⟨(((cell.setObj Obj.CU_BIND 2 0).setObj (Obj.CU_BIND + 256) 2 0).setObj (Obj.CU_MODE + 256) 1 0), 0, 1, 1, by decide +kernel⟩⟩

/-- States and operands that meet the hypotheses of `Obligations.StationPortsDropDuplicatesAndAnswer`, clause by clause. -/
theorem test_witness_StationPortsDropDuplicatesAndAnswer :
    (∃ (s : State) (lan : Nat) (up : Bool), s.tb.refOk = true ∧ s.lanRuns = true ∧ lan < 2 ∧ (s.port lan).txDark = false)
    ∧ (∃ (s : State) (lan : Nat) (up : Bool), (s.lanRuns = false ∨ 2 ≤ lan ∨ (s.port lan).txDark = true ∨ s.tb.refOk = false))
    ∧ (∃ (s : State) (lan mac q id : Nat) (k : EthKind), s.tb.refOk = true ∧ s.lanRuns = true ∧ lan < 2 ∧ s.lanLit lan = true ∧ k.size ≤ 1528 ∧ s.prpSeen
      mac q = true)
    ∧ (∃ (s : State) (lan mac q id size : Nat), s.tb.refOk = true ∧ s.lanRuns = true ∧ lan < 2 ∧ s.lanLit lan = true ∧ size ≤ 1528 ∧ s.prpSeen mac q =
      false)
    ∧ (∃ (s : State) (lan mac size : Nat), s.tb.refOk = true ∧ s.lanRuns = true ∧ lan < 2 ∧ s.lanLit lan = true ∧ size ≤ 1528)
    ∧ (∃ (s : State) (lan mac ip : Nat) (k : EthKind), ip ≠ s.objEff Obj.IPV4_ADDRESS ∧ (k.body = .arp true ip ∨ k.body = .arp false ip ∨ k.body = .icmpEcho
      ip ∨ k.body = .otherIp ∨ k.body = .pause ∨ k.body = .other ∨ (∃ port frag id sdu, k.body = .udp ip port frag id sdu) ∨ (∃ port id sdu, k.body =
      .udp (s.objEff Obj.IPV4_ADDRESS) port true id sdu) ∨ (∃ port frag id sdu, port ≠ 34208 ∧ k.body = .udp (s.objEff Obj.IPV4_ADDRESS) port frag id
      sdu) ∨ (∃ port id, k.body = .dtlsClose ip port id)))
    ∧ (∃ (s : State) (lan mac size : Nat) (m : PtpMaster) (y : PtpSyncMsg) (ps : Int), s.lanRuns = true ∧ lan < 2 ∧ s.lanLit lan = true ∧ size ≤ 1528)
    ∧ (∃ (s : State) (lan mac size r : Nat), s.tb.refOk = true ∧ s.lanRuns = true ∧ lan < 2 ∧ s.lanLit lan = true ∧ size ≤ 1528 ∧ s.ptpRuns = true)
    ∧ (∃ (s : State) (lan mac : Nat) (prp : Option (Nat × Nat)) (k : EthKind), (s.tb.refOk = false ∨ s.lanRuns = false ∨ 2 ≤ lan ∨ s.lanLit lan = false ∨
      1528 < k.size))
    ∧ (∃ (s : State), s.lanRuns = true ∧ s.msPassed s.link.lan.supAt (s.obj Obj.PRP_SUP_INTERVAL) = true)
    ∧ (∃ (s : State), (s.lanRuns = false ∨ s.msPassed s.link.lan.supAt (s.obj Obj.PRP_SUP_INTERVAL) = false)) :=
  ⟨⟨{ State.reset with
        node := { State.reset.node with role := (Role.station) },
        link := { State.reset.link with ports := (vset State.reset.link.ports 1 { txDark := false }) },
        tb := { State.reset.tb with refOk := true },
        sys := { State.reset.sys with wdRun := true } },
      1,
      false, by decide +kernel⟩,
   ⟨State.reset, 0, false, by decide +kernel⟩,
   ⟨{ State.reset with
        node := { State.reset.node with role := (Role.station) },
        link := { State.reset.link with
            ports := (vset State.reset.link.ports 1 { txDark := false }),
            lan := { State.reset.link.lan with up := (vset State.reset.link.lan.up 1 true), seen := [(4, (2, 0))] } },
        tb := { State.reset.tb with refOk := true },
        sys := { State.reset.sys with wdRun := true } },
      1,
      4,
      2,
      0,
      { body := (EthBody.otherIp) }, by decide +kernel⟩,
   ⟨{ State.reset with
        node := { State.reset.node with role := (Role.station) },
        link := { State.reset.link with
            ports := (vset State.reset.link.ports 0 { txDark := false }),
            lan := { State.reset.link.lan with up := (vset State.reset.link.lan.up 0 true) } },
        tb := { State.reset.tb with refOk := true },
        sys := { State.reset.sys with wdRun := true } },
      0,
      0,
      0,
      0,
      0, by decide +kernel⟩,
   ⟨{ State.reset with
        node := { State.reset.node with role := (Role.station) },
        link := { State.reset.link with
            ports := (vset State.reset.link.ports 1 { txDark := false }),
            lan := { State.reset.link.lan with up := (vset State.reset.link.lan.up 1 true) } },
        tb := { State.reset.tb with refOk := true },
        sys := { State.reset.sys with wdRun := true } },
      1,
      0,
      0, by decide +kernel⟩,
   ⟨station, 0, 0, 5, ⟨60, .arp true 5⟩, by decide +kernel, .inl rfl⟩,
   ⟨{ State.reset with
        node := { State.reset.node with role := (Role.station) },
        link := { State.reset.link with
            ports := (vset State.reset.link.ports 0 { txDark := false }),
            lan := { State.reset.link.lan with up := (vset State.reset.link.lan.up 0 true) } },
        tb := { State.reset.tb with refOk := true },
        sys := { State.reset.sys with wdRun := true } },
      0,
      0,
      0,
      {},
      { theta := 3 },
      0, by decide +kernel⟩,
   ⟨{ State.reset with
        node := { State.reset.node with role := (Role.station) },
        link := { State.reset.link with
            ports := (vset State.reset.link.ports 0 { txDark := false }),
            lan := { State.reset.link.lan with up := (vset State.reset.link.lan.up 0 true) } },
        tb := { State.reset.tb with refOk := true },
        sys := { State.reset.sys with wdRun := true } },
      0,
      0,
      0,
      0, by decide +kernel⟩,
   ⟨State.reset, 0, 0, none, { body := (EthBody.arp true 2) }, by decide +kernel⟩,
   ⟨{ State.reset with node := { State.reset.node with role := (Role.station) }, sys := { State.reset.sys with wdRun := true } }, by decide +kernel⟩,
   ⟨State.reset, by decide +kernel⟩⟩

/-- States and operands that meet the hypotheses of `Obligations.GooseAndSampledValues`, clause by clause. -/
theorem test_witness_GooseAndSampledValues :
    (∃ (s : State) (n : Nat), s.gpRuns n = true ∧ (n = 0 ∨ (vget s.link.lan.gp n {}).lastVals ≠ s.gpValues n))
    ∧ (∃ (s : State) (n : Nat), s.gpRuns n = false)
    ∧ (∃ (s : State) (n : Nat), n ≠ 0 ∧ (vget s.link.lan.gp n {}).lastVals = s.gpValues n)
    ∧ (∃ (s : State) (n : Nat), ((vget s.link.lan.gp n {}).lastVals = [] ∨ inWindow (vget s.link.lan.gp n {}).sentTap ((vget s.link.lan.gp n {}).intervalMs
      * tapsMs) s.tb.taps = true))
    ∧ (∃ (s : State) (n : Nat), s.gpRuns n = true ∧ (vget s.link.lan.gp n {}).lastVals ≠ [] ∧ inWindow (vget s.link.lan.gp n {}).sentTap ((vget
      s.link.lan.gp n {}).intervalMs * tapsMs) s.tb.taps = false)
    ∧ (∃ (s : State) (m : Nat) (g : GooseMsg), s.tb.refOk = true ∧ s.powered = true ∧ s.gsMatches m g = true ∧ g.confRev = s.gsObj m Obj.GS_CONF_REV ∧
      s.gsFits m g.members = true)
    ∧ (∃ (s : State) (m : Nat) (g : GooseMsg), s.tb.refOk = true ∧ s.powered = true ∧ s.gsMatches m g = true ∧ g.confRev ≠ s.gsObj m Obj.GS_CONF_REV)
    ∧ (∃ (s : State) (m : Nat) (g : GooseMsg), (s.gsMatches m g = false ∨ s.tb.refOk = false ∨ (g.confRev = s.gsObj m Obj.GS_CONF_REV ∧ s.gsFits m g.members
      = false)))
    ∧ (∃ (s : State), s.powered = true)
    ∧ (∃ (s : State) (m e v : Nat), s.powered = true ∧ m < 32 ∧ (vget s.link.lan.gs m {}).stored = some [v] ∧ (∀ i, i < 32 → i ≠ m → (vget s.link.lan.gs i
      {}).stored = none) ∧ s.gsMap m = [e] ∧ isSpsKey (mapKey e) = false)
    ∧ (∃ (s : State) (m : Nat), m < 32 ∧ s.lanRuns = true ∧ s.objB (Obj.GS_ENABLE + 256 * m) = true ∧ bitOf (vget s.link.lan.gs m {}).status 0 = true ∧
      inWindow (vget s.link.lan.gs m {}).lastTap ((vget s.link.lan.gs m {}).ttlMs * tapsMs) s.tb.taps = false)
    ∧ (∃ (s : State), s.powered = false)
    ∧ (∃ (s : State) (m : Nat), (32 ≤ m ∨ s.lanRuns = false ∨ s.objB (Obj.GS_ENABLE + 256 * m) = false ∨ bitOf (vget s.link.lan.gs m {}).status 0 = false ∨
      inWindow (vget s.link.lan.gs m {}).lastTap ((vget s.link.lan.gs m {}).ttlMs * tapsMs) s.tb.taps = true))
    ∧ (∃ (s : State) (n appid svid mac at' : Nat) (a : SvAsdu), s.tb.refOk = true ∧ s.powered = true ∧ s.svMatches n appid svid mac [a] = true ∧ s.mem.wf =
      true ∧ at' = s.svObj n Obj.RING_ADDR + 80 * (a.smpCnt % 64))
    ∧ (∃ (s : State) (n appid svid mac : Nat) (l : List SvAsdu), s.tb.refOk = true ∧ s.powered = true ∧ s.svMatches n appid svid mac l = true ∧ s.mem.wf =
      true)
    ∧ (∃ (s : State) (n appid svid mac : Nat) (l : List SvAsdu), (s.svMatches n appid svid mac l = false ∨ s.tb.refOk = false))
    ∧ (∃ (s : State) (n : Nat), n < 4 ∧ s.lanRuns = true ∧ s.objB (Obj.SV_ENABLE + 256 * n) = true ∧ (vget s.link.lan.sv n {}).status = 1 ∧ inWindow (vget
      s.link.lan.sv n {}).lastTap (3 * tapsS / max 1 (s.svObj n Obj.SV_SPC * s.svObj n Obj.SV_FNOM)) s.tb.taps = false)
    ∧ (∃ (s : State) (n : Nat), (4 ≤ n ∨ s.lanRuns = false ∨ s.objB (Obj.SV_ENABLE + 256 * n) = false ∨ (vget s.link.lan.sv n {}).status ≠ 1 ∨ inWindow
      (vget s.link.lan.sv n {}).lastTap (3 * tapsS / max 1 (s.svObj n Obj.SV_SPC * s.svObj n Obj.SV_FNOM)) s.tb.taps = true)) :=
  ⟨⟨(station.setObj Obj.GP_ENABLE 1 0), 0, by decide +kernel⟩,
   ⟨State.reset, 0, by decide +kernel⟩,
   ⟨State.reset, 1, by decide +kernel⟩,
   ⟨State.reset, 0, by decide +kernel⟩,
   ⟨((station.setObj (Obj.GP_ENABLE + 1792) 1 0).upLink fun l => { l with lan := { l.lan with gp := vset l.lan.gp 7 { lastVals := [1], intervalMs := 0 } } }),
      7, by decide +kernel⟩,
   ⟨(station.setObj (Obj.GS_ENABLE + 256 * 31) 1 0),
      31,
      { confRev := (station.setObj (Obj.GS_ENABLE + 256 * 31) 1 0).gsObj 31 Obj.GS_CONF_REV }, by decide +kernel⟩,
   ⟨(station.setObj (Obj.GS_ENABLE + 256 * 31) 1 0), 31, { confRev := 77 }, by decide +kernel⟩,
   ⟨State.reset, 0, {}, by decide +kernel⟩,
   ⟨State.reset, by decide +kernel⟩,
   ⟨(((station.setObj (Obj.GS_COUNT + 256 * 31) 1 0).setObj (Obj.GS_TARGET + 256 * 31) (256 * Obj.TARGET + 4) 0).upLink fun l => { l with lan := { l.lan with gs := vset l.lan.gs 31 { stored := some [7] } } }),
      31,
      (256 * Obj.TARGET + 4),
      7, by decide +kernel⟩,
   ⟨{ State.reset with
        node := { State.reset.node with role := (Role.station) },
        dict := { State.reset.dict with objs := [{ key := 4333569, value := 12800000, jsn := 6 }] },
        link := { State.reset.link with lan := { State.reset.link.lan with gs := (vset State.reset.link.lan.gs 0 { status := 1 }) } },
        sys := { State.reset.sys with wdRun := true } },
      0, by decide +kernel⟩,
   ⟨{ State.reset with node := { State.reset.node with nodeState := (NodeState.off) } }, by decide +kernel⟩,
   ⟨State.reset, 0, by decide +kernel⟩,
   ⟨((station.setObj (Obj.SV_ENABLE + 768) 1 0).setObj (Obj.RING_ADDR + 768) 0x20000000 0),
      3,
      ((station.setObj (Obj.SV_ENABLE + 768) 1 0).svObj 3 Obj.SV_APPID),
      ((station.setObj (Obj.SV_ENABLE + 768) 1 0).svObj 3 Obj.SV_ID),
      0,
      0x20000190,
      { smpCnt := 5, values := List.replicate 8 (1, 0) }, by decide +kernel⟩,
   ⟨((station.setObj (Obj.SV_ENABLE + 768) 1 0).setObj (Obj.RING_ADDR + 768) 0x20000000 0),
      3,
      ((station.setObj (Obj.SV_ENABLE + 768) 1 0).svObj 3 Obj.SV_APPID),
      ((station.setObj (Obj.SV_ENABLE + 768) 1 0).svObj 3 Obj.SV_ID),
      0,
      [{ smpCnt := 5, values := List.replicate 8 (1, 0) }], by decide +kernel⟩,
   ⟨State.reset, 0, 0, 0, 0, [], by decide +kernel⟩,
   ⟨{ State.reset with
        node := { State.reset.node with role := (Role.station) },
        dict := { State.reset.dict with objs := [{ key := 4342017, value := 254, jsn := 2 }] },
        link := { State.reset.link with lan := { State.reset.link.lan with sv := (vset State.reset.link.lan.sv 1 { status := 1 }) } },
        tb := { State.reset.tb with taps := 15621046, refOk := true, quantRun := 2, stepNt := 4 },
        evc := { State.reset.evc with ec := (vset State.reset.evc.ec 9 { winEnd := 6 }) },
        mem := { State.reset.mem with cells := [(1, 0#8)], errors := [{ addr := 256, double := false }] },
        jrn := { State.reset.jrn with
            pstate := (PairState.active),
            partner := some { epoch := 7, pstate := (PairState.unhealthy), health := 5, fwDigest := 1, progDigest := 5247489, committed := 65535 },
            fencePending := [(0, 2)] },
        sel := { State.reset.sel with
            decAt := some 384,
            sealEn := true,
            sealSel := 256,
            wc := (vset State.reset.sel.wc 2 { uv := 5 }),
            conns := (vset State.reset.sel.conns 1 { txSeq := 1 }),
            dnmDisAt := some 4341765 },
        recd := { State.reset.recd with noBase := true },
        sys := { State.reset.sys with tj := 4341765, wdRun := true },
        inbox := [{ 
              cls := (FloenClass.telemetry),
              blk := true,
              dir := (FloenDir.localDir),
              dst := 4341761,
              anym := true,
              src := 1,
              hops := 0,
              twin := true,
              eseq := 4095 }],
        pending := [Instr.brownout] },
      1, by decide +kernel⟩,
   ⟨State.reset, 0, by decide +kernel⟩⟩

/-- States and operands that meet the hypotheses of `Obligations.TheClockItsRateAndItsSteps`, clause by clause. -/
theorem test_witness_TheClockItsRateAndItsSteps :
    (∃ (s : State), s.powered = true ∧ s.tb.refOk = true)
    ∧ (∃ (s : State), s.tb.refOk = false)
    ∧ (∃ (s : State), s.powered = true ∧ s.tb.refOk = false)
    ∧ (∃ (s : State), s.tb.refOk = true)
    ∧ (∃ (s : State), s.powered = true ∧ s.tb.refOk = true ∧ s.sel.clkIosc = true ∧ s.tb.refBackTap + tapsMs ≤ s.tb.taps)
    ∧ (∃ (s : State), (s.tb.refOk = false ∨ s.sel.clkIosc = false ∨ s.tb.taps < s.tb.refBackTap + tapsMs))
    ∧ (∃ (s : State) (v : Nat), s.powered = true)
    ∧ (∃ (s : State) (v : Nat) (df : Int), s.powered = true ∧ df = toSigned 96 (vget s.tb.stepReg 0 0 + 2 ^ 32 * vget s.tb.stepReg 1 0 + 2 ^ 64 * (v % 2 ^
      32)) ∧ (s.runLock = true ∨ s.tb.ntF + df < 0 ∨ 2 ^ 48 * 1000000000 * 65536 ≤ s.tb.ntF + df))
    ∧ (∃ (s : State) (v : Nat) (df : Int), s.powered = true ∧ df = toSigned 96 (vget s.tb.stepReg 0 0 + 2 ^ 32 * vget s.tb.stepReg 1 0 + 2 ^ 64 * (v % 2 ^
      32)) ∧ s.runLock = false ∧ 0 ≤ s.tb.ntF + df ∧ s.tb.ntF + df < 2 ^ 48 * 1000000000 * 65536)
    ∧ (∃ (s : State), s.powered = true ∧ s.tb.sstep.armed = true ∧ s.tb.sstep.ts ≤ s.tb.ntNs)
    ∧ (∃ (s : State), (s.tb.sstep.armed = false ∨ s.tb.ntNs < s.tb.sstep.ts))
    ∧ (∃ (s : State) (v : Nat), s.powered = true ∧ bitOf v 0 = false)
    ∧ (∃ (s : State) (v sec ts : Nat), s.powered = true ∧ bitOf v 0 = true ∧ sec % 2 ^ 32 = vget s.tb.sstepReg 0 0 ∧ ts = sec * 1000000000 + vget
      s.tb.sstepReg 1 0 ∧ s.tb.ntF ≤ ((ts + 2 ^ 31 * 1000000000) * 65536 : Nat) ∧ (ts * 65536 : Nat) < s.tb.ntF + 2 ^ 31 * 1000000000 * 65536 ∧
      s.tb.ntNs < ts)
    ∧ (∃ (s : State) (v sec ts : Nat), s.powered = true ∧ bitOf v 0 = true ∧ sec % 2 ^ 32 = vget s.tb.sstepReg 0 0 ∧ ts = sec * 1000000000 + vget
      s.tb.sstepReg 1 0 ∧ s.tb.ntF ≤ ((ts + 2 ^ 31 * 1000000000) * 65536 : Nat) ∧ ts ≤ s.tb.ntNs)
    ∧ (∃ (s : State) (tap : Nat), s.powered = true)
    ∧ (∃ (s : State) (v : Nat), s.powered = true ∧ s.isStation = false)
    ∧ (∃ (s : State) (v : Nat), s.powered = true ∧ s.isStation = true ∧ (999999999 < v / 2 ^ 16 % 2 ^ 32 ∨ 2 ^ 96 ≤ v))
    ∧ (∃ (s : State) (v : Nat), s.powered = true ∧ s.isStation = true ∧ v / 2 ^ 16 % 2 ^ 32 ≤ 999999999 ∧ v < 2 ^ 96 ∧ s.tb.state = .locked ∧ s.tb.ptp.port
      ≠ 0)
    ∧ (∃ (s : State) (v : Nat), s.powered = true ∧ s.isStation = true ∧ v / 2 ^ 16 % 2 ^ 32 ≤ 999999999 ∧ v < 2 ^ 96 ∧ s.tb.state ≠ .locked ∧ s.runLock =
      false)
    ∧ (∃ (s : State) (v : Nat), s.powered = true ∧ s.isStation = true ∧ v / 2 ^ 16 % 2 ^ 32 ≤ 999999999 ∧ v < 2 ^ 96 ∧ (s.tb.state ≠ .locked ∨ s.tb.ptp.port
      = 0) ∧ s.runLock = true ∧ s.tb.ntNs < s.stepInstant)
    ∧ (∃ (s : State), s.isStation = true ∧ s.isActive = true ∧ s.node.nodeState.isJoined = true ∧ 8 ≤ s.tb.quantRun ∧ s.powered = true ∧ s.stepDelta
      s.tb.theta ≠ 0 ∧ s.tb.ntNs < s.stepInstant)
    ∧ (∃ (s : State) (x : Int), 1 ≤ s.quantum)
    ∧ (∃ (s : State), (s.isStation = false ∨ s.isActive = false ∨ s.node.nodeState.isJoined = false ∨ s.tb.quantRun < 8 ∨ s.stepDelta s.tb.theta = 0))
    ∧ (∃ (s : State) (v : Nat), s.powered = false) :=
  ⟨⟨{ State.reset with tb := { State.reset.tb with refOk := true } }, by decide +kernel⟩,
   ⟨State.reset, by decide +kernel⟩,
   ⟨State.reset, by decide +kernel⟩,
   ⟨{ State.reset with tb := { State.reset.tb with refOk := true } }, by decide +kernel⟩,
   ⟨{ State.reset with
        tb := { State.reset.tb with taps := 16773245, refOk := true, utcOffset := 131072 },
        sel := { State.reset.sel with clkIosc := true } }, by decide +kernel⟩,
   ⟨State.reset, by decide +kernel⟩,
   ⟨State.reset, 0, by decide +kernel⟩,
   ⟨{ State.reset with node := { State.reset.node with role := (Role.arm), nodeState := (NodeState.ready) } }, 0, 0, by decide +kernel⟩,
   ⟨State.reset, 0, 0, by decide +kernel⟩,
   ⟨{ State.reset with tb := { State.reset.tb with sstep := { State.reset.tb.sstep with armed := true } } }, by decide +kernel⟩,
   ⟨State.reset, by decide +kernel⟩,
   ⟨State.reset, 0, by decide +kernel⟩,
   ⟨{ State.reset with tb := { State.reset.tb with sstepReg := (vset State.reset.tb.sstepReg 0 6) } }, 1, 6, 6000000000, by decide +kernel⟩,
   ⟨State.reset, 1, 0, 0, by decide +kernel⟩,
   ⟨State.reset, 0, by decide +kernel⟩,
   ⟨State.reset, 0, by decide +kernel⟩,
   ⟨{ State.reset with node := { State.reset.node with role := (Role.station) } }, 65536000000000, by decide +kernel⟩,
   ⟨{ State.reset with
        node := { State.reset.node with role := (Role.station) },
        tb := { State.reset.tb with state := (TimeState.locked), ptp := { State.reset.tb.ptp with port := 1 } } },
      0, by decide +kernel⟩,
   ⟨{ State.reset with node := { State.reset.node with role := (Role.station) } }, 0, by decide +kernel⟩,
   ⟨{ State.reset with node := { State.reset.node with role := (Role.station), nodeState := (NodeState.ready) } }, 0, by decide +kernel⟩,
   ⟨{ State.reset with
        node := { State.reset.node with role := (Role.station), nodeState := (NodeState.ready) },
        tb := { State.reset.tb with theta := (-34359738369), quantRun := 8 },
        jrn := { State.reset.jrn with pstate := (PairState.active) } }, by decide +kernel⟩,
   ⟨{ State.reset with tb := { State.reset.tb with syncQuantum := 1 } }, 0, by decide +kernel⟩,
   ⟨State.reset, by decide +kernel⟩,
   ⟨{ State.reset with node := { State.reset.node with nodeState := (NodeState.off) } }, 0, by decide +kernel⟩⟩

/-- States and operands that meet the hypotheses of `Obligations.TimeIsTakenFromTheRightSource`, clause by clause. -/
theorem test_witness_TimeIsTakenFromTheRightSource :
    (∃ (s : State), (s.node.joined = false ∨ s.tb.state = .free ∨ s.syncDue = false ∨ s.tb.refOk = false))
    ∧ (∃ (s : State), s.tb.refOk = true ∧ (s.isCell = true ∨ s.isStation = true ∨ s.atLevel1 = false) ∧ s.powered = true ∧ s.node.joined = true ∧ s.tb.state
      ≠ .free ∧ s.syncDue = true)
    ∧ (∃ (s : State) (q : Nat), s.tb.refOk = true ∧ s.isCell = false ∧ s.atLevel1 = true ∧ s.powered = true ∧ s.node.joined = true ∧ s.tb.state ≠ .free ∧
      s.syncDue = true ∧ s.otherUp = some q)
    ∧ (∃ (s : State) (p : Nat) (m : SyncMsg), (s.takesSync p m.ret = false ∨ vget s.tb.lastSeq p none = some m.seq ∨ s.tb.refOk = false))
    ∧ (∃ (s : State) (p : Nat) (m : SyncMsg), s.tb.refOk = true ∧ s.powered = true ∧ s.takesSync p m.ret = true ∧ vget s.tb.lastSeq p none ≠ some m.seq ∧
      s.syncExpected p m = false)
    ∧ (∃ (s : State) (p : Nat) (m : SyncMsg), s.tb.refOk = true ∧ s.isCell = true ∧ s.powered = true ∧ s.takesSync p false = true ∧ m.ret = false ∧ m.stepv
      = false ∧ vget s.tb.lastSeq p none ≠ some m.seq ∧ s.syncExpected p m = true ∧ beyond (s.syncTheta p m) (s.obj Obj.STEP_THRESHOLD) = false)
    ∧ (∃ (s : State) (p : Nat) (m : SyncMsg), s.tb.refOk = true ∧ s.powered = true ∧ s.takesSync p m.ret = true ∧ vget s.tb.lastSeq p none ≠ some m.seq ∧
      s.syncExpected p m = true)
    ∧ (∃ (s : State), s.powered = true ∧ 8 ≤ s.tb.lockRun ∧ (s.tb.state = .acquire ∨ s.tb.state = .holdover))
    ∧ (∃ (s : State), (s.tb.lockRun < 8 ∨ s.tb.state = .free ∨ s.tb.state = .locked))
    ∧ (∃ (s : State), s.powered = true ∧ 3 ≤ s.tb.alignRun ∧ (s.isCell = false ∨ s.node.nodeState = .service ∨ s.node.nodeState = .hold))
    ∧ (∃ (s : State), (s.tb.alignRun < 3 ∨ (s.isCell = true ∧ s.node.nodeState ≠ .service ∧ s.node.nodeState ≠ .hold)))
    ∧ (∃ (s : State), s.powered = true ∧ s.followsPtp = false ∧ s.tb.state = .locked ∧ s.tb.lastSyncTap ≤ s.tb.taps ∧ s.tb.lastSyncTap + 3 * s.obj
      Obj.SYNC_INTERVAL * tapsUs ≤ s.tb.taps)
    ∧ (∃ (s : State), (s.tb.state ≠ .locked ∨ s.followsPtp = true ∨ inWindow s.tb.lastSyncTap (3 * s.obj Obj.SYNC_INTERVAL * tapsUs) s.tb.taps = true))
    ∧ (∃ (s : State) (lan : Nat) (m : PtpMaster), s.tb.refOk = true ∧ s.ptpRuns = true ∧ lan < 2 ∧ m.domain = s.objEff Obj.DOMAIN)
    ∧ (∃ (s : State) (lan : Nat) (m : PtpMaster), (m.domain ≠ s.objEff Obj.DOMAIN ∨ s.tb.refOk = false))
    ∧ (∃ (s : State) (lan : Nat), inWindow (s.tb.ptp.annAt lan) (3 * tapsS) s.tb.taps = true)
    ∧ (∃ (s : State), s.ptpRuns = true ∧ s.tb.ptp.masterB = none ∧ inWindow (s.tb.ptp.annAt 0) (3 * tapsS) s.tb.taps = false)
    ∧ (∃ (s : State), s.ptpRuns = true ∧ s.tb.ptp.masterA = none ∧ inWindow (s.tb.ptp.annAt 1) (3 * tapsS) s.tb.taps = false)
    ∧ (∃ (s : State) (lan : Nat) (m : PtpMaster), s.ptpRuns = true ∧ lan < 2 ∧ inWindow (s.tb.ptp.annAt lan) (3 * tapsS) s.tb.taps = false ∧ (if lan = 0
      then s.tb.ptp.masterB else s.tb.ptp.masterA) = some m)
    ∧ (∃ (s : State) (lan : Nat) (m : PtpSyncMsg), s.tb.refOk = true ∧ s.ptpRuns = true ∧ s.followsPtp = false ∧ lan < 2 ∧ m.domain = s.objEff Obj.DOMAIN ∧
      s.tb.ptp.follows lan m.sender = true)
    ∧ (∃ (s : State) (lan : Nat) (m : PtpSyncMsg), s.tb.refOk = true ∧ s.ptpRuns = true ∧ s.followsPtp = true ∧ lan < 2 ∧ m.domain = s.objEff Obj.DOMAIN ∧
      s.tb.ptp.follows lan m.sender = true ∧ beyond m.theta (s.obj Obj.STEP_THRESHOLD) = false)
    ∧ (∃ (s : State) (lan : Nat) (m : PtpSyncMsg), (m.domain ≠ s.objEff Obj.DOMAIN ∨ s.tb.ptp.follows lan m.sender = false))
    ∧ (∃ (s : State) (lan : Nat) (x : PtpSyncMsg) (m : PtpMaster), (s.ptpRuns = false ∨ 2 ≤ lan))
    ∧ (∃ (s : State) (ps : Int), s.tb.refOk = true ∧ s.ptpRuns = true)
    ∧ (∃ (s : State) (lan : Nat) (ps : Int), (2 ≤ lan ∨ s.ptpRuns = false ∨ s.tb.refOk = false))
    ∧ (∃ (s : State), s.powered = false) :=
  ⟨⟨State.reset, by decide +kernel⟩,
   ⟨{ State.reset with
        node := { State.reset.node with joined := true },
        tb := { State.reset.tb with refOk := true, state := (TimeState.holdover), syncAt := some 1 } }, by decide +kernel⟩,
   ⟨{ State.reset with
        node := { State.reset.node with role := (Role.relay), place := { State.reset.node.place with level := 1 }, joined := true },
        tb := { State.reset.tb with refOk := true, state := (TimeState.holdover), syncAt := some 1 } },
      1, by decide +kernel⟩,
   ⟨State.reset, 0, {}, by decide +kernel⟩,
   ⟨{ State.reset with
        node := { State.reset.node with primary := (Parent.b) },
        link := { State.reset.link with ports := (vset State.reset.link.ports 1 { state := (LinkState.up) }) },
        tb := { State.reset.tb with refOk := true, prevTx := (vset State.reset.tb.prevTx 1 (some 0)) } },
      1,
      {}, by decide +kernel⟩,
   ⟨{ State.reset with
        link := { State.reset.link with ports := (vset State.reset.link.ports 0 { state := (LinkState.up) }) },
        tb := { State.reset.tb with refOk := true } },
      0,
      {}, by decide +kernel⟩,
   ⟨{ State.reset with
        node := { State.reset.node with role := (Role.station) },
        link := { State.reset.link with ports := (vset State.reset.link.ports 4 { state := (LinkState.up) }) },
        tb := { State.reset.tb with refOk := true },
        jrn := { State.reset.jrn with pstate := (PairState.yielded) } },
      4,
      { ret := true }, by decide +kernel⟩,
   ⟨{ State.reset with tb := { State.reset.tb with state := (TimeState.holdover), lockRun := 8 } }, by decide +kernel⟩,
   ⟨State.reset, by decide +kernel⟩,
   ⟨{ State.reset with node := { State.reset.node with role := (Role.arm) }, tb := { State.reset.tb with alignRun := 3 } }, by decide +kernel⟩,
   ⟨State.reset, by decide +kernel⟩,
   ⟨{ State.reset with
        tb := { State.reset.tb with taps := 16773247, refOk := true, state := (TimeState.locked) },
        jrn := { State.reset.jrn with
            pstate := (PairState.resync),
            entriesIn := [{ 
                  lane := 0,
                  jsn := 38400000000,
                  pjsn := 4456706,
                  applyAt := 57,
                  target := 2,
                  anym := true,
                  etype := (EType.switch),
                  index := 44,
                  sub := 1,
                  role := (SessRole.engineer),
                  len := 2147483647,
                  value := 7,
                  swEpoch := 3,
                  swAddr := 2147483649,
                  swCause := 2 }] },
        sel := { State.reset.sel with f4Req := true } }, by decide +kernel⟩,
   ⟨State.reset, by decide +kernel⟩,
   ⟨{ State.reset with
        node := { State.reset.node with role := (Role.station) },
        tb := { State.reset.tb with refOk := true },
        sys := { State.reset.sys with wdRun := true } },
      0,
      {}, by decide +kernel⟩,
   ⟨State.reset, 0, {}, by decide +kernel⟩,
   ⟨State.reset, 0, by decide +kernel⟩,
   ⟨{ State.reset with
        node := { State.reset.node with role := (Role.station) },
        tb := { State.reset.tb with ptp := { State.reset.tb.ptp with annA := 1 } },
        sys := { State.reset.sys with wdRun := true } }, by decide +kernel⟩,
   ⟨{ State.reset with
        node := { State.reset.node with role := (Role.station) },
        tb := { State.reset.tb with ptp := { State.reset.tb.ptp with annB := 1 } },
        sys := { State.reset.sys with wdRun := true } }, by decide +kernel⟩,
   ⟨{ State.reset with
        node := { State.reset.node with role := (Role.station) },
        tb := { State.reset.tb with ptp := { State.reset.tb.ptp with masterB := some {}, annA := 1 } },
        sys := { State.reset.sys with wdRun := true } },
      0,
      {}, by decide +kernel⟩,
   ⟨{ State.reset with
        node := { State.reset.node with role := (Role.station) },
        tb := { State.reset.tb with refOk := true, ptp := { State.reset.tb.ptp with masterA := some { identity := 7 }, port := 1 } },
        jrn := { State.reset.jrn with pstate := (PairState.resync) },
        sys := { State.reset.sys with wdRun := true } },
      0,
      { sender := 7, theta := (-16383) }, by decide +kernel⟩,
   ⟨{ State.reset with
        node := { State.reset.node with role := (Role.station) },
        tb := { State.reset.tb with refOk := true, ptp := { State.reset.tb.ptp with masterA := some { identity := 1 }, port := 1 } },
        sys := { State.reset.sys with wdRun := true } },
      0,
      { sender := 1, theta := 38400 }, by decide +kernel⟩,
   ⟨State.reset, 0, { theta := (-255) }, by decide +kernel⟩,
   ⟨State.reset, 0, { theta := (-255) }, {}, by decide +kernel⟩,
   ⟨{ State.reset with
        node := { State.reset.node with role := (Role.station) },
        tb := { State.reset.tb with refOk := true },
        sys := { State.reset.sys with wdRun := true } },
      0, by decide +kernel⟩,
   ⟨State.reset, 0, 0, by decide +kernel⟩,
   ⟨{ State.reset with node := { State.reset.node with nodeState := (NodeState.off) } }, by decide +kernel⟩⟩

/-- States and operands that meet the hypotheses of `Obligations.PulsesAndCapturesOfTime`, clause by clause. -/
theorem test_witness_PulsesAndCapturesOfTime :
    (∃ (s : State) (n : Nat) (g : Int), s.tb.refOk = true ∧ s.powered = true ∧ s.tpoRuns n = true ∧ s.tpoDue n = some g ∧ (vget s.tb.tpo n {}).active =
      false)
    ∧ (∃ (s : State) (n : Nat), (s.tpoRuns n = false ∨ s.tpoDue n = none ∨ (vget s.tb.tpo n {}).active = true ∨ s.tb.refOk = false ∨ s.powered = false))
    ∧ (∃ (s : State) (n : Nat), s.tpObj n Obj.TPO_MODE = 1 ∧ (vget s.tb.tpo n {}).fired = true)
    ∧ (∃ (s : State) (n : Nat), s.tpObj n Obj.TPO_MODE = 1 ∧ (vget s.tb.tpo n {}).fired = false ∧ nt96F (s.tpObj n Obj.TPO_START) ≤ s.tb.ntF ∧ s.tb.ntFAt
      (s.tb.taps - 128) < nt96F (s.tpObj n Obj.TPO_START) ∧ s.tb.stepNt ≤ nt96F (s.tpObj n Obj.TPO_START))
    ∧ (∃ (s : State) (n : Nat), s.tb.refOk = true ∧ s.powered = true ∧ n < 4 ∧ (vget s.tb.tpo n {}).active = true ∧ (vget s.tb.tpo n {}).startTap + (s.tpObj
      n Obj.TPO_WIDTH * 64 / 5 : Nat) ≤ (s.tb.taps : Int))
    ∧ (∃ (s : State) (n : Nat), (4 ≤ n ∨ (vget s.tb.tpo n {}).active = false ∨ s.tb.refOk = false ∨ s.powered = false ∨ (s.tb.taps : Int) < (vget s.tb.tpo n
      {}).startTap + (s.tpObj n Obj.TPO_WIDTH * 64 / 5 : Nat)))
    ∧ (∃ (s : State) (n : Nat) (f : Bool), s.tb.refOk = true ∧ s.powered = true ∧ n < 4 ∧ s.sys.vddioB = true ∧ s.tsiTakes n f s.tapNow.1 = true ∧ (vget
      s.tb.tsi n {}).fifo.length < 4)
    ∧ (∃ (s : State) (n : Nat) (f : Bool), s.tb.refOk = true ∧ s.powered = true ∧ n < 4 ∧ s.sys.vddioB = true ∧ s.tsiTakes n f s.tapNow.1 = true ∧ 4 ≤ (vget
      s.tb.tsi n {}).fifo.length)
    ∧ (∃ (s : State) (n : Nat) (f : Bool), s.tb.refOk = true ∧ s.powered = true ∧ n < 4 ∧ s.sys.vddioB = true ∧ s.tsiTakes n f s.tapNow.1 = false)
    ∧ (∃ (s : State) (n : Nat) (f : Bool), s.tb.refOk = true ∧ s.powered = true ∧ s.sys.vddioB = true ∧ 4 ≤ n)
    ∧ (∃ (s : State) (n : Nat), (s.powered = false ∨ 4 ≤ n))
    ∧ (∃ (s : State) (n : Nat) (f : Bool), (s.sys.vddioB = false ∨ s.tb.refOk = false ∨ s.powered = false))
    ∧ (∃ (s : State) (n : Nat), s.powered = true ∧ n < 4) :=
  ⟨⟨{ State.reset with
        dict := { State.reset.dict with objs := [{ key := 4464641, value := 1, jsn := 8 }] },
        tb := { State.reset.tb with refOk := true, state := (TimeState.locked) } },
      0,
      0, by decide +kernel⟩,
   ⟨State.reset, 0, by decide +kernel⟩,
   ⟨{ State.reset with
        dict := { State.reset.dict with objs := [{ key := 4464641, value := 1, jsn := 4 }] },
        tb := { State.reset.tb with tpo := (vset State.reset.tb.tpo 0 { fired := true }) } },
      0, by decide +kernel⟩,
   ⟨{ State.reset with
        dict := { State.reset.dict with objs := [{ key := 4464641, value := 1, jsn := 256 }] },
        tb := { State.reset.tb with
            taps := 1,
            offset := (-1),
            rate := 5247745,
            refOk := true,
            latTraw := 40,
            lastSeq := (vset State.reset.tb.lastSeq 1 (some 4)),
            syncAt := some 1,
            stepNt := (-16383),
            nextStepId := 2,
            tpo := (vset (vset (vset State.reset.tb.tpo 0 { startTap := 65537 }) 1 { fired := true }) 3 { active := true, fired := true }),
            utcOffset := 131071 },
        mem := { State.reset.mem with cells := [(3, 7#8)] },
        jrn := { State.reset.jrn with pstate := (PairState.active) },
        sel := { State.reset.sel with wcOk := 2147483649, degraded := true, sealSel := 1023, sfAt := 4398046511105 },
        bob := { State.reset.bob with inner0 := true },
        sys := { State.reset.sys with
            peerDev := (vset State.reset.sys.peerDev 1 (some { parses := true, notBefore := 2, notAfter := 6, pubKey := 5120 })),
            vddioB := false } },
      0, by decide +kernel⟩,
   ⟨{ State.reset with
        tb := { State.reset.tb with
            taps := 13455,
            refOk := true,
            sstepReg := (vset State.reset.tb.sstepReg 3 5),
            prevTx := (vset State.reset.tb.prevTx 1 (some 0)),
            ann := { State.reset.tb.ann with stepAt := 6 },
            nextStepId := 2,
            tpo := (vset (vset (vset State.reset.tb.tpo 0 { active := true }) 1 { active := true, startTap := 5247745 }) 2 { active := true }) },
        hdl := { State.reset.hdl with arrivals := [(4, 255)], cancelRace := 7, memUeAddr := 4 },
        evc := { State.reset.evc with evt := 5#32, inten := 5#32 },
        jrn := { State.reset.jrn with dropped := true },
        sel := { State.reset.sel with discrepant := true, pulseAt := (vset State.reset.sel.pulseAt 0 4), sealEn := true, sealSel := 4 },
        recd := { State.reset.recd with nextRsn := 8 },
        bob := { State.reset.bob with scrubAt := 1000000 },
        sys := { State.reset.sys with
            vcoreNow := 8,
            pfailLow := true,
            imageStatus := 1,
            peerDev := (vset State.reset.sys.peerDev 0
                (some { keyIsDevice := true, chainOk := true, notBefore := 16383, notAfter := 4, pubKey := 64 })) },
        inbox := [{ cls := (FloenClass.time), blk := true, dir := (FloenDir.down), dst := 59, src := 1, hops := 6, hseq := 7, eseq := 1 }] },
      2, by decide +kernel⟩,
   ⟨State.reset, 0, by decide +kernel⟩,
   ⟨{ State.reset with
        dict := { State.reset.dict with objs := [{ key := 4468737, value := 1, jsn := 5 }] },
        tb := { State.reset.tb with refOk := true } },
      0,
      false, by decide +kernel⟩,
   ⟨((cell.setObj (Obj.TSI_EDGE + 768) 3 0).upTb fun t => { t with tsi := vset t.tsi 3 { fifo := List.replicate 4 {} } }),
      3,
      false, by decide +kernel⟩,
   ⟨{ State.reset with tb := { State.reset.tb with refOk := true } }, 0, false, by decide +kernel⟩,
   ⟨{ State.reset with tb := { State.reset.tb with refOk := true } }, 4, false, by decide +kernel⟩,
   ⟨State.reset, 4, by decide +kernel⟩,
   ⟨State.reset, 0, false, by decide +kernel⟩,
   ⟨State.reset, 0, by decide +kernel⟩⟩

/-- States and operands that meet the hypotheses of `Obligations.HeddleDispatchesPostsAndCompletes`, clause by clause. -/
theorem test_witness_HeddleDispatchesPostsAndCompletes :
    (∃ (s : State) (c : Nat) (r : ReadyEntry), s.pick c = some r)
    ∧ (∃ (s : State) (c : Nat) (r x : ReadyEntry) (g : GOp), s.pick c = some r ∧ x ∈ s.hdl.ready ∧ s.gop x.op = some g ∧ bitOf g.affinity c = true ∧
      s.opRunning x.op = false ∧ s.opHeld g = false)
    ∧ (∃ (s : State) (c : Nat) (r : ReadyEntry) (g : GOp), s.powered = true ∧ s.hdl.run = true ∧ c ≤ 7 ∧ (s.hcore c).waiting = true ∧ (s.hcore c).opened =
      none ∧ s.lowerDue c = false ∧ s.pick c = some r ∧ s.gop r.op = some g)
    ∧ (∃ (s : State) (c : Nat), (s.hdl.run = false ∨ 7 < c ∨ (s.hcore c).waiting = false ∨ (s.hcore c).opened.isSome = true ∨ s.pick c = none ∨ (∃ i, i < c
      ∧ (s.hcore i).waiting = true ∧ (s.hcore i).opened = none ∧ (s.pick i).isSome = true)))
    ∧ (∃ (s : State) (c out n : Nat) (g : GOp), s.powered = true ∧ c ≤ 7 ∧ (s.hcore c).opened = some n ∧ s.gop n = some g ∧ out % 8 < g.nout)
    ∧ (∃ (s : State) (c out n : Nat) (g : GOp), s.powered = true ∧ (s.hcore c).opened = some n ∧ s.gop n = some g ∧ g.nout ≤ out % 8)
    ∧ (∃ (s : State) (c out : Nat), (s.hcore c).opened = none)
    ∧ (∃ (s : State) (c n v : Nat) (g : GOp), s.powered = true ∧ c ≤ 7 ∧ (s.hcore c).opened = some n ∧ s.gop n = some g ∧ (g.budget = 0 ∨ s.tb.taps <
      (s.hcore c).openAt + g.budget * tapsUs) ∧ v % 2 = 1)
    ∧ (∃ (s : State) (c n v : Nat) (g : GOp), s.powered = true ∧ c ≤ 7 ∧ (s.hcore c).opened = some n ∧ s.gop n = some g ∧ g.budget ≠ 0 ∧ (s.hcore c).openAt
      + g.budget * tapsUs ≤ s.tb.taps ∧ v % 2 = 1)
    ∧ (∃ (s : State) (c v : Nat), (7 < c ∨ v % 2 = 0))
    ∧ (∃ (s : State) (c : Nat), 7 < c)
    ∧ (∃ (s : State) (c n : Nat) (g : GOp), s.powered = true ∧ c ≤ 7 ∧ (s.hcore c).opened = some n ∧ s.gop n = some g ∧ g.budget ≠ 0 ∧ (s.hcore c).openAt +
      g.budget * tapsUs ≤ s.tb.taps)
    ∧ (∃ (s : State) (c a : Nat), s.powered = true)
    ∧ (∃ (s : State) (c : Nat), s.powered = true ∧ c ≤ 7 ∧ (s.hcore c).opened = none)
    ∧ (∃ (s : State) (c n : Nat) (g : GOp), s.powered = true ∧ c ≤ 7 ∧ (s.hcore c).opened = some n ∧ s.gop n = some g ∧ (g.budget = 0 ∨ s.tb.taps < (s.hcore
      c).openAt + g.budget * tapsUs))
    ∧ (∃ (s : State) (c n : Nat) (g : GOp), s.powered = true ∧ c ≤ 7 ∧ (s.hcore c).opened = some n ∧ s.gop n = some g ∧ (s.opRun n).faults ≤ 1 ∧ n <
      s.hdl.ops.length)
    ∧ (∃ (s : State) (c n : Nat) (g : GOp), s.powered = true ∧ c ≤ 7 ∧ (s.hcore c).opened = some n ∧ s.gop n = some g ∧ 2 ≤ (s.opRun n).faults ∧ n <
      s.hdl.ops.length)
    ∧ (∃ (s : State) (c n : Nat) (g : GOp), s.powered = true ∧ c ≤ 7 ∧ (s.hcore c).opened = some n ∧ s.gop n = some g ∧ g.budget ≠ 0 ∧ (s.hcore c).openAt +
      g.budget * tapsUs ≤ s.tb.taps)
    ∧ (∃ (s : State) (c n : Nat) (g : GOp), (s.hcore c).opened = some n ∧ s.gop n = some g ∧ (g.budget = 0 ∨ s.tb.taps < (s.hcore c).openAt + g.budget *
      tapsUs))
    ∧ (∃ (s : State) (c op : Nat) (g : GOp), s.powered = true ∧ c ≤ 7 ∧ s.gop (op % 4096) = some g)
    ∧ (∃ (s : State) (c op : Nat), (7 < c ∨ s.gop (op % 4096) = none))
    ∧ (∃ (s : State) (code a : Nat), s.powered = true ∧ s.lineUp code = true ∧ s.arcsOf (fun p => p == .event code) = [a] ∧ s.eventArcFree a = true ∧ a <
      s.hdl.arcs.length ∧ (∀ arc, s.graph.arcs[a]? = some arc → 1 ≤ arc.depth ∧ s.cancelledNow arc.consumer = none))
    ∧ (∃ (s : State) (code : Nat), (s.lineUp code = false ∨ (∀ a ∈ s.arcsOf (fun p => p == .event code), s.eventArcFree a = false)))
    ∧ (∃ (s : State) (c x : Nat) (u : Option Nat), s.powered = false) :=
  ⟨⟨graphCell, 0, ⟨0, 0⟩, by decide +kernel⟩,
   ⟨graphCell,
      0,
      ⟨0, 0⟩,
      ⟨0, 0⟩,
      { entry := 0, prio := 0, affinity := 1, inArcs := [0], nout := 0, budget := 0, fclass := .f1, sys := false, objects := [] }, by decide +kernel⟩,
   ⟨graphCell,
      0,
      ⟨0, 0⟩,
      { entry := 0, prio := 0, affinity := 1, inArcs := [0], nout := 0, budget := 0, fclass := .f1, sys := false, objects := [] }, by decide +kernel⟩,
   ⟨State.reset, 0, by decide +kernel⟩,
   ⟨{ State.reset with
        hdl := { State.reset.hdl with
            banks := (vset State.reset.hdl.banks 0
                { 
                  ops := [{ 
                        entry := 6,
                        prio := 512,
                        affinity := 5,
                        inArcs := [0, 1, 5],
                        nout := 65535,
                        budget := 8,
                        fclass := (FClass.f1),
                        objects := [8],
                        sys := false }] }),
            cores := (vset State.reset.hdl.cores 4 { opened := some 0 }) } },
      4,
      0,
      0,
      { 
        entry := 6,
        prio := 512,
        affinity := 5,
        inArcs := [0, 1, 5],
        nout := 65535,
        budget := 8,
        fclass := (FClass.f1),
        objects := [8],
        sys := false }, by decide +kernel⟩,
   ⟨{ State.reset with
        hdl := { State.reset.hdl with
            banks := (vset State.reset.hdl.banks 0
                { 
                  ops := [{ 
                        entry := 8,
                        prio := 8,
                        affinity := 0,
                        inArcs := [3, 1, 5],
                        nout := 50,
                        budget := 2,
                        fclass := (FClass.f2),
                        objects := [8],
                        sys := false },
                     { 
                        entry := 0,
                        prio := 8,
                        affinity := 65535,
                        inArcs := [7],
                        nout := 0,
                        budget := 8,
                        fclass := (FClass.f1),
                        objects := [],
                        sys := false }] }),
            cores := (vset State.reset.hdl.cores 4 { opened := some 1 }) } },
      4,
      0,
      1,
      { entry := 0, prio := 8, affinity := 65535, inArcs := [7], nout := 0, budget := 8, fclass := (FClass.f1), objects := [], sys := false }, by decide +kernel⟩,
   ⟨State.reset, 0, 0, by decide +kernel⟩,
   ⟨{ State.reset with
        hdl := { State.reset.hdl with
            banks := (vset State.reset.hdl.banks 0
                { 
                  ops := [{ 
                        entry := 2,
                        prio := 15,
                        affinity := 59,
                        inArcs := [1],
                        nout := 65,
                        budget := 3,
                        fclass := (FClass.f4),
                        objects := [5],
                        sys := false }] }),
            cores := (vset State.reset.hdl.cores 7 { opened := some 0 }) } },
      7,
      0,
      1,
      { entry := 2, prio := 15, affinity := 59, inArcs := [1], nout := 65, budget := 3, fclass := (FClass.f4), objects := [5], sys := false }, by decide +kernel⟩,
   ⟨{ State.reset with
        tb := { State.reset.tb with taps := 38400 },
        hdl := { State.reset.hdl with
            banks := (vset State.reset.hdl.banks 0
                { 
                  ops := [{ 
                        entry := 5,
                        prio := 2,
                        affinity := 7,
                        inArcs := [],
                        nout := 5,
                        budget := 3,
                        fclass := (FClass.f1),
                        objects := [],
                        sys := false }] }),
            cores := (vset State.reset.hdl.cores 7 { opened := some 0 }) } },
      7,
      0,
      1,
      { entry := 5, prio := 2, affinity := 7, inArcs := [], nout := 5, budget := 3, fclass := (FClass.f1), objects := [], sys := false }, by decide +kernel⟩,
   ⟨State.reset, 0, 0, by decide +kernel⟩,
   ⟨State.reset, 8, by decide +kernel⟩,
   ⟨{ State.reset with
        tb := { State.reset.tb with taps := 12800 },
        hdl := { State.reset.hdl with
            banks := (vset State.reset.hdl.banks 0
                { 
                  ops := [{ 
                        entry := 8,
                        prio := 8,
                        affinity := 268435455,
                        inArcs := [5767170, 51200000000],
                        nout := 8,
                        budget := 1000000,
                        fclass := (FClass.f0),
                        objects := [],
                        sys := false },
                     { 
                        entry := 0,
                        prio := 7,
                        affinity := 5,
                        inArcs := [],
                        nout := 16,
                        budget := 0,
                        fclass := (FClass.f3),
                        objects := [6],
                        sys := false },
                     { 
                        entry := 1,
                        prio := 256,
                        affinity := 8,
                        inArcs := [],
                        nout := 5,
                        budget := 4,
                        fclass := (FClass.f2),
                        objects := [4],
                        sys := true },
                     { 
                        entry := 4,
                        prio := 32,
                        affinity := 2,
                        inArcs := [],
                        nout := 2,
                        budget := 2199023255550,
                        fclass := (FClass.f4),
                        objects := [],
                        sys := false },
                     { 
                        entry := 51200000,
                        prio := 1,
                        affinity := 12800,
                        inArcs := [],
                        nout := 8,
                        budget := 1,
                        fclass := (FClass.f0),
                        objects := [],
                        sys := false }] }),
            cores := (vset State.reset.hdl.cores 1 { opened := some 4 }) } },
      1,
      4,
      { entry := 51200000, prio := 1, affinity := 12800, inArcs := [], nout := 8, budget := 1, fclass := (FClass.f0), objects := [], sys := false }, by decide +kernel⟩,
   ⟨State.reset, 0, 0, by decide +kernel⟩,
   ⟨State.reset, 0, by decide +kernel⟩,
   ⟨{ State.reset with
        hdl := { State.reset.hdl with
            banks := (vset State.reset.hdl.banks 0
                { 
                  ops := [{ 
                        entry := 0,
                        prio := 3,
                        affinity := 12799,
                        inArcs := [2, 3, 3],
                        nout := 1048575,
                        budget := 262144000000000,
                        fclass := (FClass.f2),
                        objects := [],
                        sys := false }] }),
            cores := (vset State.reset.hdl.cores 7 { opened := some 0 }) } },
      7,
      0,
      { 
        entry := 0,
        prio := 3,
        affinity := 12799,
        inArcs := [2, 3, 3],
        nout := 1048575,
        budget := 262144000000000,
        fclass := (FClass.f2),
        objects := [],
        sys := false }, by decide +kernel⟩,
   ⟨{ State.reset with
        hdl := { State.reset.hdl with
            banks := (vset State.reset.hdl.banks 0
                { 
                  ops := [{ 
                        entry := 32,
                        prio := 51,
                        affinity := 0,
                        inArcs := [],
                        nout := 3,
                        budget := 3,
                        fclass := (FClass.f4),
                        objects := [1, 7, 32],
                        sys := true }] }),
            ops := [{}],
            cores := (vset State.reset.hdl.cores 6 { opened := some 0 }) } },
      6,
      0,
      { entry := 32, prio := 51, affinity := 0, inArcs := [], nout := 3, budget := 3, fclass := (FClass.f4), objects := [1, 7, 32], sys := true }, by decide +kernel⟩,
   ⟨{ State.reset with
        hdl := { State.reset.hdl with
            bank := 1,
            banks := (vset State.reset.hdl.banks 1
                { 
                  ops := [{ 
                        entry := 65,
                        prio := 0,
                        affinity := 8,
                        inArcs := [65534],
                        nout := 17,
                        budget := 8,
                        fclass := (FClass.f0),
                        objects := [6, 8],
                        sys := true },
                     { 
                        entry := 15,
                        prio := 2,
                        affinity := 8,
                        inArcs := [],
                        nout := 8,
                        budget := 7,
                        fclass := (FClass.f0),
                        objects := [4096, 2, 6],
                        sys := true },
                     { 
                        entry := 7,
                        prio := 65534,
                        affinity := 4,
                        inArcs := [],
                        nout := 2,
                        budget := 0,
                        fclass := (FClass.f0),
                        objects := [],
                        sys := true },
                     { 
                        entry := 129,
                        prio := 1024,
                        affinity := 8,
                        inArcs := [67, 3, 4096],
                        nout := 0,
                        budget := 1,
                        fclass := (FClass.f2),
                        objects := [1024, 6],
                        sys := false },
                     { 
                        entry := 1024,
                        prio := 7,
                        affinity := 6,
                        inArcs := [0, 8, 2],
                        nout := 8,
                        budget := 7,
                        fclass := (FClass.f0),
                        objects := [],
                        sys := true }] }),
            ops := [{}, {}, {}, {}, { faults := 2 }],
            cores := (vset State.reset.hdl.cores 5 { opened := some 4 }) } },
      5,
      4,
      { entry := 1024, prio := 7, affinity := 6, inArcs := [0, 8, 2], nout := 8, budget := 7, fclass := (FClass.f0), objects := [], sys := true }, by decide +kernel⟩,
   ⟨{ State.reset with
        tb := { State.reset.tb with taps := 12800 },
        hdl := { State.reset.hdl with
            banks := (vset State.reset.hdl.banks 0
                { 
                  ops := [{ 
                        entry := 8,
                        prio := 8,
                        affinity := 268435455,
                        inArcs := [5248001, 51200000000],
                        nout := 8,
                        budget := 1000000,
                        fclass := (FClass.f0),
                        objects := [],
                        sys := false },
                     { 
                        entry := 0,
                        prio := 7,
                        affinity := 5,
                        inArcs := [],
                        nout := 16,
                        budget := 0,
                        fclass := (FClass.f3),
                        objects := [6],
                        sys := false },
                     { 
                        entry := 1,
                        prio := 256,
                        affinity := 8,
                        inArcs := [],
                        nout := 5,
                        budget := 4,
                        fclass := (FClass.f2),
                        objects := [4],
                        sys := true },
                     { 
                        entry := 4,
                        prio := 32,
                        affinity := 2,
                        inArcs := [],
                        nout := 2,
                        budget := 2199023255550,
                        fclass := (FClass.f4),
                        objects := [],
                        sys := false },
                     { 
                        entry := 51200000,
                        prio := 1,
                        affinity := 12800,
                        inArcs := [],
                        nout := 8,
                        budget := 1,
                        fclass := (FClass.f0),
                        objects := [],
                        sys := false }] }),
            cores := (vset State.reset.hdl.cores 1 { opened := some 4 }) } },
      1,
      4,
      { entry := 51200000, prio := 1, affinity := 12800, inArcs := [], nout := 8, budget := 1, fclass := (FClass.f0), objects := [], sys := false }, by decide +kernel⟩,
   ⟨{ State.reset with
        hdl := { State.reset.hdl with
            banks := (vset State.reset.hdl.banks 0
                { 
                  ops := [{ 
                        entry := 6,
                        prio := 37,
                        affinity := 28,
                        inArcs := [],
                        nout := 4,
                        budget := 256,
                        fclass := (FClass.f0),
                        objects := [],
                        sys := true }] }),
            cores := (vset State.reset.hdl.cores 4 { opened := some 0 }) } },
      4,
      0,
      { entry := 6, prio := 37, affinity := 28, inArcs := [], nout := 4, budget := 256, fclass := (FClass.f0), objects := [], sys := true }, by decide +kernel⟩,
   ⟨{ State.reset with
        hdl := { State.reset.hdl with
            banks := (vset State.reset.hdl.banks 0
                { 
                  ops := [{ 
                        entry := 8,
                        prio := 34,
                        affinity := 18,
                        inArcs := [1],
                        nout := 4096,
                        budget := 57,
                        fclass := (FClass.f4),
                        objects := [8, 1000, 7],
                        sys := false }] }) } },
      0,
      0,
      { 
        entry := 8,
        prio := 34,
        affinity := 18,
        inArcs := [1],
        nout := 4096,
        budget := 57,
        fclass := (FClass.f4),
        objects := [8, 1000, 7],
        sys := false }, by decide +kernel⟩,
   ⟨State.reset, 0, 0, by decide +kernel⟩,
   ⟨graphCell, 7, 0, by decide +kernel, by decide +kernel, by decide +kernel, by decide +kernel, by decide +kernel, fun arc h => by cases h; decide +kernel⟩,
   ⟨State.reset, 0, by decide +kernel⟩,
   ⟨{ State.reset with node := { State.reset.node with nodeState := (NodeState.off) } }, 0, 0, none, by decide +kernel⟩⟩

/-- States and operands that meet the hypotheses of `Obligations.DelayListsAndGraphActivation`, clause by clause. -/
theorem test_witness_DelayListsAndGraphActivation :
    (∃ (s : State) (c ticks arc l : Nat) (x : GArc), s.powered = true ∧ c ≤ 7 ∧ arc = (s.hcore c).dlya % 2 ^ 14 ∧ l = (s.hcore c).dlya / 2 ^ 16 % 4 ∧
      s.graph.arcs[arc]? = some x ∧ x.producer = .delay ∧ (vget s.hdl.delay l {}).fill < 1024)
    ∧ (∃ (s : State) (c ticks l : Nat), s.powered = true ∧ c ≤ 7 ∧ l = (s.hcore c).dlya / 2 ^ 16 % 4 ∧ (1024 ≤ (vget s.hdl.delay l {}).fill ∨
      s.graph.arcs[(s.hcore c).dlya % 2 ^ 14]? = none ∨ (∃ x, s.graph.arcs[(s.hcore c).dlya % 2 ^ 14]? = some x ∧ x.producer ≠ .delay)))
    ∧ (∃ (s : State) (c x : Nat), 7 < c)
    ∧ (∃ (s : State) (c h : Nat) (e : DlyEntry), s.powered = true ∧ c ≤ 7 ∧ (vget s.hdl.delay (h / 2 ^ 30 % 4) {}).entries.find? (·.handle == h) = some e)
    ∧ (∃ (s : State) (c h : Nat) (e : DlyEntry) (es : List DlyEntry), s.powered = true ∧ c ≤ 7 ∧ (vget s.hdl.delay (h / 2 ^ 30 % 4) {}).entries.find?
      (·.handle == h) = none ∧ (vget s.hdl.delay (h / 2 ^ 30 % 4) {}).out = e :: es ∧ (e :: es).any (·.handle == h) = true)
    ∧ (∃ (s : State) (c h : Nat), (vget s.hdl.delay (h / 2 ^ 30 % 4) {}).entries.find? (·.handle == h) = none ∧ (∀ e ∈ (vget s.hdl.delay (h / 2 ^ 30 % 4)
      {}).out, e.handle ≠ h))
    ∧ (∃ (s : State) (l : Nat), s.powered = true ∧ l ≤ 3 ∧ s.node.nodeState ≠ .boot ∧ (vget s.hdl.delay l {}).lastAt + nsTaps (s.objEff (Obj.DLY_TICK0 + l))
      ≤ s.tb.taps)
    ∧ (∃ (s : State) (l : Nat), (3 < l ∨ s.node.nodeState = .boot ∨ s.tb.taps < (vget s.hdl.delay l {}).lastAt + nsTaps (s.objEff (Obj.DLY_TICK0 + l))))
    ∧ (∃ (s : State) (v : Nat), s.powered = true ∧ v ≠ 1)
    ∧ (∃ (s : State), (s.node.nodeState = .service ∨ s.node.nodeState = .hold))
    ∧ (∃ (s : State), s.powered = true ∧ s.node.nodeState ≠ .service ∧ s.node.nodeState ≠ .hold ∧ ((vget s.hdl.banks (1 - s.hdl.bank) {}).fwDigest ≠
      s.fwDigest ∨ (vget s.hdl.banks (1 - s.hdl.bank) {}).ok = false))
    ∧ (∃ (s : State), s.powered = true ∧ s.node.nodeState ≠ .service ∧ s.node.nodeState ≠ .hold ∧ (vget s.hdl.banks (1 - s.hdl.bank) {}).fwDigest =
      s.fwDigest ∧ (vget s.hdl.banks (1 - s.hdl.bank) {}).ok = true)
    ∧ (∃ (s : State) (g : GraphImage), s.powered = true ∧ s.hdl.activating = true ∧ s.coresBusy = false ∧ vget s.hdl.banks (1 - s.hdl.bank) {} = g)
    ∧ (∃ (s : State), (s.hdl.activating = false ∨ s.coresBusy = true))
    ∧ (∃ (s : State) (c x : Nat), s.powered = false) :=
  ⟨⟨{ State.reset with
        hdl := { State.reset.hdl with
            bank := 1,
            banks := (vset State.reset.hdl.banks 1
                { arcs := [{ consumer := 257, input := 262146, producer := (Producer.delay), depth := 30, overwrite := false }] }) } },
      0,
      0,
      0,
      0,
      { consumer := 257, input := 262146, producer := (Producer.delay), depth := 30, overwrite := false }, by decide +kernel⟩,
   ⟨State.reset, 0, 0, 0, by decide +kernel⟩,
   ⟨State.reset, 8, 0, by decide +kernel⟩,
   ⟨{ State.reset with
        hdl := { State.reset.hdl with
            delay := (vset State.reset.hdl.delay 0 { entries := [{ due := 8, handle := 2, arc := 524284, value := 3, since := 3 }] }) } },
      0,
      2,
      { due := 8, handle := 2, arc := 524284, value := 3, since := 3 }, by decide +kernel⟩,
   ⟨(cell.upHdl fun h => { h with delay := vset h.delay 3 { out := [{ arc := 0, value := 0, due := 0, since := 0, handle := 3 * 2 ^ 30 }] } }),
      7,
      (3 * 2 ^ 30),
      { arc := 0, value := 0, due := 0, since := 0, handle := 3 * 2 ^ 30 },
      [], by decide +kernel⟩,
   ⟨State.reset, 0, 0, by decide +kernel⟩,
   ⟨{ State.reset with node := { State.reset.node with nodeState := (NodeState.ready) }, tb := { State.reset.tb with taps := 12800 } },
      0, by decide +kernel⟩,
   ⟨State.reset, 0, by decide +kernel⟩,
   ⟨State.reset, 0, by decide +kernel⟩,
   ⟨{ State.reset with node := { State.reset.node with nodeState := (NodeState.service) } }, by decide +kernel⟩,
   ⟨{ State.reset with hdl := { State.reset.hdl with banks := (vset State.reset.hdl.banks 1 { fwDigest := 1 }) } }, by decide +kernel⟩,
   ⟨State.reset, by decide +kernel⟩,
   ⟨{ State.reset with hdl := { State.reset.hdl with activating := true } }, {}, by decide +kernel⟩,
   ⟨State.reset, by decide +kernel⟩,
   ⟨{ State.reset with node := { State.reset.node with nodeState := (NodeState.off) } }, 0, 0, by decide +kernel⟩⟩

/-- States and operands that meet the hypotheses of `Obligations.ScrubberLoadWindowsAndEventCounters`, clause by clause. -/
theorem test_witness_ScrubberLoadWindowsAndEventCounters :
    (∃ (s : State) (addr a bits : Nat), s.powered = true ∧ memAddr 0 addr = some a ∧ s.mem.doubleAt (wordOf a) = false ∧ wordOf a ≠ lastScrubWord ∧ (bits
      = 1 ∨ (bits = 0 ∧ s.mem.errors.any (·.addr == wordOf a) = true)))
    ∧ (∃ (s : State) (addr a bits : Nat), s.powered = true ∧ memAddr 0 addr = some a ∧ (2 ≤ bits ∨ s.mem.doubleAt (wordOf a) = true) ∧ wordOf a ≠
      lastScrubWord)
    ∧ (∃ (s : State) (addr a : Nat), s.powered = true ∧ memAddr 0 addr = some a ∧ (∀ e ∈ s.mem.errors, e.addr ≠ wordOf a) ∧ wordOf a ≠ lastScrubWord)
    ∧ (∃ (s : State) (addr a bits : Nat), s.powered = true ∧ wordOf a = lastScrubWord ∧ memAddr 0 addr = some a)
    ∧ (∃ (s : State) (addr bits : Nat), memAddr 0 addr = none)
    ∧ (∃ (s : State), s.powered = true ∧ s.hdl.scrubAt + s.obj Obj.HDL_SCRUB_PERIOD * tapsMs < s.tb.taps)
    ∧ (∃ (s : State), s.tb.taps ≤ s.hdl.scrubAt + s.obj Obj.HDL_SCRUB_PERIOD * tapsMs)
    ∧ (∃ (s : State), s.tb.taps < s.hdl.loadAt + s.obj Obj.LOAD_WINDOW * tapsMs)
    ∧ (∃ (s : State), s.powered = true ∧ s.hdl.loadAt + s.obj Obj.LOAD_WINDOW * tapsMs ≤ s.tb.taps)
    ∧ (∃ (s : State) (n w : Nat), s.powered = true ∧ n < 16 ∧ s.obj (Obj.EC_MODE + 256 * n) = 2 ∧ (vget s.evc.ec n {}).inWindow = false ∧ s.ecDue n = some
      w)
    ∧ (∃ (s : State) (n : Nat), (s.obj (Obj.EC_MODE + 256 * n) ≠ 2 ∨ 16 ≤ n ∨ (vget s.evc.ec n {}).inWindow = true ∨ s.ecDue n = none))
    ∧ (∃ (s : State) (n : Nat), ((vget s.evc.ec n {}).startTap = none ∨ (vget s.evc.ec n {}).startNt ≠ s.obj (Obj.EC_WSTART + 256 * n)))
    ∧ (∃ (s : State) (n : Nat), s.tb.ntF < ntOf96 (s.obj (Obj.EC_WSTART + 256 * n)))
    ∧ (∃ (s : State) (n : Nat), ntOf96 (s.obj (Obj.EC_WSTART + 256 * n)) ≤ s.tb.ntF ∧ ntOf96 (s.obj (Obj.EC_WSTART + 256 * n)) ≤ s.tb.ntFAt (s.tb.taps -
      128))
    ∧ (∃ (s : State) (n a w : Nat), (vget s.evc.ec n {}).startTap = some a ∧ (vget s.evc.ec n {}).startNt = s.obj (Obj.EC_WSTART + 256 * n) ∧ w = s.tb.taps
      - (s.tb.taps - a) % (s.obj (Obj.EC_WPERIOD + 256 * n) * tapsUs))
    ∧ (∃ (s : State) (n : Nat), s.powered = true ∧ n < 16 ∧ (vget s.evc.ec n {}).inWindow = true ∧ (vget s.evc.ec n {}).winEnd ≤ s.tb.taps)
    ∧ (∃ (s : State) (n : Nat), (16 ≤ n ∨ (vget s.evc.ec n {}).inWindow = false ∨ s.tb.taps < (vget s.evc.ec n {}).winEnd))
    ∧ (∃ (s : State) (n : Nat), s.powered = true ∧ n < 16)
    ∧ (∃ (s : State) (n v : Nat) (mode : Bool), s.powered = true ∧ n ≤ 15 ∧ (if mode then v ≤ 2 else v ≤ 255 ∧ ecSourceOk v = true))
    ∧ (∃ (s : State) (n v : Nat) (mode : Bool), s.powered = true ∧ 15 < n)
    ∧ (∃ (s : State) (n v : Nat) (mode : Bool), s.powered = true ∧ n ≤ 15 ∧ (if mode then 2 < v else 255 < v ∨ ecSourceOk v = false))
    ∧ (∃ (s : State) (n : Nat), 16 ≤ n)
    ∧ (∃ (s : State) (n v : Nat) (mode : Bool), s.powered = false) :=
  ⟨⟨State.reset, 285212672, 285212672, 1, by decide +kernel⟩,
   ⟨State.reset, 268496992, 285274208, 56, by decide +kernel⟩,
   ⟨State.reset, 268435456, 285212672, by decide +kernel⟩,
   ⟨State.reset, 541065212, 541065212, 0, by decide +kernel⟩,
   ⟨State.reset, 0, 0, by decide +kernel⟩,
   ⟨{ State.reset with
        tb := { State.reset.tb with taps := 17179865203, refOk := true },
        hdl := { State.reset.hdl with banks := (vset State.reset.hdl.banks 1 { digest := 57 }), run := true } }, by decide +kernel⟩,
   ⟨State.reset, by decide +kernel⟩,
   ⟨State.reset, by decide +kernel⟩,
   ⟨{ State.reset with tb := { State.reset.tb with taps := 2147479670, refOk := true }, hdl := { State.reset.hdl with run := true } }, by decide +kernel⟩,
   ⟨(cell.setObj (Obj.EC_MODE + 3840) 2 0), 15, 0, by decide +kernel⟩,
   ⟨State.reset, 0, by decide +kernel⟩,
   ⟨State.reset, 0, by decide +kernel⟩,
   ⟨{ State.reset with
        tb := { State.reset.tb with
            offset := (-1),
            rate := 8,
            refOk := true,
            prevTx := (vset State.reset.tb.prevTx 1 (some (-5767171))),
            ann := { State.reset.tb.ann with stepAt := 6 } },
        hdl := { State.reset.hdl with memUeAddr := 4 },
        sel := { State.reset.sel with discrepant := true, pulseAt := (vset State.reset.sel.pulseAt 0 8), sealSel := 1 },
        sys := { State.reset.sys with
            vcoreNow := 8,
            peerDev := (vset State.reset.sys.peerDev 0
                (some { keyIsDevice := true, chainOk := true, notBefore := 16383, notAfter := 4, pubKey := 16 })) },
        inbox := [{ 
              cls := (FloenClass.mirror),
              dir := (FloenDir.cross),
              dst := 1000,
              src := 65536,
              hops := 999999999,
              hseq := 16,
              eseq := 65536,
              payload := [2#8] }] },
      0, by decide +kernel⟩,
   ⟨State.reset, 0, by decide +kernel⟩,
   ⟨{ State.reset with evc := { State.reset.evc with ec := (vset State.reset.evc.ec 6 { startTap := some 0 }) } }, 6, 0, 0, by decide +kernel⟩,
   ⟨{ State.reset with evc := { State.reset.evc with ec := (vset State.reset.evc.ec 0 { inWindow := true }) } }, 0, by decide +kernel⟩,
   ⟨State.reset, 0, by decide +kernel⟩,
   ⟨State.reset, 0, by decide +kernel⟩,
   ⟨State.reset, 0, 0, false, by decide +kernel⟩,
   ⟨State.reset, 16, 0, false, by decide +kernel⟩,
   ⟨State.reset, 0, 3, true, by decide +kernel⟩,
   ⟨State.reset, 16, by decide +kernel⟩,
   ⟨{ State.reset with node := { State.reset.node with nodeState := (NodeState.off) } }, 0, 0, false, by decide +kernel⟩⟩

/-- States and operands that meet the hypotheses of `Obligations.EntriesAreHeldAcceptedAndApplied`, clause by clause. -/
theorem test_witness_EntriesAreHeldAcceptedAndApplied :
    (∃ (s : State) (port : Nat) (e : JEntry), s.tb.refOk = true ∧ s.powered = true ∧ s.isMember = false ∧ port < 6 ∧ e.lane = s.ownLane ∧ e.accepted =
      true ∧ e.jsn ≤ s.laneDue s.ownLane)
    ∧ (∃ (s : State) (port : Nat) (e : JEntry), s.tb.refOk = true ∧ s.powered = true ∧ s.isMember = false ∧ port < 6 ∧ e.lane = s.ownLane ∧ e.accepted =
      true ∧ s.dict.userPending = [] ∧ (s.laneOf s.ownLane).applied < e.jsn ∧ e.pjsn = (s.laneOf s.ownLane).applied ∧ (s.laneOf s.ownLane).gapped = []
      ∧ s.concerns e = false)
    ∧ (∃ (s : State) (port : Nat) (e : JEntry), s.tb.refOk = true ∧ s.powered = true ∧ s.isMember = false ∧ port < 6 ∧ e.lane = s.ownLane ∧ e.accepted =
      true ∧ s.dict.userPending = [] ∧ (s.laneOf s.ownLane).applied < e.jsn ∧ e.pjsn = (s.laneOf s.ownLane).applied ∧ (s.laneOf s.ownLane).gapped = []
      ∧ s.concerns e = true ∧ e.etype = .fence)
    ∧ (∃ (s : State) (port : Nat) (e : JEntry), s.tb.refOk = true ∧ s.powered = true ∧ s.isMember = false ∧ port < 6 ∧ e.lane = s.ownLane ∧ e.accepted =
      true ∧ s.dict.userPending = [] ∧ (s.laneOf s.ownLane).applied < e.jsn ∧ e.pjsn = (s.laneOf s.ownLane).applied ∧ (s.laneOf s.ownLane).gapped = []
      ∧ s.concerns e = true ∧ e.etype = .write ∧ s.entryWaits e = false ∧ e.confirm = false ∧ e.jsn ≤ s.objJsn (e.index * 256 + e.sub))
    ∧ (∃ (s : State) (port : Nat) (e : JEntry), s.tb.refOk = true ∧ s.powered = true ∧ s.isMember = false ∧ port < 6 ∧ e.lane = s.ownLane ∧ e.accepted =
      true ∧ s.dict.userPending = [] ∧ (s.laneOf s.ownLane).applied < e.jsn ∧ e.pjsn = (s.laneOf s.ownLane).applied ∧ (s.laneOf s.ownLane).gapped = []
      ∧ s.concerns e = true ∧ e.etype = .write ∧ s.entryWaits e = false ∧ e.confirm = false ∧ s.objJsn (e.index * 256 + e.sub) < e.jsn ∧ s.writeCheck
      s.node.role (e.index * 256 + e.sub) e.value e.role ≠ .ok)
    ∧ (∃ (s : State) (port : Nat) (e : JEntry), s.tb.refOk = true ∧ s.powered = true ∧ s.isMember = false ∧ port < 6 ∧ e.lane = s.ownLane ∧ e.accepted =
      true ∧ s.laneDue s.ownLane < e.jsn ∧ e.pjsn ≠ s.laneDue s.ownLane ∧ (s.laneOf s.ownLane).gapped.length < 16 ∧ (∀ x ∈ (s.laneOf
      s.ownLane).gapped, x.jsn ≠ e.jsn))
    ∧ (∃ (s : State) (port : Nat) (e : JEntry), s.tb.refOk = true ∧ s.powered = true ∧ s.isMember = false ∧ port < 6 ∧ e.lane = s.ownLane ∧ e.accepted =
      true ∧ s.laneDue s.ownLane < e.jsn ∧ e.pjsn = s.laneDue s.ownLane ∧ (s.laneOf s.ownLane).gapped = [] ∧ (s.dict.userPending ≠ [] ∨ s.entryWaits e
      = true))
    ∧ (∃ (s : State) (port : Nat) (e : JEntry), (e.lane ≠ s.ownLane ∨ 6 ≤ port ∨ (s.isMember = false ∧ e.accepted = false) ∨ s.tb.refOk = false ∨ s.powered
      = false))
    ∧ (∃ (s : State) (port : Nat) (e : JEntry), s.tb.refOk = true ∧ s.powered = true ∧ s.takesEntries = true ∧ port < 6 ∧ e.lane = s.ownLane ∧ e.jsn ≤
      laneLast (s.laneOf s.ownLane))
    ∧ (∃ (s : State) (port : Nat) (e : JEntry), s.tb.refOk = true ∧ s.powered = true ∧ s.takesEntries = true ∧ s.isActive = false ∧ port < 6 ∧ e.lane =
      s.ownLane ∧ laneLast (s.laneOf s.ownLane) < e.jsn ∧ e.pjsn = laneLast (s.laneOf s.ownLane) ∧ e.accepted = false ∧ (s.laneOf s.ownLane).gapped =
      [] ∧ (∀ h ∈ (s.laneOf s.ownLane).entries, h.e.jsn ≤ (s.laneOf s.ownLane).applied ∨ h.accepted = false) ∧ s.dict.userPending = [])
    ∧ (∃ (s : State) (port : Nat) (e : JEntry), s.tb.refOk = true ∧ s.powered = true ∧ s.isMember = true ∧ s.jrn.pstate = .resync ∧ s.jrn.snapDone = false ∧
      port < 6 ∧ e.lane = s.ownLane)
    ∧ (∃ (s : State) (lane jsn : Nat), (s.isActive = false ∨ lane ≠ s.ownLane ∨ s.tb.refOk = false))
    ∧ (∃ (s : State) (lane jsn : Nat), s.tb.refOk = true ∧ s.powered = true ∧ s.isActive = true ∧ lane = s.ownLane ∧ s.jrn.alone = false ∧ (∀ h ∈ (s.laneOf
      lane).entries, h.accepted = true ∨ jsn < h.e.jsn ∧ h.acked = false) ∧ (∀ h ∈ (s.laneOf lane).entries, h.e.jsn ≤ (s.laneOf lane).applied ∨
      h.accepted = false) ∧ s.dict.userPending = [])
    ∧ (∃ (s : State) (lane jsn : Nat) (h : HeldEntry), s.tb.refOk = true ∧ s.powered = true ∧ s.isActive = true ∧ s.isArm = true ∧ lane = s.ownLane ∧
      (s.laneOf lane).entries = [h] ∧ h.committed = true ∧ h.accepted = false ∧ h.e.jsn ≤ jsn ∧ (s.laneOf lane).applied < h.e.jsn ∧ s.concerns h.e =
      false ∧ s.dict.userPending = [])
    ∧ (∃ (s : State) (lane jsn k : Nat), (s.isMember = false ∨ s.isActive = true ∨ lane ≠ s.ownLane ∨ s.tb.refOk = false))
    ∧ (∃ (s : State) (lane jsn k : Nat), s.tb.refOk = true ∧ s.powered = true ∧ s.isMember = true ∧ s.isActive = false ∧ lane = s.ownLane ∧ (∀ h ∈ (s.laneOf
      lane).entries, s.concerns h.e = false) ∧ jsn ≤ laneCommitted (s.laneOf lane) ∧ s.dict.userPending = [])
    ∧ (∃ (s : State) (lane jsn k : Nat), s.tb.refOk = true ∧ s.powered = true ∧ s.isMember = true ∧ s.jrn.pstate = .standby ∧ s.jrn.healthyWas = true ∧ lane
      = s.ownLane ∧ (∀ h ∈ (s.laneOf lane).entries, s.concerns h.e = false) ∧ laneCommitted (s.laneOf lane) < jsn ∧ s.dict.userPending = [])
    ∧ (∃ (s : State) (src lane epoch jsn : Nat), (s.isStation = false ∨ 15 < lane ∨ s.tb.refOk = false))
    ∧ (∃ (s : State) (src lane epoch jsn : Nat), s.tb.refOk = true ∧ s.powered = true ∧ s.isStation = true ∧ lane ≤ 15 ∧ s.isActive = false ∧ s.dict.waiting
      = [])
    ∧ (∃ (s : State) (src lane epoch jsn : Nat), s.tb.refOk = true ∧ s.powered = true ∧ s.isStation = true ∧ lane ≤ 15 ∧ s.isActive = true ∧ s.dict.waiting
      = [] ∧ s.jrn.fencePending = [] ∧ s.jrn.alone = false ∧ (s.laneOf 0xFFFF).entries = [] ∧ s.armEpoch lane < epoch)
    ∧ (∃ (s : State) (src jsn c status : Nat) (w : Waiting), s.tb.refOk = true ∧ s.powered = true ∧ s.isStation = true ∧ c ≠ 0 ∧ s.dict.waiting.find? (fun x
      => x.jsn == c && x.jsn != 0 && x.confirm) = some w)
    ∧ (∃ (s : State) (src jsn confirm status : Nat), (s.isMember = false ∨ s.tb.refOk = false))
    ∧ (∃ (s : State) (src jsn status : Nat), s.tb.refOk = true ∧ s.powered = true ∧ s.isMember = true)
    ∧ (∃ (s : State) (k : Nat), (s.takesEntries = false ∨ s.powered = false))
    ∧ (∃ (s : State) (k : Nat) (h : HeldEntry), s.powered = true ∧ s.takesEntries = true ∧ s.dict.userPending = [] ∧ (s.laneOf s.ownLane).entries.find? (fun
      x => decide ((s.laneOf s.ownLane).applied < x.e.jsn)) = some h ∧ (h.accepted = false ∨ (s.concerns h.e = true ∧ k < h.e.applyAt)))
    ∧ (∃ (s : State) (k : Nat) (h : HeldEntry), s.powered = true ∧ s.takesEntries = true ∧ s.dict.userPending = [] ∧ (s.laneOf s.ownLane).entries.filter
      (fun x => decide ((s.laneOf s.ownLane).applied < x.e.jsn)) = [h] ∧ h.accepted = true ∧ s.concerns h.e = false)
    ∧ (∃ (s : State) (k : Nat) (h : HeldEntry), s.powered = true ∧ s.takesEntries = true ∧ s.dict.userPending = [] ∧ (s.laneOf s.ownLane).entries.filter
      (fun x => decide ((s.laneOf s.ownLane).applied < x.e.jsn)) = [h] ∧ h.accepted = true ∧ s.concerns h.e = true ∧ h.e.applyAt ≤ k ∧ h.e.etype =
      .fence) :=
  ⟨⟨{ State.reset with node := { State.reset.node with arm := 1 }, tb := { State.reset.tb with refOk := true } },
      0,
      { lane := 1, accepted := true }, by decide +kernel⟩,
   ⟨{ State.reset with
        node := { State.reset.node with role := (Role.relay) },
        tb := { State.reset.tb with refOk := true },
        jrn := { State.reset.jrn with lanes := [{ code := 65534, applied := 6 }] } },
      0,
      { lane := 65534, jsn := 7, pjsn := 6, accepted := true }, by decide +kernel⟩,
   ⟨{ State.reset with node := { State.reset.node with arm := 65534 }, tb := { State.reset.tb with refOk := true } },
      0,
      { lane := 65534, jsn := 1, system := true, accepted := true, etype := (EType.fence) }, by decide +kernel⟩,
   ⟨(cell.setObj Obj.REVERT_TIME 2000 5),
      0,
      { lane := 3, jsn := 1, target := 0xC1A2, accepted := true, index := 0x2002, sub := 5, len := 2, value := 3000 }, by decide +kernel⟩,
   ⟨cell,
      5,
      { lane := 3, jsn := 1, target := 0xC1A2, accepted := true, index := 0x2002, sub := 5, len := 2, value := 3000 }, by decide +kernel⟩,
   ⟨{ State.reset with tb := { State.reset.tb with refOk := true } },
      0,
      { lane := 0, jsn := 1, pjsn := 1, accepted := true }, by decide +kernel⟩,
   ⟨{ State.reset with
        node := { State.reset.node with role := (Role.relay) },
        dict := { State.reset.dict with userPending := [{}] },
        tb := { State.reset.tb with refOk := true } },
      0,
      { lane := 65534, jsn := 1, accepted := true }, by decide +kernel⟩,
   ⟨State.reset, 0, {}, by decide +kernel⟩,
   ⟨{ State.reset with node := { State.reset.node with role := (Role.arm), arm := 65536 }, tb := { State.reset.tb with refOk := true } },
      0,
      { lane := 65536 }, by decide +kernel⟩,
   ⟨{ State.reset with node := { State.reset.node with role := (Role.station) }, tb := { State.reset.tb with refOk := true } },
      0,
      { jsn := 1 }, by decide +kernel⟩,
   ⟨{ State.reset with
        node := { State.reset.node with role := (Role.arm) },
        tb := { State.reset.tb with refOk := true },
        jrn := { State.reset.jrn with pstate := (PairState.resync) } },
      0,
      { lane := 0 }, by decide +kernel⟩,
   ⟨State.reset, 0, 0, by decide +kernel⟩,
   ⟨{ State.reset with
        node := { State.reset.node with role := (Role.station) },
        tb := { State.reset.tb with refOk := true },
        jrn := { State.reset.jrn with pstate := (PairState.active) } },
      65535,
      0, by decide +kernel⟩,
   ⟨(armMaster.upJrn fun j => { j with lanes := [{ code := 2, entries := [{ e := { lane := 2, jsn := 4, target := 0x8001 }, committed := true }] }] }),
      2,
      4,
      { e := { lane := 2, jsn := 4, target := 0x8001 }, committed := true }, by decide +kernel⟩,
   ⟨State.reset, 0, 0, 0, by decide +kernel⟩,
   ⟨{ State.reset with node := { State.reset.node with role := (Role.station) }, tb := { State.reset.tb with refOk := true } },
      65535,
      0,
      0, by decide +kernel⟩,
   ⟨{ State.reset with
        node := { State.reset.node with role := (Role.station) },
        tb := { State.reset.tb with refOk := true },
        jrn := { State.reset.jrn with pstate := (PairState.standby), healthyWas := true } },
      65535,
      1,
      0, by decide +kernel⟩,
   ⟨State.reset, 0, 0, 0, 0, by decide +kernel⟩,
   ⟨{ State.reset with node := { State.reset.node with role := (Role.station) }, tb := { State.reset.tb with refOk := true } },
      0,
      0,
      0,
      0, by decide +kernel⟩,
   ⟨{ State.reset with
        node := { State.reset.node with role := (Role.station) },
        tb := { State.reset.tb with refOk := true },
        jrn := { State.reset.jrn with pstate := (PairState.active) } },
      0,
      0,
      1,
      0, by decide +kernel⟩,
   ⟨{ State.reset with
        node := { State.reset.node with role := (Role.station) },
        dict := { State.reset.dict with waiting := [{ via := (Via.port 4), tid := 0, op := 3, target := 262146, jsn := 2, confirm := true }] },
        tb := { State.reset.tb with refOk := true } },
      0,
      0,
      2,
      0,
      { via := (Via.port 4), tid := 0, op := 3, target := 262146, jsn := 2, confirm := true }, by decide +kernel⟩,
   ⟨State.reset, 0, 0, 0, 0, by decide +kernel⟩,
   ⟨{ State.reset with node := { State.reset.node with role := (Role.station) }, tb := { State.reset.tb with refOk := true } },
      0,
      0,
      0, by decide +kernel⟩,
   ⟨State.reset, 0, by decide +kernel⟩,
   ⟨(armMaster.upJrn fun j => { j with lanes := [{ code := 2, entries := [{ e := { lane := 2, jsn := 4, applyAt := 9, target := 0x48002 }, accepted := true }] }] }),
      8,
      { e := { lane := 2, jsn := 4, applyAt := 9, target := 0x48002 }, accepted := true }, by decide +kernel⟩,
   ⟨(armMaster.upJrn fun j => { j with lanes := [{ code := 2, entries := [{ e := { lane := 2, jsn := 4, target := 0x8001 }, accepted := true }] }] }),
      7,
      { e := { lane := 2, jsn := 4, target := 0x8001 }, accepted := true }, by decide +kernel⟩,
   ⟨(armMaster.upJrn fun j => { j with lanes := [{ code := 2, entries := [{ e := { lane := 2, jsn := 4, target := 0x48002, etype := .fence, system := true, value := 77 }, accepted := true }] }] }),
      0,
      { e := { lane := 2, jsn := 4, target := 0x48002, etype := .fence, system := true, value := 77 }, accepted := true }, by decide +kernel⟩⟩

/-- States and operands that meet the hypotheses of `Obligations.HeadsCatchUpsTransfersAndTrimming`, clause by clause. -/
theorem test_witness_HeadsCatchUpsTransfersAndTrimming :
    (∃ (s : State) (lane : Nat), (s.isActive = false ∨ (s.isArm = true ∧ lane ≠ s.node.arm) ∨ (s.isArm = false ∧ lane ≠ 0xFFFE) ∨ s.headDue = false ∨
      s.powered = false))
    ∧ (∃ (s : State) (lane p : Nat), s.powered = true ∧ s.isActive = true ∧ s.isArm = true ∧ lane = s.node.arm ∧ s.headDue = true ∧ (s.routeDown s.memberB
      (cellAddr lane 0x3FFF)).filter s.lit = [p] ∧ p < 6 ∧ (s.port p).fits (s.mkFrame .journal .down (cellAddr lane 0x3FFF) false (vget s.link.eseq
      FloenClass.journal.code 0) (s.headBytes lane)) = true)
    ∧ (∃ (s : State) (lane : Nat), s.powered = true)
    ∧ (∃ (s : State) (lane head trim : Nat), (lane ≠ s.ownLane ∨ s.tb.refOk = false))
    ∧ (∃ (s : State) (lane head trim : Nat), s.tb.refOk = true ∧ s.powered = true ∧ s.isMember = false ∧ lane = s.ownLane)
    ∧ (∃ (s : State) (lane head trim : Nat), s.tb.refOk = true ∧ s.powered = true ∧ s.isMember = true ∧ lane = s.ownLane)
    ∧ (∃ (s : State) (src lane applied : Nat) (unclean : Bool), (s.isActive = false ∨ s.journalsLane lane = false ∨ s.tb.refOk = false))
    ∧ (∃ (s : State) (src lane applied : Nat) (unclean : Bool), s.tb.refOk = true ∧ s.powered = true ∧ s.isActive = true ∧ s.journalsLane lane = true)
    ∧ (∃ (s : State) (base : Nat) (rs : List ImageRec) (last : Bool), (s.tb.refOk = false ∨ s.powered = false))
    ∧ (∃ (s : State) (base : Nat) (rs : List ImageRec), s.tb.refOk = true ∧ s.powered = true)
    ∧ (∃ (s : State) (base : Nat) (rs : List ImageRec), s.tb.refOk = true ∧ s.powered = true ∧ imageComplete (s.jrn.imageRx ++ rs) = false)
    ∧ (∃ (s : State) (base : Nat), s.tb.refOk = true ∧ s.powered = true ∧ s.jrn.imageRx = [] ∧ s.dict.objs = [] ∧ s.dict.userPending = [] ∧ (s.laneOf
      s.ownLane).gapped = [])
    ∧ (∃ (s : State) (base : Nat) (r : ImageRec), s.tb.refOk = true ∧ s.powered = true ∧ s.jrn.imageRx = [] ∧ s.dict.objs = [] ∧ s.dict.userPending = [] ∧
      (s.laneOf s.ownLane).gapped = [] ∧ r.isFence = true ∧ r.offset = 0 ∧ r.bytes.length = r.total ∧ 0 < r.total)
    ∧ (∃ (s : State) (base : Nat) (rs : List ImageRec), s.tb.refOk = true ∧ s.powered = true ∧ s.isMember = true ∧ imageComplete (s.jrn.imageRx ++ rs) =
      true)
    ∧ (∃ (s : State) (lane : Nat), (s.holdsLane lane = false ∨ s.powered = false))
    ∧ (∃ (s : State) (lane : Nat), s.powered = true ∧ s.holdsLane lane = true)
    ∧ (∃ (s : State) (lane : Nat), s.powered = true ∧ s.holdsLane lane = true ∧ s.bob.mounted = false ∧ (∀ h ∈ (s.laneOf lane).entries, h.e.jsn ≤
      s.lowestApplied lane ∧ h.accepted = true ∧ (lane = s.ownLane → h.e.jsn ≤ (s.laneOf lane).applied)))
    ∧ (∃ (s : State), s.powered = true ∧ s.storeTakes = true)
    ∧ (∃ (s : State), (s.storeTakes = false ∨ s.powered = false)) :=
  ⟨⟨State.reset, 0, by decide +kernel⟩,
   ⟨{ State.reset with
        node := { State.reset.node with role := (Role.arm) },
        link := { State.reset.link with ports := (vset State.reset.link.ports 2 { state := (LinkState.up) }) },
        jrn := { State.reset.jrn with pstate := (PairState.active) },
        sys := { State.reset.sys with admitted := (vset State.reset.sys.admitted 2 (some 0)) } },
      0,
      2, by decide +kernel⟩,
   ⟨State.reset, 0, by decide +kernel⟩,
   ⟨State.reset, 0, 0, 0, by decide +kernel⟩,
   ⟨{ State.reset with tb := { State.reset.tb with refOk := true } }, 0, 0, 0, by decide +kernel⟩,
   ⟨{ State.reset with node := { State.reset.node with role := (Role.station) }, tb := { State.reset.tb with refOk := true } },
      65535,
      0,
      0, by decide +kernel⟩,
   ⟨State.reset, 0, 0, 0, false, by decide +kernel⟩,
   ⟨{ State.reset with
        node := { State.reset.node with role := (Role.station) },
        tb := { State.reset.tb with refOk := true },
        jrn := { State.reset.jrn with pstate := (PairState.active) } },
      0,
      0,
      0,
      false, by decide +kernel⟩,
   ⟨State.reset, 0, [], false, by decide +kernel⟩,
   ⟨{ State.reset with tb := { State.reset.tb with refOk := true } }, 0, [], by decide +kernel⟩,
   ⟨{ State.reset with tb := { State.reset.tb with refOk := true } }, 0, [{ total := 1 }], by decide +kernel⟩,
   ⟨{ State.reset with tb := { State.reset.tb with refOk := true } }, 0, by decide +kernel⟩,
   ⟨{ State.reset with tb := { State.reset.tb with refOk := true } }, 0, { isFence := true, total := 1, bytes := [0#8] }, by decide +kernel⟩,
   ⟨{ State.reset with node := { State.reset.node with role := (Role.station) }, tb := { State.reset.tb with refOk := true } },
      0,
      [], by decide +kernel⟩,
   ⟨State.reset, 0, by decide +kernel⟩,
   ⟨{ State.reset with node := { State.reset.node with role := (Role.arm) }, jrn := { State.reset.jrn with lanes := [{ code := 1 }] } },
      1, by decide +kernel⟩,
   ⟨{ State.reset with node := { State.reset.node with role := (Role.station) }, jrn := { State.reset.jrn with lanes := [{ code := 7 }] } },
      7, by decide +kernel⟩,
   ⟨{ State.reset with bob := { State.reset.bob with mounted := true } }, by decide +kernel⟩,
   ⟨State.reset, by decide +kernel⟩⟩

/-- States and operands that meet the hypotheses of `Obligations.PairFramesDecideStateAndCommitSet`, clause by clause. -/
theorem test_witness_PairFramesDecideStateAndCommitSet :
    (∃ (s : State), (s.isMember = false ∨ s.node.joined = false ∨ s.pairDue = false ∨ s.powered = false))
    ∧ (∃ (s : State), s.powered = true ∧ s.isMember = true ∧ s.node.joined = true ∧ s.pairDue = true)
    ∧ (∃ (s : State) (m : PairMsg), (s.isMember = false ∨ s.tb.refOk = false))
    ∧ (∃ (s : State) (m : PairMsg), s.tb.refOk = true ∧ s.powered = true ∧ s.isMember = true ∧ s.jrn.pstate = .yielded)
    ∧ (∃ (s : State) (m : PairMsg), s.tb.refOk = true ∧ s.powered = true ∧ s.isMember = true ∧ s.jrn.pstate = .init ∧ m.pstate = .active ∧ m.progDigest =
      digest4 s.programDigest ∧ m.graphDigest = digest4 s.graphDigest)
    ∧ (∃ (s : State) (m : PairMsg), s.tb.refOk = true ∧ s.powered = true ∧ s.isMember = true ∧ s.jrn.pstate = .init ∧ m.pstate = .init ∧ s.winsOver m =
      false ∧ m.progDigest = digest4 s.programDigest ∧ m.graphDigest = digest4 s.graphDigest)
    ∧ (∃ (s : State) (m : PairMsg), s.tb.refOk = true ∧ s.powered = true ∧ s.isMember = true ∧ s.jrn.pstate = .init ∧ (m.pstate = .init ∨ m.pstate =
      .resync) ∧ s.winsOver m = true ∧ m.progDigest = digest4 s.programDigest ∧ m.graphDigest = digest4 s.graphDigest ∧ (s.laneOf s.ownLane).entries =
      [])
    ∧ (∃ (s : State) (m : PairMsg), s.tb.refOk = true ∧ s.powered = true ∧ s.isMember = true ∧ s.jrn.pstate = .init ∧ ((m.pstate = .resync ∧ s.winsOver m =
      false) ∨ m.pstate = .none ∨ m.pstate = .standby ∨ m.pstate = .unhealthy ∨ m.pstate = .yielded) ∧ m.progDigest = digest4 s.programDigest ∧
      m.graphDigest = digest4 s.graphDigest)
    ∧ (∃ (s : State) (m : PairMsg), s.tb.refOk = true ∧ s.powered = true ∧ s.isMember = true ∧ s.jrn.pstate = .active ∧ (s.laneOf s.ownLane).entries = [] ∧
      m.progDigest = digest4 s.programDigest ∧ m.graphDigest = digest4 s.graphDigest)
    ∧ (∃ (s : State) (m : PairMsg), s.tb.refOk = true ∧ s.powered = true ∧ s.isMember = true ∧ s.jrn.pstate = .resync ∧ m.progDigest = digest4
      s.programDigest ∧ m.graphDigest = digest4 s.graphDigest)
    ∧ (∃ (s : State) (m : PairMsg), s.tb.refOk = true ∧ s.powered = true ∧ s.isMember = true ∧ s.jrn.pstate = .unhealthy ∧ (s.abortWait = true ∨ s.objB
      Obj.AUTO_RESYNC = false ∨ m.pstate ≠ .active))
    ∧ (∃ (s : State) (m : PairMsg), s.tb.refOk = true ∧ s.powered = true ∧ s.isMember = true ∧ s.jrn.pstate = .standby)
    ∧ (∃ (s t : State) (m n : PairMsg), n.epoch = s.jrn.epoch ∧ n.committed = laneCommitted (s.laneOf s.ownLane) ∧ m.epoch = t.jrn.epoch ∧ m.committed =
      laneCommitted (t.laneOf t.ownLane) ∧ s.memberB ≠ t.memberB)
    ∧ (∃ (s : State), (s.isMember = false ∨ s.partnerFresh = true ∨ s.powered = false ∨ (s.isActive = false ∧ s.jrn.pHealthyWas = false)))
    ∧ (∃ (s : State), s.powered = true ∧ s.isMember = true ∧ s.isActive = false ∧ s.partnerFresh = false ∧ s.jrn.pHealthyWas = true)
    ∧ (∃ (s : State), s.powered = true ∧ s.isActive = true ∧ s.partnerFresh = false ∧ s.jrn.alone = false ∧ (s.laneOf s.ownLane).entries = [])
    ∧ (∃ (s : State), (s.isActive = false ∨ s.jrn.alone = true ∨ (∀ h ∈ (s.laneOf s.ownLane).entries, h.accepted = true ∨ h.acked = true ∨ s.tb.taps <
      h.since + 10 * tapsMs) ∨ s.powered = false))
    ∧ (∃ (s : State) (h : HeldEntry), s.powered = true ∧ s.isActive = true ∧ s.jrn.alone = false ∧ h ∈ (s.laneOf s.ownLane).entries ∧ h.accepted = false ∧
      h.acked = false ∧ h.since + 10 * tapsMs ≤ s.tb.taps ∧ (∀ x ∈ (s.laneOf s.ownLane).entries, x.committed = false) ∧ (∀ x ∈ (s.laneOf
      s.ownLane).entries, x.e.jsn ≤ (s.laneOf s.ownLane).applied ∨ x.accepted = false) ∧ s.dict.userPending = [])
    ∧ (∃ (s : State), (s.isMember = false ∨ s.jrn.pstate ≠ .init ∨ s.tb.taps < s.jrn.partnerTap + s.obj Obj.PAIR_WAIT * tapsS ∨ s.powered = false))
    ∧ (∃ (s : State), s.powered = true ∧ s.isMember = true ∧ s.jrn.pstate = .init ∧ s.jrn.partnerTap + s.obj Obj.PAIR_WAIT * tapsS ≤ s.tb.taps ∧ s.sys.trial
      = false ∧ (s.laneOf s.ownLane).entries = [])
    ∧ (∃ (s : State), (s.isMember = false ∨ s.jrn.pstate ≠ .standby ∨ (∀ l ∈ s.jrn.lanes, ∀ h ∈ l.entries, h.committed = true ∨ s.tb.taps ≤ h.since +
      tapsMs) ∨ s.powered = false))
    ∧ (∃ (s : State) (l : Lane) (h : HeldEntry), s.powered = true ∧ s.isMember = true ∧ s.jrn.pstate = .standby ∧ s.jrn.healthyWas = true ∧ l ∈ s.jrn.lanes
      ∧ h ∈ l.entries ∧ h.committed = false ∧ h.since + tapsMs < s.tb.taps)
    ∧ (∃ (s : State) (c : Nat), s.tb.refOk = true ∧ s.powered = true ∧ s.isMember = true ∧ s.isActive = false)
    ∧ (∃ (s : State) (c : Nat), (s.isMember = false ∨ s.isActive = true ∨ s.tb.refOk = false))
    ∧ (∃ (s : State) (port m : Nat), s.tb.refOk = true ∧ s.powered = true ∧ s.isStation = true ∧ 2 ≤ port ∧ port < 6 ∧ m ≤ 1)
    ∧ (∃ (s : State) (port m : Nat), (s.isStation = false ∨ port < 2 ∨ 6 ≤ port ∨ 1 < m ∨ s.tb.refOk = false)) :=
  ⟨⟨State.reset, by decide +kernel⟩,
   ⟨{ State.reset with node := { State.reset.node with role := (Role.arm), joined := true } }, by decide +kernel⟩,
   ⟨State.reset, {}, by decide +kernel⟩,
   ⟨{ State.reset with
        node := { State.reset.node with role := (Role.arm) },
        tb := { State.reset.tb with refOk := true },
        jrn := { State.reset.jrn with pstate := (PairState.yielded) } },
      {}, by decide +kernel⟩,
   ⟨((armMaster.upTrdl fun t => { t with std := false }).upJrn fun j => { j with pstate := .init }), { pstate := .active }, by decide +kernel⟩,
   ⟨((armMaster.upTrdl fun t => { t with std := false }).upJrn fun j => { j with pstate := .init }), { pstate := .init }, by decide +kernel⟩,
   ⟨((armMaster.upTrdl fun t => { t with std := false }).upJrn fun j => { j with pstate := .init, epoch := 1 }),
      { pstate := .resync }, by decide +kernel⟩,
   ⟨((armMaster.upTrdl fun t => { t with std := false }).upJrn fun j => { j with pstate := .init }), { pstate := .yielded }, by decide +kernel⟩,
   ⟨(((armMaster.upTrdl fun t => { t with std := false }))), { pstate := .standby, health := 63 }, by decide +kernel⟩,
   ⟨((armMaster.upTrdl fun t => { t with std := false }).upJrn fun j => { j with pstate := .resync }),
      { pstate := .standby }, by decide +kernel⟩,
   ⟨{ State.reset with
        node := { State.reset.node with role := (Role.arm) },
        tb := { State.reset.tb with refOk := true },
        jrn := { State.reset.jrn with pstate := (PairState.unhealthy) } },
      {}, by decide +kernel⟩,
   ⟨{ State.reset with
        node := { State.reset.node with role := (Role.arm) },
        tb := { State.reset.tb with refOk := true },
        jrn := { State.reset.jrn with pstate := (PairState.standby) } },
      {}, by decide +kernel⟩,
   ⟨{ State.reset with node := { State.reset.node with address := 0 } }, State.reset, {}, {}, by decide +kernel⟩,
   ⟨State.reset, by decide +kernel⟩,
   ⟨{ State.reset with node := { State.reset.node with role := (Role.station) }, jrn := { State.reset.jrn with pHealthyWas := true } }, by decide +kernel⟩,
   ⟨{ State.reset with node := { State.reset.node with role := (Role.arm) }, jrn := { State.reset.jrn with pstate := (PairState.active) } }, by decide +kernel⟩,
   ⟨State.reset, by decide +kernel⟩,
   ⟨{ State.reset with
        node := { State.reset.node with role := (Role.arm) },
        tb := { State.reset.tb with
            taps := 268431474,
            refOk := true,
            latNt := 1,
            lockRun := 10,
            bigRun := 1000,
            quantRun := 524283,
            appliedDelta := (vset State.reset.tb.appliedDelta 3 (-3000000000)),
            rootPtp := true,
            slewEnd := some 2,
            stepNt := (-4),
            ann := { State.reset.tb.ann with ret := true },
            lastStep := 8,
            tpo := (vset (vset State.reset.tb.tpo 0 { fired := true }) 1 { fired := true }),
            ptp := { State.reset.tb.ptp with
                masterB := some { identity := 8, priority1 := 65535, priority2 := 19, clockClass := 3, clockAccuracy := 5248513, variance := 6, stepsRemoved := 65534, domain := 65534 } },
            utcOffset := (-524284) },
        hdl := { State.reset.hdl with activating := true, arrivals := [(1, 8)], scrubMs := 1, inten := 2#32 },
        evc := { State.reset.evc with evt := 524284#32, inten := 5#32 },
        mem := { State.reset.mem with cells := [(8, 10#8)], errors := [{ addr := 12800000, double := true }, { addr := 6, double := false }] },
        jrn := { State.reset.jrn with
            pstate := (PairState.active),
            lanes := [{ 
                  code := 2,
                  applied := 6,
                  head := 68,
                  trim := 524286,
                  entries := [{ e := {}, committed := true, since := 65534 },
                     { e := {}, committed := true, acked := true, since := 2109442 },
                     { e := {}, committed := true, since := 65534 }],
                  gapped := [{ 
                        lane := 59,
                        jsn := 3,
                        pjsn := 3,
                        target := 8,
                        anym := true,
                        etype := (EType.fence),
                        index := 51200,
                        sub := 65533,
                        role := (SessRole.safetyEngineer),
                        len := 10,
                        value := 3,
                        swEpoch := 255,
                        swAddr := 32769,
                        swCause := 5 },
                     { 
                        lane := 4,
                        jsn := 2,
                        pjsn := 2101506,
                        applyAt := 5,
                        target := 2,
                        confirm := true,
                        etype := (EType.fence),
                        index := 12800000,
                        role := (SessRole.engineer),
                        len := 131072000000000,
                        value := 10,
                        swEpoch := 65535,
                        swAddr := 65535,
                        swCause := 65535 },
                     { 
                        lane := 16,
                        jsn := 4,
                        pjsn := 5,
                        applyAt := 6,
                        target := 65534,
                        anym := true,
                        accepted := true,
                        etype := (EType.switch),
                        index := 26,
                        role := (SessRole.operator),
                        len := 4,
                        value := 4,
                        swEpoch := 62,
                        swAddr := 12800000 }],
                  fenceId := 6,
                  fenceJsn := 3 },
               { 
                  code := 0,
                  applied := 65535,
                  head := 25600,
                  trim := 41,
                  entries := [{ e := {}, since := 12800000, ram := true }, { e := {}, accepted := true, since := 47 }],
                  image := [{ target := 43, key := 12800000, jsn := 3, value := 65535 }],
                  fenceId := 1099511627775 },
               { 
                  code := 49,
                  applied := 65535,
                  head := 10,
                  trim := 27,
                  entries := [{ e := {}, accepted := true, since := 1024 }, { e := {}, committed := true, acked := true, since := 65534 }],
                  image := [{ target := 27, key := 12800000, jsn := 10, value := 65535 },
                     { target := 1000, key := 0, jsn := 65534, value := 8193 },
                     { target := 524284, key := 131071, jsn := 8192, value := 65533 }],
                  fenceId := 11,
                  fenceJsn := 1 },
               { 
                  code := 12800000,
                  applied := 2,
                  head := 12800000,
                  trim := 12800000,
                  entries := [{ e := {}, committed := true, acked := true, accepted := true, since := 3, ram := true },
                     { e := {}, accepted := true },
                     { e := {}, committed := true, accepted := true, since := 12800001 }],
                  gapped := [{ 
                        lane := 2,
                        jsn := 65535,
                        pjsn := 6,
                        applyAt := 2097153,
                        target := 6,
                        anym := true,
                        system := true,
                        confirm := true,
                        etype := (EType.switch),
                        index := 3,
                        sub := 3,
                        role := (SessRole.safetyEngineer),
                        len := 65535,
                        value := 31,
                        swAddr := 65535,
                        swCause := 2 }],
                  image := [{ target := 2, key := 6, jsn := 2, value := 16383 },
                     { target := 0, key := 1, jsn := 1, value := 7 },
                     { target := 45, key := 38400000000, jsn := 7, value := 54 }],
                  fenceId := 12800001,
                  fenceJsn := 7 }],
            triggerCause := 4,
            primaryNotice := (vset (vset State.reset.jrn.primaryNotice 0 (some 10)) 3 (some 13)),
            shadowApplied := 65535,
            snapParts := [(1024, [6#8, 0#8])],
            snapNextAt := 65534,
            discarded := 2000000 },
        sel := { State.reset.sel with discrepant := true },
        recd := { State.reset.recd with mediaAt := 12799999, fwdGaps := 8 },
        bob := { State.reset.bob with
            inner1 := true,
            cap1 := 65534,
            scrubPos := 65535,
            fgBusy := 1,
            superblock := (vset State.reset.bob.superblock 1 true),
            sectors := [{ part := 65536, copy := 15, lsn := 65535, wseq := 3, place := {} }],
            partSize := (vset State.reset.bob.partSize 6 1),
            preempts := 8 },
        sys := { State.reset.sys with vin := 7, wdRun := true, pendingReset := some 51200000000 },
        inbox := [{ 
              cls := (FloenClass.event),
              dir := (FloenDir.down),
              dst := 65535,
              src := 11,
              hops := 65534,
              hseq := 6,
              twin := true,
              eseq := 8,
              payload := [8#8] }],
        free := 4,
        pending := [Instr.brownout, Instr.brownout] },
      { e := {}, since := 12800000, ram := true }, by decide +kernel⟩,
   ⟨State.reset, by decide +kernel⟩,
   ⟨{ State.reset with
        node := { State.reset.node with role := (Role.arm) },
        tb := { State.reset.tb with taps := 137438949479, refOk := true },
        hdl := { State.reset.hdl with cores := (vset State.reset.hdl.cores 6 { cur := 65536 }) },
        jrn := { State.reset.jrn with
            pstate := (PairState.init),
            partnerTap := 1,
            busyArms := [38400000],
            lanes := [{ 
                  code := 2,
                  head := 4,
                  trim := 65535,
                  gapped := [{ 
                        lane := 12800000000,
                        jsn := 65534,
                        pjsn := 16383,
                        applyAt := 536870913,
                        target := 25600000,
                        etype := (EType.fence),
                        index := 2,
                        sub := 66,
                        role := (SessRole.engineer),
                        len := 65535,
                        value := 65,
                        swEpoch := 43,
                        swAddr := 7 },
                     { 
                        lane := 12800000000,
                        jsn := 4,
                        pjsn := 65534,
                        applyAt := 65535,
                        target := 4,
                        system := true,
                        confirm := true,
                        accepted := true,
                        index := 4981762,
                        sub := 5248769,
                        role := (SessRole.operator),
                        len := 16,
                        value := 4194304,
                        swEpoch := 12800000000,
                        swAddr := 4981762,
                        swCause := 23 },
                     { 
                        lane := 4194305,
                        jsn := 7,
                        applyAt := 25600,
                        target := 12800000000,
                        anym := true,
                        accepted := true,
                        etype := (EType.switch),
                        sub := 65534,
                        role := (SessRole.operator),
                        len := 5,
                        value := 4,
                        swEpoch := 4981761,
                        swCause := 67108863 }],
                  fenceId := 12800000001,
                  fenceJsn := 8 },
               { 
                  code := 2,
                  applied := 5251073,
                  head := 536870911,
                  trim := 3,
                  entries := [{ e := {}, committed := true, acked := true, accepted := true, ram := true },
                     { e := {}, since := 5 },
                     { e := {}, committed := true, accepted := true, since := 7 }],
                  image := [{ target := 65534, key := 12800000000, jsn := 65535, value := 7 },
                     { target := 25, key := 0, jsn := 4194303, value := 3000000000 }],
                  fenceId := 4981762,
                  fenceJsn := 4981762 }],
            triggerAt := some 2 },
        sel := { State.reset.sel with enSeen := (vset State.reset.sel.enSeen 1 (false, 8)), sealSel := 8 } }, by decide +kernel⟩,
   ⟨State.reset, by decide +kernel⟩,
   ⟨{ State.reset with
        node := { State.reset.node with role := (Role.station) },
        tb := { State.reset.tb with
            taps := 15621012,
            refOk := true,
            latTraw := 524286,
            stepRefused := 1,
            theta := 1,
            lockRun := 48,
            utcOffset := 131072 },
        jrn := { State.reset.jrn with
            pstate := (PairState.standby),
            healthyWas := true,
            lanes := [{ 
                  code := 65536,
                  applied := 4000,
                  head := 4,
                  trim := 12800000,
                  entries := [{ e := {}, acked := true, accepted := true, since := 2, ram := true }, { e := {}, since := 512, ram := true }],
                  fenceId := 4,
                  fenceJsn := 2 },
               { 
                  code := 2147483647,
                  applied := 7,
                  head := 1,
                  trim := 2147483649,
                  entries := [{ e := {}, committed := true, accepted := true, since := 43 },
                     { e := {}, committed := true, acked := true, accepted := true, since := 12800000, ram := true }],
                  gapped := [{ 
                        lane := 6,
                        jsn := 16383,
                        pjsn := 65534,
                        applyAt := 12800000,
                        target := 12800000,
                        anym := true,
                        system := true,
                        etype := (EType.switch),
                        index := 262144,
                        sub := 8,
                        role := (SessRole.safetyEngineer),
                        len := 6,
                        value := 549755813888,
                        swEpoch := 1048575,
                        swAddr := 12800000,
                        swCause := 6 }],
                  fenceId := 2 }] } },
      { 
        code := 65536,
        applied := 4000,
        head := 4,
        trim := 12800000,
        entries := [{ e := {}, acked := true, accepted := true, since := 2, ram := true }, { e := {}, since := 512, ram := true }],
        fenceId := 4,
        fenceJsn := 2 },
      { e := {}, acked := true, accepted := true, since := 2, ram := true }, by decide +kernel⟩,
   ⟨{ State.reset with node := { State.reset.node with role := (Role.station) }, tb := { State.reset.tb with refOk := true } },
      0, by decide +kernel⟩,
   ⟨State.reset, 0, by decide +kernel⟩,
   ⟨{ State.reset with node := { State.reset.node with role := (Role.station) }, tb := { State.reset.tb with refOk := true } },
      2,
      0, by decide +kernel⟩,
   ⟨State.reset, 0, 0, by decide +kernel⟩⟩

/-- States and operands that meet the hypotheses of `Obligations.TheActiveRolePassesOnce`, clause by clause. -/
theorem test_witness_TheActiveRolePassesOnce :
    (∃ (s : State), (s.isMember = false ∨ s.jrn.pstate ≠ .standby ∨ s.healthy = false ∨ s.jrn.triggerAt ≠ some s.tb.taps ∨ s.powered = false))
    ∧ (∃ (s : State), s.powered = true ∧ s.isArm = true ∧ s.jrn.pstate = .standby ∧ s.healthy = true ∧ s.jrn.triggerAt = some s.tb.taps ∧ (s.laneOf
      s.ownLane).entries = [])
    ∧ (∃ (s : State), s.powered = true ∧ s.isStation = true ∧ s.jrn.pstate = .standby ∧ s.healthy = true ∧ s.jrn.triggerAt = some s.tb.taps ∧ (s.laneOf
      0xFFFF).entries = [])
    ∧ (∃ (s : State) (v : Nat), s.powered = true ∧ s.isActive = true ∧ s.partnerHealthy = true ∧ v = s.addr)
    ∧ (∃ (s : State) (v : Nat), s.powered = true ∧ s.isMember = true ∧ v ≠ s.addr)
    ∧ (∃ (s : State) (v : Nat), s.powered = true ∧ s.isMember = true ∧ s.isActive = false ∧ v = s.addr)
    ∧ (∃ (s : State) (v : Nat), s.powered = true ∧ s.isActive = true ∧ s.partnerHealthy = false ∧ v = s.addr)
    ∧ (∃ (s : State) (v : Nat), s.powered = true ∧ s.isMember = false)
    ∧ (∃ (s : State) (v : Nat), s.powered = false)
    ∧ (∃ (s : State), (s.isActive = false ∨ s.pulseMissing = false ∨ s.powered = false))
    ∧ (∃ (s : State), s.powered = true ∧ s.isActive = true ∧ s.pulseMissing = true ∧ s.isStation = true)
    ∧ (∃ (s : State), s.powered = true ∧ s.isArm = true ∧ s.isActive = true ∧ s.pulseMissing = true ∧ s.partnerHealthy = false)
    ∧ (∃ (s : State), s.powered = true ∧ s.isArm = true ∧ s.isActive = true ∧ s.pulseMissing = true ∧ s.partnerHealthy = true ∧ s.jrn.busy = false) :=
  ⟨⟨State.reset, by decide +kernel⟩,
   ⟨(((armMaster.upTb fun t => { t with state := .locked }).upTrdl fun t => { t with std := false }).upJrn fun j => { j with pstate := .standby, health := 6, verified := true, yieldCause := some 2, partner := some {}, triggerAt := some 0 }), by decide +kernel⟩,
   ⟨(((station.upTb fun t => { t with state := .locked }).upTrdl fun t => { t with std := false }).upJrn fun j => { j with pstate := .standby, health := 6, verified := true, yieldCause := some 2, partner := some {}, triggerAt := some 0 }), by decide +kernel⟩,
   ⟨{ State.reset with
        node := { State.reset.node with role := (Role.arm) },
        jrn := { State.reset.jrn with pstate := (PairState.active), partner := some { pstate := (PairState.standby), health := 63 } } },
      524287, by decide +kernel⟩,
   ⟨{ State.reset with node := { State.reset.node with role := (Role.station) } }, 0, by decide +kernel⟩,
   ⟨{ State.reset with node := { State.reset.node with role := (Role.station) } }, 524287, by decide +kernel⟩,
   ⟨{ State.reset with node := { State.reset.node with role := (Role.arm) }, jrn := { State.reset.jrn with pstate := (PairState.active) } },
      524287, by decide +kernel⟩,
   ⟨State.reset, 0, by decide +kernel⟩,
   ⟨{ State.reset with node := { State.reset.node with nodeState := (NodeState.off) } }, 0, by decide +kernel⟩,
   ⟨State.reset, by decide +kernel⟩,
   ⟨{ State.reset with
        node := { State.reset.node with role := (Role.station), nodeState := (NodeState.hold) },
        tb := { State.reset.tb with
            taps := 16773230,
            offset := (-4),
            refOk := true,
            stepNt := (-67108863),
            tpo := (vset State.reset.tb.tpo 0 { startTap := (-5) }) },
        jrn := { State.reset.jrn with pstate := (PairState.active), epochSentK := some 3, activeFrom := 6 },
        sel := { State.reset.sel with permitB := true, coreAt := 524286, sealSel := 16, sysTrip := true },
        bob := { State.reset.bob with scrubbing := true },
        sys := { State.reset.sys with vdda := 7, pendingReset := some 8 },
        inbox := [{ cls := (FloenClass.journal), dir := (FloenDir.down), dst := 65535, src := 16777215, hops := 0, hseq := 2, payload := [18#8, 1#8, 1#8] }],
        pending := [Instr.brownout] }, by decide +kernel⟩,
   ⟨{ State.reset with
        node := { State.reset.node with role := (Role.arm), nodeState := (NodeState.service) },
        weft := { State.reset.weft with begun := true },
        jrn := { State.reset.jrn with pstate := (PairState.active) } }, by decide +kernel⟩,
   ⟨((((aged armMaster).upNode fun n => { n with nodeState := .service }).upWeft fun w => { w with tw := 100000, begun := true, k := 9 }).upJrn fun j => { j with partner := some { pstate := .standby, health := 63 }, partnerTap := 10000 * tapsS }), by decide +kernel⟩⟩

/-- States and operands that meet the hypotheses of `Obligations.ResynchronisingAMember`, clause by clause. -/
theorem test_witness_ResynchronisingAMember :
    (∃ (s : State) (v : Nat), s.powered = true ∧ s.isMember = true ∧ v = s.addr ∧ s.jrn.pstate = .unhealthy)
    ∧ (∃ (s : State) (v : Nat), s.powered = true ∧ s.isMember = true ∧ v ≠ s.addr)
    ∧ (∃ (s : State) (v : Nat), s.powered = true ∧ s.isMember = true ∧ v = s.addr ∧ s.jrn.pstate ≠ .unhealthy)
    ∧ (∃ (s : State), (s.isMember = false ∨ s.jrn.pstate ≠ .unhealthy ∨ s.objB Obj.AUTO_RESYNC = false ∨ s.resyncReady = false ∨ (∀ a, s.jrn.abortAt = some
      a → s.tb.taps < a + tapsS) ∨ s.powered = false))
    ∧ (∃ (s : State) (a : Nat), s.powered = true ∧ s.isMember = true ∧ s.jrn.pstate = .unhealthy ∧ s.objB Obj.AUTO_RESYNC = true ∧ s.resyncReady = true ∧
      s.jrn.abortAt = some a ∧ a + tapsS ≤ s.tb.taps)
    ∧ (∃ (s : State) (off : Nat), (s.isActive = false ∨ s.tb.refOk = false))
    ∧ (∃ (s : State), s.tb.refOk = true ∧ s.powered = true ∧ s.isActive = true)
    ∧ (∃ (s : State) (off : Nat), s.tb.refOk = true ∧ s.powered = true ∧ s.isActive = true ∧ off ≠ 0)
    ∧ (∃ (s : State) (off total : Nat) (d : List Byte) (last : Bool), (s.jrn.pstate ≠ .resync ∨ s.jrn.snapDone = true ∨ (last = true ∧ off + d.length ≠
      total) ∨ s.tb.refOk = false))
    ∧ (∃ (s : State) (off total : Nat) (d : List Byte) (last : Bool), s.tb.refOk = true ∧ s.powered = true ∧ s.jrn.pstate = .resync ∧ s.jrn.snapDone = false
      ∧ (last = true → off + d.length = total) ∧ (snapJoin ((off, d) :: s.jrn.snapParts.filter (·.1 != off)).length ((off, d) ::
      s.jrn.snapParts.filter (·.1 != off)) 0).length ≠ total)
    ∧ (∃ (s : State) (d : List Byte), s.tb.refOk = true ∧ s.powered = true ∧ s.jrn.pstate = .resync ∧ s.jrn.snapDone = false ∧ d ≠ [] ∧ s.jrn.snapParts = []
      ∧ snapOfBytes d = none)
    ∧ (∃ (s : State) (b : List Byte) (d : SnapData), s.tb.refOk = true ∧ s.powered = true ∧ s.jrn.pstate = .resync ∧ s.jrn.snapDone = false ∧ b ≠ [] ∧
      s.jrn.snapParts = [] ∧ s.jrn.snapStored = [] ∧ snapOfBytes b = some d)
    ∧ (∃ (b : List Byte), (b.length < 32 ∨ b.drop (b.length - 32) ≠ Crc.sha256 (b.take (b.length - 32))))
    ∧ (∃ (s : State), (s.jrn.pstate ≠ .resync ∨ s.jrn.snapDone = true ∨ s.tb.taps < s.jrn.snapAskAt + 2 * tapsMs ∨ s.powered = false))
    ∧ (∃ (s : State), s.powered = true ∧ s.jrn.pstate = .resync ∧ s.jrn.snapDone = false ∧ s.jrn.snapAskAt + 2 * tapsMs ≤ s.tb.taps)
    ∧ (∃ (s : State), (s.isMember = false ∨ s.jrn.pstate ≠ .resync ∨ s.jrn.snapDone = false ∨ s.jrn.verifyRun < s.obj Obj.VERIFY_CYCLES ∨ s.powered =
      false))
    ∧ (∃ (s : State), s.powered = true ∧ s.isMember = true ∧ s.jrn.pstate = .resync ∧ s.jrn.snapDone = true ∧ s.obj Obj.VERIFY_CYCLES ≤ s.jrn.verifyRun ∧
      s.sys.trial = false ∧ s.jrn.healthyWas = false)
    ∧ (∃ (s : State), (s.jrn.pstate ≠ .resync ∨ s.jrn.snapDone = true ∨ s.tb.taps < s.jrn.snapTap + max 1 ((s.jrn.snapSize + 1048575) / 1048576) * 160 *
      tapsMs ∨ s.powered = false))
    ∧ (∃ (s : State), s.powered = true ∧ s.jrn.pstate = .resync ∧ s.jrn.snapDone = false ∧ s.jrn.snapTap + max 1 ((s.jrn.snapSize + 1048575) / 1048576) *
      160 * tapsMs ≤ s.tb.taps)
    ∧ (∃ (s : State) (b : List Byte), (s.shadows = false ∨ segOk b = false ∨ s.tb.refOk = false))
    ∧ (∃ (s : State) (b : List Byte) (k : Nat), s.tb.refOk = true ∧ s.powered = true ∧ s.shadows = true ∧ segOk b = true ∧ s.jrn.epochDone = some k ∧
      segCycle b ≤ k)
    ∧ (∃ (s : State) (b : List Byte), s.tb.refOk = true ∧ s.powered = true ∧ s.shadows = true ∧ segOk b = true ∧ (∀ k, s.jrn.epochDone = some k → k <
      segCycle b)) :=
  ⟨⟨{ State.reset with node := { State.reset.node with role := (Role.arm) }, jrn := { State.reset.jrn with pstate := (PairState.unhealthy) } },
      524287, by decide +kernel⟩,
   ⟨{ State.reset with node := { State.reset.node with role := (Role.station) } }, 0, by decide +kernel⟩,
   ⟨{ State.reset with node := { State.reset.node with role := (Role.station) } }, 524287, by decide +kernel⟩,
   ⟨State.reset, by decide +kernel⟩,
   ⟨(((((aged armMaster).setObj Obj.AUTO_RESYNC 1 0).upTb fun t => { t with state := .locked }).upTrdl fun t => { t with std := false }).upJrn fun j => { j with pstate := .unhealthy, partner := some { pstate := .active }, partnerTap := 10000 * tapsS, abortAt := some (9999 * tapsS) }),
      (9999 * tapsS), by decide +kernel⟩,
   ⟨State.reset, 0, by decide +kernel⟩,
   ⟨{ State.reset with
        node := { State.reset.node with role := (Role.station) },
        tb := { State.reset.tb with refOk := true },
        jrn := { State.reset.jrn with pstate := (PairState.active) } }, by decide +kernel⟩,
   ⟨{ State.reset with
        node := { State.reset.node with role := (Role.arm) },
        tb := { State.reset.tb with refOk := true },
        jrn := { State.reset.jrn with pstate := (PairState.active) } },
      1, by decide +kernel⟩,
   ⟨State.reset, 0, 0, [], false, by decide +kernel⟩,
   ⟨{ State.reset with tb := { State.reset.tb with refOk := true }, jrn := { State.reset.jrn with pstate := (PairState.resync) } },
      0,
      0,
      [0#8],
      false, by decide +kernel⟩,
   ⟨{ State.reset with tb := { State.reset.tb with refOk := true }, jrn := { State.reset.jrn with pstate := (PairState.resync) } },
      [0#8], by decide +kernel⟩,
   ⟨(armMaster.upJrn fun j => { j with pstate := .resync }), (snapBytes {}), {}, by decide +kernel⟩,
   ⟨[], by decide +kernel⟩,
   ⟨State.reset, by decide +kernel⟩,
   ⟨{ State.reset with
        tb := { State.reset.tb with
            taps := 33550453,
            offset := (-12800000),
            refOk := true,
            latTraw := 524286,
            theta := 2,
            lockRun := 48,
            utcOffset := 131072 },
        hdl := { State.reset.hdl with arrivals := [(4, 255)] },
        evc := { State.reset.evc with evt := 5#32 },
        jrn := { State.reset.jrn with pstate := (PairState.resync), snapAskAt := 8, pairAt := some 2 },
        inbox := [{ 
              cls := (FloenClass.safety),
              blk := true,
              dir := (FloenDir.up),
              dst := 2,
              anym := true,
              src := 131072,
              hops := 5767170,
              hseq := 4,
              twin := true,
              eseq := 1,
              payload := [4#8, 55#8, 6#8] }] }, by decide +kernel⟩,
   ⟨State.reset, by decide +kernel⟩,
   ⟨{ State.reset with
        node := { State.reset.node with role := (Role.arm) },
        dict := { State.reset.dict with objs := [{ key := 4981766, value := 0, jsn := 4981765 }] },
        jrn := { State.reset.jrn with pstate := (PairState.resync), snapDone := true } }, by decide +kernel⟩,
   ⟨State.reset, by decide +kernel⟩,
   ⟨{ State.reset with
        tb := { State.reset.tb with taps := 2147479670, refOk := true, theta := 1, utcOffset := 131072 },
        jrn := { State.reset.jrn with pstate := (PairState.resync), snapSize := 43 } }, by decide +kernel⟩,
   ⟨State.reset, [], by decide +kernel⟩,
   ⟨(armMaster.upJrn fun j => { j with pstate := .standby, epochDone := some 0 }), (1 :: List.replicate 27 0), 0, by decide +kernel⟩,
   ⟨(armMaster.upJrn fun j => { j with pstate := .standby }), (1 :: List.replicate 27 0), by decide +kernel⟩⟩

/-- States and operands that meet the hypotheses of `Obligations.SafetyInputsComparatorsAndEnables`, clause by clause. -/
theorem test_witness_SafetyInputsComparatorsAndEnables :
    (∃ (s : State) (n : Nat) (level : Bool), s.powered = true ∧ n < 2)
    ∧ (∃ (s : State) (n : Nat) (level : Bool), 2 ≤ n)
    ∧ (∃ (s : State), (s.sinDiscrepant = false ∨ s.sel.discrepant = true ∨ s.sel.failedC = true ∨ s.lasted s.sel.sinDiscAt (s.obj Obj.SIN_DISC * tapsMs) =
      false))
    ∧ (∃ (s : State), s.powered = true ∧ s.sinDiscrepant = true ∧ s.sel.discrepant = false ∧ s.sel.failedC = false ∧ s.lasted s.sel.sinDiscAt (s.obj
      Obj.SIN_DISC * tapsMs) = true)
    ∧ (∃ (s : State) (a b : Bool), (s.sel.testedC = false ∨ s.elapsed s.sel.coreAt (10 * tapsUs) = false))
    ∧ (∃ (s : State) (a b : Bool), s.powered = true ∧ s.sel.testedC = true ∧ s.elapsed s.sel.coreAt (10 * tapsUs) = true)
    ∧ (∃ (s : State) (n uv : Nat), 4 ≤ n)
    ∧ (∃ (s : State) (n uv : Nat), s.powered = true ∧ n < 4)
    ∧ (∃ (low high uv : Nat), low < high ∧ 2 * uv < 3125 * low)
    ∧ (∃ (low high uv : Nat), low < high ∧ 3125 * high ≤ 2 * uv)
    ∧ (∃ (s : State) (n : Nat), (4 ≤ n ∨ wcActs (s.wcUse n) (s.wcAt n).state = false ∨ s.sel.failedB = true ∨ (s.wcAt n).tripped = true ∨ s.elapsed (s.wcAt
      n).since (s.wcFiltTaps n) = false))
    ∧ (∃ (s : State) (n : Nat), s.powered = true ∧ n < 4 ∧ wcActs (s.wcUse n) (s.wcAt n).state = true ∧ s.sel.failedB = false ∧ s.elapsed (s.wcAt n).since
      (s.wcFiltTaps n) = true ∧ (s.wcAt n).tripped = false ∧ s.wcUse n = 1 ∧ s.isCell = true ∧ s.sel.sby = false)
    ∧ (∃ (s : State) (n : Nat), s.powered = true ∧ n < 4 ∧ wcActs (s.wcUse n) (s.wcAt n).state = true ∧ s.sel.failedB = false ∧ s.elapsed (s.wcAt n).since
      (s.wcFiltTaps n) = true ∧ (s.wcAt n).tripped = false ∧ s.wcUse n ≠ 1)
    ∧ (∃ (s : State) (n : Nat), s.powered = true ∧ n < 4 ∧ wcActs (s.wcUse n) (s.wcAt n).state = true ∧ s.sel.failedB = false ∧ s.elapsed (s.wcAt n).since
      (s.wcFiltTaps n) = true ∧ (s.wcAt n).tripped = false ∧ s.wcUse n = 1 ∧ (s.isCell = false ∨ s.sel.sby = true))
    ∧ (∃ (s : State) (n : Nat), (4 ≤ n ∨ s.wcUse n ≠ 4 ∨ (s.wcAt n).state ≠ .below ∨ s.elapsed (s.wcAt n).since (s.obj Obj.SDI_TIME * tapsMs) = false))
    ∧ (∃ (s : State) (n : Nat), s.powered = true ∧ n < 4 ∧ s.wcUse n = 4 ∧ (s.wcAt n).state = .below ∧ s.elapsed (s.wcAt n).since (s.obj Obj.SDI_TIME *
      tapsMs) = true)
    ∧ (∃ (s : State) (n : Nat), s.powered = true ∧ n < 2 ∧ s.elapsed (vget s.sel.pulseAt n 0) 0 = true ∧ s.objB Obj.OFFPULSE_EN = true ∧ s.enActive n =
      true)
    ∧ (∃ (s : State) (n : Nat), s.powered = true ∧ n < 2 ∧ s.elapsed (vget s.sel.pulseAt n 0) 0 = true ∧ (s.objB Obj.OFFPULSE_EN = false ∨ s.enActive n =
      false))
    ∧ (∃ (s : State) (n : Nat), (2 ≤ n ∨ s.elapsed (vget s.sel.pulseAt n 0) 0 = false))
    ∧ (∃ (s : State) (n : Nat), (2 ≤ n ∨ vget s.sel.enPulse n false = false ∨ s.elapsed (s.lastEnEdge n) (nsTaps 300) = false))
    ∧ (∃ (s : State) (n : Nat), s.powered = true ∧ n < 2 ∧ vget s.sel.enPulse n false = true ∧ s.elapsed (s.lastEnEdge n) (nsTaps 300) = true)
    ∧ (∃ (s : State) (n : Nat) (level : Bool), s.powered = true ∧ n < 2 ∧ s.fbDue n = true ∧ (level && s.sys.vddioB) ≠ s.enActive n)
    ∧ (∃ (s : State) (n : Nat) (level : Bool), s.powered = true ∧ n < 2 ∧ s.fbDue n = true ∧ (level && s.sys.vddioB) = s.enActive n ∧ vget s.sel.fbBad (1 -
      n) false = false)
    ∧ (∃ (s : State) (n : Nat) (level : Bool), s.powered = true ∧ n < 2 ∧ s.fbDue n = true ∧ (level && s.sys.vddioB) = s.enActive n ∧ vget s.sel.fbBad (1 -
      n) false = true)
    ∧ (∃ (s : State) (n x : Nat) (a b : Bool), s.powered = false)
    ∧ (∃ (s : State) (n : Nat) (level : Bool), (2 ≤ n ∨ s.fbDue n = false))
    ∧ (∃ (s : State) (core : Bool), s.powered = true) :=
  ⟨⟨State.reset, 0, false, by decide +kernel⟩,
   ⟨State.reset, 2, false, by decide +kernel⟩,
   ⟨State.reset, by decide +kernel⟩,
   ⟨{ State.reset with sel := { State.reset.sel with sinC := (vset State.reset.sel.sinC 1 true) } }, by decide +kernel⟩,
   ⟨State.reset, false, false, by decide +kernel⟩,
   ⟨{ State.reset with sel := { State.reset.sel with testedC := true } }, false, false, by decide +kernel⟩,
   ⟨State.reset, 4, 0, by decide +kernel⟩,
   ⟨State.reset, 0, 0, by decide +kernel⟩,
   ⟨1, 2, 0, by decide +kernel⟩,
   ⟨0, 1, 1563, by decide +kernel⟩,
   ⟨State.reset, 0, by decide +kernel⟩,
   ⟨{ State.reset with sel := { State.reset.sel with sealEn := true, wc := (vset State.reset.sel.wc 0 { state := (WcState.above) }) } },
      0, by decide +kernel⟩,
   ⟨((((aged cell).setObj (Obj.WC_USE + 768) 3 0)).upWc 3 fun c => { c with state := .below }), 3, by decide +kernel⟩,
   ⟨{ State.reset with
        sel := { State.reset.sel with sby := true, sealEn := true, wc := (vset State.reset.sel.wc 0 { state := (WcState.above) }) } },
      0, by decide +kernel⟩,
   ⟨State.reset, 0, by decide +kernel⟩,
   ⟨{ State.reset with
        sel := { State.reset.sel with sealEn := true, sealSel := 32, wc := (vset State.reset.sel.wc 1 { state := (WcState.below) }) } },
      1, by decide +kernel⟩,
   ⟨{ State.reset with sel := { State.reset.sel with spb := false, permitC := true, failedB := true, degraded := true } },
      0, by decide +kernel⟩,
   ⟨State.reset, 0, by decide +kernel⟩,
   ⟨State.reset, 2, by decide +kernel⟩,
   ⟨State.reset, 0, by decide +kernel⟩,
   ⟨{ State.reset with sel := { State.reset.sel with enPulse := (vset State.reset.sel.enPulse 0 true) } }, 0, by decide +kernel⟩,
   ⟨State.reset, 0, true, by decide +kernel⟩,
   ⟨State.reset, 0, false, by decide +kernel⟩,
   ⟨{ State.reset with sel := { State.reset.sel with fbBad := (vset State.reset.sel.fbBad 0 true) } }, 1, false, by decide +kernel⟩,
   ⟨{ State.reset with node := { State.reset.node with nodeState := (NodeState.off) } }, 0, 0, false, false, by decide +kernel⟩,
   ⟨State.reset, 2, false, by decide +kernel⟩,
   ⟨State.reset, false, by decide +kernel⟩⟩

/-- States and operands that meet the hypotheses of `Obligations.SafetyFramesAndTheirDemands`, clause by clause. -/
theorem test_witness_SafetyFramesAndTheirDemands :
    (∃ (s : State), (s.sel.failedC = true ∨ s.tb.refOk = false ∨ s.powered = false))
    ∧ (∃ (s : State), (s.elapsed s.sel.sfAt (s.obj Obj.SF_PERIOD * 10 * tapsUs) = false ∨ s.tb.refOk = false ∨ s.powered = false))
    ∧ (∃ (s : State), s.tb.refOk = true ∧ s.powered = true ∧ s.sel.failedC = true ∧ s.elapsed s.sel.sfAt (s.obj Obj.SF_PERIOD * 10 * tapsUs) = true)
    ∧ (∃ (s : State), s.tb.refOk = true ∧ s.powered = true ∧ s.sel.failedC = false ∧ s.elapsed s.sel.sfAt (s.obj Obj.SF_PERIOD * 10 * tapsUs) = true)
    ∧ (∃ (s : State), (∀ p ∈ s.connPorts, ∃ f, (s.conn p).txLast = some f ∧ sameSdata f (s.sdata p) = true))
    ∧ (∃ (s : State), s.tb.refOk = true ∧ s.powered = true)
    ∧ (∃ (s : State) (p : Nat) (bs : List Byte), (vget s.sys.admitted p none = none ∨ p ∉ s.connPorts ∨ s.sel.failedC = true ∨ s.tb.refOk = false ∨
      s.powered = false))
    ∧ (∃ (s : State) (p pk : Nat) (bs : List Byte), s.tb.refOk = true ∧ s.powered = true ∧ vget s.sys.admitted p none = some pk ∧ p ∈ s.connPorts ∧
      s.sel.failedC = false ∧ safetyFormOk bs = false)
    ∧ (∃ (s : State) (p pk : Nat) (bs : List Byte), s.tb.refOk = true ∧ s.powered = true ∧ vget s.sys.admitted p none = some pk ∧ p ∈ s.connPorts ∧
      s.sel.failedC = false ∧ safetyFormOk bs = true ∧ ((safetyOfBytes bs).connId ≠ connIdOf pk ownKey ∨ (safetyOfBytes bs).texp ≠ s.obj Obj.TEXP))
    ∧ (∃ (s : State) (p pk d : Nat) (bs : List Byte), s.tb.refOk = true ∧ s.powered = true ∧ vget s.sys.admitted p none = some pk ∧ p ∈ s.connPorts ∧
      s.sel.failedC = false ∧ safetyFormOk bs = true ∧ (safetyOfBytes bs).connId = connIdOf pk ownKey ∧ (safetyOfBytes bs).texp = s.obj Obj.TEXP ∧ d =
      ((safetyOfBytes bs).seq + 65536 - (s.conn p).lastSeq) % 65536 ∧ (d = 0 ∨ 16 < d) ∧ ((s.conn p).start = false ∨ (safetyOfBytes bs).init = false))
    ∧ (∃ (s : State) (p pk d : Nat) (bs : List Byte), s.tb.refOk = true ∧ s.powered = true ∧ vget s.sys.admitted p none = some pk ∧ p ∈ s.connPorts ∧
      s.sel.failedC = false ∧ safetyFormOk bs = true ∧ (safetyOfBytes bs).connId = connIdOf pk ownKey ∧ (safetyOfBytes bs).texp = s.obj Obj.TEXP ∧ d =
      ((safetyOfBytes bs).seq + 65536 - (s.conn p).lastSeq) % 65536 ∧ ((1 ≤ d ∧ d ≤ 16) ∨ ((s.conn p).start = true ∧ (safetyOfBytes bs).init = true)))
    ∧ (∃ (s : State) (p : Nat), s.powered = false)
    ∧ (∃ (s : State) (p : Nat), ((s.conn p).valid = false ∨ p ∉ s.connPorts ∨ s.elapsed (s.conn p).lastTap s.texpTaps = false))
    ∧ (∃ (s : State) (p : Nat), s.powered = true ∧ s.sel.failedC = true ∧ p ∈ s.connPorts ∧ (s.conn p).valid = true ∧ s.elapsed (s.conn p).lastTap
      s.texpTaps = true)
    ∧ (∃ (s : State) (p : Nat), s.powered = true ∧ s.sel.failedC = false ∧ s.isStation = false ∧ p < 2 ∧ (s.conn p).valid = true ∧ (s.conn (1 - p)).valid =
      false ∧ s.elapsed (s.conn p).lastTap s.texpTaps = true)
    ∧ (∃ (s : State) (p : Nat), s.powered = true ∧ s.sel.failedC = false ∧ p ∈ s.connPorts ∧ (s.conn p).valid = true ∧ (2 ≤ p ∨ (s.conn (1 - p)).valid =
      true) ∧ s.elapsed (s.conn p).lastTap s.texpTaps = true)
    ∧ (∃ (s : State) (p : Nat), ((s.conn p).mismatch = false ∨ s.elapsed (s.conn p).mismatchAt s.texpTaps = false ∨ s.inRun .safetyParam p = true))
    ∧ (∃ (s : State) (p : Nat), s.powered = true ∧ (s.conn p).mismatch = true ∧ s.elapsed (s.conn p).mismatchAt s.texpTaps = true ∧ s.inRun .safetyParam p =
      false)
    ∧ (∃ (s : State), (s.dnm = false ∨ s.dnmAgree = true ∨ s.lasted s.sel.dnmDisAt s.texpTaps = false ∨ s.inRun .safetyDnmDisagree 0 = true))
    ∧ (∃ (s : State), s.powered = true ∧ s.dnm = true ∧ s.dnmAgree = false ∧ s.lasted s.sel.dnmDisAt s.texpTaps = true) :=
  ⟨⟨State.reset, by decide +kernel⟩,
   ⟨State.reset, by decide +kernel⟩,
   ⟨{ State.reset with
        tb := { State.reset.tb with taps := 4190314, refOk := true },
        hdl := { State.reset.hdl with cores := (vset State.reset.hdl.cores 6 { cur := 65536 }), cancelRace := 7 },
        evc := { State.reset.evc with ec := (vset State.reset.evc.ec 6 { startNt := 7 }) },
        sel := { State.reset.sel with
            supOk := true,
            failedC := true,
            sealEn := true,
            sealSel := 131072000000000,
            demandId := 1,
            sfAt := 9,
            frameErr := 5247490 } }, by decide +kernel⟩,
   ⟨{ State.reset with tb := { State.reset.tb with taps := 4190335, refOk := true }, hdl := { State.reset.hdl with run := true } }, by decide +kernel⟩,
   ⟨quiet, quiet_has_sent⟩,
   ⟨{ State.reset with tb := { State.reset.tb with refOk := true } }, by decide +kernel⟩,
   ⟨State.reset, 0, [], by decide +kernel⟩,
   ⟨{ State.reset with
        tb := { State.reset.tb with refOk := true },
        sys := { State.reset.sys with admitted := (vset State.reset.sys.admitted 2 (some 0)) } },
      2,
      0,
      [], by decide +kernel⟩,
   ⟨connected, 0, 0, safetyBytes { texp := 1 }, by decide, by decide, by decide, by decide, by decide, by decide +kernel, .inr (by decide +kernel)⟩,
   ⟨connected, 0, 0, 0, safetyBytes { connId := connIdOf 0 ownKey, seq := 5, texp := connected.obj Obj.TEXP }, by decide, by decide, by decide, by decide, by decide, safetyBytes_formOk _, safetyBytes_connId _ (connIdOf_lt 0 ownKey), rfl, rfl, .inl rfl, .inl rfl⟩,
   ⟨connected, 0, 0, 16, safetyBytes { connId := connIdOf 0 ownKey, seq := 21, texp := connected.obj Obj.TEXP }, by decide, by decide, by decide, by decide, by decide, safetyBytes_formOk _, safetyBytes_connId _ (connIdOf_lt 0 ownKey), rfl, rfl, .inl ⟨by decide, by decide⟩⟩,
   ⟨{ State.reset with node := { State.reset.node with nodeState := (NodeState.off) } }, 0, by decide +kernel⟩,
   ⟨State.reset, 0, by decide +kernel⟩,
   ⟨{ State.reset with sel := { State.reset.sel with failedC := true, conns := (vset State.reset.sel.conns 0 { valid := true }) } },
      0, by decide +kernel⟩,
   ⟨{ State.reset with sel := { State.reset.sel with conns := (vset State.reset.sel.conns 1 { valid := true }) } }, 1, by decide +kernel⟩,
   ⟨{ State.reset with sel := { State.reset.sel with conns := (vset (vset State.reset.sel.conns 0 { valid := true }) 1 { valid := true }) } },
      0, by decide +kernel⟩,
   ⟨State.reset, 0, by decide +kernel⟩,
   ⟨{ State.reset with sel := { State.reset.sel with conns := (vset State.reset.sel.conns 3 { mismatch := true }) } }, 3, by decide +kernel⟩,
   ⟨State.reset, by decide +kernel⟩,
   ⟨{ State.reset with
        node := { State.reset.node with nodeState := (NodeState.block) },
        sel := { State.reset.sel with conns := (vset (vset State.reset.sel.conns 0 { last := some {} }) 1 { last := some { spbDem := true } }) } }, by decide +kernel⟩⟩

/-- States and operands that meet the hypotheses of `Obligations.ChannelsDegradedModeAndTheParameterSet`, clause by clause. -/
theorem test_witness_ChannelsDegradedModeAndTheParameterSet :
    (∃ (s : State), s.powered = true)
    ∧ (∃ (s : State), s.powered = true)
    ∧ (∃ (s : State) (c : Instr), (c = .heartbeatMiss ∨ c = .coreLockstepError) ∧ s.powered = true ∧ s.sel.failedC = true)
    ∧ (∃ (s : State) (c : Instr), (c = .heartbeatMiss ∨ c = .coreLockstepError) ∧ s.powered = true ∧ s.sel.degraded = false ∧ s.sel.failedB = false ∧
      s.sel.failedC = false)
    ∧ (∃ (s : State) (c : Instr), (c = .heartbeatMiss ∨ c = .coreLockstepError) ∧ s.powered = true ∧ (s.sel.degraded = true ∨ s.sel.failedB = true) ∧
      s.sel.failedC = false)
    ∧ (∃ (s : State), s.sel.discPending = false)
    ∧ (∃ (s : State) (c : Instr), (c = .ioscCheck false ∨ (c = .injectionTest false ∧ (s.sel.discPending = false ∨ s.sel.missB = true))) ∧ s.powered = true
      ∧ s.sel.degraded = false ∧ s.sel.failedB = false ∧ s.sel.failedC = false)
    ∧ (∃ (s : State), s.powered = true ∧ s.sel.failedB = true)
    ∧ (∃ (s : State) (ok : Bool), s.powered = true ∧ s.sel.discPending = true ∧ (s.sel.missB = false ∨ ok = true))
    ∧ (∃ (s : State), (s.channelSees.1 = s.channelSees.2 ∨ s.lasted s.sel.decAt (100 * tapsUs) = false))
    ∧ (∃ (s : State), s.powered = true ∧ s.channelSees.1 ≠ s.channelSees.2 ∧ s.sel.degraded = true ∧ s.lasted s.sel.decAt (100 * tapsUs) = true)
    ∧ (∃ (s : State), s.powered = true ∧ s.channelSees.1 ≠ s.channelSees.2 ∧ s.sel.degraded = false ∧ s.lasted s.sel.decAt (100 * tapsUs) = true)
    ∧ (∃ (s : State) (n : Nat), (4 ≤ n ∨ (s.wcAt n).fault = true))
    ∧ (∃ (s : State) (n : Nat), s.powered = true ∧ n < 4 ∧ (s.wcAt n).fault = false ∧ (s.wcUse n = 2 ∨ s.wcUse n = 3))
    ∧ (∃ (s : State) (n : Nat), s.powered = true ∧ n < 4 ∧ (s.wcAt n).fault = false ∧ s.wcUse n = 1 ∧ s.isCell = true ∧ s.sel.sby = false)
    ∧ (∃ (s : State) (n : Nat), s.powered = true ∧ n < 4 ∧ (s.wcAt n).fault = false ∧ (s.wcUse n = 0 ∨ s.wcUse n = 4 ∨ (s.wcUse n = 1 ∧ (s.isCell = false ∨
      s.sel.sby = true))))
    ∧ (∃ (s : State), (s.sel.degraded = false ∨ (s.powered = false ∧ s.sys.hibernating = false) ∨ (s.powered = true ∧ s.elapsed s.sel.degAt (60 * tapsS) =
      false)))
    ∧ (∃ (s : State), s.powered = true ∧ s.sel.degraded = true ∧ s.elapsed s.sel.degAt (60 * tapsS) = true)
    ∧ (∃ (s : State), s.powered = false ∧ s.sys.hibernating = true ∧ s.sel.degraded = true)
    ∧ (∃ (s : State) (v : Nat), s.powered = true ∧ v ≠ s.addr)
    ∧ (∃ (s : State), s.powered = true ∧ s.rwsState = false)
    ∧ (∃ (s : State), s.powered = true ∧ s.rwsState = true ∧ (s.sel.testedB = false ∨ s.sel.testedC = false ∨ s.sel.discPending = true ∨ s.sel.wc.any
      (·.fault) = true))
    ∧ (∃ (s : State), s.powered = true ∧ s.rwsState = true ∧ s.sel.testedB = true ∧ s.sel.testedC = true ∧ s.sel.discPending = false ∧ s.sel.wc.any
      (·.fault) = false)
    ∧ (∃ (s : State) (v : Nat), s.powered = true ∧ s.sel.sealEn = true)
    ∧ (∃ (s : State) (v : Nat), s.powered = true ∧ s.sel.sealEn = false ∧ s.rwsState = false)
    ∧ (∃ (s : State) (v : Nat), s.powered = true ∧ s.sel.sealEn = false ∧ s.rwsState = true ∧ s.obj Obj.TEXP < 3 * s.obj Obj.SF_PERIOD)
    ∧ (∃ (s : State), s.powered = true ∧ s.sel.sealEn = false ∧ s.rwsState = true ∧ 3 * s.obj Obj.SF_PERIOD ≤ s.obj Obj.TEXP)
    ∧ (∃ (s : State) (v : Nat), s.powered = true ∧ s.sel.sealEn = false ∧ s.rwsState = true ∧ 3 * s.obj Obj.SF_PERIOD ≤ s.obj Obj.TEXP ∧ v ≠ s.sel.scv)
    ∧ (∃ (s : State) (key v : Nat), s.powered = true ∧ (isSpsKey key = false ∨ s.objRow s.node.role key = none))
    ∧ (∃ (s : State) (key v : Nat) (r : ObjRow), s.powered = true ∧ isSpsKey key = true ∧ s.objRow s.node.role key = some r ∧ s.sel.sealEn = true)
    ∧ (∃ (s : State) (key v : Nat) (r : ObjRow), s.powered = true ∧ isSpsKey key = true ∧ s.objRow s.node.role key = some r ∧ s.sel.sealEn = false ∧
      (rangeOk s.node.role s.addr r key v = false ∨ s.partnerOk key v = false))
    ∧ (∃ (s : State) (key v : Nat) (r : ObjRow), s.powered = true ∧ isSpsKey key = true ∧ s.objRow s.node.role key = some r ∧ s.sel.sealEn = false ∧ rangeOk
      s.node.role s.addr r key v = true ∧ s.partnerOk key v = true ∧ s.rwsState = false)
    ∧ (∃ (s : State) (key v : Nat) (r : ObjRow), s.powered = true ∧ isSpsKey key = true ∧ s.objRow s.node.role key = some r ∧ s.sel.sealEn = false ∧ rangeOk
      s.node.role s.addr r key v = true ∧ s.partnerOk key v = true ∧ s.rwsState = true)
    ∧ (∃ (s : State) (n : Nat) (r : ObjRow), s.powered = true ∧ n < 4 ∧ s.objRow s.node.role (Obj.WC_USE + 256 * n) = some r ∧ s.sel.sealEn = false ∧
      isSpsKey (Obj.WC_USE + 256 * n) = true ∧ rangeOk s.node.role s.addr r (Obj.WC_USE + 256 * n) 1 = true ∧ s.partnerOk (Obj.WC_USE + 256 * n) 1 =
      true ∧ s.rwsState = true ∧ s.isCell = true ∧ (s.wcAt n).tripped = true ∧ (s.wcAt n).state = .above ∧ s.sel.failedB = false ∧ wcNext .above
      (s.obj (Obj.WC_LOW + 256 * n)) (s.obj (Obj.WC_HIGH + 256 * n)) (s.wcAt n).uv = .above)
    ∧ (∃ (s : State) (n v : Nat) (b : Bool), s.powered = false) :=
  ⟨⟨State.reset, by decide +kernel⟩,
   ⟨State.reset, by decide +kernel⟩,
   ⟨(cell.upSel fun l => { l with failedC := true, testedC := true }), .coreLockstepError, by decide +kernel⟩,
   ⟨cell, .heartbeatMiss, by decide +kernel⟩,
   ⟨(cell.upSel fun l => { l with degraded := true }), .coreLockstepError, by decide +kernel⟩,
   ⟨State.reset, by decide +kernel⟩,
   ⟨cell, (.ioscCheck false), by decide +kernel⟩,
   ⟨{ State.reset with sel := { State.reset.sel with failedB := true } }, by decide +kernel⟩,
   ⟨{ State.reset with sel := { State.reset.sel with discPending := true } }, false, by decide +kernel⟩,
   ⟨State.reset, by decide +kernel⟩,
   ⟨{ State.reset with sel := { State.reset.sel with degraded := true, sealEn := true, wc := (vset State.reset.sel.wc 0 { coreTrip := true }) } }, by decide +kernel⟩,
   ⟨{ State.reset with sel := { State.reset.sel with sealEn := true, wc := (vset State.reset.sel.wc 0 { coreTrip := true }) } }, by decide +kernel⟩,
   ⟨State.reset, 4, by decide +kernel⟩,
   ⟨{ State.reset with dict := { State.reset.dict with objs := [{ key := 5248259, value := 2, jsn := 257 }] } }, 0, by decide +kernel⟩,
   ⟨{ State.reset with sel := { State.reset.sel with sealEn := true } }, 0, by decide +kernel⟩,
   ⟨State.reset, 0, by decide +kernel⟩,
   ⟨State.reset, by decide +kernel⟩,
   ⟨{ State.reset with sel := { State.reset.sel with degraded := true } }, by decide +kernel⟩,
   ⟨{ State.reset with
        node := { State.reset.node with nodeState := (NodeState.off) },
        sel := { State.reset.sel with degraded := true },
        sys := { State.reset.sys with hibernating := true } }, by decide +kernel⟩,
   ⟨State.reset, 0, by decide +kernel⟩,
   ⟨State.reset, by decide +kernel⟩,
   ⟨{ State.reset with node := { State.reset.node with nodeState := (NodeState.ready) } }, by decide +kernel⟩,
   ⟨{ State.reset with
        node := { State.reset.node with nodeState := (NodeState.ready) },
        sel := { State.reset.sel with testedB := true, testedC := true } }, by decide +kernel⟩,
   ⟨{ State.reset with sel := { State.reset.sel with sealEn := true } }, 0, by decide +kernel⟩,
   ⟨State.reset, 0, by decide +kernel⟩,
   ⟨{ State.reset with
        node := { State.reset.node with nodeState := (NodeState.block) },
        dict := { State.reset.dict with objs := [{ key := 5247489, value := 3, jsn := 3 }] } },
      0, by decide +kernel⟩,
   ⟨{ State.reset with node := { State.reset.node with nodeState := (NodeState.ready) } }, by decide +kernel⟩,
   ⟨{ State.reset with node := { State.reset.node with nodeState := (NodeState.ready) } }, 1, by decide +kernel⟩,
   ⟨State.reset, 0, 0, by decide +kernel⟩,
   ⟨{ State.reset with sel := { State.reset.sel with sealEn := true } },
      5246977,
      0,
      { 
        index := 20496,
        nIdx := 1,
        sub := 1,
        nSub := 1,
        ty := OType.u 1,
        acc := OAccess.rws,
        dflt := 1,
        persist := OPersist.imm,
        roles := 15,
        range := ORange.int 0 2 1 }, by decide +kernel⟩,
   ⟨State.reset,
      5246977,
      3,
      { 
        index := 20496,
        nIdx := 1,
        sub := 1,
        nSub := 1,
        ty := OType.u 1,
        acc := OAccess.rws,
        dflt := 1,
        persist := OPersist.imm,
        roles := 15,
        range := ORange.int 0 2 1 }, by decide +kernel⟩,
   ⟨State.reset,
      5251073,
      1,
      { 
        index := 20512,
        nIdx := 1,
        sub := 1,
        nSub := 1,
        ty := OType.u 1,
        acc := OAccess.rws,
        dflt := 24,
        persist := OPersist.imm,
        roles := 15,
        range := ORange.int 1 72 1 }, by decide +kernel⟩,
   ⟨{ State.reset with node := { State.reset.node with nodeState := (NodeState.ready) } },
      5246979,
      10,
      { 
        index := 20496,
        nIdx := 1,
        sub := 3,
        nSub := 1,
        ty := OType.u 2,
        acc := OAccess.rws,
        dflt := 100,
        persist := OPersist.imm,
        roles := 15,
        range := ORange.int 10 1000 1 }, by decide +kernel⟩,
   ⟨{ State.reset with
        node := { State.reset.node with nodeState := (NodeState.ready) },
        dict := { State.reset.dict with objs := [{ key := 5248770, value := 1, jsn := 65534 }] },
        sel := { State.reset.sel with wc := (vset State.reset.sel.wc 2 { state := (WcState.above), tripped := true }) } },
      2,
      { 
        index := 20501,
        nIdx := 4,
        sub := 3,
        nSub := 1,
        ty := OType.u 1,
        acc := OAccess.rws,
        dflt := 0,
        persist := OPersist.imm,
        roles := 15,
        range := ORange.rule 356 }, by decide +kernel⟩,
   ⟨{ State.reset with node := { State.reset.node with nodeState := (NodeState.off) } }, 0, 0, false, by decide +kernel⟩⟩

/-- States and operands that meet the hypotheses of `Obligations.RecordsAreFoldedSentAndStored`, clause by clause. -/
theorem test_witness_RecordsAreFoldedSentAndStored :
    (∃ (r : Rec) (now : Nat) (n : Record) (sent : Bool), r.folds now n = true)
    ∧ (∃ (r : Rec) (now : Nat) (n : Record) (sent : Bool), r.folds now n = false)
    ∧ (∃ (r : Rec) (now : Nat) (n : Record) (sent : Bool), r.folds now n = false ∧ r.den.length = 64 ∧ r.media = false)
    ∧ (∃ (r : Rec) (now : Nat) (n : Record) (sent : Bool), (r.den.filter fun d => d.state == .opened).length ≤ 1 ∧ r.den.length ≤ 64)
    ∧ (∃ (s : State), (s.recd.openSlot = none ∨ inWindow s.recd.openAt tapsS s.tb.taps = true ∨ s.powered = false))
    ∧ (∃ (s : State), s.powered = true ∧ s.recd.openSlot.isSome = true ∧ inWindow s.recd.openAt tapsS s.tb.taps = false)
    ∧ (∃ (s : State), (s.isStation = true ∨ s.eventPorts.filter s.lit = [] ∨ s.tb.refOk = false ∨ s.powered = false))
    ∧ (∃ (s : State) (p dst n : Nat) (f : Frame), s.tb.refOk = true ∧ s.powered = true ∧ s.isStation = false ∧ s.eventPorts.filter s.lit = [p] ∧ s.toSend
      false ≠ [] ∧ s.toSend true = [] ∧ (∀ d ∈ s.toSend false, Record_place d.record = false) ∧ dst = (s.port p).peer.addr ∧ n = (assoc s.recd.fseqTx
      dst).getD 0 ∧ f = s.mkFrame .event .up dst false (vget s.link.eseq FloenClass.event.code 0) (eventPayload n ((s.toSend false).map (·.record))) ∧
      (s.port p).fits f = true ∧ p < 6)
    ∧ (∃ (s : State) (src : Nat) (pl : List Byte), (leNat (pl.take 1) ≠ 1 ∨ leNat ((pl.drop 1).take 1) = 0 ∨ 21 < leNat ((pl.drop 1).take 1) ∨ pl.length ≠ 4
      + 48 * leNat ((pl.drop 1).take 1) ∨ s.tb.refOk = false ∨ s.powered = false))
    ∧ (∃ (s : State) (src l : Nat) (pl : List Byte), s.tb.refOk = true ∧ s.powered = true ∧ leNat (pl.take 1) = 1 ∧ leNat ((pl.drop 1).take 1) = 1 ∧
      pl.length = 52 ∧ assoc s.recd.fseqRx src = some l ∧ Record.checkOk (pl.drop 4) = false)
    ∧ (∃ (s : State) (src : Nat) (pl : List Byte) (x : Record), s.tb.refOk = true ∧ s.powered = true ∧ s.isStation = false ∧ leNat (pl.take 1) = 1 ∧ leNat
      ((pl.drop 1).take 1) = 1 ∧ pl.length = 52 ∧ Record.checkOk (pl.drop 4) = true ∧ x = Record.ofBytes (pl.drop 4) ∧ s.recd.holdsRelayed x = false ∧
      s.recd.den.length < 64)
    ∧ (∃ (s : State) (src : Nat) (pl : List Byte) (x : Record), s.tb.refOk = true ∧ s.powered = true ∧ s.isStation = false ∧ leNat (pl.take 1) = 1 ∧ leNat
      ((pl.drop 1).take 1) = 1 ∧ pl.length = 52 ∧ Record.checkOk (pl.drop 4) = true ∧ x = Record.ofBytes (pl.drop 4) ∧ s.recd.holdsRelayed x = true ∧
      x.typ ≠ 0x0C01)
    ∧ (∃ (s : State) (src : Nat) (pl : List Byte) (x : Record), s.tb.refOk = true ∧ s.powered = true ∧ s.isStation = true ∧ leNat (pl.take 1) = 1 ∧ leNat
      ((pl.drop 1).take 1) = 1 ∧ pl.length = 52 ∧ Record.checkOk (pl.drop 4) = true ∧ x = Record.ofBytes (pl.drop 4))
    ∧ (∃ (s : State), (s.recd.media = false ∨ s.elapsed s.recd.mediaAt (10 * tapsS) = false ∨ s.tb.refOk = false ∨ s.powered = false))
    ∧ (∃ (s : State), s.tb.refOk = true ∧ s.powered = true ∧ s.recd.media = true ∧ s.elapsed s.recd.mediaAt (10 * tapsS) = true)
    ∧ (∃ (s : State), s.tb.refOk = true ∧ s.powered = true ∧ s.recd.media = true ∧ s.elapsed s.recd.mediaAt (10 * tapsS) = true ∧ s.isStation = true)
    ∧ (∃ (s : State) (src : Nat), s.powered = true)
    ∧ (∃ (s : State) (n v : Nat) (r : SessRole), s.powered = false)
    ∧ (∃ (s : State) (v : Nat), (v % 2 = 0 ∨ s.powered = false))
    ∧ (∃ (s : State) (v : Nat), s.powered = true ∧ v % 2 = 1 ∧ (s.recd.utype < 0x8000 ∨ 1 < s.recd.uclass))
    ∧ (∃ (s : State) (v : Nat), s.powered = true ∧ v % 2 = 1 ∧ 0x8000 ≤ s.recd.utype ∧ s.recd.uclass ≤ 1 ∧ s.recd.den.length < 64 ∧ s.recd.openSlot = none)
    ∧ (∃ (s : State) (v : Nat), s.powered = true ∧ v % 2 = 1 ∧ 0x8000 ≤ s.recd.utype ∧ s.recd.uclass ≤ 1)
    ∧ (∃ (s : State), (s.storeTakes = false ∨ s.powered = false))
    ∧ (∃ (s : State), s.powered = true ∧ s.storeTakes = true ∧ (s.recd.storeDen false).events.length ≤ s.eventsCap)
    ∧ (∃ (s : State), s.powered = true ∧ s.storeTakes = true ∧ s.eventsCap < (s.recd.storeDen false).events.length ∧ s.eventsCap ≠ 0)
    ∧ (∃ (s : State) (v : Nat), s.powered = true)
    ∧ (∃ (s : State) (v : Nat) (r : SessRole), s.powered = true ∧ (r = .engineer ∨ r = .safetyEngineer))
    ∧ (∃ (s : State), (s.atSecond = false ∨ s.powered = false))
    ∧ (∃ (s : State), s.powered = true ∧ s.atSecond = true) :=
  ⟨⟨{ den := [{ record := { typ := 0x201, source := 0, cls := .f1, rsn := 0, opt := 0, pcc := 0, ntS := 0, ntNs := 0 } }] },
      1,
      { typ := 0x201, source := 0, cls := .f1, rsn := 1, opt := 0, pcc := 0, ntS := 0, ntNs := 0 },
      false, by decide +kernel⟩,
   ⟨{},
      0,
      { typ := 2, source := 18, cls := (FClass.f4), rsn := 7, opt := 2304, pcc := 524286, ntS := 21, ntNs := 64 },
      false, by decide +kernel⟩,
   ⟨{ den := List.replicate 64 { record := { typ := 0x201, source := 0, cls := .f2, rsn := 0, opt := 0, pcc := 0, ntS := 0, ntNs := 0 }, state := .closed } },
      1,
      { typ := 0x201, source := 0, cls := .f1, rsn := 1, opt := 0, pcc := 0, ntS := 0, ntNs := 0 },
      false, by decide +kernel⟩,
   ⟨{},
      0,
      { typ := 2, source := 18, cls := (FClass.f4), rsn := 7, opt := 2304, pcc := 524286, ntS := 21, ntNs := 64 },
      false, by decide +kernel⟩,
   ⟨State.reset, by decide +kernel⟩,
   ⟨{ State.reset with
        tb := { State.reset.tb with taps := 17179865203, refOk := true, utcOffset := 131072 },
        recd := { State.reset.recd with
            den := [{ 
                  record := { 
                      typ := 44,
                      source := 12800000001,
                      cls := (FClass.f3),
                      rsn := 36,
                      opt := 1,
                      pcc := 12800000000,
                      ntS := 12800000000,
                      ntNs := 0 },
                  relayed := true,
                  arn := 1024,
                  age := 1 }] } }, by decide +kernel⟩,
   ⟨State.reset, by decide +kernel⟩,
   ⟨telling,
      0,
      ((telling.port 0).peer.addr),
      0,
      (telling.mkFrame .event .up (telling.port 0).peer.addr false (vget telling.link.eseq FloenClass.event.code 0) (eventPayload 0 ((telling.toSend false).map (·.record)))), by decide +kernel⟩,
   ⟨State.reset, 0, [], by decide +kernel⟩,
   ⟨{ State.reset with tb := { State.reset.tb with refOk := true }, recd := { State.reset.recd with fseqRx := [(7, 0)] } },
      7,
      0,
      [1#8, 1#8, 0#8, 0#8, 0#8, 0#8, 0#8, 0#8, 0#8, 0#8, 0#8, 0#8, 0#8, 0#8, 0#8, 0#8, 0#8, 0#8, 0#8, 0#8, 0#8, 0#8, 0#8, 0#8, 0#8, 0#8, 0#8, 0#8, 0#8, 0#8,
       0#8, 0#8, 0#8, 0#8, 0#8, 0#8, 0#8, 0#8, 0#8, 0#8, 0#8, 0#8, 0#8, 0#8, 0#8, 0#8, 0#8, 0#8, 0#8, 0#8, 0#8, 0#8], by decide +kernel⟩,
   ⟨{ State.reset with tb := { State.reset.tb with refOk := true } },
      0,
      [1#8, 1#8, 0#8, 0#8, 4#8, 0#8, 1#8, 0#8, 0#8, 5#8, 2#8, 0#8, 0#8, 0#8, 64#8, 0#8, 0#8, 0#8, 0#8, 57#8, 0#8, 0#8, 2#8, 0#8, 1#8, 0#8, 0#8, 0#8, 1#8,
       0#8, 0#8, 0#8, 44#8, 0#8, 0#8, 0#8, 0#8, 0#8, 0#8, 0#8, 0#8, 0#8, 0#8, 0#8, 0#8, 0#8, 0#8, 0#8, 92#8, 135#8, 220#8, 214#8],
      { 
        typ := 4,
        source := 1,
        cls := (FClass.f0),
        rsn := 2,
        opt := 64,
        pcc := 57,
        repeatCount := 2,
        ntS := 1,
        ntNs := 1,
        payload := 44,
        copyFlags := some 5 }, by decide +kernel⟩,
   ⟨{ State.reset with
        tb := { State.reset.tb with refOk := true },
        recd := { State.reset.recd with
            den := [{ 
                  record := { typ := 41, source := 1, cls := (FClass.f4), rsn := 2, opt := 3407876, pcc := 6, ntS := 68, ntNs := 7 },
                  relayed := true }] } },
      0,
      [1#8, 1#8, 0#8, 0#8, 2#8, 0#8, 1#8, 0#8, 0#8, 5#8, 2#8, 0#8, 0#8, 0#8, 0#8, 0#8, 0#8, 0#8, 0#8, 17#8, 0#8, 0#8, 0#8, 0#8, 7#8, 0#8, 0#8, 0#8, 255#8,
       255#8, 0#8, 0#8, 2#8, 0#8, 0#8, 0#8, 0#8, 0#8, 0#8, 0#8, 0#8, 0#8, 0#8, 0#8, 0#8, 0#8, 0#8, 0#8, 55#8, 252#8, 171#8, 224#8],
      { typ := 2, source := 1, cls := (FClass.f0), rsn := 2, opt := 0, pcc := 17, ntS := 7, ntNs := 65535, payload := 2, copyFlags := some 5 }, by decide +kernel⟩,
   ⟨{ State.reset with node := { State.reset.node with role := (Role.station) }, tb := { State.reset.tb with refOk := true } },
      0,
      [1#8, 1#8, 0#8, 0#8, 4#8, 0#8, 1#8, 0#8, 0#8, 5#8, 2#8, 0#8, 0#8, 0#8, 52#8, 0#8, 0#8, 0#8, 0#8, 57#8, 0#8, 0#8, 2#8, 0#8, 1#8, 0#8, 0#8, 0#8, 2#8,
       0#8, 0#8, 0#8, 44#8, 0#8, 0#8, 0#8, 0#8, 0#8, 0#8, 0#8, 0#8, 0#8, 0#8, 0#8, 0#8, 0#8, 0#8, 0#8, 153#8, 218#8, 159#8, 186#8],
      { 
        typ := 4,
        source := 1,
        cls := (FClass.f0),
        rsn := 2,
        opt := 52,
        pcc := 57,
        repeatCount := 2,
        ntS := 1,
        ntNs := 2,
        payload := 44,
        copyFlags := some 5 }, by decide +kernel⟩,
   ⟨State.reset, by decide +kernel⟩,
   ⟨{ State.reset with
        tb := { State.reset.tb with taps := 137438949488, refOk := true, utcOffset := 131072 },
        recd := { State.reset.recd with media := true } }, by decide +kernel⟩,
   ⟨{ State.reset with
        node := { State.reset.node with role := (Role.station) },
        tb := { State.reset.tb with taps := 137438949492, refOk := true, ptp := { State.reset.tb.ptp with offset := (-11) }, utcOffset := 131072 },
        hdl := { State.reset.hdl with cores := (vset State.reset.hdl.cores 6 { cur := 65536 }) },
        recd := { State.reset.recd with media := true, mediaAt := 10 } }, by decide +kernel⟩,
   ⟨State.reset, 0, by decide +kernel⟩,
   ⟨{ State.reset with node := { State.reset.node with nodeState := (NodeState.off) } }, 0, 0, (SessRole.safetyEngineer), by decide +kernel⟩,
   ⟨State.reset, 0, by decide +kernel⟩,
   ⟨State.reset, 1, by decide +kernel⟩,
   ⟨{ State.reset with
        recd := { State.reset.recd with utype := 61546, uclass := 1, inten := 3#32 },
        bob := { State.reset.bob with scrubAt := 1000000 },
        inbox := [{ 
              cls := (FloenClass.safety),
              blk := true,
              dir := (FloenDir.up),
              dst := 32768,
              anym := true,
              src := 131072,
              hops := 3671812,
              hseq := 4,
              twin := true,
              eseq := 1,
              payload := [4#8, 55#8, 6#8] }],
        free := 1 },
      7, by decide +kernel⟩,
   ⟨{ State.reset with recd := { State.reset.recd with utype := 32768 } }, 1, by decide +kernel⟩,
   ⟨State.reset, by decide +kernel⟩,
   ⟨{ State.reset with bob := { State.reset.bob with mounted := true } }, by decide +kernel⟩,
   ⟨((cell.upBob fun b => { b with mounted := true, partSize := vset (Vector.replicate 7 0) 4 1 }).upRecd fun r => { r with events := List.replicate 21505 { record := childRecord } }), by decide +kernel⟩,
   ⟨State.reset, 0, by decide +kernel⟩,
   ⟨State.reset, 0, (SessRole.engineer), by decide +kernel⟩,
   ⟨{ State.reset with tb := { State.reset.tb with taps := 128 } }, by decide +kernel⟩,
   ⟨State.reset, by decide +kernel⟩⟩

/-- States and operands that meet the hypotheses of `Obligations.TheStoreIsFormattedServicedAndWorn`, clause by clause. -/
theorem test_witness_TheStoreIsFormattedServicedAndWorn :
    (∃ (s : State) (v cs p : Nat) (o k u : Bool) (q : PhysBlock) (c : SectorRef) (d e : List Byte) (w : FlashOp), s.powered = false)
    ∧ (∃ (s : State) (v : Nat), s.powered = true ∧ v ≠ s.addr)
    ∧ (∃ (s : State), s.powered = true ∧ (s.node.nodeState = .service ∨ s.node.nodeState = .hold ∨ (s.isMember = true ∧ s.jrn.pstate ≠ .unhealthy)))
    ∧ (∃ (s : State) (l : List Nat), s.powered = true ∧ s.node.nodeState ≠ .service ∧ s.node.nodeState ≠ .hold ∧ (s.isMember = false ∨ s.jrn.pstate =
      .unhealthy) ∧ s.layoutFit ((List.range 7).map (s.partWanted false)) = some l)
    ∧ (∃ (s : State), s.powered = true ∧ s.node.nodeState ≠ .service ∧ s.node.nodeState ≠ .hold ∧ (s.isMember = false ∨ s.jrn.pstate = .unhealthy) ∧
      s.layoutFit ((List.range 7).map (s.partWanted false)) = none ∧ s.recd.media = false)
    ∧ (∃ (two : Bool) (c0 c1 : Nat) (w l : List Nat), layoutFrom (layoutFits two c0 c1) w 1024 = some l)
    ∧ (∃ (s : State) (v : Nat) (ok blank : Bool), s.powered = true ∧ v ≠ s.addr)
    ∧ (∃ (s : State) (ok blank : Bool), s.powered = true ∧ vget s.pins.flashType 0 0 = 0)
    ∧ (∃ (s : State), s.powered = true ∧ vget s.pins.flashType 0 0 ≠ 0 ∧ s.bob.hasSuperblock = true)
    ∧ (∃ (s : State) (ok blank : Bool), s.powered = true ∧ vget s.pins.flashType 0 0 ≠ 0 ∧ (blank = true ∨ s.bob.hasSuperblock = false) ∧ s.layoutFit
      ((List.range 7).map (s.partWanted true)) = none)
    ∧ (∃ (s : State) (l : List Nat) (blank : Bool), s.powered = true ∧ vget s.pins.flashType 0 0 ≠ 0 ∧ (blank = true ∨ s.bob.hasSuperblock = false) ∧
      s.layoutFit ((List.range 7).map (s.partWanted true)) = some l)
    ∧ (∃ (s : State), s.powered = true ∧ vget s.pins.flashType 0 0 ≠ 0 ∧ s.bob.hasSuperblock = true)
    ∧ (∃ (s : State) (cs : Nat), (2 ≤ cs ∨ vget s.pins.flashType cs 0 = 0))
    ∧ (∃ (s : State) (cs : Nat), s.powered = true ∧ cs < 2 ∧ vget s.pins.flashType cs 0 ≠ 0 ∧ s.recd.media = false)
    ∧ (∃ (s : State) (cs : Nat), s.powered = true ∧ cs < 2 ∧ vget s.pins.flashType cs 0 ≠ 0 ∧ s.recd.media = true)
    ∧ (∃ (s : State) (p : Nat) (c : SectorRef) (d o : List Byte) (rf u : Bool), (s.bob.mounted = false ∨ s.flashStopped = true))
    ∧ (∃ (s : State) (p : Nat) (c : SectorRef) (d o : List Byte) (rf u : Bool), s.powered = true ∧ s.bob.mounted = true ∧ s.flashStopped = false ∧
      s.foreground = true)
    ∧ (∃ (s : State) (p b : Nat) (c : SectorRef) (d o : List Byte) (rf : Bool), s.powered = true ∧ s.bob.mounted = true ∧ s.flashStopped = false ∧
      s.foreground = false ∧ sectorErrors d = some b)
    ∧ (∃ (s : State) (p : Nat) (c : SectorRef) (d o : List Byte) (rf u : Bool), s.powered = true ∧ s.bob.mounted = true ∧ s.flashStopped = false ∧
      s.foreground = false ∧ (u = true ∨ sectorErrors d = none))
    ∧ (∃ (s : State), (s.bob.mounted = false ∨ s.elapsed s.bob.scrubFrom (s.obj Obj.BOB_SCRUB_PERIOD * 3600 * tapsS) = false))
    ∧ (∃ (s : State), s.powered = true ∧ s.bob.mounted = true ∧ s.elapsed s.bob.scrubFrom (s.obj Obj.BOB_SCRUB_PERIOD * 3600 * tapsS) = true)
    ∧ (∃ (s : State) (q : PhysBlock), (s.bob.mounted = false ∨ s.flashStopped = true ∨ erMaxOf (s.bob.device q.cs) ≤ s.bob.eraseCount q + s.obj Obj.WL_DELTA
      ∨ (∃ e ∈ s.bob.device q.cs, e.2 < s.bob.eraseCount q)))
    ∧ (∃ (s : State) (q : PhysBlock), s.powered = true ∧ s.bob.mounted = true ∧ s.bob.eraseCount q + s.obj Obj.WL_DELTA < erMaxOf (s.bob.device q.cs) ∧ (∀ e
      ∈ s.bob.device q.cs, s.bob.eraseCount q ≤ e.2) ∧ s.flashStopped = false ∧ s.foreground = true)
    ∧ (∃ (s : State) (q : PhysBlock), s.powered = true ∧ s.bob.mounted = true ∧ s.bob.eraseCount q + s.obj Obj.WL_DELTA < erMaxOf (s.bob.device q.cs) ∧ (∀ e
      ∈ s.bob.device q.cs, s.bob.eraseCount q ≤ e.2) ∧ s.flashStopped = false ∧ s.foreground = false)
    ∧ (∃ (s : State) (w : FlashOp) (ok : Bool), (s.bob.mounted = false ∨ s.flashStopped = true))
    ∧ (∃ (s : State) (q : PhysBlock), s.powered = true ∧ s.bob.mounted = true ∧ s.flashStopped = false)
    ∧ (∃ (s : State) (q : PhysBlock), s.powered = true ∧ s.bob.mounted = true ∧ s.flashStopped = false ∧ s.bob.spareLeft ≠ 0)
    ∧ (∃ (s : State) (q : PhysBlock), s.powered = true ∧ s.bob.mounted = true ∧ s.flashStopped = false ∧ s.bob.spareLeft = 0 ∧ s.recd.media = false)
    ∧ (∃ (s : State) (p : Nat) (q : PhysBlock) (l : List (Nat × Nat)), s.powered = true ∧ s.bob.mounted = true ∧ s.flashStopped = false ∧ (assoc s.bob.tries
      (PhysBlock_key q)).getD 0 < 2)
    ∧ (∃ (s : State) (p : Nat) (q : PhysBlock) (l : List (Nat × Nat)), s.powered = true ∧ s.bob.mounted = true ∧ s.flashStopped = false ∧ 2 ≤ (assoc
      s.bob.tries (PhysBlock_key q)).getD 0)
    ∧ (∃ (s : State) (p : Nat) (q : PhysBlock) (l : List (Nat × Nat)), s.powered = true ∧ s.bob.mounted = true ∧ s.flashStopped = false ∧ (p ≠ 3 ∨
      s.isMember = false))
    ∧ (∃ (s : State) (q : PhysBlock) (l : List (Nat × Nat)), s.powered = true ∧ s.bob.mounted = true ∧ s.flashStopped = false ∧ s.isMember = true ∧
      s.recd.media = true)
    ∧ (∃ (s : State) (q : PhysBlock) (l : List (Nat × Nat)), s.powered = true ∧ s.bob.mounted = true ∧ s.flashStopped = false ∧ s.isMember = true ∧
      s.recd.media = false ∧ s.sys.pfailLow = true)
    ∧ (∃ (s : State) (q : PhysBlock) (l : List (Nat × Nat)), s.powered = true ∧ s.bob.mounted = true ∧ s.flashStopped = false ∧ s.isMember = true ∧
      s.recd.media = false ∧ s.sys.pfailLow = false ∧ s.jrn.pstate ≠ .active ∧ s.jrn.pstate ≠ .standby)
    ∧ (∃ (s : State) (p b : Nat) (c : SectorRef) (d o : List Byte) (rf : Bool), s.powered = true ∧ s.bob.mounted = true ∧ s.flashStopped = false ∧
      sectorErrors d = some b)
    ∧ (∃ (s : State) (p : Nat) (c : SectorRef) (d o : List Byte) (rf u ok : Bool), s.powered = true ∧ s.bob.mounted = true ∧ s.flashStopped = false ∧ (ok =
      false ∨ u = true ∨ sectorErrors d = none)) :=
  ⟨⟨{ State.reset with node := { State.reset.node with nodeState := (NodeState.off) } },
      0,
      0,
      0,
      false,
      false,
      false,
      {},
      {},
      [],
      [],
      (FlashOp.read 0 { copy := 6, lsn := 8, place := { cs := 1000000000, block := 2 } } [0x00#8, 0x0f#8] true false [0x07#8]), by decide +kernel⟩,
   ⟨State.reset, 0, by decide +kernel⟩,
   ⟨{ State.reset with node := { State.reset.node with role := (Role.station) } }, by decide +kernel⟩,
   ⟨State.reset, [0, 0, 256, 0, 256, 4, 16], by decide +kernel⟩,
   ⟨{ State.reset with pins := { State.reset.pins with flashCap := (vset State.reset.pins.flashCap 0 0) } }, by decide +kernel⟩,
   ⟨false, 32, 0, [], [0, 0, 8, 0, 16, 0, 0], by decide +kernel⟩,
   ⟨State.reset, 0, false, false, by decide +kernel⟩,
   ⟨{ State.reset with pins := { State.reset.pins with flashType := (vset State.reset.pins.flashType 0 0) } }, false, false, by decide +kernel⟩,
   ⟨{ State.reset with bob := { State.reset.bob with superblock := (vset State.reset.bob.superblock 0 true) } }, by decide +kernel⟩,
   ⟨{ State.reset with pins := { State.reset.pins with flashType := (vset State.reset.pins.flashType 1 1) } }, false, false, by decide +kernel⟩,
   ⟨State.reset, [64, 64, 256, 32, 256, 4, 16], false, by decide +kernel⟩,
   ⟨{ State.reset with bob := { State.reset.bob with superblock := (vset State.reset.bob.superblock 0 true) } }, by decide +kernel⟩,
   ⟨State.reset, 1, by decide +kernel⟩,
   ⟨State.reset, 0, by decide +kernel⟩,
   ⟨{ State.reset with recd := { State.reset.recd with media := true } }, 0, by decide +kernel⟩,
   ⟨State.reset, 0, {}, [], [], false, false, by decide +kernel⟩,
   ⟨{ State.reset with bob := { State.reset.bob with mounted := true, work := [0] } }, 0, {}, [], [], false, false, by decide +kernel⟩,
   ⟨(cell.upBob fun b => { b with mounted := true }), 5, 0, { lsn := 9 }, (List.replicate 1088 0xFF), [], true, by decide +kernel⟩,
   ⟨(cell.upBob fun b => { b with mounted := true }), 7, { copy := 1, lsn := 63 }, [], [], false, false, by decide +kernel⟩,
   ⟨State.reset, by decide +kernel⟩,
   ⟨{ State.reset with bob := { State.reset.bob with mounted := true } }, by decide +kernel⟩,
   ⟨State.reset, {}, by decide +kernel⟩,
   ⟨{ State.reset with bob := { State.reset.bob with mounted := true, erases := [(0, 1001)], work := [0] } },
      { block := 1 }, by decide +kernel⟩,
   ⟨{ State.reset with bob := { State.reset.bob with mounted := true, erases := [(0, 1001)] } }, { block := 1 }, by decide +kernel⟩,
   ⟨State.reset,
      (FlashOp.read 0 { copy := 4294967296, lsn := 0, place := { cs := 1, block := 2147483647 } } [] false false []),
      false, by decide +kernel⟩,
   ⟨{ State.reset with bob := { State.reset.bob with mounted := true } }, {}, by decide +kernel⟩,
   ⟨{ State.reset with bob := { State.reset.bob with mounted := true, spareLeft := 1 } }, {}, by decide +kernel⟩,
   ⟨{ State.reset with bob := { State.reset.bob with mounted := true } }, {}, by decide +kernel⟩,
   ⟨{ State.reset with bob := { State.reset.bob with mounted := true } }, 0, {}, [], by decide +kernel⟩,
   ⟨{ State.reset with bob := { State.reset.bob with mounted := true, tries := [(1, 2)] } }, 0, { block := 1 }, [], by decide +kernel⟩,
   ⟨{ State.reset with bob := { State.reset.bob with mounted := true } }, 0, {}, [], by decide +kernel⟩,
   ⟨{ State.reset with
        node := { State.reset.node with role := (Role.station) },
        recd := { State.reset.recd with media := true },
        bob := { State.reset.bob with mounted := true } },
      {},
      [], by decide +kernel⟩,
   ⟨{ State.reset with
        node := { State.reset.node with role := (Role.station) },
        bob := { State.reset.bob with mounted := true },
        sys := { State.reset.sys with pfailLow := true, flushing := true } },
      {},
      [], by decide +kernel⟩,
   ⟨{ State.reset with node := { State.reset.node with role := (Role.station) }, bob := { State.reset.bob with mounted := true } },
      {},
      [], by decide +kernel⟩,
   ⟨(cell.upBob fun b => { b with mounted := true }), 5, 0, { lsn := 9 }, (List.replicate 1088 0xFF), [], true, by decide +kernel⟩,
   ⟨{ State.reset with bob := { State.reset.bob with mounted := true } }, 0, {}, [], [], false, false, false, by decide +kernel⟩⟩

/-- States and operands that meet the hypotheses of `Obligations.AStepRunsTheFrontCommand`, clause by clause. -/
theorem test_witness_AStepRunsTheFrontCommand :
    (∃ (s : State), s.pending = [] ∧ s.tb.refOk = true ∧ s.powered = true)
    ∧ (∃ (s : State), s.pending = [] ∧ (s.tb.refOk = false ∨ s.powered = false)) :=
  ⟨⟨{ State.reset with tb := { State.reset.tb with refOk := true } }, by decide +kernel⟩,
   ⟨State.reset, by decide +kernel⟩⟩

/-- States and operands that meet the hypotheses of `Obligations.ResetMeetsTheInvariants`, clause by clause. -/
theorem test_witness_ResetMeetsTheInvariants :
    (∃ (i : Nat), i < 4) :=
  ⟨0, by decide +kernel⟩

/-- States and operands that meet the hypotheses of `Obligations.EveryStepKeepsMemoryCanonicalAndTheDenBounded`, clause by clause. -/
theorem test_witness_EveryStepKeepsMemoryCanonicalAndTheDenBounded :
    (∃ (s t : State), s.Inv ∧ step s = .next t) :=
  ⟨State.reset, State.reset, ⟨by decide +kernel, by decide +kernel⟩, rfl⟩

/-- States and operands that meet the hypotheses of `Obligations.ADeviceInOffHeedsOnlyItsSupplies`, clause by clause. -/
theorem test_witness_ADeviceInOffHeedsOnlyItsSupplies :
    (∃ (c : Instr) (s : State), s.node.nodeState = .off ∧ (∀ v a, c ≠ .suppliesValid v a) ∧ c ≠ .brownout ∧ c ≠ .vinLoss ∧ c ≠ .wake ∧ (c = .degMinute →
      s.sys.hibernating = false ∨ s.sel.degraded = false))
    ∧ (∃ (s : State), s.node.nodeState = .off ∧ s.pending = []) :=
  ⟨⟨.cycleStart 0, cell.upNode fun n => { n with nodeState := .off }, by decide, fun _ _ => nofun, nofun, nofun, nofun, nofun⟩,
   ⟨{ State.reset with node := { State.reset.node with nodeState := (NodeState.off) } }, by decide +kernel⟩⟩

/-- States and operands that meet the hypotheses of `Obligations.FramesRecordsAndSafetyFramesReadBackWhole`, clause by clause. -/
theorem test_witness_FramesRecordsAndSafetyFramesReadBackWhole :
    (∃ (f : Frame), f.dst < 2 ^ 19 ∧ f.src < 2 ^ 19 ∧ f.hops < 2 ^ 8 ∧ f.hseq < 2 ^ 16 ∧ f.eseq < 2 ^ 16 ∧ f.payload.length ≤ 1024)
    ∧ (∃ (r : Record), r.typ < 2 ^ 16 ∧ r.source < 2 ^ 24 ∧ r.rsn < 2 ^ 32 ∧ r.opt < 2 ^ 40 ∧ r.pcc < 2 ^ 24 ∧ r.repeatCount < 2 ^ 16 ∧ r.ntS < 2 ^ 32 ∧
      r.ntNs < 2 ^ 32 ∧ r.payload < 2 ^ 128 ∧ r.copyFlags = none)
    ∧ (∃ (bs : List Byte), Record.checkOk bs = true)
    ∧ (∃ (f : SafetyFrame), f.connId < 2 ^ 32 ∧ f.seq < 2 ^ 16 ∧ f.texp < 2 ^ 16 ∧ f.nstate < 2 ^ 8 ∧ f.demandId < 2 ^ 32) :=
  ⟨⟨{ cls := (FloenClass.weft), dir := (FloenDir.cross), dst := 1023, src := 255 }, by decide +kernel⟩,
   ⟨{ typ := 65534, source := 3, cls := (FClass.f4), rsn := 128, opt := 8, pcc := 5, ntS := 0, ntNs := 6 }, by decide +kernel⟩,
   ⟨(Record.bytes { childRecord with copyFlags := some 0x87, cls := .f0 }), by decide +kernel⟩,
   ⟨{}, by decide +kernel⟩⟩

end Sys2Proof.Tests
end

section
namespace Sys2Proof.Machine

/-! ### The reset state (R7, R348, R432) -/

theorem vget_replicate {α : Type} (n i : Nat) (d : α) : vget (.replicate n d) i d = d := by
  unfold vget
  by_cases h : i < n <;> simp [h]

/-- A set SPB latch is against each enable (R354). -/
theorem State.enActive_of_spb {s : State} (n : Nat) (h : s.sel.spb = true) : s.enActive n = false := by simp [State.enActive, h]

theorem State.reset_switch (i : Nat) : State.reset.gate.switch i = {} := vget_replicate 4 i ({} : Switch)

theorem State.reset_port (p : Nat) : State.reset.port p = {} := vget_replicate 6 p ({} : Port)

/-- Settles O56, by reading the reset values of each unit. -/
theorem resetMeetsTheInvariants : Obligations.ResetMeetsTheInvariants := by
  have inv : State.reset.Inv := ⟨rfl, Nat.zero_le 64⟩
  have apart : State.reset.LegsApart := ⟨rfl, rfl⟩
  have off : ∀ i, i < 4 → (State.reset.gate.switch i).on = false := fun i _ => congrArg Switch.on (State.reset_switch i)
  have noFrame : ∀ p, (State.reset.port p).queue = [] := fun p => congrArg Port.queue (State.reset_port p)
  exact ⟨inv, apart, rfl, rfl, rfl, fun n => State.enActive_of_spb n rfl, off, fun _ => rfl, rfl, noFrame, rfl⟩

/-! ### A device in OFF (R7, R29, R425) -/

theorem State.powered_of_off {s : State} (h : s.node.nodeState = .off) : s.powered = false := by simp [State.powered, h]

/-- The commands that a device without supply may heed: its supplies, the loss of VIN, a wake and the minute of degraded mode. -/
def heededInOff : Instr → Bool
  | .suppliesValid .. | .brownout | .vinLoss | .wake | .degMinute => true
  | _ => false

/-- Every other command acts only under power. -/
theorem exec_onPower (c : Instr) (s : State) (h : heededInOff c = false) : ∃ t, exec c s = .next (s.onPower t) := by
  cases c
  case suppliesValid | brownout | vinLoss | wake | degMinute => cases h
  all_goals exact ⟨_, rfl⟩

theorem exec_of_off {c : Instr} {s : State} (hs : s.powered = false) (hc : heededInOff c = false) : exec c s = .next s := by
  obtain ⟨t, ht⟩ := exec_onPower c s hc
  rw [ht, State.onPower_off s t hs]

/-- The minute counts only for a hibernating node in degraded mode (R436). -/
theorem State.degSleep_awake {s : State} (h : s.sys.hibernating = false ∨ s.sel.degraded = false) : s.degSleep = s := by
  unfold State.degSleep
  obtain h | h := h <;> simp [h]

theorem exec_degMinute_of_off {s : State} (hs : s.powered = false) (h : s.sys.hibernating = false ∨ s.sel.degraded = false) :
    exec .degMinute s = .next s := by
  show Host.Outcome.next (if s.powered then s.degTick else s.degSleep) = .next s
  rw [if_neg (by simp [hs]), State.degSleep_awake h]

theorem step_of_off {s : State} (hs : s.powered = false) (h : s.pending = []) : step s = .next s := by
  simp [step, h, State.idle, hs]

/-- Settles O59: every command but the five that a device in OFF may heed runs under `State.onPower`. -/
theorem aDeviceInOffHeedsOnlyItsSupplies : Obligations.ADeviceInOffHeedsOnlyItsSupplies := by
  refine ⟨fun c s off notSupplies notBrownout notVinLoss notWake notMinute => ?_, fun s off => step_of_off (State.powered_of_off off)⟩
  have hs := State.powered_of_off off
  cases hc : heededInOff c with
  | false => exact exec_of_off hs hc
  | true =>
    cases c
    case suppliesValid v a => exact absurd rfl (notSupplies v a)
    case brownout => exact absurd rfl notBrownout
    case vinLoss => exact absurd rfl notVinLoss
    case wake => exact absurd rfl notWake
    case degMinute => exact exec_degMinute_of_off hs (notMinute rfl)
    all_goals cases hc

/-! ### The return to the home parent can end a run of the node (R34, R208) -/

/-- A RELAY whose primary is STATION-B. Its link to STATION-A, the home parent, has been good for REVERT_TIME, and a run of LINK_CONGESTION that began
there is still open. -/
def congestedRelay : State :=
  { State.reset with
    node := { State.reset.node with
      role := .relay, nodeState := .ready, joined := true, place := ⟨1, 0⟩, primary := .b, home := .a, runs := [(.linkCongestion, 0)] }
    link := { State.reset.link with ports := vset State.reset.link.ports 0 { state := .up } }
    sys := { State.reset.sys with admitted := vset State.reset.sys.admitted 0 (some 1) }
    tb := { State.reset.tb with taps := 10 ^ 12 } }

theorem exec_primaryRevert_of_powered {s : State} (h : s.powered = true) : exec .primaryRevert s = .next s.revert :=
  congrArg Host.Outcome.next (State.onPower_on s s.revert h)

/-- The PRIMARY notice finds room at the port to the new parent, which ends the run. -/
theorem congestedRelay_revert_runs : congestedRelay.revert.node.runs = [] := by decide +kernel

/-- Refutes O12: the return to the home parent sends PRIMARY at once, and a frame that finds room ends an open run of LINK_CONGESTION. The run belongs
to the node, so the return changes more of the node than its primary: `congestedRelay` has the run before PRIMARY_REVERT and none after. -/
theorem not_holdLadderEndsInBlock : ¬ Obligations.HoldLadderEndsInBlock := by
  rintro ⟨-, -, -, -, -, -, -, -, reverts, -⟩
  obtain ⟨t, ht, hnode, -⟩ := reverts congestedRelay rfl rfl rfl (by decide +kernel) (by decide +kernel) (by decide +kernel) (by decide +kernel)
    (by decide +kernel)
  have htr : congestedRelay.revert = t := Host.Outcome.next.inj ((exec_primaryRevert_of_powered rfl).symm.trans ht)
  have kept : congestedRelay.revert.node.runs = [(.linkCongestion, 0)] := htr ▸ congrArg Node.runs hnode
  simp [congestedRelay_revert_runs] at kept

end Sys2Proof.Machine
end

section
namespace Sys2Proof.Machine

/-! ### What every operation keeps (R1, R276, R401) -/

/-- What every operation of the device keeps: the waiting commands and the straps stay as they are, and the memory stays in its canonical form
and the Den within its 64 slots. -/
structure Keeps (s t : State) : Prop where
  pending : t.pending = s.pending
  pins : t.pins = s.pins
  inv : s.Inv → t.Inv

variable {s t u : State}

theorem Keeps.refl (s : State) : Keeps s s := ⟨rfl, rfl, id⟩

theorem Keeps.trans (h : Keeps s t) (h' : Keeps t u) : Keeps s u :=
  ⟨h'.pending.trans h.pending, h'.pins.trans h.pins, h'.inv ∘ h.inv⟩

/-- An operation whose frame names neither the queue nor the straps, neither the memory nor the recorder. -/
theorem Keeps.of_sameBut {l : List Part} (h : Keeps s t) (h' : SameBut l t u)
    (hl : .pending ∉ l ∧ .pins ∉ l ∧ .mem ∉ l ∧ .recd ∉ l) : Keeps s u := by
  obtain ⟨hq, hp, hm, hr⟩ := hl
  refine h.trans ⟨h' .pending hq, h' .pins hp, fun hi => ⟨?_, ?_⟩⟩
  · exact (congrArg Mem.wf (h' .mem hm)).trans hi.1
  · exact Nat.le_trans (Nat.le_of_eq (congrArg (fun r : Rec => r.den.length) (h' .recd hr))) hi.2

theorem Keeps.ite {c : Prop} [Decidable c] (ht : Keeps s t) (hu : Keeps s u) : Keeps s (if c then t else u) := by
  split <;> assumption

/-- Operations one after another, each of which keeps it, keep it. -/
theorem Keeps.foldl {α : Type} {f : State → α → State} {l : List α} (hf : ∀ t x, Keeps s t → Keeps s (f t x)) (h : Keeps s t) :
    Keeps s (l.foldl f t) := by
  induction l generalizing t with
  | nil => exact h
  | cons x l ih => exact ih (hf t x h)

theorem Keeps.beside {α : Type} {a : α} (h : Keeps s t) : Keeps s (a, t).2 := h

/-- The state beside a value drawn with it. -/
theorem Keeps.snd {α : Type} {p : α × State} {a : α} (h : Keeps s p.2) (hp : p = (a, t)) : Keeps s t := by
  subst hp; exact h

theorem Keeps.upNode {f} (h : Keeps s t) : Keeps s (t.upNode f) := h.of_sameBut (t.upNode_sameBut f) (by decide)
theorem Keeps.upDict {f} (h : Keeps s t) : Keeps s (t.upDict f) := h.of_sameBut (t.upDict_sameBut f) (by decide)
theorem Keeps.upWeft {f} (h : Keeps s t) : Keeps s (t.upWeft f) := h.of_sameBut (t.upWeft_sameBut f) (by decide)
theorem Keeps.upArm {f} (h : Keeps s t) : Keeps s (t.upArm f) := h.of_sameBut (t.upArm_sameBut f) (by decide)
theorem Keeps.upTrdl {f} (h : Keeps s t) : Keeps s (t.upTrdl f) := h.of_sameBut (t.upTrdl_sameBut f) (by decide)
theorem Keeps.upGate {f} (h : Keeps s t) : Keeps s (t.upGate f) := h.of_sameBut (t.upGate_sameBut f) (by decide)
theorem Keeps.upAdc {f} (h : Keeps s t) : Keeps s (t.upAdc f) := h.of_sameBut (t.upAdc_sameBut f) (by decide)
theorem Keeps.upLink {f} (h : Keeps s t) : Keeps s (t.upLink f) := h.of_sameBut (t.upLink_sameBut f) (by decide)
theorem Keeps.upTb {f} (h : Keeps s t) : Keeps s (t.upTb f) := h.of_sameBut (t.upTb_sameBut f) (by decide)
theorem Keeps.upHdl {f} (h : Keeps s t) : Keeps s (t.upHdl f) := h.of_sameBut (t.upHdl_sameBut f) (by decide)
theorem Keeps.upEvc {f} (h : Keeps s t) : Keeps s (t.upEvc f) := h.of_sameBut (t.upEvc_sameBut f) (by decide)
theorem Keeps.upJrn {f} (h : Keeps s t) : Keeps s (t.upJrn f) := h.of_sameBut (t.upJrn_sameBut f) (by decide)
theorem Keeps.upSel {f} (h : Keeps s t) : Keeps s (t.upSel f) := h.of_sameBut (t.upSel_sameBut f) (by decide)
theorem Keeps.upBob {f} (h : Keeps s t) : Keeps s (t.upBob f) := h.of_sameBut (t.upBob_sameBut f) (by decide)
theorem Keeps.upSys {f} (h : Keeps s t) : Keeps s (t.upSys f) := h.of_sameBut (t.upSys_sameBut f) (by decide)

/-- A change of the memories that keeps their canonical form (R276). -/
theorem Keeps.upMem {f : Mem → Mem} (hf : ∀ m : Mem, m.wf = true → (f m).wf = true) (h : Keeps s t) : Keeps s (t.upMem f) :=
  h.trans ⟨rfl, rfl, fun hi => ⟨hf _ hi.1, hi.2⟩⟩

/-- A bit error noted at a word changes no byte (R278). -/
theorem Keeps.noteError {a : Nat} {d : Bool} (h : Keeps s t) :
    Keeps s (t.upMem fun m => m.noteError a d) := h.upMem fun m hm => (m.noteError_wf a d).trans hm

/-- Nor does a word that is corrected. -/
theorem Keeps.heal {a : Nat} (h : Keeps s t) : Keeps s (t.upMem fun m => m.heal a) := h.upMem fun m hm => (m.heal_wf a).trans hm

/-- A change of the recorder that leaves the Den within its slots (R401). -/
theorem Keeps.upRecd {f : Rec → Rec} (hf : t.recd.den.length ≤ 64 → (f t.recd).den.length ≤ 64) (h : Keeps s t) : Keeps s (t.upRecd f) :=
  h.trans ⟨rfl, rfl, fun hi => ⟨hi.1, hf hi.2⟩⟩

/-- Closing the open record of the Den (R393). -/
theorem Keeps.close {b : Bool} (h : Keeps s t) : Keeps s (t.upRecd (Rec.close b)) :=
  h.upRecd fun hr => Nat.le_trans (Nat.le_of_eq (Rec.close_length _ b)) hr

theorem Keeps.drawFree {n : Nat} (h : Keeps s t) : Keeps s (t.drawFree n).2 := h.trans ⟨rfl, rfl, id⟩

/-- A frame delivered to firmware (R210) is no part of it. -/
theorem Keeps.inbox {l : List Frame} (h : Keeps s t) : Keeps s { t with inbox := l } := h.trans ⟨rfl, rfl, id⟩

/-- A choice between two answers whose states keep it. -/
theorem Keeps.iteSnd {α : Type} {c : Prop} [Decidable c] {p q : α × State} (hp : Keeps s p.2) (hq : Keeps s q.2) :
    Keeps s (if c then p else q).2 := by
  split <;> assumption

/-- An operation that may be refused keeps it where it has an effect. -/
def KeepsIf (s : State) (o : Option State) : Prop := ∀ u, o = some u → Keeps s u

theorem KeepsIf.none : KeepsIf s Option.none := fun _ h => nomatch h

theorem KeepsIf.some (h : Keeps s t) : KeepsIf s (Option.some t) := fun _ hu => Option.some.inj hu ▸ h

theorem KeepsIf.get {o : Option State} (h : KeepsIf s o) (hu : o = Option.some u) : Keeps s u := h u hu

theorem KeepsIf.get_snd {α : Type} {o : Option (α × State)} {r : α × State} (h : KeepsIf s (o.map Prod.snd)) (hr : o = Option.some r) :
    Keeps s r.2 :=
  h r.2 (congrArg (Option.map Prod.snd) hr)

theorem KeepsIf.ite {c : Prop} [Decidable c] {o o' : Option State} (h : KeepsIf s o) (h' : KeepsIf s o') : KeepsIf s (if c then o else o') := by
  split <;> assumption

theorem KeepsIf.iteSnd {α : Type} {c : Prop} [Decidable c] {o o' : Option (α × State)} (h : KeepsIf s (o.map Prod.snd))
    (h' : KeepsIf s (o'.map Prod.snd)) : KeepsIf s ((if c then o else o').map Prod.snd) := by
  split <;> assumption

/-! ### The object dictionary (R42 to R49) -/

theorem Keeps.setObj {key value jsn : Nat} (h : Keeps s t) : Keeps s (t.setObj key value jsn) := h.upDict

theorem Keeps.takeEffect (h : Keeps s t) : Keeps s t.takeEffect := h.upDict

/-! ### Records and event counters (R300 to R302, R385 to R395) -/

theorem Keeps.upEc {n : Nat} {f : Ec → Ec} (h : Keeps s t) : Keeps s (t.upEc n f) := h.upEvc

theorem Keeps.ecOpen {n w : Nat} (h : Keeps s t) : Keeps s (t.ecOpen n w) := by
  unfold State.ecOpen
  exact h.upEc

theorem Keeps.ecStart {n : Nat} (h : Keeps s t) : Keeps s (t.ecStart n) := by
  unfold State.ecStart
  refine .ite ?_ h
  split
  · exact h.ecOpen
  · exact h

theorem Keeps.ecEnd {n : Nat} (h : Keeps s t) : Keeps s (t.ecEnd n) := .ite h.upEc.upEvc h

theorem Keeps.countOne {code n i : Nat} (h : Keeps s t) : Keeps s (State.countOne code n t i) := .ite h.ecEnd.ecStart.upEvc h

theorem Keeps.event {code n : Nat} (h : Keeps s t) : Keeps s (t.event code n) := .foldl (fun _ _ h => h.countOne) h

theorem Keeps.startRun {n : FaultName} {arg : Nat} (h : Keeps s t) : Keeps s (t.startRun n arg) := .ite h h.upNode

theorem Keeps.endRun {n : FaultName} {arg : Nat} (h : Keeps s t) : Keeps s (t.endRun n arg) := h.upNode

theorem Keeps.enterDen {n : Record} (h : Keeps s t) : Keeps s (t.enterDen n) := by
  unfold State.enterDen
  extract_lets drops s1 d
  have h1 : Keeps s s1 := (h.upRecd fun hr => Rec.make_length _ _ _ _ hr).event
  exact .ite (.ite h1 (h1.startRun.upRecd fun hr => Rec.make_length _ _ _ _ hr)) h1.endRun

theorem Keeps.record {typ unit : Nat} {cls : FClass} {payload : Nat} (h : Keeps s t) : Keeps s (t.record typ unit cls payload) := h.enterDen

theorem Keeps.storeWork {p : Nat} (h : Keeps s t) : Keeps s (t.storeWork p) := .ite h.upBob h

/-! ### Frames and their queues (R205 to R214) -/

theorem Keeps.upPort {p : Nat} {f : Port → Port} (h : Keeps s t) : Keeps s (t.upPort p f) := h.upLink

theorem Keeps.tapNow (h : Keeps s t) : Keeps s t.tapNow.2 := .beside h.drawFree

theorem Keeps.dropFrame {p : Nat} (h : Keeps s t) : Keeps s (t.dropFrame p) := by
  unfold State.dropFrame
  extract_lets s1
  have h1 : Keeps s s1 := h.upPort.upLink
  exact .ite h1 h1.startRun.record

theorem Keeps.enqueue {p : Nat} {f : Frame} (h : Keeps s t) : Keeps s (t.enqueue p f) := .ite h (.ite h.upPort.endRun h.dropFrame)

theorem Keeps.enqueueAll {ps : List Nat} {f : Frame} (h : Keeps s t) : Keeps s (t.enqueueAll ps f) := .foldl (fun _ _ h => h.enqueue) h

theorem Keeps.takeEseq {c : FloenClass} (h : Keeps s t) : Keeps s (t.takeEseq c).2 := .beside h.upLink

theorem Keeps.sendUp {c : FloenClass} {dst : Nat} {anym : Bool} {pl : List Byte} (h : Keeps s t) : Keeps s (t.sendUp c dst anym pl) := by
  unfold State.sendUp
  split
  rename_i e s1 hp
  have h1 : Keeps s s1 := h.takeEseq.snd hp
  split
  · exact h1.enqueue
  · exact h1

theorem Keeps.sendUpOn {p : Nat} {c : FloenClass} {dst : Nat} {anym : Bool} {pl : List Byte} (h : Keeps s t) :
    Keeps s (t.sendUpOn p c dst anym pl) := by
  unfold State.sendUpOn
  split
  rename_i e s1 hp
  have h1 : Keeps s s1 := h.takeEseq.snd hp
  exact h1.enqueue

theorem Keeps.sendDown {c : FloenClass} {dst : Nat} {anym : Bool} {pl : List Byte} (h : Keeps s t) : Keeps s (t.sendDown c dst anym pl) := by
  unfold State.sendDown
  split
  rename_i e s1 hp
  have h1 : Keeps s s1 := h.takeEseq.snd hp
  split
  · exact .ite h1 h1.upLink
  · exact h1.enqueueAll

theorem Keeps.sendDownOn {p : Nat} {c : FloenClass} {dst : Nat} {pl : List Byte} (h : Keeps s t) : Keeps s (t.sendDownOn p c dst pl) := by
  unfold State.sendDownOn
  split
  rename_i e s1 hp
  have h1 : Keeps s s1 := h.takeEseq.snd hp
  exact h1.enqueue

theorem Keeps.sendCross {c : FloenClass} {dst : Nat} {pl : List Byte} (h : Keeps s t) : Keeps s (t.sendCross c dst pl) := by
  unfold State.sendCross
  split
  rename_i e s1 hp
  have h1 : Keeps s s1 := h.takeEseq.snd hp
  exact h1.enqueueAll

theorem Keeps.sendPartner {c : FloenClass} {pl : List Byte} (h : Keeps s t) : Keeps s (t.sendPartner c pl) := h.sendCross

theorem Keeps.sendLocal {p : Nat} {c : FloenClass} {pl : List Byte} (h : Keeps s t) : Keeps s (t.sendLocal p c pl) := by
  unfold State.sendLocal
  split
  rename_i e s1 hp
  have h1 : Keeps s s1 := h.takeEseq.snd hp
  exact h1.enqueue

theorem Keeps.entryPart {p : List Byte} (h : Keeps s t) : Keeps s (t.entryPart p) := .ite h (.ite h.upJrn h.upJrn)

/-! ### What a fault does (R14 to R16, R29, R163, R348, R349) -/

theorem Keeps.assertForce (h : Keeps s t) : Keeps s t.assertForce := h.upGate.event

theorem Keeps.safePattern (h : Keeps s t) : Keeps s t.safePattern := h.upGate

theorem Keeps.watchOutputs (h : Keeps s t) : Keeps s t.watchOutputs := h.upGate

theorem Keeps.toBlock (h : Keeps s t) : Keeps s t.toBlock := by
  unfold State.toBlock
  split
  · exact h.upNode.safePattern
  · exact h.upNode.safePattern
  · exact h.upNode.safePattern
  all_goals exact h

theorem Keeps.setCause {i : Nat} (h : Keeps s t) : Keeps s (t.setCause i) := by
  unfold State.setCause
  extract_lets was s1
  have h1 : Keeps s s1 := h.upSel
  exact (Keeps.ite h1 h1.assertForce).toBlock

theorem Keeps.endCause {i : Nat} (h : Keeps s t) : Keeps s (t.endCause i) := .ite h.upSel h

theorem Keeps.blockRequest (h : Keeps s t) : Keeps s t.blockRequest := h.setCause

theorem Keeps.keepBypass {b : Bool} (h : Keeps s t) : Keeps s (t.keepBypass b) := h.upNode.upSys.upBob

theorem Keeps.latchSby {cause : Nat} (h : Keeps s t) : Keeps s (t.latchSby cause) := .ite h.upSel.assertForce.upNode.upGate.keepBypass h

theorem Keeps.setBlkOut {b : Bool} (h : Keeps s t) : Keeps s (t.setBlkOut b) := by
  unfold State.setBlkOut
  extract_lets s1
  have h1 : Keeps s s1 := h.upLink
  exact .ite h (.ite h1.event h1)

theorem Keeps.tripUpdate (h : Keeps s t) : Keeps s t.tripUpdate := by
  unfold State.tripUpdate
  extract_lets want s1 s2 s1'
  have h1 : Keeps s s1 := h.upSel
  have h2 : Keeps s s2 := h1.upLink
  have h1' : Keeps s s1' := h.upSel.endCause
  exact .ite h2.setBlkOut.setCause (.ite (.ite h1'.upLink.setBlkOut h1') h)

theorem Keeps.requestTrip (h : Keeps s t) : Keeps s t.requestTrip := by
  unfold State.requestTrip
  extract_lets s1
  have h1 : Keeps s s1 := h.upSel
  exact .ite h1.tripUpdate h1.blockRequest

theorem Keeps.endSessions (h : Keeps s t) : Keeps s t.endSessions := .ite h.upDict h

theorem Keeps.endSession {id : Nat} (h : Keeps s t) : Keeps s (t.endSession id) := h.upDict

theorem Keeps.toYielded {cause : Nat} (h : Keeps s t) : Keeps s (t.toYielded cause) := h.upJrn.endSessions

theorem Keeps.sendYield {cause : Nat} (h : Keeps s t) : Keeps s (t.sendYield cause) := h.sendPartner

theorem Keeps.f3Action (h : Keeps s t) : Keeps s t.f3Action := by
  unfold State.f3Action
  extract_lets ok s1
  have h1 : Keeps s s1 := h.sendYield.toYielded
  exact .ite (.ite h1 h1.upNode.blockRequest) (.ite (.ite h.upNode.blockRequest h) h.blockRequest)

theorem Keeps.noteDs0 {cls typ src rsn : Nat} (h : Keeps s t) : Keeps s (t.noteDs0 cls typ src rsn) := h.upLink

theorem Keeps.recordEv {e : Ev} (h : Keeps s t) : Keeps s (t.recordEv e) := by
  unfold State.recordEv
  extract_lets c rsn s1 s2
  have h1 : Keeps s s1 := h.record
  have h2 : Keeps s s2 := .ite h1.upNode h1
  exact .ite h2.noteDs0 h2

theorem Keeps.resyncAbort (h : Keeps s t) : Keeps s t.resyncAbort := h.recordEv.upJrn

theorem Keeps.healthCheck (h : Keeps s t) : Keeps s t.healthCheck := by
  unfold State.healthCheck
  extract_lets x s1
  have h1 : Keeps s s1 := .ite h h.upJrn
  exact .ite h1.upJrn.endSessions h1

theorem Keeps.actOn {top : FClass} {l : List Ev} (h : Keeps s t) : Keeps s (t.actOn top l) := by
  unfold State.actOn
  split
  · exact h
  · exact h
  · exact .ite h.blockRequest h
  · exact h.f3Action
  · exact .ite h.tripUpdate h.requestTrip

theorem Keeps.raiseAll {l : List Ev} (h : Keeps s t) : Keeps s (t.raiseAll l) := by
  unfold State.raiseAll
  extract_lets top s1 s2 s3
  have h1 : Keeps s s1 := .foldl (fun _ _ h => h.recordEv) h
  have h2 : Keeps s s2 := h1.actOn
  have h3 : Keeps s s3 := .ite h2.resyncAbort h2
  exact .ite h3.healthCheck h3

theorem Keeps.raise {n : FaultName} {arg : Nat} (h : Keeps s t) : Keeps s (t.raise n arg) := h.raiseAll

theorem Keeps.raiseRun {n : FaultName} {arg : Nat} (h : Keeps s t) : Keeps s (t.raiseRun n arg) := .ite h h.startRun.raise

theorem Keeps.countRefusal {status key : Nat} (h : Keeps s t) : Keeps s (t.countRefusal status key) := h.upDict

theorem Keeps.refuse {status key jsn : Nat} (h : Keeps s t) : Keeps s (t.refuse status key jsn) := h.countRefusal.raiseAll

/-! ### Resets and the answers to commands (R1, R69, R431 to R434) -/

theorem Keeps.no {st : Status} (h : Keeps s t) : Keeps s (t.no st).2 := .beside h

theorem Keeps.yes (h : Keeps s t) : Keeps s t.yes.2 := .beside h

theorem Keeps.ownWrite {value : Nat} {r : Applied} (h : Keeps s t) (hr : Keeps s r.2) : Keeps s (t.ownWrite value r).2 := .iteSnd hr h.no

/-- A write that is refused is counted and recorded (R69). -/
theorem Keeps.settle {key jsn : Nat} {r : Applied} (h : Keeps s r.2) : Keeps s (settle key jsn r) := .ite h h.refuse

theorem Keeps.onPower (h : Keeps s t) (hu : Keeps s u) : Keeps s (t.onPower u) := .ite hu h

theorem Keeps.onLane (h : Keeps s t) (hu : Keeps s u) : Keeps s (t.onLane u) := h.onPower (.ite hu h)

theorem Keeps.restoreBase (h : Keeps s t) : Keeps s t.restoreBase := by
  unfold State.restoreBase
  refine .ite h ?_
  split
  · exact h.upRecd id
  · exact h

theorem Keeps.sinStart (h : Keeps s t) : Keeps s t.sinStart := by
  unfold State.sinStart
  exact h.upSel

/-- Through a warm reset the Den loses slots and gains none; any other reset empties it (R402, R432). -/
theorem State.recAfter_length (s : State) (kind : ResetKind) (hr : s.recd.den.length ≤ 64) : (s.recAfter kind).den.length ≤ 64 := by
  unfold State.recAfter
  extract_lets r base
  split
  · exact Nat.le_trans (List.length_filter_le _ _) (Nat.le_trans (Nat.le_of_eq (Rec.close_length _ _)) hr)
  · split <;> exact Nat.zero_le 64

theorem Keeps.resetTo {cause : Nat} (h : Keeps s t) : Keeps s (t.resetTo cause) := by
  unfold State.resetTo
  refine Keeps.sinStart (Keeps.takeEffect (h.trans ⟨rfl, rfl, fun hi => ⟨rfl, ?_⟩⟩))
  exact t.recAfter_length _ hi.2

theorem Keeps.resetNow {cause : Nat} (h : Keeps s t) : Keeps s (t.resetNow cause) := .ite h.resetTo.raise h.resetTo

theorem Keeps.warmReset {cause : Nat} (h : Keeps s t) : Keeps s (t.warmReset cause) := .ite h.upSys h.resetNow

theorem Keeps.toOff (h : Keeps s t) : Keeps s t.toOff := h.upNode.upGate

theorem Keeps.saveKeep {clean : Bool} (h : Keeps s t) : Keeps s (t.saveKeep clean) := h.upSys

theorem Keeps.saveSnap (h : Keeps s t) : Keeps s t.saveSnap := h.upBob

theorem Keeps.clearActivate (h : Keeps s t) : Keeps s t.clearActivate := h.setObj.upDict

theorem Keeps.commitTrial (h : Keeps s t) : Keeps s t.commitTrial := .ite h h.clearActivate.upSys.upBob

theorem Keeps.flushStore (h : Keeps s t) : Keeps s t.flushStore := (h.upRecd fun hr => by simpa [Rec.storeDen] using hr).upJrn.upBob.saveSnap.saveKeep

/-! ### Distributed cell selection (R78 to R108) -/

theorem Keeps.armWeft (h : Keeps s t) : Keeps s t.armWeft := h.upWeft

theorem Keeps.sendWarp {p : Nat} {w : Warp} (h : Keeps s t) : Keeps s (t.sendWarp p w) := h.sendLocal

theorem Keeps.noteConflicts {n : Nat} (h : Keeps s t) : Keeps s (t.noteConflicts n) := .ite h.endRun h.upWeft.raiseRun

theorem Keeps.cellMerge {k : Nat} (h : Keeps s t) : Keeps s (t.cellMerge k) := by
  unfold State.cellMerge
  extract_lets own
  split
  exact h.upWeft.noteConflicts.sendWarp.sendWarp

theorem Keeps.countShorts {a : Warp} {straddle : Bool} (h : Keeps s t) : Keeps s (t.countShorts a straddle) := by
  unfold State.countShorts
  extract_lets s1 s2
  have h1 : Keeps s s1 := h.upWeft
  have h2 : Keeps s s2 := h1.event.event
  exact .ite h2.endRun (.ite h2 h2.raiseRun)

theorem Keeps.sensorFaults {a : Warp} (h : Keeps s t) : Keeps s (t.sensorFaults a) := by
  unfold State.sensorFaults
  extract_lets lost dis s1
  have h1 : Keeps s s1 := .ite h.raiseRun h.endRun
  exact .ite h1.raiseRun h1.endRun

theorem Keeps.armMerge {k : Nat} (h : Keeps s t) : Keeps s (t.armMerge k) := by
  unfold State.armMerge
  split
  extract_lets r s1
  have h1 : Keeps s s1 := h.upWeft.upArm
  exact .ite h1.noteConflicts.countShorts.sensorFaults h1

theorem Keeps.mergeNow {k : Nat} (h : Keeps s t) : Keeps s (t.mergeNow k) := .ite h.cellMerge (.ite h.armMerge h)

theorem Keeps.tally {k : Nat} (h : Keeps s t) : Keeps s (t.tally k) := .ite h h.mergeNow

theorem Keeps.tryTally {k : Nat} (h : Keeps s t) : Keeps s (t.tryTally k) := .ite h.tally h

theorem Keeps.lateWarp {p k : Nat} (h : Keeps s t) : Keeps s (t.lateWarp p k) := (Keeps.ite h h.endRun).upWeft.event.raiseRun

theorem Keeps.warpRx {p : Nat} {w : Warp} (h : Keeps s t) : Keeps s (t.warpRx p w) := by
  unfold State.warpRx
  extract_lets k mine shadow s1 late s2
  have h1 : Keeps s s1 := h.upWeft
  have h2 : Keeps s s2 := h1.upWeft
  exact .ite h (.ite h1 (.ite (.ite h1 h1.lateWarp) (.ite h2.mergeNow h2.tryTally)))

theorem Keeps.splitTo {r : WeftRec} {x : Shuttle} {acc : State × Nat} {p : Nat} (h : Keeps s acc.1) : Keeps s (State.splitTo r x acc p).1 :=
  h.sendLocal.sendLocal

theorem Keeps.split {r : WeftRec} {k need : Nat} {x : Shuttle} (h : Keeps s t) : Keeps s (t.split r k need x) := by
  have hres : ∀ (l : List Nat) (acc : State × Nat), Keeps s acc.1 → Keeps s (l.foldl (State.splitTo r x) acc).1 := by
    intro l
    induction l with
    | nil => exact fun _ h => h
    | cons p l ih => exact fun acc h => ih _ h.splitTo
  have h1 := hres (t.splitList r k) (t, need) h
  exact .ite h1 h1.upWeft.event

theorem Keeps.noteCount {k : Nat} {a : Warp} {d : ArmDecision} {w : WinVal} (h : Keeps s t) : Keeps s (t.noteCount k a d w) := by
  unfold State.noteCount
  exact h.upArm

theorem Keeps.noteDecision {k : Nat} {d : ArmDecision} {n : Int} (h : Keeps s t) : Keeps s (t.noteDecision k d n) := h.upArm

theorem Keeps.countMismatch {k : Nat} {d : ArmDecision} (h : Keeps s t) : Keeps s (t.countMismatch k d) := by
  unfold State.countMismatch
  extract_lets s1
  have h1 : Keeps s s1 := h.upWeft
  exact .ite (.ite h1 h1.raiseRun) h.endRun

theorem Keeps.countSat {d : ArmDecision} (h : Keeps s t) : Keeps s (t.countSat d) := .ite h.upWeft.raiseRun h.endRun

theorem Keeps.sendShuttle {k : Nat} {d : ArmDecision} {w : WinVal} (h : Keeps s t) : Keeps s (t.sendShuttle k d w) := by
  unfold State.sendShuttle
  extract_lets x s1 s2 s3
  have h1 : Keeps s s1 := h.upArm
  have h2 : Keeps s s2 := h1.upArm.upWeft
  have h3 : Keeps s s3 := .ite h2.upWeft.event h2
  refine .ite h.upArm ?_
  refine .ite h1 ?_
  split
  · exact h3.split
  · exact h3

theorem Keeps.decideCycle {k : Nat} {nTrdl : Int} {overran : Bool} (h : Keeps s t) : Keeps s (t.decideCycle k nTrdl overran) := by
  unfold State.decideCycle
  split
  · exact h
  extract_lets n d wv win s1 w ne s1' s2 s2'
  have h1 : Keeps s s1 := h.noteCount.upArm
  have h1' : Keeps s s1' := h.noteCount.noteDecision.upTrdl
  have h2 : Keeps s s2 := .ite h1'.countMismatch.countSat h1'
  have h2' : Keeps s s2' := .ite h2.endRun h2
  exact .ite h (.ite h1.countMismatch h2'.sendShuttle)

theorem Keeps.adopt (h : Keeps s t) : Keeps s t.adopt := .ite h (.ite h.upArm.raise h.upArm.upWeft.raise)

theorem Keeps.takeWindow {k : Nat} {x : Shuttle} (h : Keeps s t) : Keeps s (t.takeWindow k x) := .ite h.upWeft h

theorem Keeps.takeDecision {k : Nat} {r : WeftRec} {x : Shuttle} (h : Keeps s t) : Keeps s (t.takeDecision k r x) := by
  unfold State.takeDecision
  extract_lets own bad late d s1 s2 s3
  have h1 : Keeps s s1 := h.upWeft
  have h2 : Keeps s s2 := (Keeps.ite h1.event h1).takeWindow
  have h3 : Keeps s s3 := h2.split
  exact .ite h3.startRun.raise h3.endRun

theorem Keeps.noteActive {p : Nat} (h : Keeps s t) : Keeps s (t.noteActive p) := .ite h.upNode h

theorem Keeps.shuttleRx {p : Nat} {x : Shuttle} (h : Keeps s t) : Keeps s (t.shuttleRx p x) := by
  unfold State.shuttleRx
  extract_lets k s1
  have h1 : Keeps s s1 := h.noteActive
  refine .ite h ?_
  split
  · exact h1
  · exact .ite h1 h1.takeDecision

theorem Keeps.noteInsertion {k : Nat} (h : Keeps s t) : Keeps s (t.noteInsertion k) := h.upWeft

theorem Keeps.enterHold (h : Keeps s t) : Keeps s t.enterHold := by
  unfold State.enterHold
  exact (Keeps.ite h.event h).upGate.upNode

theorem Keeps.execAt {k : Nat} (h : Keeps s t) : Keeps s (t.execAt k) := by
  unfold State.execAt
  extract_lets s1 s2 valid s3
  have h1 : Keeps s s1 := h.noteInsertion
  have h2 : Keeps s s2 := .ite h1.upWeft.event h1
  have h3 : Keeps s s3 := .ite h2 h2.upWeft
  refine .ite h ?_
  split
  · exact .ite h3.upNode h3.enterHold
  · exact .ite h3.upNode h3.enterHold
  all_goals exact h3

theorem Keeps.weftT0 {k : Nat} (h : Keeps s t) : Keeps s (t.weftT0 k) := h.upWeft.event

theorem Keeps.failoverOf {k : Nat} (h : Keeps s t) : Keeps s (t.failoverOf k) := by
  unfold State.failoverOf
  split
  · split
    · exact h.upWeft.sendWarp
    · exact h
  · exact h
  · exact h.upWeft

theorem Keeps.failover (h : Keeps s t) : Keeps s t.failover := .foldl (fun _ _ h => h.failoverOf) h

theorem Keeps.childDark {p : Nat} (h : Keeps s t) : Keeps s (t.childDark p) := h.upWeft

theorem Keeps.applyRebase {value : Nat} (h : Keeps s t) : Keeps s (t.applyRebase value).2 := .iteSnd h.no (h.ownWrite h.upArm.yes)

/-! ### The epochs of a pair (R333, R334, R339) -/

theorem Keeps.sendEpoch {k : Nat} (h : Keeps s t) : Keeps s (t.sendEpoch k) := .ite h (Keeps.foldl (fun _ _ h => h.sendPartner) h).upJrn

theorem Keeps.mirrorLate {k : Nat} (h : Keeps s t) : Keeps s (t.mirrorLate k) := .ite h h.upJrn

theorem Keeps.mirrorRx {b : List Byte} (h : Keeps s t) : Keeps s (t.mirrorRx b) := .ite h (.ite h.mirrorLate (.ite h h.upJrn))

theorem Keeps.takeEpoch {e : Epoch} (h : Keeps s t) : Keeps s (t.takeEpoch e) := by
  unfold State.takeEpoch
  extract_lets s1
  have h1 : Keeps s s1 := h.upTrdl
  exact .ite h1.upLink h1.upArm

theorem Keeps.verifyWith {good : Bool} (h : Keeps s t) : Keeps s (t.verifyWith good) := .ite h.upJrn (.ite h h.upJrn.endSessions.raise)

theorem Keeps.mirrorMissed (h : Keeps s t) : Keeps s t.mirrorMissed := by
  unfold State.mirrorMissed
  extract_lets s1
  have h1 : Keeps s s1 := h.upJrn
  exact .ite h1.upJrn.raiseRun.healthCheck h1

theorem Keeps.epochsDrop {k : Nat} {adopted : Bool} (h : Keeps s t) : Keeps s (t.epochsDrop k adopted) := h.upJrn

theorem Keeps.mirrorAdopt {k : Nat} (h : Keeps s t) : Keeps s (t.mirrorAdopt k) := by
  unfold State.mirrorAdopt
  refine .ite h ?_
  split
  · exact h.takeEpoch.upJrn.endRun.epochsDrop.verifyWith
  · exact h.epochsDrop.mirrorMissed

theorem Keeps.memberStart {k : Nat} (h : Keeps s t) : Keeps s (t.memberStart k) := h.mirrorAdopt.upJrn

/-! ### The control engine (R109 to R135) -/

theorem Keeps.refinHold {n : Nat} (h : Keeps s t) : Keeps s (t.refinHold n) := h.upTrdl

theorem Keeps.refinBack {n : Nat} (h : Keeps s t) : Keeps s (t.refinBack n) := .ite h.upTrdl.endRun.raise h

theorem Keeps.refinMove {n : Nat} (h : Keeps s t) : Keeps s (t.refinMove n) := by
  unfold State.refinMove
  refine .ite ?_ h
  split
  · exact h.setObj
  · exact h

theorem Keeps.overrun {k : Nat} {slow fpe : Bool} (h : Keeps s t) : Keeps s (t.overrun k slow fpe) := h.upTrdl.event

theorem Keeps.ovrRestart (h : Keeps s t) : Keeps s t.ovrRestart := h.upTrdl.endRun

theorem Keeps.slowSkip (h : Keeps s t) : Keeps s t.slowSkip := by
  unfold State.slowSkip
  split
  · exact h.upTrdl.raiseRun.sendEpoch
  · exact h

theorem Keeps.armInputs {a : Warp} (h : Keeps s t) : Keeps s (t.armInputs a) := by
  unfold State.armInputs
  exact h.upTrdl

theorem Keeps.cellInputs (h : Keeps s t) : Keeps s t.cellInputs := .ite h.upTrdl h

theorem Keeps.consumeAdc (h : Keeps s t) : Keeps s t.consumeAdc := by
  unfold State.consumeAdc
  exact h.upAdc

theorem Keeps.beginFast {k : Nat} (h : Keeps s t) : Keeps s (t.beginFast k) := by
  unfold State.beginFast
  exact (Keeps.foldl (fun _ _ h => h.refinMove) h).consumeAdc.upTrdl

theorem Keeps.fastStart {k : Nat} (h : Keeps s t) : Keeps s (t.fastStart k) := by
  unfold State.fastStart
  refine .ite h ?_
  refine .ite ?_ (.ite h.cellInputs.beginFast h)
  split
  · extract_lets s1
    have h1 : Keeps s s1 := h.slowSkip.memberStart.armInputs
    exact .ite h (Keeps.ite h1.endRun h1).beginFast
  · exact h

theorem Keeps.beginSlow {k : Nat} (h : Keeps s t) : Keeps s (t.beginSlow k) := h.consumeAdc.upTrdl

theorem Keeps.slowStart {k : Nat} (h : Keeps s t) : Keeps s (t.slowStart k) :=
  .ite h (.ite (Keeps.foldl (fun _ _ h => h.refinMove) h.memberStart).beginSlow h.beginSlow)

theorem Keeps.writeDuty {d : F32} (h : Keeps s t) : Keeps s (t.writeDuty d) := h.upGate

theorem Keeps.trackManual {x : Stage} {n : Nat} (h : Keeps s t) : Keeps s (State.trackManual x t n) := h.setObj

theorem Keeps.commitRecords {x : Stage} (h : Keeps s t) : Keeps s (t.commitRecords x) := by
  unfold State.commitRecords
  extract_lets s1 s2
  have h1 : Keeps s s1 := .ite h.raiseRun (.ite h.endRun h)
  have h2 : Keeps s s2 := .foldl (fun _ _ h => h.raise) h1
  exact .ite h (.foldl (fun _ _ h => h.raise) h2)

theorem Keeps.commitStage {x : Stage} (h : Keeps s t) : Keeps s (t.commitStage x) := by
  unfold State.commitStage
  extract_lets s1 s2
  have h1 : Keeps s s1 := h.upTrdl
  have h2 : Keeps s s2 := .foldl (fun _ _ h => h.trackManual) h1
  exact h2.commitRecords

theorem Keeps.ovrEase (h : Keeps s t) : Keeps s t.ovrEase := .ite h h.endRun

theorem Keeps.trackH {x : Stage} (h : Keeps s t) : Keeps s (t.trackH x) := .ite h.upTrdl h

theorem Keeps.fastCommitted {k : Nat} {x : Stage} (h : Keeps s t) : Keeps s (t.fastCommitted k x) :=
  .ite h.slowStart.decideCycle.trackH (.ite h.writeDuty h)

theorem Keeps.fastEnd {ns : Nat} (h : Keeps s t) : Keeps s (t.fastEnd ns) := by
  unfold State.fastEnd
  extract_lets x s1
  have h1 : Keeps s s1 := h.upTrdl
  split
  · exact h
  extract_lets s2 s2'
  have h2 : Keeps s s2 := h1.overrun
  have h2' : Keeps s s2' := h1.commitStage.upTrdl
  exact .ite (.ite h2.decideCycle h2) h2'.ovrEase.event.fastCommitted

theorem Keeps.slowEnd {ns : Nat} (h : Keeps s t) : Keeps s (t.slowEnd ns) := by
  unfold State.slowEnd
  extract_lets x s1 y
  have h1 : Keeps s s1 := h.upTrdl
  split
  · exact h
  · exact .ite h1.overrun h1.commitStage.upTrdl.ovrEase.endRun.event.sendEpoch

theorem Keeps.trdlDeadline {slow : Bool} (h : Keeps s t) : Keeps s (t.trdlDeadline slow) := by
  unfold State.trdlDeadline
  refine .ite h ?_
  split
  · exact h
  extract_lets s1
  have h1 : Keeps s s1 := h.overrun
  exact .ite (.ite h.overrun h.slowSkip) (.ite h1.decideCycle h1)

theorem Keeps.applyProgramActivate {value jsn : Nat} (h : Keeps s t) : Keeps s (t.applyProgramActivate value jsn).2 := by
  unfold State.applyProgramActivate
  extract_lets fits put b p
  refine .iteSnd h.no ?_
  exact .iteSnd h.no (.iteSnd h.no (.iteSnd (.iteSnd h.upTrdl.setObj.yes h.no) (.iteSnd h.upTrdl.setObj.yes h.no)))

/-! ### The switching outputs (R139 to R165) -/

theorem Keeps.gateStep {f : Gate → Gate} (h : Keeps s t) : Keeps s (t.gateStep f) := h.upGate.event

theorem Keeps.insertNow {nt : Int} {i : Insertion} (h : Keeps s t) : Keeps s (t.insertNow nt i) := .ite h.gateStep h

theorem Keeps.loadPlain (h : Keeps s t) : Keeps s t.loadPlain := h.gateStep

theorem Keeps.loadCarrier (h : Keeps s t) : Keeps s t.loadCarrier := h.gateStep

theorem Keeps.gateShadow {key v : Nat} (h : Keeps s t) : Keeps s (t.gateShadow key v) := by
  unfold State.gateShadow
  extract_lets now x put
  exact .ite h.upGate (.ite h.upGate (.ite h.upGate (.ite h.upGate (.ite h.upGate h))))

theorem Keeps.gateBoot (h : Keeps s t) : Keeps s t.gateBoot := h.upGate

theorem Keeps.levelEdge {k : Nat} (h : Keeps s t) : Keeps s (t.levelEdge k) := by
  unfold State.levelEdge
  extract_lets at' s1
  have h1 : Keeps s s1 := h.upGate.loadPlain
  refine .ite h ?_
  split
  · exact h1
  refine .ite h1 ?_
  split
  · exact h1
  · exact h1.insertNow
  · exact h1.insertNow

theorem Keeps.gridStart {k : Nat} (h : Keeps s t) : Keeps s (t.gridStart k) := by
  unfold State.gridStart
  extract_lets s1
  have h1 : Keeps s s1 := h.upGate
  exact .ite h (.ite h1.loadPlain h1)

theorem Keeps.planPeriod {b : Int} {drive : Bool} (h : Keeps s t) : Keeps s (t.planPeriod b drive) := by
  unfold State.planPeriod
  exact h.upGate

theorem Keeps.planCounted {b : Int} {drive : Bool} (h : Keeps s t) : Keeps s (t.planCounted b drive) := by
  unfold State.planCounted
  extract_lets t0
  have ht0 : Keeps s t0 := h.planPeriod
  exact .ite ht0.event ht0

theorem Keeps.carrierEdge {e : SchedEdge} (h : Keeps s t) : Keeps s (t.carrierEdge e) := .ite h h.insertNow

theorem Keeps.placeEdge {e : SchedEdge} (h : Keeps s t) : Keeps s (t.placeEdge e) := by
  unfold State.placeEdge
  extract_lets s1
  have h1 : Keeps s s1 := h.upGate
  exact .ite h1.carrierEdge h1.upGate.event

theorem Keeps.placeDue (h : Keeps s t) : Keeps s t.placeDue := .foldl (fun _ _ h => h.placeEdge) h

theorem Keeps.carrierBoundary (h : Keeps s t) : Keeps s t.carrierBoundary := by
  unfold State.carrierBoundary
  extract_lets s1
  have h1 : Keeps s s1 := h.upGate
  split
  · exact h1.loadCarrier.planCounted.placeDue
  · exact h

theorem Keeps.regrid (h : Keeps s t) : Keeps s t.regrid := .ite h.planCounted.upGate.placeDue h

theorem Keeps.directArm {value : Nat} (h : Keeps s t) : Keeps s (t.directArm value) := by
  unfold State.directArm
  extract_lets v out s1
  have h1 : Keeps s s1 := h.upGate
  exact .ite h1.upGate h1

theorem Keeps.setAux {v : Nat} (h : Keeps s t) : Keeps s (t.setAux v) := by
  unfold State.setAux
  exact h.upGate

theorem Keeps.applyAux {value jsn : Nat} (h : Keeps s t) : Keeps s (t.applyAux value jsn).2 := .iteSnd h.no h.setObj.setAux.yes

theorem Keeps.delayCal {span : Nat} (h : Keeps s t) : Keeps s (t.delayCal span) := by
  unfold State.delayCal
  extract_lets s0
  have h0 : Keeps s s0 := h.upGate
  exact .ite h (.ite h0.upGate h0.upGate.raise)

theorem Keeps.readback {out : Nat} {level : Bool} (h : Keeps s t) : Keeps s (t.readback out level) := by
  unfold State.readback
  extract_lets s1
  have h1 : Keeps s s1 := h.upGate
  exact .ite h (.ite (.ite h1 h1.upGate.startRun.raise) h1.endRun)

theorem Keeps.fltLatch {n action : Nat} (h : Keeps s t) : Keeps s (t.fltLatch n action) := by
  unfold State.fltLatch
  extract_lets s1
  have h1 : Keeps s s1 := h.upGate.event
  exact .ite h1.raise (.ite h1.safePattern.recordEv.latchSby (Keeps.ite h1.safePattern h1).raise)

theorem Keeps.fltExpiry {n : Nat} {level : Bool} (h : Keeps s t) : Keeps s (t.fltExpiry n level) := by
  unfold State.fltExpiry
  extract_lets cfg active s1
  have h1 : Keeps s s1 := h.upGate
  exact .ite h (.ite h1.fltLatch h1)

theorem Keeps.fltClearOne {mask n : Nat} (h : Keeps s t) : Keeps s (State.fltClearOne mask t n) := .ite h (.ite h.upGate h.upGate.upNode)

theorem Keeps.applyFltClear {mask : Nat} (h : Keeps s t) : Keeps s (t.applyFltClear mask).2 :=
  .iteSnd h.no (.beside (.foldl (fun _ _ h => h.fltClearOne) h))

/-! ### The converter cores (R169 to R189) -/

theorem Keeps.upAdcCore {c : Nat} {f : AdcCore → AdcCore} (h : Keeps s t) : Keeps s (t.upAdcCore c f) := h.upAdc

theorem Keeps.applyAdcEnable {c value jsn : Nat} (h : Keeps s t) : Keeps s (t.applyAdcEnable c value jsn).2 :=
  .iteSnd h.no (.iteSnd h.no (.iteSnd h.no (.iteSnd h.no h.setObj.upAdcCore.yes)))

theorem Keeps.adcEnableStored {c : Nat} (h : Keeps s t) : Keeps s (t.adcEnableStored c) := h.upAdcCore

theorem Keeps.adcHandCore {c : Nat} (h : Keeps s t) : Keeps s (t.adcHandCore c) := h.upAdcCore

theorem Keeps.adcHandover (h : Keeps s t) : Keeps s t.adcHandover := by
  unfold State.adcHandover
  extract_lets bad s1
  have h1 : Keeps s s1 := h.adcHandCore.adcHandCore
  exact .ite h1.raise h1

theorem Keeps.adcRefWait {c : Nat} (h : Keeps s t) : Keeps s (t.adcRefWait c) := h.upAdc.upAdcCore

theorem Keeps.adcLost {c : Nat} (h : Keeps s t) : Keeps s (t.adcLost c) := h.upAdc.upAdcCore.event

theorem Keeps.adcTrigger {n c : Nat} (h : Keeps s t) : Keeps s (t.adcTrigger n c) := by
  unfold State.adcTrigger
  refine .ite h ?_
  split
  · exact h
  · exact .ite h.adcRefWait (.ite h.adcLost (.ite h.adcLost.raiseRun h.endRun.upAdcCore))

theorem Keeps.cmptTrigger {n : Nat} (h : Keeps s t) : Keeps s (t.cmptTrigger n) := .ite h h.upGate.event.adcTrigger.adcTrigger

theorem Keeps.abandonTb {c : Nat} (h : Keeps s t) : Keeps s (t.abandonTb c) := by
  unfold State.abandonTb
  split
  · exact h
  · exact h.upAdc.upAdcCore

theorem Keeps.tbShift {before : Nat} {d : Int} (h : Keeps s t) : Keeps s (t.tbShift before d) := .ite h h.upAdc

theorem Keeps.tbSample {c : Nat} (h : Keeps s t) : Keeps s (t.tbSample c) := by
  unfold State.tbSample
  refine .ite h ?_
  split
  · exact h
  · exact .ite h (.ite h.adcRefWait (.ite h.adcLost h.abandonTb.upAdcCore))

theorem Keeps.urgent {c v : Nat} (h : Keeps s t) : Keeps s (t.urgent c v) := by
  unfold State.urgent
  extract_lets s1
  have h1 : Keeps s s1 := h.endRun.upAdcCore
  exact .ite h (.ite h.upAdcCore (.ite h.adcLost.raiseRun (.ite h1.upAdcCore h1)))

theorem Keeps.adcWork {c : Nat} (h : Keeps s t) : Keeps s (t.adcWork c) := .ite h h.upAdcCore

theorem Keeps.writeResult {c e raw : Nat} {urg : Bool} (h : Keeps s t) : Keeps s (t.writeResult c e raw urg) := by
  unfold State.writeResult
  extract_lets ch lost s1 s2
  have h1 : Keeps s s1 := h.upAdcCore
  have h2 : Keeps s s2 := h1.upAdc
  exact .ite h2.upAdc.raiseRun h2.endRun

theorem Keeps.capacitorDone {e raw : Nat} (h : Keeps s t) : Keeps s (t.capacitorDone e raw) := h.upAdc.upWeft.tryTally

theorem Keeps.sensorDone {raw : Nat} (h : Keeps s t) : Keeps s (t.sensorDone raw) := by
  unfold State.sensorDone
  extract_lets x i clipped valid c s1 s2
  have h1 : Keeps s s1 := h.upAdc
  have h2 : Keeps s s2 := h1.upWeft
  exact (Keeps.ite h2.raiseRun h2.endRun).tryTally

theorem Keeps.chainOn {c : Nat} {w : AdcWork} (h : Keeps s t) : Keeps s (t.chainOn c w) := h.upAdcCore

theorem Keeps.takeResult {c e raw : Nat} {w : AdcWork} (h : Keeps s t) : Keeps s (t.takeResult c e raw w) :=
  .ite (.ite h.capacitorDone h) (.ite (.ite h.sensorDone h) h.writeResult)

theorem Keeps.conversion {c raw : Nat} (h : Keeps s t) : Keeps s (t.conversion c raw) := by
  unfold State.conversion
  extract_lets w
  clear_value w
  split
  · exact h
  · exact h
  extract_lets urg s1 s2
  have h1 : Keeps s s1 := h.takeResult
  have h2 : Keeps s s2 := h1.chainOn.event
  exact .ite h (.ite h2.event h2)

theorem Keeps.noSensor (h : Keeps s t) : Keeps s t.noSensor := .ite h.upAdc h

theorem Keeps.sensorAtT0 (h : Keeps s t) : Keeps s t.sensorAtT0 := .ite h h.noSensor

theorem Keeps.discardConversions (h : Keeps s t) : Keeps s t.discardConversions := (Keeps.ite h.noSensor h).chainOn.chainOn

theorem Keeps.applyCalStart {value : Nat} (h : Keeps s t) : Keeps s (t.applyCalStart value).2 := .iteSnd h.no (h.ownWrite h.upAdc.yes)

/-! ### The dataflow scheduler (R276 to R303) -/

theorem Keeps.setTokens {a : Nat} {l : List Nat} (h : Keeps s t) : Keeps s (t.setTokens a l) := h.upHdl

theorem Keeps.upCore {c : Nat} {f : HCore → HCore} (h : Keeps s t) : Keeps s (t.upCore c f) := h.upHdl

theorem Keeps.upOp {n : Nat} {f : OpRun → OpRun} (h : Keeps s t) : Keeps s (t.upOp n f) := h.upHdl

theorem Keeps.checkReady {n : Nat} (h : Keeps s t) : Keeps s (t.checkReady n) := by
  unfold State.checkReady
  extract_lets s1
  have h1 : Keeps s s1 := h.upHdl
  split
  · exact h
  · exact .ite h h1.upHdl

theorem Keeps.cancelRace (h : Keeps s t) : Keeps s t.cancelRace := h.upHdl.event

theorem Keeps.raceToken {n : Nat} {raced : Bool} (h : Keeps s t) : Keeps s (t.raceToken n raced) := .ite h h.cancelRace.upHdl

theorem Keeps.fullToken {a : Nat} {arc : GArc} {v : Nat} (h : Keeps s t) : Keeps s (t.fullToken a arc v) := by
  unfold State.fullToken
  extract_lets s1
  have h1 : Keeps s s1 := h.upHdl.event
  exact .ite h1.setTokens h1.raiseRun

theorem Keeps.postToken {a v : Nat} (h : Keeps s t) : Keeps s (t.postToken a v) := by
  unfold State.postToken
  extract_lets s1 s2
  have h1 : Keeps s s1 := h.event
  have h2 : Keeps s s2 := h1.upHdl
  split
  · exact h
  split
  · exact h1.raceToken
  · exact .ite h2.endRun.setTokens.checkReady h2.fullToken

theorem Keeps.postAll {l : List Nat} {v : Nat} (h : Keeps s t) : Keeps s (t.postAll l v) := .foldl (fun _ _ h => h.postToken) h

theorem Keeps.cycleTokens {k : Nat} (h : Keeps s t) : Keeps s (t.cycleTokens k) := h.postAll

theorem Keeps.stationTokens {j : Nat} (h : Keeps s t) : Keeps s (t.stationTokens j) := h.postAll

theorem Keeps.eventTokens {code : Nat} (h : Keeps s t) : Keeps s (t.eventTokens code) := .ite (.foldl (fun _ _ h => (.ite h.postToken h)) h) h

theorem Keeps.consume {g : GOp} (h : Keeps s t) : Keeps s (t.consume g) := .foldl (fun _ _ h => h.setTokens) h

theorem Keeps.dispatchTo {c : Nat} {r : ReadyEntry} {g : GOp} (h : Keeps s t) : Keeps s (t.dispatchTo c r g) := by
  unfold State.dispatchTo
  exact h.upHdl.consume.upOp.upCore.event.checkReady

theorem Keeps.dispatch {c : Nat} (h : Keeps s t) : Keeps s (t.dispatch c) := by
  unfold State.dispatch
  refine .ite h ?_
  split
  · exact h
  split
  · exact h.dispatchTo
  · exact h

theorem Keeps.deliver {op : Nat} {p : Nat × Nat} (h : Keeps s t) : Keeps s (State.deliver op t p) := h.postAll

theorem Keeps.closeCore {c : Nat} (h : Keeps s t) : Keeps s (t.closeCore c) := .foldl (fun _ _ h => h.eventTokens) h.upCore

theorem Keeps.complete {c : Nat} (h : Keeps s t) : Keeps s (t.complete c) := by
  unfold State.complete
  split
  · exact h
  · exact (Keeps.foldl (fun _ _ h => h.deliver) h).upOp.closeCore.event

theorem Keeps.endRunBadly {c n : Nat} {g : GOp} {budget : Bool} (h : Keeps s t) : Keeps s (t.endRunBadly c n g budget) := by
  unfold State.endRunBadly
  extract_lets s1 s2 e s3
  have h1 : Keeps s s1 := h.upCore.upHdl
  have h2 : Keeps s s2 := h1.event.upOp.closeCore
  have h3 : Keeps s s3 := h2.upOp.upHdl
  exact .ite h3.raiseAll h2.raiseAll

theorem Keeps.abortCore {c : Nat} {budget : Bool} (h : Keeps s t) : Keeps s (t.abortCore c budget) := by
  unfold State.abortCore
  split
  · exact h
  split
  · exact h.endRunBadly
  · exact h.upCore

theorem Keeps.coreUe {core addr : Nat} (h : Keeps s t) : Keeps s (t.coreUe core addr) := h.noteError.upHdl.event.raise

theorem Keeps.stagePost {core out : Nat} (h : Keeps s t) : Keeps s (t.stagePost core out) := by
  unfold State.stagePost
  split
  · exact h
  split
  · exact h
  · exact .ite h.abortCore h.upCore

theorem Keeps.finish {c : Nat} (h : Keeps s t) : Keeps s (t.finish c) := .ite h.abortCore h.complete

theorem Keeps.cancel {op : Nat} (h : Keeps s t) : Keeps s (t.cancel op) := by
  unfold State.cancel
  extract_lets now
  split
  · exact h
  extract_lets raced s1 s2
  have h1 : Keeps s s1 := .ite h.cancelRace h
  have h2 : Keeps s s2 := .foldl (fun _ _ h => h.setTokens) h1
  exact h2.upHdl

theorem Keeps.upDly {l : Nat} {f : DlyList → DlyList} (h : Keeps s t) : Keeps s (t.upDly l f) := h.upHdl

theorem Keeps.dlyRefuse {c : Nat} (h : Keeps s t) : Keeps s (t.dlyRefuse c) := h.upCore.upHdl.event.raiseRun

theorem Keeps.dlyInsert {c ticks : Nat} (h : Keeps s t) : Keeps s (t.dlyInsert c ticks) := .ite h.dlyRefuse h.upDly.upCore.endRun

theorem Keeps.dlyCancel {handle : Nat} (h : Keeps s t) : Keeps s (t.dlyCancel handle) := by
  unfold State.dlyCancel
  extract_lets l d s1
  have h1 : Keeps s s1 := h.upDly
  split
  · exact h.upDly.upHdl
  · exact .ite (.ite h1.cancelRace h1) h

theorem Keeps.dlyRelease {l : Nat} (h : Keeps s t) : Keeps s (t.dlyRelease l) := by
  unfold State.dlyRelease
  split
  · exact h.upDly.event.postToken
  · exact h

theorem Keeps.tickList {l : Nat} (h : Keeps s t) : Keeps s (t.tickList l) := by
  unfold State.tickList
  extract_lets now d t0 es es2 due mine races s1
  have h1 : Keeps s s1 := h.upDly.upHdl
  exact .foldl (fun _ _ h => h.cancelRace) h1

/-- The sections of a graph image written into the memories, and the words that they fill corrected (R278, R284). -/
theorem writeSections_wf (g : GraphImage) (cs : List Host.Cell) (m : Mem) (hm : m.wf = true) :
    (cs.foldl (fun m c => (if GraphImage_wholeWord g c.1 then m.heal c.1 else m).write c.1 c.2) m).wf = true := by
  induction cs generalizing m with
  | nil => exact hm
  | cons c cs ih => exact ih _ (Mem.write_wf _ (by split <;> exact hm) _ _)

theorem Keeps.loadGraph (h : Keeps s t) : Keeps s t.loadGraph := by
  unfold State.loadGraph
  exact .foldl (fun _ _ h => h.checkReady) (h.upHdl.upMem (writeSections_wf _ _))

theorem Keeps.applyGraphActivate {value jsn : Nat} (h : Keeps s t) : Keeps s (t.applyGraphActivate value jsn).2 :=
  .iteSnd h.no (.iteSnd h.no (.iteSnd h.no h.setObj.upHdl.yes))

theorem Keeps.correct {a : Nat} (h : Keeps s t) : Keeps s (t.correct a) := h.heal.upHdl.event

theorem Keeps.latentUe {a : Nat} (h : Keeps s t) : Keeps s (t.latentUe a) := h.noteError.upHdl.event.raise

theorem Keeps.scrubEnd (h : Keeps s t) : Keeps s t.scrubEnd := by
  unfold State.scrubEnd
  extract_lets s1
  have h1 : Keeps s s1 := h.upHdl
  exact .ite h1.endRun h1

theorem Keeps.scrub {addr bits : Nat} (h : Keeps s t) : Keeps s (t.scrub addr bits) := by
  unfold State.scrub
  split
  · exact h
  extract_lets a s1
  have h1 : Keeps s s1 := .ite h.latentUe (.ite h.correct h)
  exact .ite h1.scrubEnd h1

theorem Keeps.ecClear {n : Nat} (h : Keeps s t) : Keeps s (t.ecClear n) := h.upEc.upEvc

theorem Keeps.applyEcConfig {n : Nat} {mode : Bool} {value jsn : Nat} (h : Keeps s t) : Keeps s (t.applyEcConfig n mode value jsn).2 := by
  unfold State.applyEcConfig
  extract_lets key s1
  have h1 : Keeps s s1 := h.setObj.ecClear
  exact .iteSnd h.no (.iteSnd h.no (.iteSnd h.no (Keeps.ite h1.upEc h1).yes))

theorem Keeps.fenceCounters {id : Nat} (h : Keeps s t) : Keeps s (t.fenceCounters id) := h.upEvc

/-! ### Frames of a STATION on its LAN ports (R230 to R233) -/

theorem Keeps.upLan {f : Lan → Lan} (h : Keeps s t) : Keeps s (t.upLan f) := h.upLink

theorem Keeps.ethSend {c : EthContent} (h : Keeps s t) : Keeps s (t.ethSend c) := h.upLan

theorem Keeps.ptpSend {c : PtpOut} (h : Keeps s t) : Keeps s (t.ptpSend c) := h.upLan

theorem Keeps.ptpSendOn {lan : Nat} {c : PtpOut} (h : Keeps s t) : Keeps s (t.ptpSendOn lan c) := h.upLan

/-! ### The answers of the dictionary service (R51, R52, R62, R64) -/

theorem Keeps.sendAnswer {r : Response} (h : Keeps s t) : Keeps s (t.sendAnswer r) := by
  unfold State.sendAnswer
  split
  · exact .ite h.ethSend h
  · exact .ite h h.sendUp

theorem Keeps.respond {r : Response} (h : Keeps s t) : Keeps s (t.respond r) := h.upDict.sendAnswer

theorem Keeps.await {w : Waiting} (h : Keeps s t) : Keeps s (t.await w) := h.upDict

theorem Keeps.answer {w : Waiting} {st : Status} {param : Nat} {data : List Byte} (h : Keeps s t) : Keeps s (t.answer w st param data) :=
  h.upDict.respond

theorem Keeps.answerJsn {w : Waiting} {st : Status} (h : Keeps s t) : Keeps s (t.answerJsn w st) := h.answer

theorem Keeps.confirmResult {jsn : Nat} {st : Status} (h : Keeps s t) : Keeps s (t.confirmResult jsn st) := by
  unfold State.confirmResult
  split
  · exact h.answerJsn
  · exact h

theorem Keeps.unknownOp {via : Via} {op tid key : Nat} (h : Keeps s t) : Keeps s (t.unknownOp via op tid key) := h.refuse.respond

theorem Keeps.serviceRequest {p : Nat} {f : Frame} (h : Keeps s t) : Keeps s (t.serviceRequest p f) := .ite h.upDict (.ite h.inbox h.unknownOp)

theorem Keeps.serviceIn {f : Frame} (h : Keeps s t) : Keeps s (t.serviceIn f) := by
  unfold State.serviceIn
  extract_lets at' op st
  refine .ite h ?_
  refine .ite h.confirmResult ?_
  split
  · exact h.answer
  · exact h

/-! ### Supplies, certificates and firmware (R418 to R442) -/

theorem Keeps.suppliesUp {vinMv vddaMv : Nat} (h : Keeps s t) : Keeps s (t.suppliesUp vinMv vddaMv) := .ite h h.resetTo.upSys

theorem Keeps.loseSupplies {cause : Option Nat} (h : Keeps s t) : Keeps s (t.loseSupplies cause) := h.toOff.upSys

theorem Keeps.applyResetRequest {value : Nat} (h : Keeps s t) : Keeps s (t.applyResetRequest value).2 := h.ownWrite h.warmReset.yes

theorem Keeps.wdExpire (h : Keeps s t) : Keeps s t.wdExpire := .ite h.warmReset h

theorem Keeps.wdWarn (h : Keeps s t) : Keeps s t.wdWarn := .ite h.upSys h

theorem Keeps.wdKick {key : Nat} (h : Keeps s t) : Keeps s (t.wdKick key) := .ite h (.ite h.upSys h.wdExpire)

theorem Keeps.applyHibernate {value : Nat} (h : Keeps s t) : Keeps s (t.applyHibernate value).2 :=
  h.ownWrite (.iteSnd h.close.flushStore.upLink.toOff.upSys.yes h.no)

theorem Keeps.syncHoldup (h : Keeps s t) : Keeps s t.syncHoldup := h.upJrn

theorem Keeps.pfailStart (h : Keeps s t) : Keeps s t.pfailStart :=
  .ite h h.upSys.close.upBob.syncHoldup.raise

theorem Keeps.flushDone (h : Keeps s t) : Keeps s t.flushDone := by
  unfold State.flushDone
  extract_lets s1
  have h1 : Keeps s s1 := h.flushStore.upSys.upBob
  refine .ite h ?_
  split
  · exact h1.resetNow
  · exact h1

theorem Keeps.pfailEnd (h : Keeps s t) : Keeps s t.pfailEnd := .ite h h.upSys.upBob.syncHoldup

theorem Keeps.applyVcore {value vinMv jsn : Nat} (h : Keeps s t) : Keeps s (t.applyVcore value vinMv jsn).2 :=
  .iteSnd h.no (.iteSnd h.no h.setObj.upSys.endRun.yes)

theorem Keeps.rampDone (h : Keeps s t) : Keeps s t.rampDone := .ite h.upSys h

theorem Keeps.vinSag {vinMv : Nat} (h : Keeps s t) : Keeps s (t.vinSag vinMv) := by
  unfold State.vinSag
  extract_lets s1
  have h1 : Keeps s s1 := h.upSys
  exact .ite h1.upSys.raiseRun h1

theorem Keeps.vcoreBoot (h : Keeps s t) : Keeps s t.vcoreBoot := .ite h.vinSag h.upSys

theorem Keeps.vinBack {vinMv : Nat} (h : Keeps s t) : Keeps s (t.vinBack vinMv) := by
  unfold State.vinBack
  extract_lets s1
  have h1 : Keeps s s1 := h.upSys
  exact .ite h1.upSys.endRun (.ite h1.upSys h1)

theorem Keeps.checkCert (h : Keeps s t) : Keeps s t.checkCert := by
  unfold State.checkCert
  extract_lets c s1
  have h1 : Keeps s s1 := h.upSys
  exact .ite h1.raise h1

theorem Keeps.sendCert {p : Nat} {op : Bool} (h : Keeps s t) : Keeps s (t.sendCert p op) := h.sendLocal

theorem Keeps.resendCert (h : Keeps s t) : Keeps s t.resendCert := .ite (.foldl (fun _ _ h => h.sendCert) h) h

theorem Keeps.applyCert {root : Bool} {value : Nat} {facts : CertFacts} {jsn : Nat} (h : Keeps s t) : Keeps s (t.applyCert root value facts jsn).2 :=
  h.setObj.upSys.checkCert.resendCert.yes

theorem Keeps.applyJtagLock {value : Nat} (h : Keeps s t) : Keeps s (t.applyJtagLock value).2 := h.ownWrite (.iteSnd h.upSys.yes h.no)

theorem Keeps.tapUnlock {sigOk : Bool} (h : Keeps s t) : Keeps s (t.tapUnlock sigOk) := .ite h.upSys.upSel.setCause.raise h

theorem Keeps.applyImageActivate {value jsn : Nat} (h : Keeps s t) : Keeps s (t.applyImageActivate value jsn).2 := by
  unfold State.applyImageActivate
  refine .iteSnd h.no ?_
  refine .iteSnd h.setObj.yes ?_
  refine .iteSnd h.no ?_
  split
  · exact .iteSnd h.no h.setObj.upSys.yes
  · exact h.no

theorem Keeps.applyRestore {value : Nat} {role : SessRole} (h : Keeps s t) : Keeps s (t.applyRestore value role).2 := h.ownWrite h.upDict.yes

/-! ### The Selvedge island (R345 to R384) -/

theorem Keeps.computeScv (h : Keeps s t) : Keeps s t.computeScv := h.upSel

theorem Keeps.unconfirm (h : Keeps s t) : Keeps s t.unconfirm := h.upSel

theorem Keeps.noteArmDemand (h : Keeps s t) : Keeps s t.noteArmDemand := .ite h h.upSel

theorem Keeps.sinUpdate (h : Keeps s t) : Keeps s t.sinUpdate := by
  unfold State.sinUpdate
  extract_lets s0 s0' act
  have h0 : Keeps s s0 := .ite h.upSel.endCause h
  have h0' : Keeps s s0' := h0.noteArmDemand
  exact .ite h0'.setCause.tripUpdate.raise (.ite h0'.endCause.tripUpdate h0')

theorem Keeps.badgerTakes {n : Nat} {level : Bool} (h : Keeps s t) : Keeps s (t.badgerTakes n level) := h.upSel.sinUpdate

theorem Keeps.sinDisc (h : Keeps s t) : Keeps s t.sinDisc := .ite h.upSel.setCause.raise h

theorem Keeps.upWc {n : Nat} {f : Wc → Wc} (h : Keeps s t) : Keeps s (t.upWc n f) := h.upSel

theorem Keeps.sdiUpdate (h : Keeps s t) : Keeps s t.sdiUpdate := .ite h h.upSel.raise

theorem Keeps.wcUpdate (h : Keeps s t) : Keeps s t.wcUpdate := .ite (.ite h h.setCause) h.endCause

theorem Keeps.fireSby {cause : Nat} (h : Keeps s t) : Keeps s (t.fireSby cause) := .ite h.latchSby.raise h

theorem Keeps.wcInput {n uv : Nat} (h : Keeps s t) : Keeps s (t.wcInput n uv) := by
  unfold State.wcInput
  extract_lets c s0 st s1
  have h0 : Keeps s s0 := h.upWc
  have h1 : Keeps s s1 := h0.upWc
  exact .ite h0 h1.wcUpdate.sdiUpdate

theorem Keeps.wcFiltered {n : Nat} (h : Keeps s t) : Keeps s (t.wcFiltered n) := by
  unfold State.wcFiltered
  extract_lets use c s1
  have h1 : Keeps s s1 := h.upWc
  exact .ite h (.ite h1.fireSby h1.wcUpdate.raise)

theorem Keeps.sdiTimed {n : Nat} (h : Keeps s t) : Keeps s (t.sdiTimed n) := .ite h.upWc.sdiUpdate h

theorem Keeps.coreWc {n : Nat} (h : Keeps s t) : Keeps s (t.coreWc n) := by
  unfold State.coreWc
  extract_lets use c a s1
  have h1 : Keeps s s1 := h.upWc
  refine .ite h.upWc ?_
  exact .ite h.upWc (.ite h1 (.ite (.ite h1.fireSby h1) (.ite (.ite h1.wcUpdate h1.wcUpdate.raise) h1.wcUpdate)))

theorem Keeps.coreSample {level0 level1 : Bool} (h : Keeps s t) : Keeps s (t.coreSample level0 level1) := by
  unfold State.coreSample
  extract_lets c0 c1 s1
  have h1 : Keeps s s1 := h.upSel
  exact .ite h (.foldl (fun _ _ h => h.coreWc) h1.sinUpdate)

theorem Keeps.pulseStart {n : Nat} (h : Keeps s t) : Keeps s (t.pulseStart n) := by
  unfold State.pulseStart
  extract_lets s1
  have h1 : Keeps s s1 := h.upSel
  exact .ite h1.upSel h1

theorem Keeps.pulse {n : Nat} {active : Bool} (h : Keeps s t) : Keeps s (t.pulse n active) := .ite (.ite h.pulseStart h) (.ite h.upSel h)

theorem Keeps.fbCheck {n : Nat} {level : Bool} (h : Keeps s t) : Keeps s (t.fbCheck n level) := by
  unfold State.fbCheck
  extract_lets bad was s1
  have h1 : Keeps s s1 := h.upSel
  exact .ite (.ite h1.setCause h1.setCause.raise) (.ite h1 h1.endCause)

theorem Keeps.upConn {p : Nat} {f : Conn → Conn} (h : Keeps s t) : Keeps s (t.upConn p f) := h.upSel

theorem Keeps.sendSafety {p : Nat} (h : Keeps s t) : Keeps s (t.sendSafety p) := by
  unfold State.sendSafety
  extract_lets c src' dst
  split
  · extract_lets f s1
    have h1 : Keeps s s1 := h.upConn
    exact .ite h (.ite h1.sendUpOn h1.sendDownOn)
  · exact h

theorem Keeps.sendPeriodic (h : Keeps s t) : Keeps s t.sendPeriodic := .ite (.foldl (fun _ _ h => h.sendSafety) h.upSel) h

theorem Keeps.sendChanged {p : Nat} (h : Keeps s t) : Keeps s (t.sendChanged p) := by
  unfold State.sendChanged
  split
  · exact .ite h h.sendSafety
  · exact h.sendSafety

theorem Keeps.demandUpdate (h : Keeps s t) : Keeps s t.demandUpdate := .ite (.ite h h.setCause.raiseRun) h.endCause.endRun

theorem Keeps.dnmFrame {p : Nat} {f : SafetyFrame} (h : Keeps s t) : Keeps s (t.dnmFrame p f) := .ite h.upSel h.upSel

theorem Keeps.acceptSafety {p : Nat} {f : SafetyFrame} (h : Keeps s t) : Keeps s (t.acceptSafety p f) := by
  unfold State.acceptSafety
  extract_lets c gap s1 s2 s3 s4 s5
  have h1 : Keeps s s1 := h.upConn
  have h2 : Keeps s s2 := .ite h1.upSel h1
  have h3 : Keeps s s3 := h2.endRun.endRun
  have h4 : Keeps s s4 := h3.dnmFrame
  have h5 : Keeps s s5 := .ite h4.endRun h4
  exact .ite h5.endCause.demandUpdate h3.tripUpdate

theorem Keeps.safetyRx {p : Nat} {bs : List Byte} (h : Keeps s t) : Keeps s (t.safetyRx p bs) := by
  unfold State.safetyRx
  split
  · exact h
  · exact .ite h (.ite h.upSel (.ite h.upConn.upSel (.ite h.acceptSafety h.upSel)))

theorem Keeps.connExpire {p : Nat} (h : Keeps s t) : Keeps s (t.connExpire p) := by
  unfold State.connExpire
  extract_lets s1 s2 s3
  have h1 : Keeps s s1 := h.upConn
  have h2 : Keeps s s2 := h1.raiseRun
  have h3 : Keeps s s3 := h2.upSel.demandUpdate
  exact .ite h (.ite h.upConn (.ite (.ite h3 h3.setCause.raise) h2.tripUpdate))

theorem Keeps.paramPersists {p : Nat} (h : Keeps s t) : Keeps s (t.paramPersists p) := .ite h.raiseRun h

theorem Keeps.dnmDisagree (h : Keeps s t) : Keeps s t.dnmDisagree := .ite h.raiseRun h

theorem Keeps.saveDeg (h : Keeps s t) : Keeps s t.saveDeg := by
  unfold State.saveDeg
  exact h.upSys.upBob

theorem Keeps.dualFail (h : Keeps s t) : Keeps s t.dualFail := h.upSel.saveDeg.setCause.raise

theorem Keeps.coreSby (h : Keeps s t) : Keeps s t.coreSby := .ite h.fireSby h

theorem Keeps.channelFail {core : Bool} (h : Keeps s t) : Keeps s (t.channelFail core) :=
  .ite h.upSel (.ite h.dualFail h.upSel.saveDeg.raise.sinUpdate.wcUpdate.coreSby)

theorem Keeps.injection {ok : Bool} (h : Keeps s t) : Keeps s (t.injection ok) := .ite (.ite h.channelFail h.dualFail) (.ite h h.channelFail)

theorem Keeps.decisionDisc (h : Keeps s t) : Keeps s t.decisionDisc := .ite h (.ite h.upSel h.upSel.raiseRun)

theorem Keeps.stageFault {n : Nat} (h : Keeps s t) : Keeps s (t.stageFault n) := by
  unfold State.stageFault
  extract_lets s1 s2
  have h1 : Keeps s s1 := h.upWc.upSel
  have h2 : Keeps s s2 := h1.raise.sdiUpdate
  exact .ite h (.ite h2.fireSby h2.wcUpdate)

theorem Keeps.degJudge (h : Keeps s t) : Keeps s t.degJudge := by
  unfold State.degJudge
  extract_lets n old s1 s2 evs
  have h1 : Keeps s s1 := h.upSel
  have h2 : Keeps s s2 := .ite (.ite h1 h1.setCause) h1.endCause
  exact .ite h2 h2.raiseAll

theorem Keeps.degTick (h : Keeps s t) : Keeps s t.degTick := .ite h h.upSel.degJudge.saveDeg

theorem Keeps.degSleep (h : Keeps s t) : Keeps s t.degSleep := .ite h.upSel.upSys h

theorem Keeps.applyDegClear {value : Nat} (h : Keeps s t) : Keeps s (t.applyDegClear value).2 :=
  h.ownWrite (.iteSnd h.no (.iteSnd h.no h.upSel.endCause.endCause.unconfirm.saveDeg.sinUpdate.wcUpdate.yes))

theorem Keeps.applyScvConfirm {value : Nat} (h : Keeps s t) : Keeps s (t.applyScvConfirm value).2 := by
  unfold State.applyScvConfirm
  extract_lets s1 s2
  have h1 : Keeps s s1 := h.unconfirm
  have h2 : Keeps s s2 := h1.upSel
  exact .iteSnd h.no (.iteSnd h.no (.iteSnd h.no (.iteSnd h2.upSys.upBob.yes h1.raise.no)))

theorem Keeps.wcTake {n : Nat} (h : Keeps s t) : Keeps s (t.wcTake n) := by
  unfold State.wcTake
  extract_lets use s1
  have h1 : Keeps s s1 := h.wcInput.upWc
  exact .ite h1.fireSby (.ite h1.fireSby h1.coreSby)

theorem Keeps.takeSps (h : Keeps s t) : Keeps s t.takeSps := (Keeps.foldl (fun _ _ h => h.wcTake) h.computeScv.sinUpdate).wcUpdate.sdiUpdate.degJudge

theorem Keeps.applySps {key value jsn : Nat} (h : Keeps s t) : Keeps s (t.applySps key value jsn).2 := by
  unfold State.applySps
  refine .iteSnd h.no ?_
  split
  · exact h.no
  · exact .iteSnd h.no (.iteSnd h.no (.iteSnd h.no h.setObj.unconfirm.takeSps.yes))

theorem Keeps.releaseSpb (h : Keeps s t) : KeepsIf s t.releaseSpb := .ite (.some h.upSel) .none

theorem Keeps.releaseRefused (h : Keeps s t) : Keeps s t.releaseRefused := h.upSel.raise

/-! ### Places, parents and orphans (R24 to R39) -/

theorem Keeps.sendPrimary (h : Keeps s t) : Keeps s t.sendPrimary := by
  unfold State.sendPrimary
  split
  · exact .ite h.sendUpOn h
  · exact h

theorem Keeps.setPrimary {x : Parent} (h : Keeps s t) : Keeps s (t.setPrimary x) := by
  unfold State.setPrimary
  extract_lets s1
  have h1 : Keeps s s1 := h.upNode.upTb
  exact (Keeps.ite h1.event.failover h1.event).sendPrimary

theorem Keeps.takePlace {p : Place} {m : Nat} {both : Bool} (h : Keeps s t) : Keeps s (t.takePlace p m both) := by
  unfold State.takePlace
  extract_lets s1
  have h1 : Keeps s s1 := h.upNode
  exact .ite (.ite h.endRun h) (.ite h1 h1.raiseRun)

theorem Keeps.derivePlace (h : Keeps s t) : Keeps s t.derivePlace := by
  unfold State.derivePlace
  extract_lets a b s1 s2 s3
  have h1 : Keeps s s1 := h.upNode
  have h2 : Keeps s s2 := .ite h1.raiseRun h1
  have h3 : Keeps s s3 := h2.endRun
  refine .ite h ?_
  refine .ite h2.raiseRun ?_
  split
  · exact h2
  · exact .ite h3.raiseRun h3.endRun.takePlace

theorem Keeps.becomeOrphan {evs : List Ev} (h : Keeps s t) : Keeps s (t.becomeOrphan evs) := by
  unfold State.becomeOrphan
  extract_lets k s1
  have h1 : Keeps s s1 := h.upNode.raiseAll
  exact .ite h1.blockRequest h1

theorem Keeps.parentsSettle {o : State} (h : Keeps s t) : Keeps s (o.parentsSettle t) := by
  unfold State.parentsSettle
  extract_lets lost s1 s2 evs want s3
  have h1 : Keeps s s1 := .foldl (fun _ _ h => (.ite h.upPort h)) h
  have h2 : Keeps s s2 := h1.upNode
  have h3 : Keeps s s3 := .ite h2 h2.setPrimary
  exact .ite h (.ite h3.becomeOrphan (Keeps.ite h3.upNode h3).raiseAll)

theorem Keeps.childLost {p : Nat} (h : Keeps s t) : Keeps s (t.childLost p) := by
  unfold State.childLost
  extract_lets s1
  have h1 : Keeps s s1 := h.childDark.raise
  exact .ite h1 h1.tryTally

theorem Keeps.childrenSettle {o : State} (h : Keeps s t) : Keeps s (o.childrenSettle t) := by
  unfold State.childrenSettle
  extract_lets s1
  have h1 : Keeps s s1 := h.upNode
  exact .foldl (fun _ _ h => h.childLost) h1

theorem Keeps.linksSettle {o : State} (h : Keeps s t) : Keeps s (o.linksSettle t) := h.childrenSettle.derivePlace.parentsSettle

theorem Keeps.revert (h : Keeps s t) : Keeps s t.revert := .ite h h.setPrimary

theorem Keeps.orphanFires (h : Keeps s t) : Keeps s t.orphanFires := .ite h.latchSby h

theorem Keeps.settleAdmission {p : Nat} (h : Keeps s t) : Keeps s (t.settleAdmission p) := by
  unfold State.settleAdmission
  extract_lets k s1
  have h1 : Keeps s s1 := h.upSys
  clear_value k
  split
  · exact h1.upConn
  · exact h1

theorem Keeps.policyChanged (h : Keeps s t) : Keeps s t.policyChanged := (Keeps.foldl (fun _ _ h => h.settleAdmission) h).linksSettle

theorem Keeps.certRx {p : Nat} {op : Bool} {f : CertFacts} (h : Keeps s t) : Keeps s (t.certRx p op f) := by
  unfold State.certRx
  extract_lets l ok s1 s2 s3
  have h1 : Keeps s s1 := h.upSys
  have h2 : Keeps s s2 := .ite h1 h1.upSys.raiseRun
  have h3 : Keeps s s3 := h2.settleAdmission
  exact .ite h (Keeps.ite h3.endRun h3).linksSettle

theorem Keeps.handover {tw lead fibreExtra depth population : Nat} {carrier : Bool} (h : Keeps s t) :
    Keeps s (t.handover tw lead fibreExtra depth population carrier) := by
  unfold State.handover
  extract_lets s1 s2 s3
  have h1 : Keeps s s1 := h.upWeft
  have h2 : Keeps s s2 := .ite h1 h1.regrid
  have h3 : Keeps s s3 := .ite h2.raiseRun h2
  exact .ite h h3.adcHandover

/-! ### The Floen ports (R197 to R229) -/

theorem Keeps.blkUpdate (h : Keeps s t) : Keeps s t.blkUpdate := by
  unfold State.blkUpdate
  extract_lets b s1 s2
  have h1 : Keeps s s1 := h.setBlkOut
  have h2 : Keeps s s2 := h1.upLink
  exact .ite h (.ite (.ite h2 h2.setCause.raiseRun) h1.endCause.endRun)

theorem Keeps.takeBlk {p : Nat} {b : Bool} (h : Keeps s t) : Keeps s (t.takeBlk p b) := .ite h.upPort.blkUpdate h

theorem Keeps.blkEnd (h : Keeps s t) : Keeps s t.blkEnd := .ite h.upLink.setBlkOut h

theorem Keeps.requeue {p : Nat} {q : QEntry} (h : Keeps s t) : Keeps s (t.requeue p q) := .ite h (.ite h.upPort h.dropFrame)

theorem Keeps.dropQueue {p : Nat} (h : Keeps s t) : Keeps s (t.dropQueue p) := by
  unfold State.dropQueue
  extract_lets q s1
  have h1 : Keeps s s1 := h.upPort
  exact .ite (.foldl (fun _ _ h => h.requeue) h1) h1.upLink

theorem Keeps.portDrop {p : Nat} {st : LinkState} {los : Bool} (h : Keeps s t) : Keeps s (t.portDrop p st los) := by
  unfold State.portDrop
  extract_lets up s1 s2
  have h1 : Keeps s s1 := h.upPort.upSys.dropQueue
  have h2 : Keeps s s2 := .ite h1.upLink h1
  exact .ite h2.upPort.raise h2

theorem Keeps.portLost {p : Nat} {st : LinkState} {los : Bool} (h : Keeps s t) : Keeps s (t.portLost p st los) := h.portDrop.blkUpdate.linksSettle

theorem Keeps.flap {p : Nat} (h : Keeps s t) : Keeps s (t.flap p) := .ite h.upPort.raise h

theorem Keeps.noteAbsent {p : Nat} (h : Keeps s t) : Keeps s (t.noteAbsent p) := .ite h.upLink.raiseRun h.endRun

theorem Keeps.lanEnable {p : Nat} (h : Keeps s t) : Keeps s (t.lanEnable p) := by
  unfold State.lanEnable
  extract_lets s1
  have h1 : Keeps s s1 := h.upPort.noteAbsent
  exact .ite (.ite h1 h1.raiseRun) h

theorem Keeps.portEnable {p : Nat} (h : Keeps s t) : Keeps s (t.portEnable p) := .ite h.lanEnable (.ite h.upPort.noteAbsent h)

theorem Keeps.checkPort {p : Nat} (h : Keeps s t) : Keeps s (t.checkPort p) := .ite (.ite h.upPort h.upPort.raiseRun) h

theorem Keeps.enterMeasure {p : Nat} (h : Keeps s t) : Keeps s (t.enterMeasure p) := by
  unfold State.enterMeasure
  extract_lets s1 s2
  have h1 : Keeps s s1 := h.upPort
  have h2 : Keeps s s2 := h1.sendCert
  exact .ite h2.sendCert h2

theorem Keeps.enterUp {p : Nat} (h : Keeps s t) : Keeps s (t.enterUp p) := h.upPort.upLink.upConn.linksSettle.takeBlk

theorem Keeps.endXcvr {p : Nat} (h : Keeps s t) : Keeps s (t.endXcvr p) := h.endRun.endRun

theorem Keeps.portDisable {p : Nat} (h : Keeps s t) : Keeps s (t.portDisable p) := .ite h.upPort.upLink.endRun.endXcvr (.ite h h.portDrop.endXcvr)

theorem Keeps.applyPortEnable {value jsn : Nat} (h : Keeps s t) : Keeps s (t.applyPortEnable value jsn) := by
  unfold State.applyPortEnable
  extract_lets s1 s2
  have h1 : Keeps s s1 := h.setObj
  have h2 : Keeps s s2 := .foldl (fun _ _ h => (.ite h.portEnable h.portDisable)) h1
  exact h2.blkUpdate.linksSettle

theorem Keeps.lsRx {p : Nat} {x : LsBlock} (h : Keeps s t) : Keeps s (t.lsRx p x) := .ite h (.ite h.portLost h.upPort.checkPort.linksSettle.takeBlk)

theorem Keeps.upCu {v : Nat} {f : Cu → Cu} (h : Keeps s t) : Keeps s (t.upCu v f) := h.upLink

theorem Keeps.cuAppend {f : Frame} (h : Keeps s t) : Keeps s (t.cuAppend f).2 := by
  unfold State.cuAppend
  split
  · exact .beside h
  · exact .iteSnd (.beside h.upCu) (.beside h)

theorem Keeps.cuStrip {f : Frame} (h : Keeps s t) : Keeps s (t.cuStrip f).2 := by
  unfold State.cuStrip
  split
  · exact .beside h
  · exact .iteSnd (.beside h.endRun) (.beside h.upCu.raiseRun)

theorem Keeps.applyCuMode {v value jsn : Nat} (h : Keeps s t) : Keeps s (t.applyCuMode v value jsn).2 := .iteSnd h.no (.iteSnd h.no h.setObj.yes)

theorem Keeps.cuCtrl {v value : Nat} (h : Keeps s t) : Keeps s (t.cuCtrl v value) := .ite h h.upCu

theorem Keeps.cuTake {v value : Nat} (h : Keeps s t) : Keeps s (t.cuTake v value) := .ite h h.upCu

theorem Keeps.frameFails {p : Nat} (h : Keeps s t) : Keeps s (t.frameFails p) := by
  unfold State.frameFails
  extract_lets w s1
  have h1 : Keeps s s1 := h.upPort.upLink.event
  exact .ite h1.raiseRun h1.endRun

theorem Keeps.takeHseq {p x : Nat} (h : Keeps s t) : Keeps s (t.takeHseq p x) := h.upPort

theorem Keeps.dupFilter {f : Frame} (h : Keeps s t) : Keeps s (t.dupFilter f).2 := by
  unfold State.dupFilter
  extract_lets mine old
  split
  · exact .iteSnd (.beside h.upLink) (.beside h.upLink)
  · exact .beside h.upLink

theorem Keeps.countNoRoute (h : Keeps s t) : Keeps s t.countNoRoute := h.upLink

theorem Keeps.forwardOn {p : Nat} {f : Frame} (h : Keeps s t) : Keeps s (t.forwardOn p f) := .ite h.enqueue h.countNoRoute

theorem Keeps.forwardDown {treeB : Bool} {f : Frame} (h : Keeps s t) : Keeps s (t.forwardDown treeB f) := by
  unfold State.forwardDown
  refine .ite (.foldl (fun _ _ h => (.ite h.enqueue h)) h) ?_
  split
  · exact h.countNoRoute
  · exact .foldl (fun _ _ h => h.forwardOn) h

theorem Keeps.forward {p : Nat} {f : Frame} (h : Keeps s t) : Keeps s (t.forward p f) := by
  unfold State.forward
  split
  · split
    · exact .ite h.countNoRoute h.forwardOn
    · exact h.countNoRoute
  · exact h.forwardDown
  · exact .ite h.forwardOn h.forwardDown
  · exact h

theorem Keeps.toFirmware {p : Nat} {f : Frame} (h : Keeps s t) : Keeps s (t.toFirmware p f) := by
  unfold State.toFirmware
  split
  · rename_i g t hp
    have ht : Keeps s t := h.cuStrip.snd hp
    extract_lets t1
    have ht1 : Keeps s t1 := ht.inbox
    exact .ite ht.upPort (.ite ht.serviceRequest (.ite ht1.entryPart ht1.serviceIn))
  rename_i t hp
  have ht : Keeps s t := h.cuStrip.snd hp
  exact ht

theorem Keeps.crossCopy {f : Frame} (h : Keeps s t) : Keeps s (t.crossCopy f) := .ite h.enqueueAll h

theorem Keeps.route {p : Nat} {f : Frame} (h : Keeps s t) : Keeps s (t.route p f) := by
  unfold State.route
  extract_lets here s1
  have h1 : Keeps s s1 := .ite h.forward h
  refine .ite ?_ ?_
  · refine .ite ?_ h1.toFirmware.crossCopy
    split
    · rename_i t hp
      have ht : Keeps s t := h1.dupFilter.snd hp
      exact ht.toFirmware.crossCopy
    rename_i t hp
    have ht : Keeps s t := h1.dupFilter.snd hp
    exact ht
  refine .ite h1 ?_
  refine .ite ?_ h1.forward
  split
  · rename_i t hp
    have ht : Keeps s t := h1.dupFilter.snd hp
    exact ht.forward
  rename_i t hp
  have ht : Keeps s t := h1.dupFilter.snd hp
  exact ht

theorem Keeps.failPort {p : Nat} {f : Port → Port} (h : Keeps s t) : Keeps s (t.failPort p f) := h.upPort.frameFails

theorem Keeps.failLink {p : Nat} {f : Link → Link} (h : Keeps s t) : Keeps s (t.failLink p f) := h.upLink.frameFails

theorem Keeps.frameChecked {p : Nat} {bs : List Byte} {f : Frame} (h : Keeps s t) : Keeps s (t.frameChecked p bs f) :=
  .ite h.failLink (.ite h.failPort (.ite h.failLink (.ite h.upPort (.ite h.failPort h.event.route))))

theorem Keeps.frameRx {p : Nat} {bs : List Byte} (h : Keeps s t) : Keeps s (t.frameRx p bs) := by
  unfold State.frameRx
  extract_lets s0 f s1 s2
  have h0 : Keeps s s0 := h.upPort
  have h1 : Keeps s s1 := h0.takeHseq
  have h2 : Keeps s s2 := .ite h1.takeBlk h1
  exact .ite h (.ite h0.upPort (.ite h0.failPort (.ite h2.frameChecked h2)))

theorem Keeps.afterSend {p : Nat} {f : Frame} {c : Nat} (h : Keeps s t) : Keeps s (t.afterSend p f c) := by
  unfold State.afterSend
  refine .ite ?_ h
  split
  · exact .ite h.upPort (.ite h.sendLocal h)
  · exact h

theorem Keeps.transmit {p : Nat} (h : Keeps s t) : Keeps s (t.transmit p) := by
  unfold State.transmit
  refine .ite h ?_
  split
  · exact h
  extract_lets s1
  have h1 : Keeps s s1 := h.upPort
  split
  rename_i fo s2 hp
  have h2 : Keeps s s2 := (Keeps.iteSnd h1.cuAppend (.beside h1)).snd hp
  split
  · exact h2
  split
  rename_i c s2 hp
  have h2 : Keeps s s2 := (Keeps.iteSnd h2.tapNow (.beside h2)).snd hp
  exact h2.upPort.afterSend

theorem Keeps.sendDreq {p : Nat} (h : Keeps s t) : Keeps s (t.sendDreq p) := .ite h.upPort.sendLocal h

theorem Keeps.drspRx {p xid t2 t3 : Nat} (h : Keeps s t) : Keeps s (t.drspRx p xid t2 t3) := by
  unfold State.drspRx
  extract_lets x s1
  have h1 : Keeps s s1 := h.upPort
  refine .ite h ?_
  split
  rename_i t4 s1 hp
  have h1 : Keeps s s1 := h1.tapNow.snd hp
  extract_lets d s2 y
  have h2 : Keeps s s2 := h1.upPort
  exact .ite h1 (.ite h2.raiseRun h2.endRun)

theorem Keeps.readVendor {p : Nat} (h : Keeps s t) : Keeps s (t.readVendor p) := by
  unfold State.readVendor
  extract_lets f
  have hf : Keeps s f.2 := h.drawFree
  split
  · exact h
  · exact hf.upPort

theorem Keeps.xcvrRead {p : Nat} {temp : Int} {vcc bias tx rx flags : Nat} (h : Keeps s t) : Keeps s (t.xcvrRead p temp vcc bias tx rx flags) := by
  unfold State.xcvrRead
  extract_lets s1
  have h1 : Keeps s s1 := h.readVendor.upPort
  exact .ite h (.ite h1.endRun (.ite h1.upLink.raiseRun h1))

theorem Keeps.moduleChange {p : Nat} {gone : Bool} (h : Keeps s t) : Keeps s (t.moduleChange p gone) := by
  unfold State.moduleChange
  extract_lets s1
  have h1 : Keeps s s1 := h.upPort
  exact (Keeps.ite h1.portLost h1).noteAbsent

/-! ### What a read returns (R47, R48) -/

theorem Keeps.setCursor {via : Via} {key v : Nat} (h : Keeps s t) : Keeps s (t.setCursor via key v) := h.upDict

/-! ### The time base (R242 to R272) -/

theorem Keeps.refLost (h : Keeps s t) : Keeps s t.refLost := .ite h h.upTb.upSel.setCause.raise

theorem Keeps.gateShift {ref : Option Int} {q d : Int} (h : Keeps s t) : Keeps s (t.gateShift ref q d) := by
  unfold State.gateShift
  extract_lets s1
  have h1 : Keeps s s1 := h.upGate
  exact .ite h1.regrid h1

theorem Keeps.stepTime {df : Int} {id : Nat} {sched : Bool} (h : Keeps s t) : Keeps s (t.stepTime df id sched) :=
  h.raiseAll.upTb.upWeft.upArm.upNode.upTrdl.tbShift.gateShift

theorem Keeps.stepNow {df : Int} (h : Keeps s t) : Keeps s (t.stepNow df) := .ite h.upTb h.stepTime

theorem Keeps.writeStep {value : Nat} (h : Keeps s t) : Keeps s (t.writeStep value) := h.upTb.stepNow

theorem Keeps.stepScheduled (h : Keeps s t) : Keeps s t.stepScheduled := by
  unfold State.stepScheduled
  exact h.stepTime.upTb

theorem Keeps.armStep {ts : Nat} {delta : Int} {id : Nat} (h : Keeps s t) : Keeps s (t.armStep ts delta id) := by
  unfold State.armStep
  extract_lets d s1
  have h1 : Keeps s s1 := h.upTb
  exact .ite h1.stepScheduled.upTb h1

theorem Keeps.writeSstep {value : Nat} (h : Keeps s t) : Keeps s (t.writeSstep value) := by
  unfold State.writeSstep
  extract_lets s1 r
  have h1 : Keeps s s1 := h.upTb
  exact .ite h1.armStep h1

theorem Keeps.sendSync {ret : Bool} {p : Nat} (h : Keeps s t) : Keeps s (State.sendSync ret t p) := h.sendLocal.upTb

theorem Keeps.syncAll (h : Keeps s t) : Keeps s t.syncAll := by
  unfold State.syncAll
  extract_lets s1
  have h1 : Keeps s s1 := .foldl (fun _ _ h => h.sendSync) h.upTb
  refine .ite h ?_
  refine .ite h1 ?_
  split
  · exact .ite h1.sendSync h1
  · exact h1

theorem Keeps.discipline {theta : Int} {ts : Nat} (h : Keeps s t) : Keeps s (t.discipline theta ts) := by
  unfold State.discipline
  extract_lets thr s1 s2 s3
  have h1 : Keeps s s1 := h.upTb
  have h2 : Keeps s s2 := .ite h1.upTb h1
  have h3 : Keeps s s3 := by
    refine .ite h2.upTb.stepNow ?_
    exact h2.upTb
  exact h3.healthCheck

theorem Keeps.takeAnnouncement {m : SyncMsg} (h : Keeps s t) : Keeps s (t.takeAnnouncement m) := .ite h.upTb.armStep h

theorem Keeps.syncRx {p : Nat} {m : SyncMsg} (h : Keeps s t) : Keeps s (t.syncRx p m) := by
  unfold State.syncRx
  extract_lets ok s1 theta s2 s3
  have h1 : Keeps s s1 := h.upTb
  have h2 : Keeps s s2 := h1.upTb
  have h3 : Keeps s s3 := h2.takeAnnouncement.discipline
  exact .ite h (.ite h1 (.ite (.ite h3.endRun h3.raiseRun) h3))

theorem Keeps.timeLocks (h : Keeps s t) : Keeps s t.timeLocks := .ite h.upTb.endRun.healthCheck h

theorem Keeps.toHoldover (h : Keeps s t) : Keeps s t.toHoldover := .ite h.upTb.raiseRun.healthCheck h

theorem Keeps.ptpSettle (h : Keeps s t) : Keeps s t.ptpSettle := by
  unfold State.ptpSettle
  extract_lets p n best own n' s1
  have h1 : Keeps s s1 := h.upTb
  exact .ite h1 h1.endRun

theorem Keeps.ptpAnnounceRx {lan : Nat} {m : PtpMaster} (h : Keeps s t) : Keeps s (t.ptpAnnounceRx lan m) := .ite h.upTb.ptpSettle h

theorem Keeps.ptpGone {lan : Nat} (h : Keeps s t) : Keeps s (t.ptpGone lan) := by
  unfold State.ptpGone
  extract_lets s1 s2
  have h1 : Keeps s s1 := h.upTb.ptpSettle
  have h2 : Keeps s s2 := h1.raiseRun
  exact .ite h1 (.ite h2 (.ite h2.upTb h2.toHoldover))

theorem Keeps.ptpRx {lan : Nat} {m : PtpSyncMsg} (h : Keeps s t) : Keeps s (t.ptpRx lan m) := by
  unfold State.ptpRx
  extract_lets theta s1
  have h1 : Keeps s s1 := h.upTb
  exact .ite h (.ite h1.discipline h1)

theorem Keeps.ptpPdelayRx {lan : Nat} {ps : Int} (h : Keeps s t) : Keeps s (t.ptpPdelayRx lan ps) := .ite h.upTb h

theorem Keeps.ptpPdelayReqRx {lan domain requester : Nat} (h : Keeps s t) : Keeps s (t.ptpPdelayReqRx lan domain requester) := by
  unfold State.ptpPdelayReqRx
  extract_lets two s1
  have h1 : Keeps s s1 := h.ptpSendOn
  exact .ite (.ite h1.ptpSendOn h1) h

theorem Keeps.scheduleStep {theta : Int} (h : Keeps s t) : Keeps s (t.scheduleStep theta) := .ite h (.ite h.armStep h.upTb.armStep)

theorem Keeps.slewAway {rem : Int} (h : Keeps s t) : Keeps s (t.slewAway rem) := .ite h h.upTb

theorem Keeps.applyTimeSet {value : Nat} (h : Keeps s t) : Keeps s (t.applyTimeSet value).2 :=
  .iteSnd h.no (.iteSnd h.no (.iteSnd h.no (.iteSnd h.stepNow.yes h.scheduleStep.slewAway.yes)))

theorem Keeps.upTpo {n : Nat} {f : Tpo → Tpo} (h : Keeps s t) : Keeps s (t.upTpo n f) := h.upTb

theorem Keeps.upTsi {n : Nat} {f : Tsi → Tsi} (h : Keeps s t) : Keeps s (t.upTsi n f) := h.upTb

theorem Keeps.tpoStart {n : Nat} (h : Keeps s t) : Keeps s (t.tpoStart n) := by
  unfold State.tpoStart
  split
  · exact .ite h.upTpo.upTb.event h
  · exact h

theorem Keeps.tsiEdge {n : Nat} {falling : Bool} {c : Nat} (h : Keeps s t) : Keeps s (t.tsiEdge n falling c) := by
  unfold State.tsiEdge
  extract_lets s1
  have h1 : Keeps s s1 := h.upTsi
  exact .ite h (.ite h1 (.ite h1.upTsi.upTb.raiseRun h1.upTsi.upTb.event.endRun))

/-! ### The instants of a cycle (R80, R86, R115) -/

theorem Keeps.cycleStart {k : Nat} (h : Keeps s t) : Keeps s (t.cycleStart k) := by
  unfold State.cycleStart
  extract_lets s1 s2
  have h1 : Keeps s s1 := h.weftT0.sensorAtT0
  have h2 : Keeps s s2 := h1.upWeft.cycleTokens
  exact .ite h.gridStart (.ite h (.ite h2.loadPlain h2))

theorem Keeps.pairChecks {k : Nat} (h : Keeps s t) : Keeps s (t.pairChecks k) := by
  unfold State.pairChecks
  extract_lets s1
  have h1 : Keeps s s1 := h.upJrn
  exact .ite (.ite h.toYielded.raise h) (.ite h1 (.ite h1.endRun (.ite h1.upJrn h1.raiseRun)))

theorem Keeps.tallyDue {k : Nat} (h : Keeps s t) : Keeps s (t.tallyDue k) := by
  unfold State.tallyDue
  extract_lets s1
  have h1 : Keeps s s1 := h.tally
  exact .ite h (.ite h1.pairChecks h1)

theorem Keeps.stationBoundary {j : Nat} (h : Keeps s t) : Keeps s (t.stationBoundary j) := .ite h h.upTrdl.slowStart.stationTokens.pairChecks

/-! ### The process-data channels (R70 to R75) -/

theorem Keeps.upRpd {ch : Nat} {f : RpdChan → RpdChan} (h : Keeps s t) : Keeps s (t.upRpd ch f) := h.upDict

theorem Keeps.freeRefins {ch : Nat} (h : Keeps s t) : Keeps s (t.freeRefins ch) := .foldl (fun _ _ h => h.upTrdl.endRun) h

theorem Keeps.applyPdEnable {tx : Bool} {ch value jsn : Nat} (h : Keeps s t) : Keeps s (t.applyPdEnable tx ch value jsn).2 := by
  unfold State.applyPdEnable
  extract_lets was s1
  have h1 : Keeps s s1 := h.setObj
  refine .iteSnd h.no ?_
  exact .iteSnd h.no (.iteSnd (.beside (.ite h h.upRpd)) (Keeps.ite h1 (Keeps.ite h1.freeRefins h1).upRpd).yes)

theorem Keeps.sendTelemetry {dst : Nat} {pl : List Byte} (h : Keeps s t) : Keeps s (t.sendTelemetry dst pl) := .ite h.sendDown h.sendUp

theorem Keeps.tpdSend {ch : Nat} (h : Keeps s t) : Keeps s (t.tpdSend ch) := .ite h.sendTelemetry h

theorem Keeps.rpdRx {src : Nat} {pl : List Byte} (h : Keeps s t) : Keeps s (t.rpdRx src pl) := .ite (.ite h.upRpd.endRun h.upRpd) h

theorem Keeps.pdWrite {x : Nat × Nat} (h : Keeps s t) : Keeps s (t.pdWrite x) := by
  unfold State.pdWrite
  extract_lets s1
  have h1 : Keeps s s1 := h.setObj
  split
  · exact h1.refinBack
  · exact h1

theorem Keeps.rpdApplyOne {ch : Nat} (h : Keeps s t) : Keeps s (t.rpdApplyOne ch) := by
  unfold State.rpdApplyOne
  split
  · exact (Keeps.foldl (fun _ _ h => h.pdWrite) h).upRpd
  · exact h

theorem Keeps.rpdApply (h : Keeps s t) : Keeps s t.rpdApply := .foldl (fun _ _ h => h.rpdApplyOne) h

theorem Keeps.rpdTimeout {ch : Nat} (h : Keeps s t) : Keeps s (t.rpdTimeout ch) := by
  unfold State.rpdTimeout
  extract_lets s1
  have h1 : Keeps s s1 := h.upRpd
  exact .ite (Keeps.foldl (fun _ _ h => h.refinHold) h1).raiseRun h

/-! ### The station ports (R230 to R236) -/

theorem Keeps.upGp {n : Nat} {f : GoosePub → GoosePub} (h : Keeps s t) : Keeps s (t.upGp n f) := h.upLan

theorem Keeps.upGs {m : Nat} {f : GooseSub → GooseSub} (h : Keeps s t) : Keeps s (t.upGs m f) := h.upLan

theorem Keeps.upSv {n : Nat} {f : SvSub → SvSub} (h : Keeps s t) : Keeps s (t.upSv n f) := h.upLan

theorem Keeps.lanChange {lan : Nat} {up : Bool} (h : Keeps s t) : Keeps s (t.lanChange lan up) := by
  unfold State.lanChange
  extract_lets s1
  have h1 : Keeps s s1 := h.upLan.upPort
  exact .ite h (.ite h1.endRun h1.raiseRun)

theorem Keeps.gpChange {n : Nat} (h : Keeps s t) : Keeps s (t.gpChange n) := .ite h h.upGp.ethSend

theorem Keeps.gpAgain {n : Nat} (h : Keeps s t) : Keeps s (t.gpAgain n) := .ite h h.upGp.ethSend

theorem Keeps.gooseRx {m : Nat} {g : GooseMsg} (h : Keeps s t) : Keeps s (t.gooseRx m g) := .ite h (.ite h.upGs.raise (.ite h.upGs h))

theorem Keeps.gooseApplyOne {m : Nat} (h : Keeps s t) : Keeps s (t.gooseApplyOne m) := by
  unfold State.gooseApplyOne
  split
  · exact (Keeps.foldl (fun _ _ h => h.pdWrite) h).upGs
  · exact h

theorem Keeps.gooseApply (h : Keeps s t) : Keeps s t.gooseApply := .foldl (fun _ _ h => h.gooseApplyOne) h

theorem Keeps.gooseExpire {m : Nat} (h : Keeps s t) : Keeps s (t.gooseExpire m) := .ite h.upGs.raise h

/-- Words corrected one after another leave the canonical form. -/
theorem healWords_wf (a : Nat) (l : List Nat) (m : Mem) (hm : m.wf = true) : (l.foldl (fun x i => x.heal (a + 4 * i)) m).wf = true := by
  induction l generalizing m with
  | nil => exact hm
  | cons i l ih => exact ih _ ((m.heal_wf _).trans hm)

theorem Keeps.svWrite {n : Nat} {a : SvAsdu} (h : Keeps s t) : Keeps s (State.svWrite n t a) := by
  unfold State.svWrite
  exact (h.upMem fun m hm => healWords_wf _ _ _ (Mem.writeBytes_wf _ m hm _)).upSv.upLink

theorem Keeps.svRx {n appid svid mac : Nat} {l : List SvAsdu} (h : Keeps s t) : Keeps s (t.svRx n appid svid mac l) :=
  .ite (Keeps.foldl (fun _ _ h => h.svWrite) h).upSv.endRun h

theorem Keeps.svLose {n : Nat} (h : Keeps s t) : Keeps s (t.svLose n) := .ite h.upSv.raiseRun h

/-! ### Commands of the node (R10, R12, R29, R41) -/

theorem Keeps.commanded {c : Nat} (h : Keeps s t) : Keeps s (t.commanded c).2 := h.upNode.yes

theorem Keeps.toService (h : Keeps s t) : Keeps s t.toService := h.upNode.upGate.upJrn

theorem Keeps.applyEnable (h : Keeps s t) : Keeps s t.applyEnable.2 := by
  unfold State.applyEnable
  refine .iteSnd h.no ?_
  refine .iteSnd (.beside h.raiseAll) ?_
  refine .iteSnd (.iteSnd h.toService.commanded h.no) ?_
  split
  · rename_i t hp
    have ht : Keeps s t := h.releaseSpb.get hp
    exact .iteSnd ht.toService.commanded h.no
  · exact .beside h.releaseRefused

theorem Keeps.applyBlock (h : Keeps s t) : Keeps s t.applyBlock.2 := by
  unfold State.applyBlock
  split
  · exact h.no
  · exact h.commanded
  all_goals exact h.setCause.commanded

theorem Keeps.toReady (h : Keeps s t) : Keeps s t.toReady := h.upNode

theorem Keeps.applyDeblock (h : Keeps s t) : Keeps s t.applyDeblock.2 := by
  unfold State.applyDeblock
  refine .iteSnd h.no ?_
  split
  · rename_i t hp
    have ht : Keeps s t := h.releaseSpb.get hp
    exact .iteSnd ht.toReady.commanded h.no
  · exact .beside h.releaseRefused

theorem Keeps.clearFaults (h : Keeps s t) : Keeps s t.clearFaults := h.upNode

theorem Keeps.tripCleared (h : Keeps s t) : Keeps s t.tripCleared := by
  unfold State.tripCleared
  extract_lets s1 s2
  have h1 : Keeps s s1 := h.upSel.tripUpdate
  have h2 : Keeps s s2 := .ite h1.upJrn h1
  exact h2.healthCheck

theorem Keeps.applyTripReset (h : Keeps s t) : Keeps s t.applyTripReset.2 := by
  unfold State.applyTripReset
  extract_lets s1
  have h1 : Keeps s s1 := h.clearFaults
  exact .iteSnd h1.tripCleared.commanded (.beside h1.upNode)

theorem Keeps.applyNodeCommand {value : Nat} (h : Keeps s t) : Keeps s (t.applyNodeCommand value).2 := by
  unfold State.applyNodeCommand
  split
  · exact h.applyEnable
  · exact h.applyBlock
  · exact h.applyDeblock
  · exact h.applyTripReset
  · exact h.no

theorem Keeps.applyBypass {value : Nat} (h : Keeps s t) : Keeps s (t.applyBypass value).2 := .iteSnd h.no (h.ownWrite h.latchSby.yes)

theorem Keeps.applyMaint {value : Nat} (h : Keeps s t) : Keeps s (t.applyMaint value).2 :=
  h.ownWrite (.iteSnd h.no (.iteSnd h.no h.keepBypass.upSel.warmReset.yes))

/-! ### The moves of a pair member (R329 to R344) -/

theorem Keeps.sendSnapReq {off : Nat} (h : Keeps s t) : Keeps s (t.sendSnapReq off) := h.sendPartner.upJrn

theorem Keeps.startResync (h : Keeps s t) : Keeps s t.startResync := h.upJrn.sendSnapReq

theorem Keeps.applyResyncStart {value : Nat} (h : Keeps s t) : Keeps s (t.applyResyncStart value).2 :=
  .iteSnd h.no (h.ownWrite (.iteSnd h.no h.startResync.yes))

theorem Keeps.autoResync (h : Keeps s t) : Keeps s t.autoResync := .ite h.startResync h

theorem Keeps.resyncDone (h : Keeps s t) : Keeps s t.resyncDone := h.upJrn.commitTrial.healthCheck

theorem Keeps.applySwitchover {value : Nat} (h : Keeps s t) : Keeps s (t.applySwitchover value).2 :=
  .iteSnd h.no (h.ownWrite (.iteSnd h.no (.iteSnd h.no h.sendYield.toYielded.yes)))

theorem Keeps.pulseFire (h : Keeps s t) : Keeps s t.pulseFire := by
  unfold State.pulseFire
  extract_lets ok s1
  have h1 : Keeps s s1 := h.recordEv.toYielded
  exact .ite h1 h1.upNode.blockRequest

/-! ### The recorder and the Bobbin store (R392 to R412) -/

theorem Keeps.setMedia {b : Bool} (h : Keeps s t) : Keeps s (t.setMedia b) := (h.upRecd id).upSys

theorem Keeps.mediaFault {cause : Nat} {place : PhysBlock} {part : Nat} (h : Keeps s t) : Keeps s (t.mediaFault cause place part) :=
  .ite h h.setMedia.upBob.raiseAll

theorem Keeps.mediaAgain (h : Keeps s t) : Keeps s t.mediaAgain := by
  unfold State.mediaAgain
  extract_lets s1
  have h1 : Keeps s s1 := h.setMedia
  split
  · split
    · exact h1.upRecd (Rec.place_length ‹_›)
    · exact h1
  · split
    rename_i c s2 hp
    have h2 : Keeps s s2 := h1.drawFree.snd hp
    exact h2.raiseAll

theorem Keeps.takeFseq {dst : Nat} (h : Keeps s t) : Keeps s (t.takeFseq dst).2 := .beside (h.upRecd id)

theorem Keeps.sendEventOn {l : List Record} {dst : Nat} {anym : Bool} {p : Nat} (h : Keeps s t) : Keeps s (t.sendEventOn l dst anym p) := by
  unfold State.sendEventOn
  refine .ite h ?_
  split
  rename_i n s1 hp
  have h1 : Keeps s s1 := h.takeFseq.snd hp
  exact h1.sendUpOn

theorem Keeps.eventSend (h : Keeps s t) : Keeps s t.eventSend := by
  unfold State.eventSend
  extract_lets ps own rel s1 s2
  have h1 : Keeps s s1 := .foldl (fun _ _ h => h.sendEventOn) h
  have h2 : Keeps s s2 := .foldl (fun _ _ h => h.sendEventOn) h1
  exact .ite h (h2.upRecd fun hr => by simpa [Rec.markSent] using hr)

theorem Keeps.storeRelayed {x : Record} (h : Keeps s t) : Keeps s (t.storeRelayed x) := by
  unfold State.storeRelayed
  extract_lets r d
  split
  · rename_i r2 hplace
    refine h.upRecd fun hr => ?_
    have hlen : r2.den.length ≤ 64 := Rec.place_length hplace hr
    exact hlen
  · exact (h.upRecd id).raiseRun

theorem Keeps.stationNotes {x : Record} (h : Keeps s t) : Keeps s (t.stationNotes x) := by
  unfold State.stationNotes
  exact (Keeps.ite h h.noteDs0).upRecd id

theorem Keeps.sendOnward {x : Record} (h : Keeps s t) : Keeps s (t.sendOnward x) := .foldl (fun _ _ h => h.sendEventOn) h

theorem Keeps.takeRecord {bs : List Byte} (h : Keeps s t) : Keeps s (t.takeRecord bs) := by
  unfold State.takeRecord
  extract_lets x s1 s2
  have h1 : Keeps s s1 := .ite h.stationNotes h
  have h2 : Keeps s s2 := h1.storeRelayed
  exact .ite h (.ite (.ite h2.sendOnward h2) (.ite h1.sendOnward h1))

theorem Keeps.eventRx {src : Nat} {pl : List Byte} (h : Keeps s t) : Keeps s (t.eventRx src pl) :=
  .ite h (.foldl (fun _ _ h => h.takeRecord) (h.upRecd id))

theorem Keeps.mediaRepeat (h : Keeps s t) : Keeps s t.mediaRepeat := .ite (h.upRecd fun hr => by simpa using hr).eventSend h

theorem Keeps.mediaExpire {src : Nat} (h : Keeps s t) : Keeps s (t.mediaExpire src) := h.upRecd id

theorem Keeps.userRecord {value : Nat} (h : Keeps s t) : Keeps s (t.userRecord value) := .ite h (.ite (h.upRecd id) h.record)

theorem Keeps.applyRecClear {value : Nat} {role : SessRole} (h : Keeps s t) : Keeps s (t.applyRecClear value role).2 :=
  .iteSnd h.no (h.ownWrite (.iteSnd h.no (h.raiseAll.upRecd id).storeWork.yes))

theorem Keeps.optSave (h : Keeps s t) : Keeps s t.optSave := by
  unfold State.optSave
  extract_lets s1
  have h1 : Keeps s s1 := h.upSys
  exact .ite h (.ite h1.upBob.storeWork h1)

theorem Keeps.eventsWrap (h : Keeps s t) : Keeps s t.eventsWrap := by
  unfold State.eventsWrap
  refine .ite h.endRun ?_
  split
  rename_i more s1 hp
  have h1 : Keeps s s1 := h.drawFree.snd hp
  exact (h1.upRecd id).raiseRun

theorem Keeps.denStore (h : Keeps s t) : Keeps s t.denStore :=
  .ite ((Keeps.ite h h.storeWork).upRecd fun hr => by simpa [Rec.storeDen] using hr).eventsWrap h

theorem Keeps.writeDict (h : Keeps s t) : Keeps s t.writeDict := h.upBob.storeWork

theorem Keeps.format {blank : Bool} (h : Keeps s t) : Keeps s (t.format blank) := by
  unfold State.format
  split
  · exact h.mediaFault
  split
  rename_i n s1 hp
  have h1 : Keeps s s1 := h.drawFree.snd hp
  extract_lets s2 s3 s4 s5
  have h2 : Keeps s s2 := h1.upBob
  have h3 : Keeps s s3 := h2.upRecd id
  have h4 : Keeps s s4 := h3.upJrn
  have h5 : Keeps s s5 := h4.setObj
  exact (Keeps.ite h5.upSys h5).storeWork.writeDict

theorem Keeps.applyFormat {value : Nat} (h : Keeps s t) : Keeps s (t.applyFormat value).2 := h.ownWrite (.iteSnd h.no h.format.yes)

theorem Keeps.discover (h : Keeps s t) : Keeps s t.discover := h.upBob

theorem Keeps.mounted {flushUs : Nat} (h : Keeps s t) : Keeps s (t.mounted flushUs) := by
  unfold State.mounted
  extract_lets s1
  have h1 : Keeps s s1 := h.upBob.storeWork
  exact (Keeps.ite h1.raise h1).restoreBase

theorem Keeps.mediaEnd (h : Keeps s t) : Keeps s t.mediaEnd := (h.setMedia.upRecd fun hr => by simpa using hr).raiseAll.denStore

theorem Keeps.applyMedia {value : Nat} {testOk blank : Bool} (h : Keeps s t) : Keeps s (t.applyMedia value testOk blank).2 := by
  unfold State.applyMedia
  extract_lets s1 s2
  have h1 : Keeps s s1 := h.discover
  have h2 : Keeps s s2 := .ite h1.upBob.format h1
  refine h.ownWrite ?_
  refine .iteSnd h1.upBob.mediaFault.no ?_
  refine .iteSnd h2.upBob.no ?_
  refine .iteSnd h2.no ?_
  split
  rename_i us s3 hp
  have h3 : Keeps s s3 := h2.drawFree.snd hp
  extract_lets s4
  have h4 : Keeps s s4 := h3.upBob.mounted.syncHoldup
  exact .iteSnd h4.mediaEnd.yes h4.yes

theorem Keeps.takeSpare {cause : Nat} {place : PhysBlock} {part : Nat} (h : Keeps s t) : Keeps s (t.takeSpare cause place part) := by
  unfold State.takeSpare
  extract_lets s1
  have h1 : Keeps s s1 := h.upBob
  exact .ite h.mediaFault (.ite h1.upBob.raiseRun h1)

theorem Keeps.relocate (h : Keeps s t) : Keeps s t.relocate := h.upBob.storeWork

theorem Keeps.uncorrectable {part : Nat} {sec : SectorRef} {otherBad : Bool} (h : Keeps s t) : Keeps s (t.uncorrectable part sec otherBad) := by
  unfold State.uncorrectable
  extract_lets s1
  have h1 : Keeps s s1 := h.upBob
  refine .ite (.ite h1.mediaFault h1.relocate) ?_
  exact .ite h1.upSys (.ite (h1.upRecd id) (.ite h1.writeDict (.ite h1.setObj h1)))

theorem Keeps.corrected {bits : Nat} {refresh : Bool} (h : Keeps s t) : Keeps s (t.corrected bits refresh) := by
  unfold State.corrected
  extract_lets s1
  have h1 : Keeps s s1 := h.upBob
  exact .ite h1.relocate h1

theorem Keeps.sectorRead {part : Nat} {sec : SectorRef} {data : List Byte} {refresh unread : Bool} {other : List Byte} (h : Keeps s t) :
    Keeps s (t.sectorRead part sec data refresh unread other) := by
  unfold State.sectorRead
  split
  · exact h.uncorrectable
  · exact h.corrected

theorem Keeps.preempt (h : Keeps s t) : Keeps s t.preempt := h.upBob

theorem Keeps.scrubSector {part : Nat} {sec : SectorRef} {data : List Byte} {refresh unread : Bool} {other : List Byte} (h : Keeps s t) :
    Keeps s (t.scrubSector part sec data refresh unread other) := by
  unfold State.scrubSector
  extract_lets start
  refine .ite h ?_
  refine .ite h.preempt ?_
  exact (Keeps.ite h.endRun h).sectorRead.upBob

theorem Keeps.bobLate (h : Keeps s t) : Keeps s t.bobLate := .ite h.upBob.raiseRun h

theorem Keeps.wearMove {p : PhysBlock} (h : Keeps s t) : Keeps s (t.wearMove p) := .ite h (.ite h.preempt h.upBob)

/-! ### A journaled write at its target (R50, R63, R66, R69) -/

theorem Keeps.clearFor {key : Nat} (h : Keeps s t) : KeepsIf s (t.clearFor key) := by
  unfold State.clearFor
  refine .ite (.some h.upWeft) ?_
  refine .ite (.some h.upTrdl) ?_
  refine .ite (.some h.upGate) ?_
  refine .ite (.some h.upAdc) ?_
  refine .ite (.some h.upLink) ?_
  refine .ite (.some h.upLink) ?_
  refine .ite (.some h.upTb) ?_
  refine .ite (.some h.upHdl) ?_
  refine .ite (.some h.upEvc) ?_
  refine .ite (.some h.upJrn) ?_
  exact .ite (.some h.upSel) (.ite (.some (h.upRecd id)) (.ite (.some h.upBob) (.ite (.some h.upSys) .none)))

theorem Keeps.applyClear {key value : Nat} (h : Keeps s t) : Keeps s (t.applyClear key value).2 := by
  unfold State.applyClear
  split
  · rename_i hu
    exact h.ownWrite (h.clearFor.get hu).yes
  · exact h.no

theorem Keeps.refSwitch {value : Nat} (h : Keeps s t) : Keeps s (t.refSwitch value) := h.upAdc

theorem Keeps.gateMode {value : Nat} (h : Keeps s t) : Keeps s (t.gateMode value) := h.upGate

theorem Keeps.afterSet {key value : Nat} (h : Keeps s t) : Keeps s (t.afterSet key value) := by
  unfold State.afterSet
  extract_lets tpo off
  refine .ite h.refSwitch ?_
  refine .ite h.gateMode ?_
  refine .ite h.demandUpdate ?_
  refine .ite h.policyChanged ?_
  clear_value tpo
  split
  · exact h.upTb
  · exact h.gateShadow

theorem Keeps.applyPlain {key value jsn : Nat} (h : Keeps s t) : Keeps s (t.applyPlain key value jsn).2 := by
  unfold State.applyPlain
  extract_lets st s1
  have h1 : Keeps s s1 := h.setObj
  exact .iteSnd h.no (.iteSnd h.no (Keeps.ite h1 h1.afterSet).yes)

theorem Keeps.applyRws {key value jsn : Nat} (h : Keeps s t) : Keeps s (t.applyRws key value jsn).2 :=
  .iteSnd h.no (.iteSnd h.no h.setObj.unconfirm.yes)

theorem Keeps.park {e : JEntry} (h : Keeps s t) : Keeps s (t.park e) := h.upDict

theorem Keeps.applyUser {key value jsn : Nat} (h : Keeps s t) : Keeps s (t.applyUser key value jsn).2 := .iteSnd h.park.yes h.setObj.yes

theorem Keeps.apply1 {key value jsn : Nat} {role : SessRole} (h : Keeps s t) : KeepsIf s ((t.apply1 key value jsn role).map Prod.snd) := by
  unfold State.apply1
  refine .iteSnd (.some h.applyNodeCommand) ?_
  refine .iteSnd (.some h.applyBypass) ?_
  refine .iteSnd (.some h.applyMaint) ?_
  refine .iteSnd (.some h.applyRestore) ?_
  refine .iteSnd (.some h.applyResetRequest) ?_
  refine .iteSnd (.some h.applyImageActivate) ?_
  refine .iteSnd (.some h.applyCert) ?_
  refine .iteSnd (.some h.applyCert) ?_
  exact .iteSnd (.some h.applyVcore) (.iteSnd (.some h.applyHibernate) (.iteSnd (.some h.applyJtagLock) .none))

theorem Keeps.apply2 {key value jsn : Nat} (h : Keeps s t) : KeepsIf s ((t.apply2 key value jsn).map Prod.snd) := by
  unfold State.apply2
  refine .iteSnd (.some h.applyRebase) ?_
  refine .iteSnd (.some h.applyProgramActivate) ?_
  refine .iteSnd (.some h.applyGraphActivate) ?_
  refine .iteSnd (.some h.applyFltClear) ?_
  refine .iteSnd (.some h.applyAux) ?_
  refine .iteSnd (.some h.applyCalStart) ?_
  refine .iteSnd (.some h.applyTimeSet) ?_
  refine .iteSnd (.some h.applyPortEnable.yes) ?_
  split
  · exact .some h.applyPdEnable
  · exact .some h.applyPdEnable
  · exact .some h.applyAdcEnable
  · exact .some h.applyCuMode
  split
  · exact .some h.applyEcConfig
  · exact .some h.applyEcConfig
  · exact .none

theorem Keeps.apply3 {key value : Nat} {role : SessRole} (h : Keeps s t) : KeepsIf s ((t.apply3 key value role).map Prod.snd) := by
  unfold State.apply3
  refine .iteSnd (.some h.applySwitchover) ?_
  refine .iteSnd (.some h.applyResyncStart) ?_
  refine .iteSnd (.some h.no) ?_
  refine .iteSnd (.some h.applyScvConfirm) ?_
  refine .iteSnd (.some h.applyDegClear) ?_
  refine .iteSnd (.some h.applyRecClear) ?_
  refine .iteSnd (.some h.applyFormat) ?_
  refine .iteSnd ?_ .none
  split
  rename_i test s1 hp
  have h1 : Keeps s s1 := h.drawFree.snd hp
  split
  rename_i blank s2 hp
  have h2 : Keeps s s2 := h1.drawFree.snd hp
  exact .some h2.applyMedia

theorem Keeps.applyChecked {key value jsn : Nat} {role : SessRole} (h : Keeps s t) : Keeps s (t.applyChecked key value jsn role).2 := by
  unfold State.applyChecked
  refine .iteSnd h.applyUser (.iteSnd h.applySps (.iteSnd h.applyClear ?_))
  split
  · exact h.apply1.get_snd ‹_›
  · exact h.apply2.get_snd ‹_›
  · exact h.apply3.get_snd ‹_›
  · exact .iteSnd h.applyRws h.applyPlain

theorem Keeps.applyObject {key value jsn : Nat} {role : SessRole} (h : Keeps s t) : Keeps s (t.applyObject key value jsn role).2 :=
  .iteSnd h.no (.iteSnd h.no (.iteSnd h.no h.applyChecked))

/-! ### The lanes and their entries (R309 to R328) -/

theorem Keeps.upLane {code : Nat} {f : Lane → Lane} (h : Keeps s t) : Keeps s (t.upLane code f) := h.upJrn

theorem Keeps.sendTwin {dst : Nat} {pl : List Byte} (h : Keeps s t) : Keeps s (t.sendTwin dst pl) := by
  unfold State.sendTwin
  split
  rename_i n s1 hp
  have h1 : Keeps s s1 := h.takeEseq.snd hp
  exact h1.enqueueAll.enqueueAll

theorem Keeps.sendEntry {e : JEntry} {send : State → List Byte → State} (h : Keeps s t) (hs : ∀ t b, Keeps s t → Keeps s (send t b)) :
    Keeps s (t.sendEntry e send) := .foldl hs h

theorem Keeps.sendJournalPair {pl : List Byte} (h : Keeps s t) : Keeps s (t.sendJournalPair pl) := .ite h.sendPartner h.sendUp

theorem Keeps.sendCatchup {lane : Nat} (h : Keeps s t) : Keeps s (t.sendCatchup lane) := h.sendJournalPair

theorem Keeps.sendApplied {lane confirm status : Nat} (h : Keeps s t) : Keeps s (t.sendApplied lane confirm status) := h.sendJournalPair

theorem Keeps.applyFence {id jsn : Nat} (h : Keeps s t) : Keeps s (t.applyFence id jsn) := h.fenceCounters.upJrn.raiseAll

theorem Keeps.noteArmEpoch {e : JEntry} (h : Keeps s t) : Keeps s (t.noteArmEpoch e) := .ite h.upJrn h

theorem Keeps.applySwitch {e : JEntry} (h : Keeps s t) : Keeps s (t.applySwitch e) := (Keeps.ite (h.upRecd id) h).noteArmEpoch.raiseAll

theorem Keeps.applyWrite {e : JEntry} (h : Keeps s t) : Keeps s (t.applyWrite e).2 :=
  .iteSnd (.beside h) (.beside (.settle (Keeps.iteSnd h.no h.applyObject)))

theorem Keeps.applyEntry {lane : Nat} {e : JEntry} (h : Keeps s t) : Keeps s (t.applyEntry lane e) := by
  unfold State.applyEntry
  extract_lets r
  have hr : Keeps s r.2 := h.applyWrite
  split
  · exact h.applyFence
  · exact h.applySwitch
  · exact .ite hr (.ite hr.confirmResult (.ite hr.sendApplied hr.sendApplied.sendUp))

theorem Keeps.processNow {lane : Nat} {e : JEntry} (h : Keeps s t) : Keeps s (t.processNow lane e) := by
  unfold State.processNow
  extract_lets s1
  have h1 : Keeps s s1 := h.upLane
  exact .ite h1.upJrn.applyEntry h1

theorem Keeps.process {lane : Nat} {e : JEntry} (h : Keeps s t) : Keeps s (t.process lane e) := .ite h.park h.processNow

theorem Keeps.drainDue {n : Nat} (h : Keeps s t) : Keeps s (State.drainDue n t) := by
  induction n generalizing t with
  | zero => exact h
  | succ n ih =>
    unfold State.drainDue
    split
    · exact h
    · exact .ite h (ih (.ite h.upDict.processNow h.upDict.setObj))

theorem Keeps.processMember {lane k n : Nat} (h : Keeps s t) : Keeps s (State.processMember lane k n t) := by
  induction n generalizing t with
  | zero => exact h
  | succ n ih =>
    unfold State.processMember
    split
    · exact h
    · exact .ite (ih h.process) h

theorem Keeps.processLane {lane k : Nat} (h : Keeps s t) : Keeps s (t.processLane lane k) := h.processMember

theorem Keeps.hold {lane : Nat} {e : JEntry} {accepted : Bool} (h : Keeps s t) : Keeps s (t.hold lane e accepted) := h.upLane.upLane.upJrn.storeWork

theorem Keeps.sendCommitAck {lane : Nat} (h : Keeps s t) : Keeps s (t.sendCommitAck lane) := h.sendPartner

theorem Keeps.goAlone {drop : Bool} (h : Keeps s t) : Keeps s (t.goAlone drop) := h.upJrn.raiseRun

theorem Keeps.sendAccept {lane jsn at' : Nat} (h : Keeps s t) : Keeps s (t.sendAccept lane jsn at') := h.sendPartner

theorem Keeps.sendAccepted {lane : Nat} (h : Keeps s t) : Keeps s (t.sendAccepted lane) := h.sendUp

theorem Keeps.handOn {active : Bool} {e : JEntry} {lane : Nat} (h : Keeps s t) : Keeps s (State.handOn active e t lane) := by
  unfold State.handOn
  extract_lets held x s1
  have h1 : Keeps s s1 := .ite h h.upLane
  refine .ite h1 ?_
  exact .ite (.foldl (fun _ _ h => (h.sendEntry fun _ _ h => h.sendDown)) h1) (h1.sendEntry fun _ _ h => h.sendDown)

theorem Keeps.activeArms (h : Keeps s t) : Keeps s t.activeArms.2 := .beside h.drawFree

theorem Keeps.stationAccepts {e : JEntry} (h : Keeps s t) : Keeps s (t.stationAccepts e) := by
  unfold State.stationAccepts
  extract_lets lanes s1
  have h1 : Keeps s s1 := .foldl (fun _ _ h => h.handOn) h
  split
  · split
    rename_i arms t hp
    have ht : Keeps s t := h1.activeArms.snd hp
    extract_lets s2
    have h2 : Keeps s s2 := ht.upJrn
    refine .ite ?_ h2
    split
    · exact h2.answerJsn
    · exact h2
  · exact h1
  split
  · exact .ite h1 (.ite h1.answerJsn (.ite h1.answerJsn h1))
  · exact h1

theorem Keeps.accept {lane : Nat} {x : HeldEntry} (h : Keeps s t) : Keeps s (t.accept lane x) := by
  unfold State.accept
  extract_lets at' src' e s0 s1 s2
  have h0 : Keeps s s0 := .ite h.upJrn h
  have h1 : Keeps s s1 := h0.upLane
  have h2 : Keeps s s2 := h1.sendAccept
  exact .ite h2.stationAccepts (h2.sendAccepted.sendEntry fun _ _ h => h.sendTwin)

theorem Keeps.acceptAll {lane n : Nat} (h : Keeps s t) : Keeps s (State.acceptAll lane n t) := by
  induction n generalizing t with
  | zero => exact h
  | succ n ih =>
    unfold State.acceptAll
    split
    · exact ih h.accept
    · exact h

theorem Keeps.advance (h : Keeps s t) : Keeps s t.advance := .ite h h.acceptAll.processLane

theorem Keeps.journal {e : JEntry} (h : Keeps s t) : Keeps s (t.journal e) := (h.upJrn.hold.sendEntry fun _ _ h => h.sendPartner).advance

theorem Keeps.gap {lane : Nat} {e : JEntry} (h : Keeps s t) : Keeps s (t.gap lane e) := h.upLane.upJrn.sendCatchup.raiseAll

theorem Keeps.countDup (h : Keeps s t) : Keeps s t.countDup := h.upJrn

theorem Keeps.drainTarget {lane n : Nat} (h : Keeps s t) : Keeps s (State.drainTarget lane n t) := by
  induction n generalizing t with
  | zero => exact h
  | succ n ih =>
    unfold State.drainTarget
    extract_lets l
    split
    · exact ih h.upLane.process
    · exact h

theorem Keeps.targetEntry {e : JEntry} (h : Keeps s t) : Keeps s (t.targetEntry e) := .ite h.countDup (.ite h.process.drainTarget h.gap)

theorem Keeps.mirrorLanes {e : JEntry} (h : Keeps s t) : Keeps s (t.mirrorLanes e) := .ite (.foldl (fun _ _ h => h.handOn) h) h

theorem Keeps.ingest {lane n : Nat} {e : JEntry} (h : Keeps s t) : Keeps s (State.ingest lane n e t) := by
  induction n generalizing t e with
  | zero => exact h
  | succ n ih =>
    unfold State.ingest
    extract_lets s1 l
    have h1 : Keeps s s1 := h.hold.mirrorLanes
    split
    · exact ih h1.upLane
    · exact h1

theorem Keeps.memberEntry {e : JEntry} (h : Keeps s t) : Keeps s (t.memberEntry e) := by
  unfold State.memberEntry
  extract_lets l s1
  have h1 : Keeps s s1 := h.ingest
  exact .ite h.countDup (.ite h.gap (.ite h1.advance (.ite h1.sendCommitAck.processLane h1.processLane)))

theorem Keeps.entryRx {e : JEntry} (h : Keeps s t) : Keeps s (t.entryRx e) := .ite h (.ite (.ite h.targetEntry h) (.ite h.memberEntry h.upJrn))

theorem Keeps.commitAck {lane jsn : Nat} (h : Keeps s t) : Keeps s (t.commitAck lane jsn) := .ite h h.upLane.advance

theorem Keeps.leftCommitSet {lane jsn : Nat} (h : Keeps s t) : Keeps s (t.leftCommitSet lane jsn) := .ite h.upJrn.healthCheck h

theorem Keeps.acceptRx {lane jsn at' : Nat} (h : Keeps s t) : Keeps s (t.acceptRx lane jsn at') := .ite h h.leftCommitSet.upLane.processLane

theorem Keeps.armAccepted {lane jsn : Nat} {w : Waiting} (h : Keeps s t) : Keeps s (State.armAccepted lane jsn t w) := .ite h h.answerJsn

theorem Keeps.fenceSettled {jsn : Nat} (h : Keeps s t) : Keeps s (t.fenceSettled jsn) := by
  unfold State.fenceSettled
  extract_lets id s1
  have h1 : Keeps s s1 := h.upJrn
  refine .ite h ?_
  split
  · exact h1.answerJsn
  · exact h1

theorem Keeps.armSwitch {src lane epoch : Nat} (h : Keeps s t) : Keeps s (t.armSwitch src lane epoch) := .ite h.upJrn.journal h

theorem Keeps.acceptedRx {src lane epoch jsn : Nat} (h : Keeps s t) : Keeps s (t.acceptedRx src lane epoch jsn) := by
  unfold State.acceptedRx
  extract_lets s1 done switched s2 s3
  have h1 : Keeps s s1 := h.upLane
  have h2 : Keeps s s2 := h1.upJrn
  have h3 : Keeps s s3 := .foldl (fun _ _ h => h.armAccepted) h2
  exact .ite h (Keeps.foldl (fun _ _ h => h.fenceSettled) h3).armSwitch

theorem Keeps.register {src applied : Nat} (h : Keeps s t) : Keeps s (t.register src applied) := by
  unfold State.register
  refine .ite h.upJrn ?_
  split
  rename_i n s1 hp
  have h1 : Keeps s s1 := h.drawFree.snd hp
  exact h1.upJrn

theorem Keeps.appliedRx {src jsn confirm status : Nat} (h : Keeps s t) : Keeps s (t.appliedRx src jsn confirm status) := by
  unfold State.appliedRx
  extract_lets s1
  have h1 : Keeps s s1 := h.register
  exact .ite h (.ite h1.confirmResult h1)

theorem Keeps.refuseHere {st : Status} {key : Nat} (h : Keeps s t) : Keeps s (t.refuseHere st key) := h.countRefusal.upJrn

theorem Keeps.requestFence {id : Nat} {role : SessRole} (h : Keeps s t) : Keeps s (t.requestFence id role) := .ite h.journal h.refuseHere

/-! ### Keeping the targets of a lane in step (R314, R321 to R323) -/

theorem Keeps.trimLane {lane : Nat} (h : Keeps s t) : Keeps s (t.trimLane lane) := by
  unfold State.trimLane
  extract_lets l full low ok gone s1 freed ramFreed s2
  have h1 : Keeps s s1 := h.upLane
  have h2 : Keeps s s2 := .ite h1.upJrn h1
  exact .ite h2.raiseRun h2.endRun

theorem Keeps.sendOne {dst : Nat} {pl : List Byte} (h : Keeps s t) : Keeps s (t.sendOne dst pl) := .ite h.sendPartner h.sendDown

theorem Keeps.sendHead {lane : Nat} (h : Keeps s t) : Keeps s (t.sendHead lane) := .ite h (.ite h.sendDown (.foldl (fun _ _ h => h.sendDown) h))

theorem Keeps.headRx {lane head trim : Nat} (h : Keeps s t) : Keeps s (t.headRx lane head trim) := by
  unfold State.headRx
  extract_lets s1 s2 l
  have h1 : Keeps s s1 := (Keeps.ite h h.upLane).upJrn
  have h2 : Keeps s s2 := h1.sendApplied
  exact .ite h (.ite h2.sendCatchup h2)

theorem Keeps.sendImage {lane base dst : Nat} {l : List ImageRec} (h : Keeps s t) : Keeps s (t.sendImage lane base dst l) := by
  induction l generalizing t with
  | nil => exact h.sendOne
  | cons r rs ih =>
    cases rs with
    | nil => exact h.sendOne
    | cons r' rs => exact ih h.sendOne

theorem Keeps.catchupRx {src lane applied : Nat} {unclean : Bool} (h : Keeps s t) : Keeps s (t.catchupRx src lane applied unclean) := by
  unfold State.catchupRx
  extract_lets s1 l dst base s1' es s2
  have h1 : Keeps s s1 := h.register
  have h1' : Keeps s s1' := h1.storeWork
  have h2 : Keeps s s2 := .ite h1.sendImage (.foldl (fun _ _ h => (h.sendEntry fun _ _ h => h.sendOne)) h1')
  exact .ite h h2.sendOne

theorem Keeps.setPers {p : Nat → Bool} {cells : List ObjCell} (h : Keeps s t) : Keeps s (t.setPers p cells) := by
  unfold State.setPers
  extract_lets old kept s1 keys s2
  have h1 : Keeps s s1 := h.upDict
  have h2 : Keeps s s2 := .foldl (fun _ _ h => h.afterSet) h1
  exact .ite h2.takeSps.unconfirm h2

theorem Keeps.recordTransferred {id jsn : Nat} (h : Keeps s t) : Keeps s (t.recordTransferred id jsn) := by
  unfold State.recordTransferred
  exact h.enterDen

theorem Keeps.transferFence {all : List ImageRec} (h : Keeps s t) : Keeps s (t.transferFence all) := by
  unfold State.transferFence
  split
  · exact h.recordTransferred.upJrn
  · exact h

theorem Keeps.skipped {passed : Nat} (h : Keeps s t) : Keeps s (t.skipped passed).2 := .iteSnd (.beside h) h.drawFree

theorem Keeps.takeImage {base : Nat} {all : List ImageRec} (h : Keeps s t) : Keeps s (t.takeImage base all) := by
  unfold State.takeImage
  extract_lets s0 s1 s2
  have h0 : Keeps s s0 := h.upDict
  have h1 : Keeps s s1 := h0.setPers.transferFence
  have h2 : Keeps s s2 := h1.upLane
  split
  rename_i n s3 hp
  have h3 : Keeps s s3 := h2.upJrn.skipped.snd hp
  exact h3.raiseAll

theorem Keeps.imageIn {base : Nat} {records : List ImageRec} {last : Bool} (h : Keeps s t) : Keeps s (t.imageIn base records last) := by
  unfold State.imageIn
  extract_lets s1 all s2 l
  have h1 : Keeps s s1 := h.upJrn
  have h2 : Keeps s s2 := h1.takeImage
  exact .ite h1 (.ite (.ite h2 h2.drainTarget) h1.upJrn.sendCatchup)

/-! ### The snapshot of a resync (R339) -/

theorem Keeps.sendSnap {off : Nat} (h : Keeps s t) : Keeps s (t.sendSnap off) := .ite h h.sendPartner

theorem Keeps.snapTick (h : Keeps s t) : Keeps s t.snapTick := by
  unfold State.snapTick
  split
  · exact h
  · exact .ite h (.ite h.upJrn h.sendSnap.upJrn)

theorem Keeps.snapReqRx {off : Nat} (h : Keeps s t) : Keeps s (t.snapReqRx off) := .ite h (Keeps.ite h.storeWork.upJrn h).upJrn.snapTick

theorem Keeps.installSnap {d : SnapData} (h : Keeps s t) : Keeps s (t.installSnap d) := by
  unfold State.installSnap
  extract_lets s0 s1 s2
  have h0 : Keeps s s0 := h.upDict
  have h1 : Keeps s s1 := h0.setPers.upJrn
  have h2 : Keeps s s2 := .foldl (fun _ _ h => h.entryRx) h1.saveSnap
  exact h2.sendCatchup

theorem Keeps.snapRx {offset total : Nat} {data : List Byte} (h : Keeps s t) : Keeps s (t.snapRx offset total data) := by
  unfold State.snapRx
  extract_lets s1 all
  have h1 : Keeps s s1 := h.upJrn
  refine .ite h ?_
  refine .ite h1 ?_
  split
  · exact h1.installSnap
  · exact h1.upJrn.sendSnapReq

/-! ### PAIR frames and taking over (R312, R329 to R332) -/

theorem Keeps.enterInit (h : Keeps s t) : Keeps s t.enterInit := .ite h.upJrn h

theorem Keeps.becomeActive (h : Keeps s t) : Keeps s t.becomeActive := by
  unfold State.becomeActive
  extract_lets s1 s2
  have h1 : Keeps s s1 := h.upJrn
  have h2 : Keeps s s2 := h1.ovrRestart.commitTrial.goAlone.advance
  exact .ite h2.sendCatchup h2

theorem Keeps.followEpoch {m : PairMsg} (h : Keeps s t) : Keeps s (t.followEpoch m) := by
  unfold State.followEpoch
  extract_lets s1
  have h1 : Keeps s s1 := h.upJrn
  exact .ite h (.ite h1 (h1.upRecd id))

theorem Keeps.initWith {m : PairMsg} (h : Keeps s t) : Keeps s (t.initWith m) := by
  unfold State.initWith
  split
  · exact .ite h.startResync h.upJrn
  · exact .ite h.becomeActive h.startResync
  · exact .ite h.becomeActive h
  all_goals exact h

theorem Keeps.commitSet {m : PairMsg} (h : Keeps s t) : Keeps s (t.commitSet m) := by
  unfold State.commitSet
  extract_lets s1
  have h1 : Keeps s s1 := .ite h.upJrn h
  exact .ite (.ite h1 h1.upJrn.endRun) (.ite h1 h1.goAlone.advance)

theorem Keeps.digestFaults (h : Keeps s t) : Keeps s t.digestFaults := by
  unfold State.digestFaults
  extract_lets s1
  have h1 : Keeps s s1 := .ite h.raiseRun h.endRun
  exact .ite h1.raiseRun h1.endRun

theorem Keeps.notePartner (h : Keeps s t) : Keeps s t.notePartner := .ite h h.upJrn

theorem Keeps.pairMove {m : PairMsg} (h : Keeps s t) : Keeps s (t.pairMove m) := by
  unfold State.pairMove
  split
  · exact h.initWith
  · exact h.commitSet
  · exact .ite h h.resyncAbort
  · exact .ite h h.autoResync
  all_goals exact h

theorem Keeps.pairRx {m : PairMsg} (h : Keeps s t) : Keeps s (t.pairRx m) :=
  .ite h h.enterInit.upJrn.digestFaults.followEpoch.notePartner.pairMove.healthCheck

theorem Keeps.dropPartner (h : Keeps s t) : Keeps s t.dropPartner := .ite h.goAlone.advance h

theorem Keeps.redeliver (h : Keeps s t) : Keeps s t.redeliver := by
  unfold State.redeliver
  extract_lets lane low arms
  have harms : Keeps s arms := .foldl (fun _ _ h => (.foldl (fun _ _ h => (h.sendEntry fun _ _ h => h.sendDown)) h)) h
  refine .ite (.foldl (fun _ _ h => (h.sendEntry fun _ _ h => h.sendTwin)) h) ?_
  exact .foldl (fun _ _ h => (.foldl (fun _ _ h => (h.sendEntry fun _ _ h => h.sendDown)) h)) harms

theorem Keeps.requestSwitch {cause : Nat} (h : Keeps s t) : Keeps s (t.requestSwitch cause) := .ite h.journal h.sendAccepted

theorem Keeps.takeOver (h : Keeps s t) : Keeps s t.takeOver := by
  unfold State.takeOver
  extract_lets cause s1 s2 s3 s4
  have h1 : Keeps s s1 := h.upJrn
  have h2 : Keeps s s2 := (h1.upRecd id).upArm.ovrRestart.endRun
  have h3 : Keeps s s3 := .ite h2.upLink h2
  have h4 : Keeps s s4 := (Keeps.ite h3 h3.goAlone).raise
  exact h4.redeliver.advance.requestSwitch

/-! ### The end of a flash operation (R409 to R412) -/

theorem Keeps.journalWritten (h : Keeps s t) : Keeps s t.journalWritten := by
  unfold State.journalWritten
  extract_lets s1
  have h1 : Keeps s s1 := h.upJrn
  exact .ite h (.ite h1 (.ite h1.advance (.ite h1.sendCommitAck.processLane h1)))

theorem Keeps.programFailed {part : Nat} {place : PhysBlock} (h : Keeps s t) : Keeps s (t.programFailed part place) := by
  unfold State.programFailed
  extract_lets n s1
  have h1 : Keeps s s1 := h.upBob
  exact .ite h1 h1.upBob.takeSpare

theorem Keeps.flashDone {work : FlashOp} {ok : Bool} (h : Keeps s t) : Keeps s (t.flashDone work ok) := by
  unfold State.flashDone
  extract_lets s1
  have h1 : Keeps s s1 := h.upBob
  split
  · extract_lets s1
    have h1 : Keeps s s1 := h.upBob
    exact .ite h.programFailed (.ite h1.journalWritten h1)
  · exact .ite h1.upBob h1.upBob.takeSpare
  · exact h.upBob.sectorRead

/-! ### The dictionary service (R51 to R69) -/

theorem Keeps.reply {op : Nat} {r : Request} {st : Status} {param : Nat} {data : List Byte} (h : Keeps s t) : Keeps s (t.reply op r st param data) :=
  h.respond

theorem Keeps.replyNo {op : Nat} {r : Request} {st : Status} (h : Keeps s t) : Keeps s (t.replyNo op r st) := by
  unfold State.replyNo
  extract_lets s1
  have h1 : Keeps s s1 := .ite h.refuseHere h.countRefusal
  exact (Keeps.ite h1.raiseAll h1).reply

theorem Keeps.passDown {op : Nat} {r : Request} (h : Keeps s t) : Keeps s (t.passDown op r) := by
  unfold State.passDown
  extract_lets w s1
  have h1 : Keeps s s1 := .ite h h.await
  exact .ite h1.sendPartner h1.sendDown

theorem Keeps.sendCursor {r : Request} {key : Nat} (h : Keeps s t) : Keeps s (State.sendCursor r t key) := h.sendDown

theorem Keeps.passRead {op : Nat} {r : Request} (h : Keeps s t) : Keeps s (t.passRead op r) := (Keeps.foldl (fun _ _ h => h.sendCursor) h).passDown

theorem Keeps.segPart {r : Request} {x : SegRead} (h : Keeps s t) : Keeps s (t.segPart r x) := h.upDict.reply

theorem Keeps.segReadHere {r : Request} {row : ObjRow} (h : Keeps s t) : Keeps s (t.segReadHere r row) := by
  unfold State.segReadHere
  extract_lets key
  refine .ite (Keeps.ite h.storeWork h).segPart ?_
  split
  · exact h.segPart
  · exact h.replyNo

theorem Keeps.readHere {op : Nat} {r : Request} (h : Keeps s t) : Keeps s (t.readHere op r) := by
  unfold State.readHere
  split
  · exact h.replyNo
  · exact .ite h.reply h.segReadHere

theorem Keeps.journalWrite {op : Nat} {r : Request} {len value : Nat} (h : Keeps s t) : Keeps s (t.journalWrite op r len value) := h.await.journal

theorem Keeps.writeValue {op : Nat} {r : Request} {row : ObjRow} {len value : Nat} (h : Keeps s t) : Keeps s (t.writeValue op r row len value) := by
  unfold State.writeValue
  extract_lets key st rights st'
  refine .ite (.ite h.replyNo h.setCursor.reply) ?_
  exact .ite (.ite h.journalWrite h.replyNo) (.ite h.journalWrite h.replyNo)

theorem Keeps.writeStation {r : Request} (h : Keeps s t) : Keeps s (t.writeStation r) := by
  unfold State.writeStation
  refine .ite h.replyNo ?_
  extract_lets st
  split
  · exact .ite h.writeValue h.replyNo
  · exact h.replyNo

theorem Keeps.dropSegWrite {via : Via} {tid : Nat} (h : Keeps s t) : Keeps s (t.dropSegWrite via tid) := h.upDict

theorem Keeps.segWriteStation {r : Request} (h : Keeps s t) : Keeps s (t.segWriteStation r) := by
  unfold State.segWriteStation
  extract_lets key x st all s1
  have h1 : Keeps s s1 := h.dropSegWrite
  refine .ite h.replyNo ?_
  split
  · exact h.dropSegWrite.replyNo
  · exact .ite h.dropSegWrite.replyNo (.ite h.dropSegWrite.replyNo (.ite h1.writeValue h1.upDict.reply))

theorem Keeps.dropBlock {via : Via} {tid : Nat} (h : Keeps s t) : Keeps s (t.dropBlock via tid) := h.upDict

theorem Keeps.blockInitHere {r : Request} (h : Keeps s t) : Keeps s (t.blockInitHere r) := .ite h.replyNo h.dropBlock.upDict.upSys.reply

theorem Keeps.blockDataHere {r : Request} (h : Keeps s t) : Keeps s (t.blockDataHere r) := by
  unfold State.blockDataHere
  extract_lets n
  split
  · exact h.replyNo
  extract_lets b1 s1
  have h1 : Keeps s s1 := h.dropBlock.upDict.storeWork
  exact .ite h.replyNo (.ite h1.reply h1)

theorem Keeps.stageImage {data : List Byte} (h : Keeps s t) : Keeps s (t.stageImage data) := by
  unfold State.stageImage
  exact h.upSys

theorem Keeps.takeBlock {key : Nat} {data : List Byte} (h : Keeps s t) : Keeps s (t.takeBlock key data).2 := by
  unfold State.takeBlock
  extract_lets v dg src' p src''
  refine .iteSnd (.beside h.stageImage) ?_
  refine .iteSnd (.iteSnd (.beside h) (.iteSnd (.beside h.upTrdl) (.beside h))) ?_
  exact .iteSnd (.beside h.upHdl) (.beside h.setObj)

theorem Keeps.blockEndHere {r : Request} (h : Keeps s t) : Keeps s (t.blockEndHere r) := by
  unfold State.blockEndHere
  extract_lets s1
  have h1 : Keeps s s1 := h.dropBlock
  split
  · exact h.replyNo
  extract_lets data t0
  have ht0 : Keeps s t0.2 := h1.takeBlock
  exact .ite h1.upSys.replyNo (.ite ht0.reply ht0.replyNo)

theorem Keeps.blockHere {op : Nat} {r : Request} (h : Keeps s t) : Keeps s (t.blockHere op r) :=
  .ite h.blockInitHere (.ite h.blockDataHere h.blockEndHere)

theorem Keeps.dropTransfer {via : Via} {tid : Nat} (h : Keeps s t) : Keeps s (t.dropTransfer via tid) := h.dropSegWrite.dropBlock.upDict

theorem Keeps.abortHere {r : Request} (h : Keeps s t) : Keeps s (t.abortHere r) := h.dropTransfer.reply

theorem Keeps.abortStation {r : Request} (h : Keeps s t) : Keeps s (t.abortStation r) := .ite h.replyNo (.ite h.abortHere h.dropTransfer.passDown)

theorem Keeps.stationServe {op : Nat} {r : Request} (h : Keeps s t) : Keeps s (t.stationServe op r) := by
  unfold State.stationServe
  refine .ite h.writeStation ?_
  refine .ite h.segWriteStation ?_
  refine .ite h.abortStation ?_
  exact .ite h.replyNo (.ite h.replyNo (.ite h.reply (.ite h.passRead (.ite h.blockHere h.readHere))))

theorem Keeps.nodeServe {op : Nat} {r : Request} (h : Keeps s t) : Keeps s (t.nodeServe op r) := by
  unfold State.nodeServe
  extract_lets st
  refine .ite h.abortHere ?_
  refine .ite h.replyNo ?_
  refine .ite h.blockHere ?_
  refine .ite h.readHere ?_
  refine .ite ?_ h.replyNo
  split
  · exact .ite h.setCursor.reply h.replyNo
  · exact h.replyNo

theorem Keeps.sessionServe {x : Session} {op : Nat} {r : Request} (h : Keeps s t) : Keeps s (t.sessionServe x op r) := by
  unfold State.sessionServe
  split
  · exact h.upDict.sendAnswer
  · exact .ite h h.stationServe

theorem Keeps.touchSession {id : Nat} (h : Keeps s t) : Keeps s (t.touchSession id) := h.upDict

theorem Keeps.serve {op : Nat} {r : Request} (h : Keeps s t) : Keeps s (t.serve op r) := by
  unfold State.serve
  split
  · split
    · exact .ite h.touchSession.sessionServe h
    · exact h
  · exact .ite (.ite h.nodeServe h) h.upDict

theorem Keeps.limitSession {id : Nat} (h : Keeps s t) : Keeps s (t.limitSession id) := by
  unfold State.limitSession
  exact h.refuse.upDict.sendAnswer

theorem Keeps.partnerSafety (h : Keeps s t) : Keeps s t.partnerSafety.2 := .iteSnd (.beside h.drawFree) (.beside h)

theorem Keeps.addSession {id : Nat} {role : SessRole} (h : Keeps s t) : Keeps s (t.addSession id role) := by
  unfold State.addSession
  extract_lets f
  have hf : Keeps s f.2 := .iteSnd h.partnerSafety (.beside h)
  exact .ite hf.limitSession hf.upDict

theorem Keeps.openSession {id ski : Nat} (h : Keeps s t) : Keeps s (t.openSession id ski) := .ite h h.addSession

/-! ### The end of BOOT and of JOIN (R20, R29, R425) -/

theorem Keeps.resumeStored (h : Keeps s t) : Keeps s t.resumeStored := by
  unfold State.resumeStored
  extract_lets unclean s1
  have h1 : Keeps s s1 := h.upJrn.upSys
  exact .ite h1.raise h1

theorem Keeps.mount {flushUs : Nat} (h : Keeps s t) : Keeps s (t.mount flushUs) := by
  unfold State.mount
  extract_lets s1 s2 s3
  have h1 : Keeps s s1 := h.discover
  have h2 : Keeps s s2 := .ite h1 h1.format
  have h3 : Keeps s s3 := h2.mounted
  exact .ite h1.mediaFault (.ite h2 (Keeps.ite h3.mediaAgain h3).denStore)

theorem Keeps.selectSlot (h : Keeps s t) : Keeps s t.selectSlot := by
  unfold State.selectSlot
  extract_lets s1
  have h1 : Keeps s s1 := .ite h.clearActivate.upSys.raise h
  split
  · exact h1
  extract_lets s2
  have h2 : Keeps s s2 := h1.upSys.writeDict
  exact .ite h2.raise h2

theorem Keeps.islandGrids (h : Keeps s t) : Keeps s t.islandGrids := by
  unfold State.islandGrids
  exact h.upSel

theorem Keeps.islandBoot {selfTestOk : Bool} (h : Keeps s t) : Keeps s (t.islandBoot selfTestOk) := by
  unfold State.islandBoot
  extract_lets s1 s2 s3
  have h1 : Keeps s s1 := h.upSel
  have h2 : Keeps s s2 := .foldl (fun _ _ h => h.upSel) h1
  have h3 : Keeps s s3 := .foldl (fun _ _ h => h.wcInput) h2.islandGrids.computeScv
  exact h3.upSel.noteArmDemand.tripUpdate.degJudge

theorem Keeps.unitsBoot (h : Keeps s t) : Keeps s t.unitsBoot := by
  unfold State.unitsBoot
  extract_lets s0 s1
  have h0 : Keeps s s0 := h.upTrdl
  have h1 : Keeps s s1 := h0.vcoreBoot.adcEnableStored.adcEnableStored
  exact .ite h1 h1.loadGraph

theorem Keeps.startupRecord (h : Keeps s t) : Keeps s t.startupRecord := h.raiseAll

theorem Keeps.holdoverNote (h : Keeps s t) : Keeps s t.holdoverNote := .ite h.raiseRun h

theorem Keeps.stationJoin (h : Keeps s t) : Keeps s t.stationJoin := .ite h.upNode h

theorem Keeps.armJoin (h : Keeps s t) : Keeps s t.armJoin := by
  unfold State.armJoin
  extract_lets s1
  have h1 : Keeps s s1 := h.armWeft
  exact .ite (.ite h1.raiseRun h1) h

theorem Keeps.enterJoin (h : Keeps s t) : Keeps s t.enterJoin := by
  unfold State.enterJoin
  extract_lets s1 s2 s3 s4
  have h1 : Keeps s s1 := h.upNode.upSys
  have h2 : Keeps s s2 := h1.upJrn.upHdl.stationJoin.armJoin
  have h3 : Keeps s s3 := .foldl (fun _ _ h => h.portEnable) h2
  have h4 : Keeps s s4 := h3.sendCatchup.syncHoldup.derivePlace
  exact h4.parentsSettle

theorem Keeps.bootStay {n : FaultName} (h : Keeps s t) : Keeps s (t.bootStay n) := h.upSys.raise

theorem Keeps.bootCal {ok : Bool} (h : Keeps s t) : Keeps s (t.bootCal ok) := by
  unfold State.bootCal
  refine .ite ?_ h.upGate
  split
  rename_i n s1 hp
  have h1 : Keeps s s1 := h.drawFree.snd hp
  exact h1.upGate

theorem Keeps.bootDone {slots : Vector (Option FwSlot) 2} {safetyOk selfTestOk calOk : Bool} {flushUs : Nat} (h : Keeps s t) :
    Keeps s (t.bootDone slots safetyOk selfTestOk calOk flushUs) := by
  unfold State.bootDone
  extract_lets s1 s2 s3 s4
  have h1 : Keeps s s1 := h.mount.resumeStored.gateBoot.upSys
  have h2 : Keeps s s2 := h1.selectSlot
  have h3 : Keeps s s3 := h2.islandBoot.unitsBoot
  have h4 : Keeps s s4 := h3.bootCal.checkCert
  split
  · exact h1.bootStay
  refine .ite h3.bootStay ?_
  refine .ite h3.bootStay ?_
  exact .ite h3.bootCal.bootStay (.ite h4.bootStay (.ite h4.upSys h4.startupRecord.holdoverNote.enterJoin))

/-! ### A store by a worker core (R276 to R278) -/

theorem Keeps.storeTb {off v : Nat} (h : Keeps s t) : KeepsIf s (t.storeTb off v) := by
  unfold State.storeTb
  refine .ite (.some h.upTb) ?_
  refine .ite (.some h.upTb) ?_
  refine .ite (.some h.upTb) ?_
  refine .ite (.some h.writeStep) ?_
  refine .ite (.some h.upTb) ?_
  refine .ite (.some h.upTb) ?_
  refine .ite (.some h.upTb) ?_
  exact .ite (.some h.writeSstep) (.ite (.some h.upTb) (.ite (.some h.upTb) (.ite (.some h.upTsi) .none)))

theorem Keeps.storeGate {off v : Nat} (h : Keeps s t) : KeepsIf s (t.storeGate off v) := by
  unfold State.storeGate
  refine .ite (.some h.setAux) ?_
  exact .ite (.some h.directArm) (.ite (.some h.upGate) (.ite (.some h.upGate) (.ite (.some h.upGate) .none)))

theorem Keeps.storeAdc {off v : Nat} (h : Keeps s t) : KeepsIf s (t.storeAdc off v) := by
  unfold State.storeAdc
  refine .ite (.some h.upAdc) ?_
  refine .ite (.some h.upAdc) ?_
  split
  · exact .ite (.some (.ite h.adcTrigger h)) (.ite (.some h.urgent) (.ite (.some h.upAdcCore) .none))
  · exact .none

theorem Keeps.storeHdl {core off v : Nat} (h : Keeps s t) : KeepsIf s (t.storeHdl core off v) := by
  unfold State.storeHdl
  refine .ite (.some (.ite h.finish h)) ?_
  refine .ite (.some h.upCore) ?_
  refine .ite (.some h.stagePost) ?_
  refine .ite (.some h.cancel) ?_
  refine .ite (.some h.upCore) ?_
  refine .ite (.some h.dlyInsert) ?_
  refine .ite (.some h.upCore) ?_
  exact .ite (.some h.dlyCancel) (.ite (.some h.upCore) (.ite (.some h.upHdl) (.ite (.some h.upHdl) .none)))

theorem Keeps.storeRec {off v : Nat} (h : Keeps s t) : KeepsIf s (t.storeRec off v) := by
  unfold State.storeRec
  refine .ite (.some (h.upRecd id)) ?_
  refine .ite (.some (h.upRecd id)) ?_
  exact .ite (.some h.userRecord) (.ite (.some (h.upRecd id)) (.ite (.some (h.upRecd id)) .none))

theorem Keeps.storeTrdl {off v : Nat} (h : Keeps s t) : KeepsIf s (t.storeTrdl off v) :=
  .ite (.some h) (.ite (.some h.upTrdl) (.ite (.some h.upTrdl) (.ite (.some h.upTrdl) .none)))

theorem Keeps.storeLink {off v : Nat} (h : Keeps s t) : KeepsIf s (t.storeLink off v) :=
  .ite (.some h.upLink) (.ite (.some h.upLink) (.ite (.some h.upLink) .none))

theorem Keeps.storeSmall {block off v : Nat} (h : Keeps s t) : KeepsIf s (t.storeSmall block off v) := by
  unfold State.storeSmall
  refine .ite (.ite (.some h.upWeft) (.ite (.some h.upWeft) .none)) ?_
  refine .ite (.ite (.some h.upJrn) (.ite (.some h.upJrn) .none)) ?_
  refine .ite (.ite (.some h.upBob) (.ite (.some h.upBob) .none)) ?_
  refine .ite (.ite (.some h.cuCtrl) (.ite (.some h.cuTake) .none)) ?_
  refine .ite (.ite (.some h.upEvc) (.ite (.some h.upEvc) .none)) ?_
  exact .ite (.ite (.some h.wdKick) (.ite (.some h.upSys) (.ite (.some h.upSys) .none))) .none

theorem Keeps.storeReg {core addr v : Nat} (h : Keeps s t) : KeepsIf s (t.storeReg core addr v) := by
  unfold State.storeReg
  extract_lets block off
  refine .ite h.storeTb ?_
  refine .ite h.storeGate ?_
  exact .ite h.storeAdc (.ite h.storeTrdl (.ite h.storeLink (.ite h.storeHdl (.ite h.storeRec h.storeSmall))))

theorem Keeps.storeMem {core addr v size : Nat} (h : Keeps s t) : KeepsIf s (t.storeMem core addr v size) := by
  unfold State.storeMem
  split
  · exact .none
  · exact .ite .none (.some (h.upMem fun m hm => Mem.writeBytes_wf _ _ (by split <;> exact hm) _))

theorem Keeps.store {core addr v size : Nat} (h : Keeps s t) : KeepsIf s (t.store core addr v size) :=
  .ite .none (.ite (.ite h.storeReg .none) h.storeMem)

/-! ### Frames that arrive at a LAN port (R230 to R236, R261) -/

theorem Keeps.prpNote {mac seq : Nat} (h : Keeps s t) : Keeps s (t.prpNote mac seq) := h.upLan

theorem Keeps.sduRx {id : Nat} {bs : List Byte} (h : Keeps s t) : Keeps s (t.sduRx id bs) := .ite h (.ite h.serve h.touchSession.unknownOp)

theorem Keeps.ethServe {lan mac : Nat} {k : EthBody} (h : Keeps s t) : Keeps s (t.ethServe lan mac k) := by
  unfold State.ethServe
  extract_lets own
  split
  · exact .ite h.ethSend h
  · exact .ite h.ethSend h
  · exact .ite h.sduRx h
  · exact .ite h.endSession h
  · exact .foldl (fun _ _ h => h.gooseRx) h
  · exact .foldl (fun _ _ h => h.svRx) h
  · exact h.ptpRx
  · exact h.ptpPdelayReqRx
  · exact h.ptpAnnounceRx
  · exact h.ptpPdelayRx
  all_goals exact h

theorem Keeps.ethRx {lan mac : Nat} {prp : Option (Nat × Nat)} {k : EthKind} (h : Keeps s t) : Keeps s (t.ethRx lan mac prp k) := by
  unfold State.ethRx
  refine .ite h ?_
  split
  · exact h.ethServe
  extract_lets s1
  have h1 : Keeps s s1 := .ite h h.upLan
  exact .ite h1.upLan h1.prpNote.ethServe

/-! ### A step with no command waiting (R243, R244) -/

theorem Keeps.coreTick {i : Nat} (h : Keeps s t) : Keeps s (t.coreTick i) := .ite h.upHdl.event h

theorem Keeps.coreEvents {i code : Nat} (h : Keeps s t) : Keeps s (t.coreEvents i code) := .ite h.drawFree.event h

theorem Keeps.lsTick {p : Nat} (h : Keeps s t) : Keeps s (t.lsTick p) := .ite h.upPort h

theorem Keeps.slewTick (h : Keeps s t) : Keeps s t.slewTick := by
  unfold State.slewTick
  split
  · exact .ite h.upTb h
  · exact h

theorem Keeps.ptpTick (h : Keeps s t) : Keeps s t.ptpTick := by
  unfold State.ptpTick
  extract_lets p s1 two src' s2
  have h1 : Keeps s s1 := h.upTb.ptpSend
  have h2 : Keeps s s2 := h1.ptpSend.ptpSend
  exact .ite h (.ite h1 (.ite h2.ptpSend h2))

theorem Keeps.bobTick (h : Keeps s t) : Keeps s t.bobTick := .ite h.upBob (.ite h h.upBob)

theorem Keeps.watchIsland (h : Keeps s t) : Keeps s t.watchIsland := by
  unfold State.watchIsland
  exact (Keeps.ite h.endRun h).upSel

theorem Keeps.idle (h : Keeps s t) : Keeps s t.idle := by
  unfold State.idle
  extract_lets s0 s1 s2
  have h0 : Keeps s s0 := .foldl (fun _ _ h => h.dlyRelease) h.watchOutputs.watchIsland
  have h1 : Keeps s s1 := (Keeps.foldl (fun _ _ h => h.lsTick) h0).upTb
  have h2 : Keeps s s2 := .foldl (fun _ _ h => h.coreTick) h1.slewTick.ptpTick.bobTick.snapTick
  exact .ite (Keeps.foldl (fun _ _ h => h.coreEvents.coreEvents) h2).event h

/-! ### Every command completes (R7, R69) -/

/-- The command is answered with a next state that keeps what every operation keeps. -/
def Completes (s : State) (r : Result) : Prop := ∃ t, r = .next t ∧ Keeps s t

theorem Completes.next (h : Keeps s t) : Completes s (.next t) := ⟨t, rfl, h⟩

theorem Completes.onPower (h : Keeps s t) : Completes s (.next (s.onPower t)) := .next ((Keeps.refl s).onPower h)

theorem Completes.onLane (h : Keeps s t) : Completes s (.next (s.onLane t)) := .next ((Keeps.refl s).onLane h)

/-- Command by command, by the operation that gives it its meaning. -/
theorem exec_completes (c : Instr) (s : State) : Completes s (exec c s) := by
  have h := Keeps.refl s
  cases c with
  | suppliesValid => exact .next h.suppliesUp
  | brownout | vinLoss => exact .next (.ite h.loseSupplies h)
  | rstNAssert => exact .onPower h.warmReset
  | resetRequest => exact .onPower (.settle h.applyResetRequest)
  | jtagReset => exact .onPower (.ite h h.warmReset)
  | watchdogExpiry => exact .onPower (.ite h.wdExpire h)
  | watchdogWarning => exact .onPower h.wdWarn
  | watchdogKick => exact .onPower h.wdKick
  | bootComplete => exact .onPower (.ite h h.bootDone)
  | joinComplete => exact .onPower (.ite h.upNode.commitTrial.healthCheck h)
  | hibernate => exact .onPower (.settle h.applyHibernate)
  | wake => exact .next (.ite h.resetNow h)
  | pfailFall => exact .onPower h.pfailStart
  | pfailFlushDone => exact .onPower h.flushDone
  | pfailRecover => exact .onPower h.pfailEnd
  | vcoreWrite => exact .onPower (.settle h.applyVcore)
  | vcoreRampDone => exact .onPower h.rampDone
  | vcoreHeadroom => exact .onPower h.vinSag
  | opCertWrite => exact .onPower (.settle h.applyCert)
  | opCertPeriodicCheck => exact .onPower (.ite h.upSys.checkCert h)
  | certReceive => exact .onLane h.certRx
  | jtagLock => exact .onPower (.settle h.applyJtagLock)
  | jtagUnlock => exact .onPower h.tapUnlock
  | imageActivate => exact .onPower (.settle h.applyImageActivate)
  | restoreDefaults => exact .onPower (.settle h.applyRestore)
  | enable => exact .onPower (.settle h.applyEnable)
  | block => exact .onPower (.settle h.applyBlock)
  | deblock => exact .onPower (.settle h.applyDeblock)
  | tripReset => exact .onPower (.settle h.applyTripReset)
  | bypassCommand => exact .onPower (.settle h.applyBypass)
  | maintRelease => exact .onPower (.settle h.applyMaint)
  | handoverReceive => exact .onLane h.handover
  | execDeadline => exact .onPower h.execAt
  | holdLimit => exact .onPower (.ite h.setCause h)
  | orphanBypass => exact .onPower h.orphanFires
  | primaryRevert => exact .onPower h.revert
  | read | write | segRead | segWrite | blockInit | blockData | blockEnd | abort => exact .onPower h.serve
  | segSnapshotTimeout | segWriteTimeout => exact .onPower h.upDict
  | transferTimeout =>
    refine .onPower ?_
    split
    · exact .ite h (.ite h.answer h.answerJsn)
    · exact h
  | sessionOpen => exact .onPower (.ite h.openSession h)
  | sessionIdleTimeout => exact .onPower (.ite h.endSession h)
  | objectWriteApply => exact .onPower (.settle h.applyObject)
  | registerWrite =>
    refine .onPower (.ite h ?_)
    split
    · rename_i t hp
      exact h.store.get hp
    · exact h.abortCore
  | pdEnable => exact .onPower (.settle h.applyPdEnable)
  | tpdSend => exact .onPower h.tpdSend
  | rpdReceive => exact .onLane h.rpdRx
  | rpdApply => exact .onPower h.rpdApply
  | rpdTimeout => exact .onPower h.rpdTimeout
  | cycleStart => exact .onPower h.cycleStart
  | warpReceive => exact .onLane h.warpRx
  | tallyDeadline => exact .onPower h.tallyDue
  | treadleFastStart => exact .onPower h.fastStart
  | treadleFastEnd => exact .onPower h.fastEnd
  | treadleSlowEnd => exact .onPower h.slowEnd
  | treadleDeadline => exact .onPower h.trdlDeadline
  | overrunEscalation => exact .onPower (.ite (.ite h.startRun.raiseAll h.startRun.raise) h)
  | noCurrentLimit | weftStall | ofsCalStarved | scrubLate => exact .onPower (.ite h.raiseRun h)
  | refHoldExpiry => exact .onPower (.ite h.upTrdl.raiseRun h)
  | programActivate => exact .onPower (.settle h.applyProgramActivate)
  | stationCycleBoundary => exact .onPower h.stationBoundary
  | shuttleReceive => exact .onLane h.shuttleRx
  | countAdopt => exact .onPower h.adopt
  | rebase => exact .onPower (.settle h.applyRebase)
  | counterClear => exact .onPower (.settle h.applyClear)
  | levelEdgeInstant => exact .onLane h.levelEdge
  | deadtimeExpiry => exact .onLane (.ite h.gateStep h)
  | scheduledEdge =>
    refine .onLane ?_
    split
    · exact h.placeEdge
    · exact h
  | carrierBoundary => exact .onLane h.carrierBoundary
  | delayLineCal => exact .onLane h.delayCal
  | goReadback => exact .onPower h.readback
  | directArm => exact .onPower h.directArm
  | auxWrite => exact .onPower (.ite (.settle h.applyAux) h.setAux)
  | cmptTrigger => exact .onLane h.cmptTrigger
  | bypassPulse => exact .onPower (.ite h.upGate h)
  | fltFilterExpiry => exact .onPower h.fltExpiry
  | fltClear => exact .onPower (.settle h.applyFltClear)
  | refReady => exact .onPower (.ite h.upAdc h)
  | refFault => exact .onPower (.ite h.discardConversions.upAdc.raise h)
  | fullCalDone =>
    refine .onPower (.ite h ?_)
    exact (Keeps.ite h.upAdc.upSys h.upAdc).raiseAll
  | calStart => exact .onPower (.settle h.applyCalStart)
  | ofsCalSlotDone => exact .onPower (.ite h.endRun.upAdcCore h)
  | tbSampleStart => exact .onLane h.tbSample
  | adcWorkStart => exact .onPower h.adcWork
  | conversionDone => exact .onPower h.conversion
  | swTrigger => exact .onPower (.ite h.adcTrigger h)
  | urgentRequest => exact .onPower h.urgent
  | resultRead => exact .onPower (.ite h.upAdcCore h)
  | adcEnable => exact .onPower (.settle h.applyAdcEnable)
  | wcStateChange => exact .onPower (.ite h.wcInput h)
  | wcFilterExpiry => exact .onPower (.ite h.wcFiltered h)
  | linkPortEnable => exact .onPower h.portEnable
  | linkLock => exact .onLane (.ite h.upPort h)
  | linkHello => exact .onLane (.ite h.upPort.checkPort h)
  | linkMeasure => exact .onLane (.ite h.enterMeasure h)
  | linkUp => exact .onLane (.ite h.enterUp h)
  | linkDown => exact .onPower (.ite h.portLost (.ite h.upPort h))
  | linkFlap => exact .onPower h.flap
  | flapHoldoffRestore => exact .onPower (.ite h.upPort h)
  | lsReceive => exact .onLane h.lsRx
  | frameReceive => exact .onLane h.frameRx
  | frameTransmit => exact .onLane h.transmit
  | frameStallAbort => exact .onLane (.ite h.drawFree.upPort h)
  | delayRequestSend => exact .onLane h.sendDreq
  | delayRequestReceive => exact .onLane (.ite h.tapNow.sendLocal h)
  | delayResponseReceive => exact .onLane h.drspRx
  | delayExchangeVoid | xcvrDiagPoll | i2cStretchTimeout => exact .onPower (.ite h h.upPort)
  | xcvrDiagDone => exact .onPower h.xcvrRead
  | cuStart => exact .onPower h.cuCtrl
  | cuData => exact .onPower h.cuTake
  | cuModeWrite => exact .onPower (.settle h.applyCuMode)
  | lanLinkChange => exact .onLane h.lanChange
  | ethFrameReceive => exact .onLane h.ethRx
  | prpSupervision => exact .onPower (.ite h.ethSend.upLan h)
  | goosePublish => exact .onPower h.gpChange
  | gooseRetransmit => exact .onPower h.gpAgain
  | gooseReceive => exact .onLane h.gooseRx
  | gooseApply => exact .onPower h.gooseApply
  | gooseTimeout => exact .onPower h.gooseExpire
  | svReceive => exact .onLane h.svRx
  | svTimeout => exact .onPower h.svLose
  | blkMinHoldEnd => exact .onPower h.blkEnd
  | refclkLost => exact .onPower h.refLost
  | refclkReturn => exact .onPower (.ite h h.upTb)
  | refclkStable => exact .onPower (.ite h.upSel.endCause h)
  | rateWrite | ntReadLatch => exact .onPower h.upTb
  | stepWrite => exact .onPower h.writeStep
  | scheduledStepArm => exact .onPower h.writeSstep
  | scheduledStepApply => exact .onPower (.ite h.stepScheduled h)
  | syncSend => exact .onLane h.syncAll
  | syncReceive => exact .onLane h.syncRx
  | timeLock => exact .onPower h.timeLocks
  | timeAlign => exact .onPower (.ite h.upTb.raise h)
  | timeHoldoverTimeout => exact .onPower (.ite h h.toHoldover)
  | ptpSyncReceive => exact .onLane h.ptpRx
  | ptpAnnounceReceive => exact .onLane h.ptpAnnounceRx
  | ptpAnnounceTimeout => exact .onPower (.ite h.ptpGone h)
  | ptpPdelay => exact .onLane h.ptpPdelayRx
  | stepSchedule => exact .onPower (.ite h.scheduleStep h)
  | timeSet => exact .onPower (.settle h.applyTimeSet)
  | tpoPulseStart => exact .onLane h.tpoStart
  | tpoPulseEnd => exact .onLane (.ite h.upTpo h)
  | tsiCapture => exact .onLane (.ite h.tapNow.tsiEdge h)
  | tsiFifoPop => exact .onPower (.ite h.upTsi h)
  | hdlNext => exact .onPower (.ite h h.finish.upCore)
  | dispatch => exact .onPower h.dispatch
  | hdlDone => exact .onPower (.ite h h.finish)
  | hdlPost => exact .onPower h.stagePost
  | hdlCancel => exact .onPower (.ite h h.cancel)
  | hdlDly => exact .onPower (.ite h h.dlyInsert)
  | hdlDlycan => exact .onPower (.ite h h.dlyCancel)
  | delayTick => exact .onPower (.ite h h.tickList.upDly)
  | operationFault =>
    refine .onPower ?_
    split
    · exact h.coreUe.abortCore
    · exact h.abortCore
  | budgetExpiry => exact .onPower (.ite h.abortCore h)
  | graphActivate => exact .onPower (.settle h.applyGraphActivate)
  | graphLoad => exact .onPower (.ite h.upHdl.loadGraph h)
  | eventToken => exact .onPower h.eventTokens
  | userObjectApply => exact .onPower h.drainDue
  | scrubRead => exact .onPower h.scrub
  | loadWindowEnd => exact .onPower (.ite h.upHdl h)
  | ecWindowStart => exact .onPower h.ecStart
  | ecWindowEnd => exact .onPower h.ecEnd
  | ecLoRead => exact .onPower h.upEc
  | ecConfigWrite => exact .onPower (.settle h.applyEcConfig)
  | entryReceive => exact .onLane (.ite h.entryRx h)
  | fence => exact .onPower h.requestFence
  | commitAckReceive => exact .onLane h.commitAck
  | acceptReceive => exact .onLane h.acceptRx
  | acceptedReceive => exact .onLane h.acceptedRx
  | appliedReceive => exact .onLane h.appliedRx
  | headSend => exact .onPower (.ite h.sendHead.upJrn h)
  | headReceive => exact .onLane h.headRx
  | catchupReceive => exact .onLane h.catchupRx
  | imageReceive => exact .onLane h.imageIn
  | pairSend => exact .onPower (.ite h.enterInit.sendPartner.upJrn h)
  | pairReceive => exact .onLane h.pairRx
  | partnerSilent => exact .onPower (.ite h.notePartner.dropPartner h)
  | commitAckTimeout => exact .onPower (.ite h.dropPartner h)
  | pairWaitTimeout => exact .onPower (.ite h.becomeActive h)
  | applyAtReached => exact .onPower (.ite h.processLane h)
  | takeover => exact .onPower (.ite h.takeOver h)
  | yieldReceive | primaryReceive => exact .onLane (.ite h.upJrn h)
  | pulseWatchdog => exact .onPower (.ite h.pulseFire h)
  | switchover => exact .onPower (.settle h.applySwitchover)
  | resyncStart => exact .onPower (.settle h.applyResyncStart)
  | mirrorReceive => exact .onLane h.mirrorRx
  | snapReqReceive => exact .onLane h.snapReqRx
  | snapReceive => exact .onLane (.ite h.snapRx h)
  | snapReqRetry => exact .onPower (.ite h.sendSnapReq h)
  | resyncVerified => exact .onPower (.ite h.resyncDone h)
  | resyncTimeout => exact .onPower (.ite h.resyncAbort h)
  | resyncRetry =>
    refine .onPower ?_
    split
    · exact .ite h.autoResync h
    · exact h
  | trimAdvance => exact .onPower (.ite h.trimLane h)
  | snapshotWrite => exact .onPower (.ite h.saveSnap.storeWork h)
  | safeInFilter => exact .onPower (.ite h.badgerTakes h)
  | safetyCoreSample => exact .onPower h.coreSample
  | sinDiscrepancy => exact .onPower h.sinDisc
  | offpulse => exact .onPower (.ite h.pulse h)
  | offpulseCheck => exact .onPower (.ite h.fbCheck h)
  | permitWithdraw => exact .onPower h.upSel
  | safetyFrameSend => exact .onLane h.sendPeriodic
  | safetyFrameChangeSend => exact .onLane (.foldl (fun _ _ h => h.sendChanged) h)
  | safetyFrameReceive => exact .onLane h.safetyRx
  | safetyConnExpiry => exact .onPower h.connExpire
  | safetyParamPersist => exact .onPower h.paramPersists
  | dnmDisagree => exact .onPower h.dnmDisagree
  | sdiTimer => exact .onPower (.ite h.sdiTimed h)
  | supplyMonitor => exact .onPower (.ite h.upSel h.upSel.setCause.raise)
  | heartbeatMiss | coreLockstepError => exact .onPower h.channelFail
  | injectionTest => exact .onPower h.injection
  | decisionDiscrepancy => exact .onPower h.decisionDisc
  | wcStageDisagree => exact .onPower (.ite h.stageFault h)
  | ioscCheck => exact .onPower (.ite h h.channelFail)
  | degMinute => exact .next (.ite h.degTick h.degSleep)
  | degClear => exact .onPower (.settle h.applyDegClear)
  | scvConfirm => exact .onPower (.settle h.applyScvConfirm)
  | spsWrite => exact .onPower (.settle h.applySps)
  | foldWindowEnd => exact .onPower (.ite h.close h)
  | eventFrameSend => exact .onLane h.eventSend
  | eventFrameReceive => exact .onLane h.eventRx
  | mediaRepeat => exact .onLane h.mediaRepeat
  | mediaFlagExpiry => exact .onPower h.mediaExpire
  | mediaService => exact .onPower (.settle h.applyMedia)
  | recClear => exact .onPower (.settle h.applyRecClear)
  | bobFormat => exact .onPower (.settle h.applyFormat)
  | userRecord => exact .onPower h.userRecord
  | denStore => exact .onPower h.denStore
  | flashOpDone => exact .onPower (.ite h.flashDone h)
  | chipTimeout => exact .onPower (.ite h.upBob.mediaFault h)
  | bobScrubRead => exact .onPower h.scrubSector
  | bobScrubLate => exact .onPower h.bobLate
  | wearLevelMove => exact .onPower h.wearMove
  | optSave => exact .onPower h.optSave
  | moduleAbsent => exact .onPower (.ite h.moduleChange h)
  | healthJournalLost => exact .onPower (.ite h.upJrn.healthCheck h)
  | supplyReturn => exact .onPower h.upSel.endCause
  | vinRecovers => exact .onPower h.vinBack

/-- Settles O58: every operation that a command runs keeps the queue and the straps, and every command is answered with the state that it leaves. -/
theorem everyCommandCompletesAndLeavesQueueAndPins : Obligations.EveryCommandCompletesAndLeavesQueueAndPins := by
  intro c s
  obtain ⟨t, ht, hk⟩ := exec_completes c s
  exact ⟨t, ht, hk.pending, hk.pins⟩

/-- The same operations keep the memory canonical and the Den within its slots, so every step does. -/
theorem State.inv_of_step (hs : s.Inv) (hst : step s = .next t) : t.Inv := by
  unfold step at hst
  split at hst
  · exact Host.Outcome.next.inj hst ▸ (Keeps.refl s).idle.inv hs
  · rename_i c rest _
    obtain ⟨u, hu, hk⟩ := exec_completes c { s with pending := rest }
    exact Host.Outcome.next.inj (hu.symm.trans hst) ▸ hk.inv hs

end Sys2Proof.Machine
end

section
namespace Sys2Proof.Machine

/-! ### The end of BOOT loads the running graph (R284, R425) -/

/-- BOOT_COMPLETE that comes when it is due ends BOOT. -/
theorem exec_bootComplete_of_due {s : State} {slots : Vector (Option FwSlot) 2} {safety self cal : Bool} {us : Nat} (hs : s.powered = true)
    (hw : s.sys.wdRun = false) (hf : s.sys.bootFailed = false) (ht : s.pins.testen = false) (hr : s.tb.refOk = true) :
    exec (.bootComplete slots safety self cal us) s = .next (s.bootDone slots safety self cal us) := by
  show Host.Outcome.next (s.onPower (if _ then _ else _)) = _
  simp [State.onPower_on _ _ hs, hw, hf, ht, hr]

/-- A graph of one operation, whose image lays one byte at address 0x100. -/
def oneByteGraph : GraphImage :=
  { ops := [{ entry := 0x100, prio := 0, affinity := 0, inArcs := [], nout := 0, budget := 1, fclass := .f1, objects := [], sys := false }]
    sections := [(0x100, 0x5A)] }

/-- A cell in BOOT after a reset: its memory is empty, and the bank of its graph still holds `oneByteGraph`. -/
def bootingCell : State :=
  { State.reset with
    tb := { State.reset.tb with refOk := true }
    hdl := { State.reset.hdl with banks := vset State.reset.hdl.banks 0 oneByteGraph } }

/-- Two valid slots. -/
def validSlots : Vector (Option FwSlot) 2 :=
  Vector.replicate 2 (some { headerOk := true, keyOk := true, sigOk := true, sizeOk := true, digestOk := true })

/-- The boot is a good one, and the image's byte stands in the memory after it. -/
theorem bootingCell_bootDone :
    (bootingCell.bootDone validSlots true true true 0).node.nodeState = .join
      ∧ (bootingCell.bootDone validSlots true true true 0).mem.read 0x100 = 0x5A := by decide +kernel

/-- Refutes O7: a good BOOT loads the graph of the running bank, and the load writes the image's sections into the memory (R284), so the memory is
not what it was: `bootingCell` reads 0 at address 0x100 before BOOT_COMPLETE and 0x5A after it. -/
theorem not_bootEndsInJoinAndJoinInReady : ¬ Obligations.BootEndsInJoinAndJoinInReady := by
  rintro ⟨boots, -⟩
  obtain ⟨t, ht, -, -, -, -, -, -, -, hmem, -⟩ :=
    boots bootingCell validSlots 0 (.inl rfl) rfl rfl rfl rfl rfl (.inl (by decide +kernel)) (by decide +kernel)
  have htr : bootingCell.bootDone validSlots true true true 0 = t :=
    Host.Outcome.next.inj ((exec_bootComplete_of_due rfl rfl rfl rfl rfl).symm.trans ht)
  have read : (bootingCell.bootDone validSlots true true true 0).mem.read 0x100 = bootingCell.mem.read 0x100 :=
    htr ▸ congrArg (Mem.read · 0x100) hmem
  rw [bootingCell_bootDone.2] at read
  exact absurd read (by decide)

end Sys2Proof.Machine
end

section
namespace Sys2Proof.Machine

/-! ### Commands at a powered device (R7, R69) -/

section
variable {c : Instr} {s t : State} {P : State → Prop} {r : Applied} {key : Nat}

theorem State.powered_of_state {n : NodeState} (h : s.node.nodeState = n) (hn : n ≠ .off) : s.powered = true := by simp [State.powered, h, hn]

/-- A powered device answers with the effect of the command. -/
theorem Runs.of_powered (hc : exec c s = .next (s.onPower t)) (hs : s.powered = true) (h : P t) : Runs c s P :=
  ⟨t, by rw [hc, State.onPower_on s t hs], h⟩

theorem Runs.of_applied (hc : exec c s = .next (s.onPower (settle key 0 r))) (hs : s.powered = true) (hr : r = t.yes) (h : P t) : Runs c s P :=
  .of_powered hc hs (by rw [hr]; exact (settle_ok key 0 t).symm ▸ h)

end

/-! ### The making of a record (R300, R392, R401) -/

/-- What the making of a record leaves: the recorder and the counters have changed, and of the node no more than the markers of its runs. -/
structure Noted (s t : State) : Prop where
  node : t.node = { s.node with runs := t.node.runs }
  frame : SameBut [.recd, .evc, .node] s t

section
variable {s t u : State}

theorem Noted.refl (s : State) : Noted s s := ⟨rfl, .refl _ s⟩

theorem Noted.trans (h : Noted s t) (h' : Noted t u) : Noted s u := by
  refine ⟨?_, h.frame.trans h'.frame⟩
  have hu := h'.node
  rw [h.node] at hu
  exact hu

theorem Noted.of_sameBut {l : List Part} (h : SameBut l s t) (hl : .node ∉ l ∧ l ⊆ [.recd, .evc, .node]) : Noted s t := by
  refine ⟨?_, h.mono hl.2⟩
  have hn : t.node = s.node := h .node hl.1
  rw [hn]

theorem State.startRun_noted (s : State) (n : FaultName) (arg : Nat) : Noted s (s.startRun n arg) := by
  unfold State.startRun
  split
  · exact .refl s
  · exact ⟨rfl, by simp⟩

theorem State.endRun_noted (s : State) (n : FaultName) (arg : Nat) : Noted s (s.endRun n arg) := ⟨rfl, by simp⟩

theorem State.upRecd_noted (s : State) (f : Rec → Rec) : Noted s (s.upRecd f) := .of_sameBut (s.upRecd_sameBut f) (by decide)

theorem State.enterDen_noted (s : State) (n : Record) : Noted s (s.enterDen n) := by
  unfold State.enterDen
  extract_lets drops s1 d
  have h1 : Noted s s1 := (s.upRecd_noted _).trans (.of_sameBut (State.event_sameBut _ _ _) (by decide))
  split
  · split
    · exact h1
    · exact (h1.trans (s1.startRun_noted _ _)).trans (State.upRecd_noted _ _)
  · exact h1.trans (s1.endRun_noted _ _)

theorem State.record_noted (s : State) (typ unit : Nat) (cls : FClass) (pay : Nat) : Noted s (s.record typ unit cls pay) := s.enterDen_noted _

end

/-! ### Events of class F0 and refusals (R14, R69) -/

/-- An event of class F0 is recorded and has no action. -/
theorem State.raiseAll_f0_noted (s : State) {e : Ev} (hn : e.cls = none) (hc : e.name.clsIn s.node.role s.isActive = .f0)
    (hm : e.name ≠ .mediaFault) : Noted s (s.raiseAll [e]) := by
  have h0 : s.evClass e = .f0 := by simp [State.evClass, hn, State.faultClass, hc, FClass.code]
  have h : s.raiseAll [e] = s.record e.name.typ e.name.unit .f0 e.pay := by
    simp [State.raiseAll, State.topClass, sortEvs, insertEv, State.actOn, State.recordEv, h0, FClass.max, FClass.code, hm]
  exact h ▸ s.record_noted ..

theorem State.refuse_noted (s : State) (status key jsn : Nat) : Noted (s.countRefusal status key) (s.refuse status key jsn) :=
  (s.countRefusal status key).raiseAll_f0_noted rfl rfl nofun

/-- A refusal by the target is counted, latched and recorded, and nothing more. -/
theorem State.refuse_refused (s : State) (st : Status) (key jsn : Nat) : Refused st key s (s.refuse st.code key jsn) := by
  obtain ⟨node, frame⟩ := s.refuse_noted st.code key jsn
  exact ⟨frame .dict (by decide), node, ((s.countRefusal_sameBut _ _).mono (by decide)).trans (frame.mono (by decide))⟩

theorem Runs.of_refused {c : Instr} {s : State} {r : Applied} {key : Nat} {st : Status} (hc : exec c s = .next (s.onPower (settle key 0 r)))
    (hs : s.powered = true) (hr : r = s.no st) (hst : st ≠ .ok) : Runs c s (Refused st key s) :=
  .of_powered hc hs (by rw [hr, State.no, settle_no key 0 st s hst]; exact s.refuse_refused st key 0)

/-- A refused release of the SPB latch counts at the island, and makes its F0 record (R351). -/
theorem State.releaseRefused_noted (s : State) :
    Noted (s.upSel fun l => { l with refused := satAdd 32 l.refused 1 }) s.releaseRefused :=
  State.raiseAll_f0_noted _ rfl rfl nofun

/-- A command that is refused because the release is: both counts rise. -/
theorem Runs.of_releaseRefused {c : Instr} {s : State} {r : Applied} {key : Nat} {P : State → Prop}
    (hc : exec c s = .next (s.onPower (settle key 0 r))) (hs : s.powered = true) (hr : r = (.refused, s.releaseRefused))
    (h : ∀ t : State, t.sel = { s.sel with refused := satAdd 32 s.sel.refused 1 } → t.node = { s.node with runs := t.node.runs } →
      t.dict = { s.dict with refusedCount := satAdd 32 s.dict.refusedCount 1, lastRefusal := Status.refused.code * 2 ^ 24 + key % 2 ^ 24 } →
      SameBut [.node, .sel, .dict, .recd, .evc] s t → P t) : Runs c s P := by
  refine .of_powered hc hs ?_
  rw [hr, settle_no key 0 _ _ (by decide)]
  obtain ⟨rnode, rframe⟩ := s.releaseRefused_noted
  obtain ⟨dict, node, frame⟩ := s.releaseRefused.refuse_refused .refused key 0
  refine h _ ?_ ?_ ?_ ?_
  · exact (frame .sel (by decide)).trans (rframe .sel (by decide))
  · rw [rnode] at node
    exact node
  · have hd : s.releaseRefused.dict = s.dict := rframe .dict (by decide)
    rw [hd] at dict
    exact dict
  · exact (((s.upSel_sameBut _).mono (by decide)).trans (rframe.mono (by decide))).trans (frame.mono (by decide))

end Sys2Proof.Machine
end

section
namespace Sys2Proof.Machine

/-! ### ENABLE and DEBLOCK (R10, R29, R41, R351) -/

section
variable {s : State}

/-- The state in which the SPB latch has been released (R351). -/
def State.released (s : State) : State := s.upSel fun l => { l with spb := false, causes := 0, powerUpDone := true }

theorem State.releaseSpb_of_ok (h : s.releaseOk = true) : s.releaseSpb = some s.released := by simp [State.releaseSpb, State.released, h]

theorem State.releaseSpb_of_not_ok (h : s.releaseOk = false) : s.releaseSpb = none := by simp [State.releaseSpb, h]

/-- The faults that an ENABLE finds in the Gate mode and the converters (R153, R188). -/
def State.unfitEvs (s : State) : List Ev :=
  (if s.modeMismatch then [{ name := .gateModeMismatch }] else []) ++ (if s.isCell && !s.adcReadyForEnable then [{ name := .adcConfig }] else [])

/-- Neither the Gate mode nor the converters stand against SERVICE. -/
structure State.Fit (s : State) : Prop where
  mode : s.modeMismatch = false
  adc : s.isCell = true → s.adcReadyForEnable = true

theorem State.Fit.adc_fit (h : s.Fit) : (s.isCell && !s.adcReadyForEnable) = false := by
  cases hc : s.isCell
  · rfl
  · simp [h.adc hc]

theorem State.applyEnable_elsewhere (h : s.node.nodeState ≠ .ready) : s.applyEnable = s.no .state := by simp [State.applyEnable, h]

theorem State.applyEnable_unfit (h : s.node.nodeState = .ready) (hu : s.modeMismatch = true ∨ (s.isCell = true ∧ s.adcReadyForEnable = false)) :
    s.applyEnable = (.refused, s.raiseAll s.unfitEvs) := by
  have : (s.modeMismatch || (s.isCell && !s.adcReadyForEnable)) = true := by
    obtain hm | ⟨hc, ha⟩ := hu <;> simp [*]
  simp [State.applyEnable, h, this, State.unfitEvs]

theorem State.applyEnable_unlatched (h : s.node.nodeState = .ready) (hf : s.Fit) (hl : s.sel.spb = false) :
    s.applyEnable = if s.r10 then s.toService.commanded 1 else s.no .refused := by
  simp [State.applyEnable, h, hf.mode, hf.adc_fit, hl]

theorem State.applyEnable_releasing (h : s.node.nodeState = .ready) (hf : s.Fit) (hl : s.sel.spb = true) (hr : s.releaseOk = true) :
    s.applyEnable = if s.r10 then s.released.toService.commanded 1 else s.no .refused := by
  simp [State.applyEnable, h, hf.mode, hf.adc_fit, hl, State.releaseSpb_of_ok hr]

theorem State.applyEnable_held (h : s.node.nodeState = .ready) (hf : s.Fit) (hl : s.sel.spb = true) (hr : s.releaseOk = false) :
    s.applyEnable = (.refused, s.releaseRefused) := by
  simp [State.applyEnable, h, hf.mode, hf.adc_fit, hl, State.releaseSpb_of_not_ok hr]

/-- With R10 not met and the latch released or releasable ENABLE is refused. -/
theorem State.applyEnable_not_r10 (h : s.node.nodeState = .ready) (hf : s.Fit) (hl : s.sel.spb = false ∨ s.releaseOk = true) (hr : s.r10 = false) :
    s.applyEnable = s.no .refused := by
  cases hs : s.sel.spb with
  | false => simp [State.applyEnable_unlatched h hf hs, hr]
  | true => simp [State.applyEnable_releasing h hf hs (hl.resolve_left (by simp [hs])), hr]

theorem State.applyDeblock_elsewhere (h : s.node.nodeState ≠ .block) : s.applyDeblock = s.no .state := by simp [State.applyDeblock, h]

theorem State.applyDeblock_releasing (h : s.node.nodeState = .block) (hr : s.releaseOk = true) :
    s.applyDeblock = if s.r10 then s.released.toReady.commanded 3 else s.no .refused := by
  simp [State.applyDeblock, h, State.releaseSpb_of_ok hr]

theorem State.applyDeblock_held (h : s.node.nodeState = .block) (hr : s.releaseOk = false) : s.applyDeblock = (.refused, s.releaseRefused) := by
  simp [State.applyDeblock, h, State.releaseSpb_of_not_ok hr]

end

/-! ### Faults found by ENABLE (R14, R394) -/

theorem mem_insertEv {e x : Ev} {l : List Ev} : e ∈ insertEv x l ↔ e = x ∨ e ∈ l := by
  induction l with
  | nil => simp [insertEv]
  | cons y l ih =>
    rw [insertEv]
    split
    · simp
    · simp [ih, or_left_comm]

/-- Putting the faults of a step in order loses none. -/
theorem mem_sortEvs {e : Ev} {l : List Ev} : e ∈ sortEvs l ↔ e ∈ l := by
  induction l with
  | nil => simp [sortEvs]
  | cons x l ih => exact mem_insertEv.trans (by rw [← sortEvs, ih, List.mem_cons])

/-- A fault of this name is attributed to the node (R10). -/
def Node.hasFault (n : Node) (f : FaultName) : Prop := ∃ x ∈ n.faults, x.name = f

section
variable {s : State} {e : Ev} {f : FaultName} {l : List Ev}

/-- The faults of a node after one has been recorded: from F2 on it stands among them, in place of an older one of its own. -/
def Node.faultsAfter (n : Node) (e : Ev) (c : FClass) : List ActiveFault :=
  if 2 ≤ c.code then ⟨e.name, c, e.arg⟩ :: n.faults.filter (fun x => x.name != e.name || x.arg != e.arg) else n.faults

/-- Of the node a fault's record changes no more than the markers of runs and the list of its faults. -/
theorem State.recordEv_node (s : State) (e : Ev) :
    ∃ r, (s.recordEv e).node = { s.node with runs := r, faults := s.node.faultsAfter e (s.evClass e) } := by
  unfold State.recordEv
  extract_lets c rsn s1 s2
  obtain ⟨r, hr⟩ : ∃ r, s1.node = { s.node with runs := r } := ⟨_, (s.record_noted e.name.typ e.name.unit c e.pay).node⟩
  have h2 : s2.node = { s.node with runs := r, faults := s.node.faultsAfter e c } := by
    unfold Node.faultsAfter
    by_cases hc : 2 ≤ c.code <;> simp [s2, hc, hr]
  refine ⟨r, ?_⟩
  split <;> exact h2

/-- The record of a fault leaves those of other names, and one of its own name. -/
theorem State.recordEv_hasFault (e : Ev) (h : s.node.hasFault f) : (s.recordEv e).node.hasFault f := by
  obtain ⟨r, hn⟩ := s.recordEv_node e
  obtain ⟨x, hx, rfl⟩ := h
  rw [hn]
  unfold Node.hasFault Node.faultsAfter
  by_cases hf : x.name = e.name
  · split
    · exact ⟨_, List.mem_cons_self, hf.symm⟩
    · exact ⟨x, hx, rfl⟩
  · split
    · exact ⟨x, List.mem_cons_of_mem _ (List.mem_filter.mpr ⟨hx, by simp [hf]⟩), rfl⟩
    · exact ⟨x, hx, rfl⟩

theorem State.recordEv_hasOwn (h : 2 ≤ (s.evClass e).code) : (s.recordEv e).node.hasFault e.name := by
  obtain ⟨r, hn⟩ := s.recordEv_node e
  rw [hn]
  exact ⟨⟨e.name, s.evClass e, e.arg⟩, by simp [Node.faultsAfter, h], rfl⟩

/-- The records of a step leave the node in its state and its role. -/
theorem State.recordEvs_state (s : State) (l : List Ev) :
    (l.foldl State.recordEv s).node.nodeState = s.node.nodeState ∧ (l.foldl State.recordEv s).node.role = s.node.role := by
  induction l generalizing s with
  | nil => exact ⟨rfl, rfl⟩
  | cons e l ih =>
    obtain ⟨r, hn⟩ := s.recordEv_node e
    simpa [hn] using ih (s.recordEv e)

theorem State.recordEvs_hasFault (l : List Ev) (h : s.node.hasFault f) : (l.foldl State.recordEv s).node.hasFault f := by
  induction l generalizing s with
  | nil => exact h
  | cons e l ih => exact ih (State.recordEv_hasFault e h)

/-- What is a fault of the node in every state stands among its faults once the step's faults have been recorded. -/
theorem State.recordEvs_hasOwn (he : e ∈ l) (hc : ∀ u : State, 2 ≤ (u.evClass e).code) : (l.foldl State.recordEv s).node.hasFault e.name := by
  induction l generalizing s with
  | nil => cases he
  | cons x l ih =>
    obtain rfl | he := List.mem_cons.mp he
    · exact State.recordEvs_hasFault l (State.recordEv_hasOwn (hc s))
    · exact ih he

/-- Outside a pair a check of the health changes no more than what the journal unit notes of it. -/
theorem State.healthCheck_of_not_member (h : s.isMember = false) : SameBut [.jrn] s s.healthCheck := by
  have h1 : ∀ f, (s.upJrn f).isMember = false := fun _ => h
  unfold State.healthCheck
  dsimp only
  split <;> simp [h, h1]

/-- F2 faults outside a pair none of which asks for BLOCK: their records, and the check of the health. -/
theorem State.raiseAll_f2_of_not_member (hm : s.isMember = false) (ht : s.topClass l = .f2) (hb : ∀ e ∈ l, e.name.blocks s.isCell = false) :
    s.raiseAll l = ((sortEvs l).foldl State.recordEv s).healthCheck := by
  obtain ⟨-, hr⟩ := s.recordEvs_state (sortEvs l)
  have hm' : ((sortEvs l).foldl State.recordEv s).isMember = false := by
    simpa [State.isMember, State.isArm, State.isStation, hr] using hm
  have hb' : l.any (fun e => e.name.blocks ((sortEvs l).foldl State.recordEv s).isCell) = false := by
    simpa [State.isCell, hr] using hb
  simp [State.raiseAll, ht, State.actOn, hb', hm', FClass.code]

theorem State.faultClass_f2 (s : State) (h : f.clsIn s.node.role s.isActive = .f2) : s.faultClass f = .f2 := by
  simp [State.faultClass, h, FClass.code]

/-- What ENABLE finds wrong are F2 faults of the Gate mode or of the converters. -/
theorem State.mem_unfitEvs (he : e ∈ s.unfitEvs) : e = { name := .gateModeMismatch } ∨ e = { name := .adcConfig } := by
  unfold State.unfitEvs at he
  obtain he | he := List.mem_append.mp he
  all_goals split at he
  · exact .inl (List.mem_singleton.mp he)
  · cases he
  · exact .inr (List.mem_singleton.mp he)
  · cases he

theorem State.unfitEvs_f2 (he : e ∈ s.unfitEvs) (u : State) : u.evClass e = .f2 := by
  obtain rfl | rfl := State.mem_unfitEvs he <;> exact u.faultClass_f2 rfl

theorem State.unfitEvs_blocks (he : e ∈ s.unfitEvs) (b : Bool) : e.name.blocks b = false := by
  obtain rfl | rfl := State.mem_unfitEvs he <;> rfl

end

/-- The top class of faults that are all F2 is F2. -/
theorem State.topClass_f2 {s : State} {l : List Ev} (hl : l ≠ []) (h : ∀ e ∈ l, s.evClass e = .f2) : s.topClass l = .f2 := by
  have rest : ∀ l : List Ev, (∀ e ∈ l, s.evClass e = .f2) → l.foldl (fun (c : FClass) e => c.max (s.evClass e)) FClass.f2 = FClass.f2 := by
    intro l hl
    induction l with
    | nil => rfl
    | cons e l ih =>
      rw [List.foldl_cons, hl e List.mem_cons_self]
      exact ih fun x hx => hl x (List.mem_cons_of_mem e hx)
  cases l with
  | nil => exact absurd rfl hl
  | cons e l =>
    rw [State.topClass, List.foldl_cons, h e List.mem_cons_self]
    exact rest l fun x hx => h x (List.mem_cons_of_mem e hx)

/-- A cell in READY that an ENABLE finds unfit for SERVICE: its faults stand, and it is in READY still. -/
theorem State.raiseUnfit {s : State} (h : s.node.nodeState = .ready) (hu : s.modeMismatch = true ∨ (s.isCell = true ∧ s.adcReadyForEnable = false)) :
    (s.raiseAll s.unfitEvs).node.nodeState = .ready ∧ (s.raiseAll s.unfitEvs).dict = s.dict
      ∧ ((s.raiseAll s.unfitEvs).node.hasFault .gateModeMismatch ∨ (s.raiseAll s.unfitEvs).node.hasFault .adcConfig) := by
  have hcell : s.isCell = true := by
    obtain hm | ⟨hc, -⟩ := hu
    · exact (Bool.and_eq_true_iff.mp hm).1
    · exact hc
  have hmem : s.isMember = false := by
    have hr : s.node.role = .cell := by simpa [State.isCell] using hcell
    simp [State.isMember, State.isArm, State.isStation, hr]
  obtain ⟨e, he⟩ : ∃ e, e ∈ s.unfitEvs := by
    obtain hm | ⟨-, ha⟩ := hu
    · exact ⟨{ name := .gateModeMismatch }, by simp [State.unfitEvs, hm]⟩
    · exact ⟨{ name := .adcConfig }, by simp [State.unfitEvs, hcell, ha]⟩
  have hraise := State.raiseAll_f2_of_not_member hmem (State.topClass_f2 (List.ne_nil_of_mem he) fun x hx => State.unfitEvs_f2 hx s)
    fun x hx => State.unfitEvs_blocks hx _
  obtain ⟨hstate, hrole⟩ := s.recordEvs_state (sortEvs s.unfitEvs)
  have hmem' : ((sortEvs s.unfitEvs).foldl State.recordEv s).isMember = false := by
    simpa [State.isMember, State.isArm, State.isStation, hrole] using hmem
  have frame := State.healthCheck_of_not_member hmem'
  have hnode : (s.raiseAll s.unfitEvs).node = ((sortEvs s.unfitEvs).foldl State.recordEv s).node := hraise ▸ frame .node (by decide)
  have own := State.recordEvs_hasOwn (s := s) (mem_sortEvs.mpr he) fun u => by rw [State.unfitEvs_f2 he u]; decide
  rw [hnode]
  refine ⟨hstate.trans h, ?_, ?_⟩
  · have hd : SameBut [.link, .recd, .evc, .node] s ((sortEvs s.unfitEvs).foldl State.recordEv s) := .foldl (fun t e => t.recordEv_sameBut e) _ _
    exact hraise ▸ (frame .dict (by decide)).trans (hd .dict (by decide))
  · obtain rfl | rfl := State.mem_unfitEvs he
    · exact .inl own
    · exact .inr own

/-! ### The SPB latch and the entry into BLOCK (R29, R163, R348) -/

theorem bitOf_add_two_pow {v i : Nat} (h : bitOf v i = false) : bitOf (v + 2 ^ i) i = true := by
  have h2 : v / 2 ^ i % 2 ≠ 1 := by simpa [bitOf] using h
  have h3 : (v + 2 ^ i) / 2 ^ i = v / 2 ^ i + 1 := Nat.add_div_right v (Nat.two_pow_pos i)
  simp only [bitOf, h3, beq_iff_eq]
  omega

/-- The latch of a cause, with the cause among those that stand. -/
def Selvedge.latched (l : Selvedge) (i : Nat) : Selvedge := { l with causes := if bitOf l.causes i then l.causes else l.causes + 2 ^ i, spb := true }

theorem Selvedge.latched_causes (l : Selvedge) (i : Nat) : bitOf (l.latched i).causes i = true := by
  unfold Selvedge.latched
  cases h : bitOf l.causes i
  · simpa [h] using bitOf_add_two_pow h
  · simp [h]

section
variable {s : State}

/-- A cause first sets the latch, with the force line where it was clear; the move to BLOCK comes after. -/
theorem State.setCause_eq (s : State) (i : Nat) :
    ∃ u : State, s.setCause i = u.toBlock ∧ u.sel = s.sel.latched i ∧ SameBut [.sel, .gate, .evc] s u := by
  refine ⟨_, rfl, ?_, ?_⟩
  · split
    · rfl
    · exact State.assertForce_sameBut _ .sel (by decide)
  · split <;> simp

theorem State.setCause_sel (s : State) (i : Nat) : (s.setCause i).sel = s.sel.latched i := by
  obtain ⟨u, hu, hsel, -⟩ := s.setCause_eq i
  rw [hu]
  exact (u.toBlock_sameBut .sel (by decide)).trans hsel

/-- The safe pattern leaves each switch off and both legs open (R163). -/
theorem Gate.force_off (g : Gate) (now : Nat) :
    ((g.force now).sw.all fun w => !w.on) = true ∧ (g.force now).leg1 = .openLeg ∧ (g.force now).leg2 = .openLeg :=
  ⟨by simp [Gate.force, Switch.force], rfl, rfl⟩

/-- The node in BLOCK, as it comes from READY, SERVICE or HOLD (R29, R37). -/
def State.blockedNode (s : State) : Node :=
  { s.node with nodeState := .block, orphanBypassDue := s.node.orphan == .localOrphan, orphanDueK := s.followingCycle }

theorem State.toBlock_serving (h : s.node.nodeState = .ready ∨ s.node.nodeState = .service ∨ s.node.nodeState = .hold) :
    s.toBlock = (s.upNode fun _ => s.blockedNode).safePattern := by
  obtain h | h | h := h <;> simp only [State.toBlock, h] <;> rfl

theorem State.toBlock_elsewhere (h : s.node.nodeState ≠ .ready ∧ s.node.nodeState ≠ .service ∧ s.node.nodeState ≠ .hold) : s.toBlock = s := by
  obtain ⟨hr, hs, hh⟩ := h
  unfold State.toBlock
  split
  case h_1 x => exact absurd x hr
  case h_2 x => exact absurd x hs
  case h_3 x => exact absurd x hh
  all_goals rfl

/-- The cycle that follows depends on the node, its Weft and its time alone. -/
theorem State.followingCycle_eq {s u : State} (h : SameBut [.sel, .gate, .evc] s u) : u.followingCycle = s.followingCycle := by
  have hn : u.node = s.node := h .node (by decide)
  have hw : u.weft = s.weft := h .weft (by decide)
  have ht : u.tb = s.tb := h .tb (by decide)
  simp [State.followingCycle, State.cycleNow, hn, hw, ht]

/-- In READY, SERVICE or HOLD a cause moves the node to BLOCK, and the bridge is off. -/
theorem State.setCause_serving (i : Nat) (h : s.node.nodeState = .ready ∨ s.node.nodeState = .service ∨ s.node.nodeState = .hold) :
    (s.setCause i).node = s.blockedNode ∧ ∃ g : Gate, (s.setCause i).gate = g.force s.tb.taps := by
  obtain ⟨u, hu, -, frame⟩ := s.setCause_eq i
  have hn : u.node = s.node := frame .node (by decide)
  have ht : u.tb = s.tb := frame .tb (by decide)
  rw [hu, State.toBlock_serving (hn ▸ h)]
  refine ⟨?_, u.gate, ht ▸ rfl⟩
  show u.blockedNode = s.blockedNode
  rw [State.blockedNode, State.followingCycle_eq frame, hn, State.blockedNode]

/-- In any other state the cause is latched, and the node stays where it is. -/
theorem State.setCause_elsewhere (i : Nat) (h : s.node.nodeState ≠ .ready ∧ s.node.nodeState ≠ .service ∧ s.node.nodeState ≠ .hold) :
    (s.setCause i).node = s.node := by
  obtain ⟨u, hu, -, frame⟩ := s.setCause_eq i
  have hn : u.node = s.node := frame .node (by decide)
  rw [hu, State.toBlock_elsewhere (hn ▸ h), hn]

theorem State.setCause_faults (s : State) (i : Nat) : (s.setCause i).node.faults = s.node.faults := by
  by_cases h : s.node.nodeState = .ready ∨ s.node.nodeState = .service ∨ s.node.nodeState = .hold
  · rw [(State.setCause_serving i h).1, State.blockedNode]
  · rw [State.setCause_elsewhere i (by simpa only [not_or] using h)]

end

/-! ### TRIP_RESET (R17, R41, R368) -/

section
variable {s : State}

theorem State.endCause_f4Req (s : State) (i : Nat) : (s.endCause i).sel.f4Req = s.sel.f4Req := by
  unfold State.endCause
  split
  · rw [State.upSel_sel]
  · rfl

/-- Bringing the trip in step leaves the node and firmware's request alone, but where a STATION's trip begins: it is cause 13. -/
theorem State.tripUpdate_cases (s : State) :
    (s.tripUpdate.node = s.node ∧ s.tripUpdate.sel.f4Req = s.sel.f4Req)
      ∨ (s.isStation = true ∧ ∃ u : State, s.tripUpdate = u.setCause 13 ∧ u.node = s.node ∧ u.sel.f4Req = s.sel.f4Req) := by
  unfold State.tripUpdate
  extract_lets want s1 s2 s1'
  have h1 : SameBut [.sel] s s1' := by simp [s1']
  have h1f : s1'.sel.f4Req = s.sel.f4Req := State.endCause_f4Req _ 13
  split
  case isTrue hw =>
    have hs : s.isStation = true := by
      simp only [want, State.tripWanted, Bool.and_eq_true] at hw
      exact hw.1.1
    have hb := s2.setBlkOut_sameBut true
    have hf : (s2.setBlkOut true).sel.f4Req = s2.sel.f4Req := congrArg Selvedge.f4Req (hb .sel (by decide))
    exact .inr ⟨hs, _, rfl, hb .node (by decide), hf⟩
  case isFalse =>
    refine .inl ?_
    split
    · split
      · have hb := State.setBlkOut_sameBut (s1'.upLink fun l => { l with blkOrig := false }) false
        have hf : _ = s1'.sel.f4Req := congrArg Selvedge.f4Req (hb .sel (by decide))
        exact ⟨(hb .node (by decide)).trans (h1 .node (by decide)), hf.trans h1f⟩
      · exact ⟨h1 .node (by decide), h1f⟩
    · exact ⟨rfl, rfl⟩

theorem State.tripUpdate_f4Req (s : State) : s.tripUpdate.sel.f4Req = s.sel.f4Req := by
  obtain ⟨-, hf⟩ | ⟨-, u, hu, -, hf⟩ := s.tripUpdate_cases
  · exact hf
  · rw [hu, State.setCause_sel]
    exact hf

theorem State.tripUpdate_faults (s : State) : s.tripUpdate.node.faults = s.node.faults := by
  obtain ⟨hn, -⟩ | ⟨-, u, hu, hn, -⟩ := s.tripUpdate_cases
  · rw [hn]
  · rw [hu, State.setCause_faults, hn]

theorem State.tripUpdate_node (h : s.isStation = false) : s.tripUpdate.node = s.node := by
  obtain ⟨hn, -⟩ | ⟨hs, -⟩ := s.tripUpdate_cases
  · exact hn
  · simp [h] at hs

/-- A check of the health leaves a member in its pair state, or makes it UNHEALTHY. -/
theorem State.healthCheck_pstate (s : State) : s.healthCheck.jrn.pstate = s.jrn.pstate ∨ s.healthCheck.jrn.pstate = .unhealthy := by
  have hend : ∀ u : State, u.endSessions.jrn = u.jrn := fun u => u.endSessions_sameBut .jrn (by decide)
  unfold State.healthCheck
  extract_lets h s1
  have h1 : s1.jrn.pstate = s.jrn.pstate := by
    simp only [s1]
    split <;> rfl
  split
  · exact .inr (by rw [hend]; rfl)
  · exact .inl h1

/-- After the reset of all faults firmware asks for no trip, no member is YIELDED, and outside a STATION the node is as it was. -/
theorem State.tripCleared_effect (s : State) :
    s.tripCleared.sel.f4Req = false ∧ s.tripCleared.node.faults = s.node.faults ∧ (s.isStation = false → s.tripCleared.node = s.node)
      ∧ s.tripCleared.jrn.pstate ≠ .yielded ∧ SameBut [.node, .sel, .link, .gate, .evc, .jrn, .dict] s s.tripCleared := by
  unfold State.tripCleared
  extract_lets s1 s2
  have h2 : SameBut [.jrn] s1 s2 := by
    simp only [s2]
    split <;> simp
  have h2n : s2.jrn.pstate ≠ .yielded := by
    simp only [s2]
    split <;> simp_all
  have hn : s2.healthCheck.node = s1.node := (s2.healthCheck_sameBut .node (by decide)).trans (h2 .node (by decide))
  have hl : s2.healthCheck.sel = s1.sel := (s2.healthCheck_sameBut .sel (by decide)).trans (h2 .sel (by decide))
  rw [hn, hl]
  refine ⟨State.tripUpdate_f4Req _, State.tripUpdate_faults _, fun hs => State.tripUpdate_node hs, ?_, ?_⟩
  · obtain h | h := s2.healthCheck_pstate
    · exact h ▸ h2n
    · simp [h]
  · refine SameBut.trans ?_ (s2.healthCheck_sameBut.mono (by decide))
    exact SameBut.trans (by simp [s1]) (h2.mono (by decide))

theorem State.clearFaults_ended (h : ∀ f ∈ s.node.faults, s.causeActive f = false) : s.clearFaults.node.faults = [] :=
  List.filter_eq_nil_iff.mpr fun f hf => by simp [h f hf]

theorem State.applyTripReset_ended (h : ∀ f ∈ s.node.faults, s.causeActive f = false) : s.applyTripReset = s.clearFaults.tripCleared.commanded 4 := by
  simp [State.applyTripReset, State.clearFaults_ended h]

theorem State.applyTripReset_active (h : ∃ f ∈ s.node.faults, s.causeActive f = true) :
    s.applyTripReset = (.refused, s.clearFaults.upNode fun n => { n with tripRefusals := n.tripRefusals + 1 }) := by
  obtain ⟨f, hf, ha⟩ := h
  have : s.clearFaults.node.faults ≠ [] := List.ne_nil_of_mem (List.mem_filter.mpr ⟨hf, ha⟩)
  simp [State.applyTripReset, this]

end

/-! ### The commands of NODE_COMMAND (R41) -/

section
variable {s : State}

theorem runs_enable_service (hs : s.node.nodeState = .ready) (hf : s.Fit) (hr : s.r10 = true) (hl : s.sel.spb = false ∨ s.releaseOk = true) :
    Runs .enable s fun t => t.node = { s.node with nodeState := .service, holdCount := 0, lastCommand := 1 }
      ∧ t.gate = { s.gate with zeroTop := true }
      ∧ t.sel = (if s.sel.spb then { s.sel with spb := false, causes := 0, powerUpDone := true } else s.sel)
      ∧ t.jrn = { s.jrn with activeFrom := t.jrn.activeFrom } ∧ SameBut [.node, .gate, .sel, .jrn] s t := by
  have hp := State.powered_of_state hs (by decide)
  cases hspb : s.sel.spb with
  | false =>
    refine .of_applied rfl hp ((State.applyEnable_unlatched hs hf hspb).trans (if_pos hr)) ⟨rfl, rfl, rfl, rfl, ?_⟩
    simp [State.toService]
  | true =>
    have hok := hl.resolve_left (by simp [hspb])
    refine .of_applied rfl hp ((State.applyEnable_releasing hs hf hspb hok).trans (if_pos hr)) ⟨rfl, rfl, rfl, rfl, ?_⟩
    simp [State.toService, State.released]

theorem runs_enable_unfit (hs : s.node.nodeState = .ready) (hu : s.modeMismatch = true ∨ (s.isCell = true ∧ s.adcReadyForEnable = false)) :
    Runs .enable s fun t => t.dict.refusedCount = satAdd 32 s.dict.refusedCount 1 ∧ t.node.nodeState ≠ .service
      ∧ (t.node.faults.any fun x => x.name == .gateModeMismatch || x.name == .adcConfig) = true ∧ SameBut faultParts s t := by
  obtain ⟨hstate, hdict, hfault⟩ := State.raiseUnfit hs hu
  refine .of_powered rfl (State.powered_of_state hs (by decide)) ?_
  rw [State.applyEnable_unfit hs hu, settle_no _ _ _ _ (by decide)]
  obtain ⟨dict, node, frame⟩ := (s.raiseAll s.unfitEvs).refuse_refused .refused Obj.NODE_COMMAND 0
  rw [node, dict, hdict]
  refine ⟨rfl, ?_, ?_, (s.raiseAll_sameBut _).trans (frame.mono (by decide))⟩
  · simp [hstate]
  · obtain ⟨x, hx, hn⟩ | ⟨x, hx, hn⟩ := hfault <;> exact List.any_eq_true.mpr ⟨x, hx, by simp [hn]⟩

/-- BLOCK of a node that neither stands in BLOCK nor in BYPASS is the request of firmware, cause 11. -/
theorem State.applyBlock_request (h : s.node.nodeState ≠ .block ∧ s.node.nodeState ≠ .bypass) :
    s.applyBlock = (s.setCause 11).commanded 2 := by
  obtain ⟨hb, hy⟩ := h
  unfold State.applyBlock
  split
  case h_1 x => exact absurd x hy
  case h_2 x => exact absurd x hb
  all_goals rfl

theorem runs_block_serving (h : s.node.nodeState = .ready ∨ s.node.nodeState = .service ∨ s.node.nodeState = .hold) :
    Runs .block s fun t => t.node = { s.node with
        nodeState := .block, lastCommand := 2, orphanBypassDue := (s.node.orphan == .localOrphan), orphanDueK := s.followingCycle }
      ∧ t.sel.spb = true ∧ bitOf t.sel.causes 11 = true ∧ (t.gate.sw.all fun w => !w.on) = true ∧ t.gate.leg1 = .openLeg
      ∧ t.gate.leg2 = .openLeg ∧ SameBut [.node, .sel, .gate, .evc] s t := by
  obtain ⟨hnode, g, hgate⟩ := State.setCause_serving 11 h
  obtain ⟨hoff, hleg1, hleg2⟩ := g.force_off s.tb.taps
  have hp : s.powered = true := by obtain h | h | h := h <;> exact State.powered_of_state h (by decide)
  have hb : s.node.nodeState ≠ .block ∧ s.node.nodeState ≠ .bypass := by obtain h | h | h := h <;> simp [h]
  refine .of_applied rfl hp (State.applyBlock_request hb) ⟨?_, ?_, ?_, ?_, ?_, ?_, by simp⟩
  · simp [hnode, State.blockedNode]
  · simp [State.setCause_sel, Selvedge.latched]
  · simp [State.setCause_sel, Selvedge.latched_causes]
  · simpa [hgate] using hoff
  · simpa [hgate] using hleg1
  · simpa [hgate] using hleg2

theorem runs_block_before_ready (h : s.node.nodeState = .boot ∨ s.node.nodeState = .join) :
    Runs .block s fun t => t.node = { s.node with lastCommand := 2 } ∧ t.sel.spb = true ∧ bitOf t.sel.causes 11 = true
      ∧ SameBut [.node, .sel, .gate, .evc] s t := by
  have hp : s.powered = true := by obtain h | h := h <;> exact State.powered_of_state h (by decide)
  have hb : s.node.nodeState ≠ .block ∧ s.node.nodeState ≠ .bypass := by obtain h | h := h <;> simp [h]
  have hnode : (s.setCause 11).node = s.node := State.setCause_elsewhere 11 (by obtain h | h := h <;> simp [h])
  refine .of_applied rfl hp (State.applyBlock_request hb) ⟨?_, ?_, ?_, by simp⟩
  · simp [hnode]
  · simp [State.setCause_sel, Selvedge.latched]
  · simp [State.setCause_sel, Selvedge.latched_causes]

/-- In BLOCK the command is noted and does nothing more. -/
theorem exec_block_in_block (hs : s.node.nodeState = .block) : exec .block s = .next { s with node := { s.node with lastCommand := 2 } } := by
  have happ : s.applyBlock = s.commanded 2 := by simp [State.applyBlock, hs]
  show Host.Outcome.next (s.onPower (settle Obj.NODE_COMMAND 0 s.applyBlock)) = _
  rw [State.onPower_on _ _ (State.powered_of_state hs (by decide)), happ]
  rfl

theorem runs_deblock_ready (hs : s.node.nodeState = .block) (hr : s.r10 = true) (hok : s.releaseOk = true) :
    Runs .deblock s fun t => t.node = { s.node with
        nodeState := .ready, holdCount := 0, orphanBypassDue := false, armBlocked := false, lastCommand := 3 }
      ∧ t.sel = { s.sel with spb := false, causes := 0, powerUpDone := true } ∧ SameBut [.node, .sel] s t := by
  refine .of_applied rfl (State.powered_of_state hs (by decide)) ((State.applyDeblock_releasing hs hok).trans (if_pos hr)) ⟨rfl, rfl, ?_⟩
  simp [State.toReady, State.released]

theorem runs_tripReset_ended (hp : s.powered = true) (hf : ∀ f ∈ s.node.faults, s.causeActive f = false) :
    Runs .tripReset s fun t => t.node.faults = [] ∧ t.node.lastCommand = 4 ∧ t.sel.f4Req = false
      ∧ (s.isStation = false → t.node = { s.node with faults := [], lastCommand := 4 }) ∧ t.jrn.pstate ≠ .yielded
      ∧ SameBut [.node, .sel, .link, .gate, .evc, .jrn, .dict] s t := by
  have happ := State.applyTripReset_ended hf
  have hclear : s.clearFaults.node = { s.node with faults := [] } := congrArg (fun l => { s.node with faults := l }) (State.clearFaults_ended hf)
  obtain ⟨hreq, hfaults, hnode, hpair, frame⟩ := s.clearFaults.tripCleared_effect
  generalize s.clearFaults.tripCleared = u at happ hreq hfaults hnode hpair frame
  refine .of_applied rfl hp happ ⟨?_, rfl, hreq, fun hs => ?_, hpair, ?_⟩
  · exact hfaults.trans (congrArg Node.faults hclear)
  · simp [hnode hs, hclear]
  · exact (SameBut.upNode _ (by decide)).mpr (SameBut.trans (by simp [State.clearFaults]) frame)

theorem runs_tripReset_active (hp : s.powered = true) (hf : ∃ f ∈ s.node.faults, s.causeActive f = true) :
    Runs .tripReset s fun t => t.node.faults = s.node.faults.filter s.causeActive ∧ t.node.tripRefusals = s.node.tripRefusals + 1
      ∧ t.node.nodeState = s.node.nodeState ∧ t.dict.refusedCount = satAdd 32 s.dict.refusedCount 1 ∧ SameBut [.node, .dict, .recd, .evc] s t := by
  refine .of_powered rfl hp ?_
  rw [State.applyTripReset_active hf, settle_no _ _ _ _ (by decide)]
  generalize hu : (s.clearFaults.upNode fun n => { n with tripRefusals := n.tripRefusals + 1 }) = u
  obtain ⟨dict, node, frame⟩ := u.refuse_refused .refused Obj.NODE_COMMAND 0
  rw [node, dict]
  subst hu
  exact ⟨rfl, rfl, rfl, rfl, SameBut.trans (by simp [State.clearFaults]) (frame.mono (by decide))⟩

end

/-- Settles O5: what each of the four commands does where it is applied, and which check of R41 refuses it where it is not. -/
theorem nodeCommandsMoveTheNode : Obligations.NodeCommandsMoveTheNode := by
  have ready {s : State} (h : s.node.nodeState = .ready) : s.powered = true := State.powered_of_state h (by decide)
  have block {s : State} (h : s.node.nodeState = .block) : s.powered = true := State.powered_of_state h (by decide)
  refine ⟨?_, ?_, ?_, ?_, ?_, ?_, ?_, ?_, ?_, ?_, ?_, ?_, ?_, ?_, ?_, ?_⟩
  · exact fun s hs hm ha hr hl => runs_enable_service hs ⟨hm, ha⟩ hr hl
  · exact fun s hp hs => .of_refused rfl hp (State.applyEnable_elsewhere hs) (by decide)
  · exact fun s hs hm ha hr hl => .of_refused rfl (ready hs) (State.applyEnable_not_r10 hs ⟨hm, ha⟩ hl hr) (by decide)
  · exact fun s hs hm ha hl hr =>
      .of_releaseRefused rfl (ready hs) (State.applyEnable_held hs ⟨hm, ha⟩ hl hr) fun t sel node dict frame => ⟨sel, node, dict, frame⟩
  · exact fun s hs hu => runs_enable_unfit hs hu
  · exact fun s hs => runs_block_serving hs
  · exact fun s hs => exec_block_in_block hs
  · exact fun s hs => runs_block_before_ready hs
  · exact fun s hs => .of_refused rfl (State.powered_of_state hs (by decide)) (by simp [State.applyBlock, hs]) (by decide)
  · exact fun s hs hr hok => runs_deblock_ready hs hr hok
  · exact fun s hs hr hok =>
      .of_refused rfl (block hs) ((State.applyDeblock_releasing hs hok).trans (if_neg (by simp [hr]))) (by decide)
  · exact fun s hs hok =>
      .of_releaseRefused rfl (block hs) (State.applyDeblock_held hs hok) fun t sel node dict frame => ⟨sel, node, by rw [dict], frame⟩
  · exact fun s hp hs => .of_refused rfl hp (State.applyDeblock_elsewhere hs) (by decide)
  · exact fun s hp hf => runs_tripReset_ended hp hf
  · exact fun s hp hf => runs_tripReset_active hp hf
  · exact fun s hp => ⟨exec_of_off hp rfl, exec_of_off hp rfl, exec_of_off hp rfl, exec_of_off hp rfl⟩

end Sys2Proof.Machine
end

section
namespace Sys2Proof.Machine

/-! ### BYPASS_COMMAND (R12, R41, R141, R349) -/

section
variable {s : State}

theorem State.ownWrite_own (s : State) (r : Applied) : s.ownWrite s.addr r = r := by simp [State.ownWrite]

theorem State.ownWrite_other {v : Nat} (h : v ≠ s.addr) (r : Applied) : s.ownWrite v r = s.no .range := by simp [State.ownWrite, h]

/-- The force line turns every switch of the bridge off. -/
theorem State.assertForce_off (s : State) : (s.assertForce.gate.sw.all fun w => !w.on) = true := by
  have hg := (State.event_sameBut (s.upGate fun g => { g.force s.tb.taps with forces := satAdd 32 g.forces 1, evt := setBit32 g.evt 0 }) 0x51 1) .gate
    (by decide)
  unfold State.assertForce
  rw [show (State.event _ _ _).gate = _ from hg]
  exact (s.gate.force_off s.tb.taps).1

/-- The latch with its first cause kept. -/
def Selvedge.sbyLatched (l : Selvedge) (cause : Nat) : Selvedge := { l with sby := true, sbyCause := if l.sbyCause = 0 then cause else l.sbyCause }

/-- What the SBY latch does to a powered cell (R12, R141, R349). -/
theorem State.latchSby_effect (cause : Nat) (hc : s.isCell = true) (hp : s.powered = true) (hl : s.sel.sby = false) :
    (s.latchSby cause).sel = s.sel.sbyLatched cause
      ∧ (s.latchSby cause).node = { s.node with nodeState := .bypass, bypassMark := true, orphanBypassDue := false }
      ∧ ((s.latchSby cause).gate.sw.all fun w => !w.on) = true ∧ (s.latchSby cause).gate.bypPulse = true
      ∧ (s.latchSby cause).sys.keep.bypass = true ∧ (s.latchSby cause).bob.snap.bypass = true := by
  have frame := (s.upSel fun l => l.sbyLatched cause).assertForce_sameBut
  obtain ⟨u, hu, hsel, hnode, hoff⟩ : ∃ u : State, s.latchSby cause = ((u.upNode fun n =>
      { n with nodeState := .bypass, orphanBypassDue := false }).upGate fun g => { g with bypPulse := true, bypAt := s.tb.taps }).keepBypass true
      ∧ u.sel = s.sel.sbyLatched cause ∧ u.node = s.node ∧ (u.gate.sw.all fun w => !w.on) = true :=
    ⟨_, by simp [State.latchSby, hc, hp, hl, Selvedge.sbyLatched], frame .sel (by decide), frame .node (by decide), State.assertForce_off _⟩
  rw [hu]
  exact ⟨hsel, by simp [State.keepBypass, hnode], hoff, rfl, rfl, rfl⟩

/-- A cell whose SBY latch is set has nothing more to latch. -/
theorem State.latchSby_latched (cause : Nat) (h : s.sel.sby = true) : s.latchSby cause = s := by simp [State.latchSby, h]

theorem State.applyBypass_own (hc : s.isCell = true) : s.applyBypass s.addr = (s.latchSby 3).yes := by
  simp [State.applyBypass, hc, State.ownWrite_own]

theorem State.applyBypass_other {v : Nat} (hc : s.isCell = true) (h : v ≠ s.addr) : s.applyBypass v = s.no .range := by
  simp [State.applyBypass, hc, State.ownWrite_other h]

theorem State.applyBypass_elsewhere (v : Nat) (hc : s.isCell = false) : s.applyBypass v = s.no .state := by simp [State.applyBypass, hc]

theorem runs_bypassCommand (hc : s.isCell = true) (hp : s.powered = true) (hl : s.sel.sby = false) :
    Runs (.bypassCommand s.addr) s fun t => t.sel.sby = true ∧ t.sel.sbyCause = (if s.sel.sbyCause = 0 then 3 else s.sel.sbyCause)
      ∧ t.sel.spb = s.sel.spb ∧ t.sel.causes = s.sel.causes
      ∧ t.node = { s.node with nodeState := .bypass, bypassMark := true, orphanBypassDue := false }
      ∧ (t.gate.sw.all fun w => !w.on) = true ∧ t.gate.bypPulse = true ∧ t.sys.keep.bypass = true ∧ t.bob.snap.bypass = true
      ∧ SameBut [.sel, .node, .gate, .evc, .sys, .bob] s t := by
  obtain ⟨hsel, hnode, hoff, hpulse, hkeep, hsnap⟩ := State.latchSby_effect 3 hc hp hl
  refine .of_applied rfl hp (State.applyBypass_own hc) ?_
  rw [hsel]
  exact ⟨rfl, rfl, rfl, rfl, hnode, hoff, hpulse, hkeep, hsnap, (s.latchSby_sameBut 3).mono (by decide)⟩

theorem exec_bypassCommand_latched (hc : s.isCell = true) (hp : s.powered = true) (hl : s.sel.sby = true) : exec (.bypassCommand s.addr) s = .next s := by
  show Host.Outcome.next (s.onPower (settle Obj.BYPASS_COMMAND 0 (s.applyBypass s.addr))) = _
  rw [State.onPower_on _ _ hp, State.applyBypass_own hc, State.latchSby_latched 3 hl]
  exact congrArg _ (settle_ok ..)

/-! ### Resets (R431 to R433) and MAINT_RELEASE (R12, R349) -/

theorem resetKind_eq_warm (cause : Nat) : (resetKind cause == .warm) = decide (3 ≤ cause) := by
  unfold resetKind
  rcases (by omega : cause ≤ 1 ∨ cause = 2 ∨ 3 ≤ cause) with h | h | h
  · have h3 : ¬3 ≤ cause := by omega
    simp [h, h3]
  · simp [h]
  · have h1 : ¬cause ≤ 1 := by omega
    have h2 : cause ≠ 2 := by omega
    simp [h, h1, h2]

/-- Each reset leaves what R432 says of its cause. -/
theorem State.resetTo_leaves (s : State) (cause : Nat) : ResetLeaves cause s (s.resetTo cause) := by
  refine ⟨rfl, rfl, rfl, rfl, ?_, rfl, rfl, rfl, rfl, rfl, rfl, rfl, ?_⟩
  · show (if resetKind cause == .warm && bitOf s.sel.causes 10 then 0x1400 else 0x1000) = _
    simp [resetKind_eq_warm]
  · intro p hp
    cases p
    case pins | pending => rfl
    all_goals exact absurd (by decide) hp

theorem State.warmReset_waiting {cause : Nat} (h : s.sys.flushing = true) :
    s.warmReset cause = s.upSys fun y => { y with pendingReset := some cause } := by simp [State.warmReset, h]

/-- A warm reset that waits for no flush, of another cause than the watchdog's (R433). -/
theorem State.warmReset_now {cause : Nat} (h : s.sys.flushing = false) (hc : cause ≠ 4) : s.warmReset cause = s.resetTo cause := by
  simp [State.warmReset, State.resetNow, h, hc]

/-- The node whose mark and SBY latch have been released (R12). -/
def State.maintained (s : State) : State := (s.keepBypass false).upSel fun l => { l with sby := false, sbyCause := 0 }

theorem State.applyMaint_released (h : s.node.nodeState = .bypass) (hd : s.sel.sdi = true) : s.applyMaint s.addr = (s.maintained.warmReset 6).yes := by
  simp [State.applyMaint, State.ownWrite_own, h, hd, State.maintained]

theorem State.applyMaint_not_sdi (h : s.node.nodeState = .bypass) (hd : s.sel.sdi = false) : s.applyMaint s.addr = s.no .refused := by
  simp [State.applyMaint, State.ownWrite_own, h, hd]

theorem State.applyMaint_elsewhere (h : s.node.nodeState ≠ .bypass) : s.applyMaint s.addr = s.no .state := by
  simp [State.applyMaint, State.ownWrite_own, h]

theorem State.applyMaint_other {v : Nat} (h : v ≠ s.addr) : s.applyMaint v = s.no .range := s.ownWrite_other h _

/-- The release of the SBY latch changes nothing of what a reset leaves. -/
theorem State.maintained_resetLeaves (s : State) : ResetLeaves 6 (s.keepBypass false) (s.maintained.resetTo 6) := by
  obtain ⟨role, state, cause, spb, causes, mem, adc, weft, arm, link, evc, inbox, frame⟩ := s.maintained.resetTo_leaves 6
  exact ⟨role, state, cause, spb, causes, mem, adc, weft, arm, link, evc, inbox, (State.upSel_sameBut _ _).mono (by decide) |>.trans frame⟩

theorem runs_maintRelease (h : s.node.nodeState = .bypass) (hd : s.sel.sdi = true) (hf : s.sys.flushing = false) :
    Runs (.maintRelease s.addr) s fun t => ResetLeaves 6 (s.keepBypass false) t ∧ t.node.nodeState = .boot ∧ t.node.bypassMark = false
      ∧ t.sel.sby = false ∧ t.tb.taps = s.tb.taps ∧ t.sys.keep.bypass = false ∧ t.bob.snap.bypass = false := by
  have happ : s.applyMaint s.addr = (s.maintained.resetTo 6).yes :=
    (State.applyMaint_released h hd).trans (congrArg State.yes (State.warmReset_now (s := s.maintained) hf (by decide)))
  exact .of_applied rfl (State.powered_of_state h (by decide)) happ ⟨s.maintained_resetLeaves, rfl, rfl, rfl, rfl, rfl, rfl⟩

theorem runs_maintRelease_flushing (h : s.node.nodeState = .bypass) (hd : s.sel.sdi = true) (hf : s.sys.flushing = true) :
    Runs (.maintRelease s.addr) s fun t => t.node = { s.node with bypassMark := false } ∧ t.sel = { s.sel with sby := false, sbyCause := 0 }
      ∧ t.sys = { s.sys with pendingReset := some 6, keep := { s.sys.keep with bypass := false, sby := false } }
      ∧ t.bob = { s.bob with snap := { s.bob.snap with bypass := false, sby := false } } ∧ SameBut [.node, .sel, .sys, .bob] s t := by
  have happ := (State.applyMaint_released h hd).trans (congrArg State.yes (State.warmReset_waiting (s := s.maintained) hf))
  exact .of_applied rfl (State.powered_of_state h (by decide)) happ ⟨rfl, rfl, rfl, rfl, by simp [State.maintained]⟩

end

/-- Settles O6: the latch at a cell, the reset that a release begins or leaves to the end of a flush, and the checks of both writes. -/
theorem bypassIsLatchedUntilItsRelease : Obligations.BypassIsLatchedUntilItsRelease := by
  refine ⟨?_, ?_, ?_, ?_, ?_, ?_, ?_, ?_, ?_, ?_⟩
  · exact fun s hc hp hl => runs_bypassCommand hc hp hl
  · exact fun s hc hp hl => exec_bypassCommand_latched hc hp hl
  · exact fun s v hc hp hv => .of_refused rfl hp (State.applyBypass_other hc hv) (by decide)
  · exact fun s v hc hp => .of_refused rfl hp (State.applyBypass_elsewhere v hc) (by decide)
  · exact fun s h hd hf => runs_maintRelease h hd hf
  · exact fun s h hd hf => runs_maintRelease_flushing h hd hf
  · exact fun s h hd => .of_refused rfl (State.powered_of_state h (by decide)) (State.applyMaint_not_sdi h hd) (by decide)
  · exact fun s hp h => .of_refused rfl hp (State.applyMaint_elsewhere h) (by decide)
  · exact fun s v hp hv => .of_refused rfl hp (State.applyMaint_other hv) (by decide)
  · exact fun s v hp => ⟨exec_of_off hp rfl, exec_of_off hp rfl⟩

end Sys2Proof.Machine
end

section
namespace Sys2Proof.Machine

/-! ### The boundary search (R90) -/

section
variable {hist : Vector Nat 64} {m : Nat}

/-- The cells of a list of bins. -/
def cellsOf (hist : Vector Nat 64) (l : List Nat) : Nat := (l.map fun j => vget hist j 0).sum

/-- The search stops at the first bin with which the cells counted reach the target: those before it leave between 1 and all of its own to take. -/
theorem boundary_stops (l : List Nat) (cum : Nat) (hlo : cum < m) (hhi : m ≤ cum + cellsOf hist l) :
    ∃ before j after alloc, l = before ++ j :: after ∧ boundary hist m l cum = (j, alloc) ∧ 1 ≤ alloc ∧ alloc ≤ vget hist j 0
      ∧ cum + (cellsOf hist before + alloc) = m := by
  induction l generalizing cum with
  | nil => exact absurd hhi (Nat.not_le.mpr hlo)
  | cons j l ih =>
    by_cases hj : m ≤ cum + vget hist j 0
    · refine ⟨[], j, l, m - cum, rfl, by simp [boundary, hj], ?_⟩
      simp only [cellsOf, List.map_nil, List.sum_nil]
      omega
    · have hsum : cellsOf hist (j :: l) = vget hist j 0 + cellsOf hist l := by simp [cellsOf]
      obtain ⟨before, b, after, alloc, rfl, hb, hpos, hle, hm⟩ := ih (cum + vget hist j 0) (by omega) (by omega)
      refine ⟨j :: before, b, after, alloc, rfl, by simpa [boundary, hj] using hb, hpos, hle, ?_⟩
      simp only [cellsOf, List.map_cons, List.sum_cons] at hm ⊢
      omega

theorem cellsOf_reverse (l : List Nat) : cellsOf hist l.reverse = cellsOf hist l := by simp [cellsOf, List.sum_reverse]

/-- A bin of the histogram parts the others into those below it and those above it. -/
theorem range_parted {n j : Nat} {below above : List Nat} (h : List.range n = below ++ j :: above) :
    j < n ∧ below = List.range j ∧ above = (List.range n).filter fun i => j < i := by
  have hsorted := List.pairwise_lt_range (n := n)
  rw [h, List.pairwise_append, List.pairwise_cons] at hsorted
  obtain ⟨-, ⟨habove, -⟩, hbelow⟩ := hsorted
  have hj : j ∈ List.range n := by simp [h]
  have hlen : below.length = j := by
    have hget : (List.range n)[below.length]? = some j := by simp [h]
    rw [List.getElem?_eq_some_iff] at hget
    obtain ⟨hl, hv⟩ := hget
    rwa [List.getElem_range] at hv
  refine ⟨List.mem_range.mp hj, ?_, ?_⟩
  · have htake : (List.range n).take below.length = below := by simp [h]
    rw [← htake, hlen, List.take_range, Nat.min_eq_left (Nat.le_of_lt (List.mem_range.mp hj))]
  · have hnone : below.filter (fun i => decide (j < i)) = [] :=
      List.filter_eq_nil_iff.mpr fun i hi => by simpa using Nat.le_of_lt (hbelow i hi j List.mem_cons_self)
    have hall : above.filter (fun i => decide (j < i)) = above := List.filter_eq_self.mpr fun i hi => by simpa using habove i hi
    simp [h, hnone, hall]

theorem findBoundary_eq (high : Bool) (hm : 0 < m) :
    findBoundary hist m high = boundary hist m (if high then (List.range 64).reverse else List.range 64) 0 := by
  simp [findBoundary, Nat.ne_of_gt hm]

/-- From the low end: BBIN, ALLOC, and the cells of the bins below BBIN. -/
theorem findBoundary_low (hm : 0 < m) (hs : m ≤ cellsOf hist (List.range 64)) :
    (findBoundary hist m false).1 < 64 ∧ 1 ≤ (findBoundary hist m false).2
      ∧ (findBoundary hist m false).2 ≤ vget hist (findBoundary hist m false).1 0
      ∧ cellsOf hist (List.range (findBoundary hist m false).1) + (findBoundary hist m false).2 = m := by
  obtain ⟨below, j, above, alloc, hsplit, hb, hpos, hle, hsum⟩ := boundary_stops (hist := hist) (List.range 64) 0 hm (by omega)
  obtain ⟨hj, rfl, -⟩ := range_parted hsplit
  rw [(findBoundary_eq false hm).trans hb]
  exact ⟨hj, hpos, hle, by simpa using hsum⟩

/-- From the high end: BBIN, ALLOC, and the cells of the bins above BBIN. -/
theorem findBoundary_high (hm : 0 < m) (hs : m ≤ cellsOf hist (List.range 64)) :
    (findBoundary hist m true).1 < 64 ∧ 1 ≤ (findBoundary hist m true).2
      ∧ (findBoundary hist m true).2 ≤ vget hist (findBoundary hist m true).1 0
      ∧ cellsOf hist ((List.range 64).filter fun j => (findBoundary hist m true).1 < j) + (findBoundary hist m true).2 = m := by
  obtain ⟨above, j, below, alloc, hsplit, hb, hpos, hle, hsum⟩ :=
    boundary_stops (hist := hist) (List.range 64).reverse 0 hm (by rw [cellsOf_reverse]; omega)
  have hrange : List.range 64 = below.reverse ++ j :: above.reverse := by rw [← List.reverse_reverse (List.range 64), hsplit]; simp
  obtain ⟨hj, -, habove⟩ := range_parted hrange
  rw [(findBoundary_eq true hm).trans hb]
  refine ⟨hj, hpos, hle, ?_⟩
  rw [← habove, cellsOf_reverse]
  simpa using hsum

end

/-- Settles O9: the search stops at one bin, which parts the histogram into the bins on the selected side and the others. -/
theorem boundaryTakesExactlyTheTarget : Obligations.BoundaryTakesExactlyTheTarget :=
  ⟨fun _ _ => rfl, fun _ _ hm hs => findBoundary_low hm hs, fun _ _ hm hs => findBoundary_high hm hs⟩

end Sys2Proof.Machine
end

section
namespace Sys2Proof.Machine

/-! ### Commands without an effect (R7, R243) -/

/-- A command that has no effect on a state leaves it, powered or not. -/
theorem State.onPower_of_same {s t : State} (h : t = s) : s.onPower t = s := by rw [h, State.onPower, ite_self]

/-- So does one of the REFCLK islands, and any of them while REFCLK is lost. -/
theorem State.onLane_of_same {s t : State} (h : s.tb.refOk = true → t = s) : s.onLane t = s := by
  refine State.onPower_of_same ?_
  split
  · exact h ‹_›
  · rfl

/-! ### Operations that leave the node but for its runs -/

/-- Nothing outside the parts of `l` has changed, and of the node no more than the markers of its runs. -/
structure Marked (l : List Part) (s t : State) : Prop where
  node : t.node = { s.node with runs := t.node.runs }
  frame : SameBut l s t

section
variable {l k : List Part} {s t u : State}

theorem Marked.refl (s : State) : Marked l s s := ⟨rfl, .refl l s⟩

theorem Marked.mono (h : Marked k s t) (hk : k ⊆ l := by decide) : Marked l s t := ⟨h.node, h.frame.mono hk⟩

theorem Marked.trans (h : Marked l s t) (h' : Marked l t u) : Marked l s u := by
  refine ⟨?_, h.frame.trans h'.frame⟩
  have hu := h'.node
  rw [h.node] at hu
  exact hu

/-- One operation after another, whose parts are among those of the first. -/
theorem Marked.next (h : Marked l s t) (h' : Marked k t u) (hk : k ⊆ l := by decide) : Marked l s u := h.trans (h'.mono hk)

/-- An operation whose frame does not name the node. -/
theorem Marked.of_sameBut (h : SameBut l s t) (hl : .node ∉ l := by decide) : Marked l s t := by
  refine ⟨?_, h⟩
  have hn : t.node = s.node := h .node hl
  rw [hn]

theorem Marked.ite {c : Prop} [Decidable c] (h : Marked l s t) (h' : Marked l s u) : Marked l s (if c then t else u) := by
  split <;> assumption

theorem Marked.foldl {α : Type} {f : State → α → State} (hf : ∀ s x, Marked l s (f s x)) (xs : List α) (s : State) :
    Marked l s (xs.foldl f s) := by
  induction xs generalizing s with
  | nil => exact .refl s
  | cons x xs ih => exact (hf s x).trans (ih _)

theorem Noted.marked (h : Noted s t) : Marked [.recd, .evc, .node] s t := ⟨h.node, h.frame⟩

theorem State.isCell_of_role (h : t.node.role = s.node.role) : t.isCell = s.isCell := by simp [State.isCell, h]

theorem State.isArm_of_role (h : t.node.role = s.node.role) : t.isArm = s.isArm := by simp [State.isArm, h]

theorem State.isStation_of_role (h : t.node.role = s.node.role) : t.isStation = s.isStation := by simp [State.isStation, h]

theorem State.isMember_of_role (h : t.node.role = s.node.role) : t.isMember = s.isMember := by
  rw [State.isMember, State.isArm_of_role h, State.isStation_of_role h, State.isMember]

theorem State.isActive_of_role (h : t.node.role = s.node.role) (hj : t.jrn = s.jrn) : t.isActive = s.isActive := by
  rw [State.isActive, State.isMember_of_role h, hj, State.isActive]

theorem Marked.nodeState (h : Marked l s t) : t.node.nodeState = s.node.nodeState := by rw [h.node]

theorem Marked.role (h : Marked l s t) : t.node.role = s.node.role := by rw [h.node]

theorem Marked.isCell (h : Marked l s t) : t.isCell = s.isCell := State.isCell_of_role h.role

theorem State.role_of_isCell (h : s.isCell = true) : s.node.role = .cell := by simpa [State.isCell] using h

theorem State.isArm_of_isCell (h : s.isCell = true) : s.isArm = false := by simp [State.isArm, State.role_of_isCell h]

theorem State.isMember_of_isCell (h : s.isCell = true) : s.isMember = false := by
  simp [State.isMember, State.isArm, State.isStation, State.role_of_isCell h]

theorem State.upWeft_marked (s : State) (f : Weft → Weft) : Marked [.weft] s (s.upWeft f) := .of_sameBut (s.upWeft_sameBut f)

theorem State.upHdl_marked (s : State) (f : Heddle → Heddle) : Marked [.hdl] s (s.upHdl f) := .of_sameBut (s.upHdl_sameBut f)

theorem State.event_marked (s : State) (code n : Nat) : Marked [.evc] s (s.event code n) := .of_sameBut (s.event_sameBut code n)

theorem State.startRun_marked (s : State) (n : FaultName) (arg : Nat) : Marked [.node] s (s.startRun n arg) :=
  ⟨(s.startRun_noted n arg).node, s.startRun_sameBut n arg⟩

theorem State.endRun_marked (s : State) (n : FaultName) (arg : Nat) : Marked [.node] s (s.endRun n arg) := ⟨rfl, s.endRun_sameBut n arg⟩

end

/-! ### Faults of class F1 (R14) -/

section
variable {s : State} {n : FaultName}

/-- An F1 other than MEDIA_FAULT is recorded and has no action. -/
theorem State.raise_f1_noted (s : State) (arg : Nat) (hc : ∀ role active, n.clsIn role active = .f1) (hm : n ≠ .mediaFault) :
    Noted s (s.raise n arg) := by
  have h1 : s.evClass { name := n, arg := arg } = .f1 := by simp [State.evClass, State.faultClass, hc, FClass.code]
  have h : s.raise n arg = s.record n.typ n.unit .f1 (Ev.pay { name := n, arg := arg }) := by
    simp [State.raise, State.raiseAll, State.topClass, sortEvs, insertEv, State.actOn, State.recordEv, h1, FClass.max, FClass.code, hm]
  exact h ▸ s.record_noted ..

theorem State.raiseRun_f1_noted (s : State) (arg : Nat) (hc : ∀ role active, n.clsIn role active = .f1) (hm : n ≠ .mediaFault) :
    Noted s (s.raiseRun n arg) := by
  unfold State.raiseRun
  split
  · exact .refl s
  · exact (s.startRun_noted n arg).trans (State.raise_f1_noted _ arg hc hm)

end

/-! ### Sending (R208, R210) -/

section
variable (s : State)

theorem State.dropFrame_marked (p : Nat) : Marked [.link, .recd, .evc, .node] s (s.dropFrame p) := by
  unfold State.dropFrame
  extract_lets s1
  have h1 : Marked [.link, .recd, .evc, .node] s s1 := (Marked.of_sameBut (l := [.link]) (by simp [s1])).mono
  split
  · exact h1
  · exact (h1.next (s1.startRun_marked _ _)).next (State.record_noted ..).marked

theorem State.enqueue_marked (p : Nat) (f : Frame) : Marked [.link, .recd, .evc, .node] s (s.enqueue p f) := by
  unfold State.enqueue
  split
  · exact .refl s
  · split
    · exact ((Marked.of_sameBut (s.upPort_sameBut p _)).mono).next (State.endRun_marked _ _ _)
    · exact s.dropFrame_marked p

theorem State.sendLocal_marked (p : Nat) (c : FloenClass) (pl : List Byte) : Marked [.link, .recd, .evc, .node] s (s.sendLocal p c pl) := by
  unfold State.sendLocal
  exact ((Marked.of_sameBut (s.takeEseq_sameBut c)).mono).next (State.enqueue_marked _ _ _)

end

end Sys2Proof.Machine
end

section
namespace Sys2Proof.Machine

/-! ### The merge of a cell (R84 to R87, R98) -/

section
variable {s t : State} {k : Nat}

/-- What the merge of a cycle collects: the aggregate, the counts of each port and the sensor conflicts (R86). -/
def State.collected (s : State) (k : Nat) : MergeAcc := s.expectedPorts.foldl (s.mergePort k) (s.ownWarp k, Vector.replicate 4 none, 0)

/-- The aggregate that a cell sends for a cycle (R85). -/
def State.cellAgg (s : State) (k : Nat) : Warp := { (s.collected k).1 with priB := s.node.primary == .b, cycle := k % 65536 }

/-- The rec that the merge of a cycle leaves at a cell (R87). -/
def State.cellRec (s : State) (k : Nat) : WeftRec :=
  let own := (s.ownAt k).getD ⟨k, .notContributor, s.gate.ins, 0, 0, false, {}, false, 0⟩
  { k := k, cnt := (s.collected k).2.1, cls := own.cls, bin := own.bin, sentTo := s.node.primary, sent := some (s.cellAgg k)
    short := (s.ownUnits k).1, miss := (s.ownUnits k).2, conf := (s.collected k).2.2 }

/-- The Weft of a cell that has merged a cycle, before its sensor conflicts are counted. -/
def State.mergedWeft (s : State) (k : Nat) : Weft :=
  { s.unitsLeft k s.weft with
    recs := putRec (s.cellRec k) s.weft.recs, foFor := s.weft.foFor.filter (· != k)
    stat := if (s.cellAgg k).fo then setBit32 s.weft.stat 22 else s.weft.stat }

theorem State.cellMerge_eq (s : State) (k : Nat) :
    s.cellMerge k = ((((s.upWeft fun _ => s.mergedWeft k).noteConflicts ((s.collected k).2.2 - s.sentConf k)).sendWarp 0 (s.cellAgg k)).sendWarp 1
      (s.cellAgg k)) := by
  unfold State.cellMerge State.mergedWeft State.cellRec State.cellAgg State.collected
  generalize s.expectedPorts.foldl (s.mergePort k) _ = acc
  rfl

/-- Counting sensor conflicts changes no more than their counter and the run of the fault (R98). -/
theorem State.noteConflicts_effect (s : State) (n : Nat) :
    (∃ c, (s.noteConflicts n).weft = { s.weft with sensConflicts := c }) ∧ Marked [.weft, .recd, .evc, .node] s (s.noteConflicts n) := by
  unfold State.noteConflicts
  split
  · exact ⟨⟨_, rfl⟩, (s.endRun_marked _ _).mono⟩
  · have h := State.raiseRun_f1_noted (n := .sensorConflict) (s.upWeft fun w => { w with sensConflicts := satAdd 32 w.sensConflicts n }) 0
      (fun _ _ => rfl) nofun
    exact ⟨⟨_, h.frame .weft (by decide)⟩, ((s.upWeft_marked _).mono).next h.marked⟩

/-- What the merge of a cycle leaves at a cell. -/
structure CellMerged (k : Nat) (s t : State) : Prop where
  recs : t.weft.recs = putRec (s.cellRec k) s.weft.recs
  units : s.recOf k = none → t.weft.short = 0 ∧ t.weft.miss = 0
  ins : t.weft.ins = s.weft.ins
  lates : t.weft.lates = s.weft.lates
  childNamed : t.weft.childNamed = s.weft.childNamed
  decisions : t.weft.decisions = s.weft.decisions
  marked : Marked [.weft, .node, .link, .evc, .recd] s t

theorem State.cellMerge_effect (s : State) (k : Nat) : CellMerged k s (s.cellMerge k) := by
  rw [State.cellMerge_eq]
  generalize hu : (s.upWeft fun _ => s.mergedWeft k) = u
  obtain ⟨⟨c, hc⟩, hnoted⟩ := u.noteConflicts_effect ((s.collected k).2.2 - s.sentConf k)
  generalize u.noteConflicts _ = v at hc hnoted
  have hsent : Marked [.link, .recd, .evc, .node] v ((v.sendWarp 0 (s.cellAgg k)).sendWarp 1 (s.cellAgg k)) :=
    (v.sendLocal_marked _ _ _).trans (State.sendLocal_marked _ _ _ _)
  have hweft : ((v.sendWarp 0 (s.cellAgg k)).sendWarp 1 (s.cellAgg k)).weft = { s.mergedWeft k with sensConflicts := c } := by
    rw [hsent.frame .weft (by decide), hc, ← hu]
    rfl
  have hmarked : Marked [.weft, .node, .link, .evc, .recd] s ((v.sendWarp 0 (s.cellAgg k)).sendWarp 1 (s.cellAgg k)) :=
    ((hu ▸ s.upWeft_marked _).mono.next hnoted).next hsent
  have hunits : ∃ short miss, s.unitsLeft k s.weft = { s.weft with short := short, miss := miss }
      ∧ (s.recOf k = none → short = 0 ∧ miss = 0) := by
    cases h : s.recOf k with
    | none => exact ⟨0, 0, by simp [State.unitsLeft, h], fun _ => ⟨rfl, rfl⟩⟩
    | some r => exact ⟨_, _, by simp only [State.unitsLeft, h]; rfl, nofun⟩
  obtain ⟨short, miss, hleft, hnone⟩ := hunits
  constructor
  case marked => exact hmarked
  all_goals rw [hweft, State.mergedWeft, hleft]
  case units => exact hnone

/-- A node finds the rec that it has put last (R87). -/
theorem CellMerged.recOf (h : CellMerged k s t) : t.recOf k = some (s.cellRec k) := by
  have hk : (s.cellRec k).k = k := rfl
  simp [State.recOf, h.recs, putRec, hk]

theorem State.mergeNow_cell (hc : s.isCell = true) (k : Nat) : s.mergeNow k = s.cellMerge k := by simp [State.mergeNow, hc]

/-- The Tally of a cycle that is held and has not been merged is its merge; otherwise it does nothing (R86). -/
theorem State.tally_due (hr : s.recOf k = none) (ht : s.weft.tw ≠ 0) (hh : s.holdsCycle k = true) : s.tally k = s.mergeNow k := by
  simp [State.tally, hr, ht, hh]

theorem State.tally_merged {r : WeftRec} (hr : s.recOf k = some r) : s.tally k = s := by simp [State.tally, hr]

theorem State.tally_cases (hc : s.isCell = true) (k : Nat) : s.tally k = s ∨ s.tally k = s.cellMerge k := by
  unfold State.tally
  split
  · exact .inl rfl
  · exact .inr (State.mergeNow_cell hc k)

theorem State.tryTally_cases (hc : s.isCell = true) (k : Nat) : s.tryTally k = s ∨ s.tryTally k = s.cellMerge k := by
  unfold State.tryTally
  split
  · exact State.tally_cases hc k
  · exact .inl rfl

end

/-! ### TALLY_DEADLINE (R86) -/

section
variable {s : State} {k : Nat}

theorem exec_tallyDeadline_idle (h : s.tallyDue k = s) : exec (.tallyDeadline k) s = .next s :=
  congrArg Host.Outcome.next (State.onPower_of_same h)

theorem State.tallyDue_early (h : s.holdsCycle k = false ∨ s.tb.ntNs < s.tallyAt k) : s.tallyDue k = s := by
  obtain h | h := h <;> simp [State.tallyDue, h]

/-- At its deadline or after it a cell does the Tally of a cycle, and looks at no pair. -/
theorem State.tallyDue_cell (hc : s.isCell = true) (ht : s.weft.tw ≠ 0) (hh : s.holdsCycle k = true) (hd : s.tallyAt k ≤ s.tb.ntNs)
    (hr : s.recOf k = none) : s.tallyDue k = s.cellMerge k := by
  have harm : (s.cellMerge k).isArm = false := State.isArm_of_isCell ((s.cellMerge_effect k).marked.isCell.trans hc)
  simp [State.tallyDue, ht, hh, Nat.not_lt.mpr hd, State.tally_due hr ht hh, State.mergeNow_cell hc, harm]

theorem State.tallyDue_merged {r : WeftRec} (hc : s.isCell = true) (hr : s.recOf k = some r) : s.tallyDue k = s := by
  simp [State.tallyDue, State.tally_merged hr, State.isArm_of_isCell hc]

theorem runs_tallyDeadline {o : OwnCycle} (hc : s.isCell = true) (hp : s.powered = true) (ht : s.weft.tw ≠ 0) (hh : s.holdsCycle k = true)
    (hd : s.tallyAt k ≤ s.tb.ntNs) (hr : s.recOf k = none) (ho : s.ownAt k = some o) :
    Runs (.tallyDeadline k) s fun t => (∃ r a, t.recOf k = some r ∧ r.sentTo = s.node.primary ∧ r.cls = o.cls ∧ r.bin = o.bin
        ∧ r.sent = some a ∧ a.cycle = k % 65536 ∧ a.priB = (s.node.primary == .b))
      ∧ t.weft.short = 0 ∧ t.weft.miss = 0 ∧ t.weft.decisions = s.weft.decisions
      ∧ SameBut [.weft, .node, .link, .evc, .recd] s t ∧ t.node = { s.node with runs := t.node.runs } := by
  have hmerged := s.cellMerge_effect k
  obtain ⟨hshort, hmiss⟩ := hmerged.units hr
  refine .of_powered rfl hp ?_
  rw [State.tallyDue_cell hc ht hh hd hr]
  exact ⟨⟨_, _, hmerged.recOf, rfl, by simp [State.cellRec, ho], by simp [State.cellRec, ho], rfl, rfl, rfl⟩, hshort, hmiss, hmerged.decisions,
    hmerged.marked.frame, hmerged.marked.node⟩

end

end Sys2Proof.Machine
end

section
namespace Sys2Proof.Machine

/-! ### Tokens (R282, R286, R298) -/

section
variable (s : State)

theorem State.setTokens_sameBut (a : Nat) (l : List Nat) : SameBut [.hdl] s (s.setTokens a l) := s.upHdl_sameBut _

theorem State.checkReady_sameBut (n : Nat) : SameBut [.hdl] s (s.checkReady n) := by
  unfold State.checkReady
  split
  · exact .refl _ s
  · exact .ite (.refl _ s) (by simp)

theorem State.raceToken_sameBut (n : Nat) (raced : Bool) : SameBut [.hdl, .evc] s (s.raceToken n raced) := by
  unfold State.raceToken State.cancelRace
  exact .ite (.refl _ s) (by simp)

/-- A token at a full arc makes no more than a record (R282). -/
theorem State.fullToken_marked (a : Nat) (arc : GArc) (v : Nat) : Marked [.hdl, .evc, .recd, .node] s (s.fullToken a arc v) := by
  unfold State.fullToken
  extract_lets s1
  have h1 : Marked [.hdl, .evc, .recd, .node] s s1 := (s.upHdl_marked _).mono.next (State.event_marked _ _ _)
  split
  · exact h1.next (.of_sameBut (s1.setTokens_sameBut a _))
  · exact h1.next (State.raiseRun_f1_noted (n := .hdlArcFull) s1 a (fun _ _ => rfl) nofun).marked

theorem State.postToken_marked (a v : Nat) : Marked [.hdl, .evc, .recd, .node] s (s.postToken a v) := by
  unfold State.postToken
  split
  · exact .refl s
  extract_lets s1
  have h1 : Marked [.hdl, .evc, .recd, .node] s s1 := (s.event_marked _ _).mono
  split
  · exact h1.next (.of_sameBut (State.raceToken_sameBut _ _ _))
  rename_i s2 _ _
  have h2 : Marked [.hdl, .evc, .recd, .node] s s2 := h1.next (s1.upHdl_marked _)
  split
  · exact ((h2.next (s2.endRun_marked _ _)).next (.of_sameBut (State.setTokens_sameBut _ _ _))).next (.of_sameBut (State.checkReady_sameBut _ _))
  · exact h2.trans (State.fullToken_marked _ _ _ _)

theorem State.cycleTokens_marked (k : Nat) : Marked [.hdl, .evc, .recd, .node] s (s.cycleTokens k) :=
  .foldl (fun t a => t.postToken_marked a _) _ _

end

/-! ### CYCLE_START (R80, R156) -/

section
variable {s : State} {k : Nat}

theorem State.gateStep_sameBut (s : State) (f : Gate → Gate) : SameBut [.gate, .evc] s (s.gateStep f) := by simp [State.gateStep]

theorem State.sensorAtT0_sameBut (s : State) : SameBut [.adc] s s.sensorAtT0 := by
  unfold State.sensorAtT0 State.noSensor
  exact .ite (.refl _ s) (.ite (by simp) (.refl _ s))

/-- What t₀ of a cycle leaves at a cell before its bin is known and the tokens and the shadows have moved. -/
structure CycleBegun (k : Nat) (s t : State) : Prop where
  now : t.weft.k = k
  insAt0 : t.weft.insAt0 = s.gate.ins
  codeReady : t.weft.codeReady = false
  cls : t.weft.cls = classAt s.node.nodeState (((s.window k).map (·.wvalid)).getD false)
  vcode : t.weft.vcode = s.weft.vcode
  recs : t.weft.recs = s.weft.recs
  decisions : t.weft.decisions = s.weft.decisions

theorem State.weftT0_marked (s : State) (k : Nat) : Marked [.weft, .evc] s (s.weftT0 k) := by
  unfold State.weftT0
  exact (s.upWeft_marked _).mono.next (State.event_marked _ _ _)

theorem State.weftT0_begun (hc : s.isCell = true) (k : Nat) : CycleBegun k s (s.weftT0 k) := by
  have hweft : (s.weftT0 k).weft = _ := State.event_sameBut _ _ _ .weft (by decide)
  constructor
  case cls =>
    rw [hweft, State.upWeft_weft, hc]
    cases s.window k <;> rfl
  case codeReady => rw [hweft, State.upWeft_weft, hc]; rfl
  all_goals rw [hweft]; rfl

/-- A change of the bin, or of no part of the Weft, leaves what t₀ has noted. -/
theorem CycleBegun.of_weft {t u : State} (h : CycleBegun k s t) (b : Nat) (hu : u.weft = { t.weft with bin := b }) : CycleBegun k s u := by
  obtain ⟨now, insAt0, codeReady, cls, vcode, recs, decisions⟩ := h
  constructor <;> rw [hu] <;> assumption

theorem CycleBegun.of_same {t u : State} (h : CycleBegun k s t) (hu : u.weft = t.weft) : CycleBegun k s u := h.of_weft t.weft.bin hu

theorem State.cycleStart_effect (hc : s.isCell = true) (hd : s.t0Due k = true) :
    CycleBegun k s (s.cycleStart k) ∧ (s.obj Obj.GATE_MODE ≠ 2 → (s.cycleStart k).gate = s.gate)
      ∧ Marked [.weft, .evc, .gate, .adc, .hdl, .recd, .node] s (s.cycleStart k) := by
  obtain ⟨s1, hs1⟩ : ∃ u, u = (s.weftT0 k).sensorAtT0 := ⟨_, rfl⟩
  obtain ⟨s2, hs2⟩ : ∃ u, u = (s1.upWeft fun w => { w with bin := s1.ownBin k w.vcode }).cycleTokens k := ⟨_, rfl⟩
  have hstart : s.cycleStart k = if s.obj Obj.GATE_MODE == 2 then s2.loadPlain else s2 := by
    simp [State.cycleStart, hc, hd, hs2, hs1]
  have hsensor : SameBut [.adc] (s.weftT0 k) s1 := hs1 ▸ State.sensorAtT0_sameBut _
  have h1 : Marked [.weft, .evc, .adc, .hdl, .recd, .node] s s1 := (s.weftT0_marked k).mono.next (.of_sameBut hsensor)
  have htokens := State.cycleTokens_marked (s1.upWeft fun w => { w with bin := s1.ownBin k w.vcode }) k
  rw [← hs2] at htokens
  have h2 : Marked [.weft, .evc, .adc, .hdl, .recd, .node] s s2 := (h1.next (s1.upWeft_marked _)).next htokens
  have hload : SameBut [.gate, .evc] s2 s2.loadPlain := State.gateStep_sameBut _ _
  have begun1 : CycleBegun k s s1 := (State.weftT0_begun hc k).of_same (hsensor .weft (by decide))
  have begun2 : CycleBegun k s s2 := begun1.of_weft _ (htokens.frame .weft (by decide))
  rw [hstart]
  by_cases hm : s.obj Obj.GATE_MODE = 2
  · rw [if_pos (beq_iff_eq.mpr hm)]
    exact ⟨begun2.of_same (hload .weft (by decide)), fun hne => absurd hm hne, h2.mono.next (.of_sameBut hload)⟩
  · rw [if_neg (by simpa using hm)]
    exact ⟨begun2, fun _ => h2.frame .gate (by decide), h2.mono⟩

theorem runs_cycleStart (hc : s.isCell = true) (hp : s.powered = true) (hd : s.t0Due k = true) :
    Runs (.cycleStart k) s fun t => t.weft.k = k ∧ t.weft.insAt0 = s.gate.ins ∧ t.weft.codeReady = false
      ∧ t.weft.cls = classAt s.node.nodeState (((s.window k).map (·.wvalid)).getD false)
      ∧ t.weft.vcode = s.weft.vcode ∧ t.weft.recs = s.weft.recs ∧ t.weft.decisions = s.weft.decisions
      ∧ (s.obj Obj.GATE_MODE ≠ 2 → t.gate = s.gate) ∧ SameBut [.weft, .evc, .gate, .adc, .hdl, .recd, .node] s t
      ∧ t.node.nodeState = s.node.nodeState := by
  obtain ⟨⟨now, insAt0, codeReady, cls, vcode, recs, decisions⟩, hgate, hmarked⟩ := State.cycleStart_effect hc hd
  exact .of_powered rfl hp ⟨now, insAt0, codeReady, cls, vcode, recs, decisions, hgate, hmarked.frame, hmarked.nodeState⟩

theorem exec_cycleStart_not_due (hc : s.isCell = true) (hd : s.t0Due k = false) : exec (.cycleStart k) s = .next s :=
  congrArg Host.Outcome.next (State.onPower_of_same (by simp [State.cycleStart, hc, hd]))

end

end Sys2Proof.Machine
end

section
namespace Sys2Proof.Machine

/-! ### WARP_RECEIVE (R85, R86, R103, R106) -/

section
variable {s : State} {p k : Nat} {w : Warp}

/-- A cell that takes part in the Weft hears its children on the down ports that are lit. -/
structure State.HearsWarp (s : State) (p : Nat) : Prop where
  refOk : s.tb.refOk = true
  cell : s.isCell = true
  powered : s.powered = true
  handed : s.weft.tw ≠ 0
  lo : 2 ≤ p
  hi : p ≤ 5
  lit : s.lit p = true

/-- An aggregate names this cell primary: PRI_B on the ports of tree B (R85). -/
def namesCell (p : Nat) (w : Warp) : Bool := w.priB == decide (4 ≤ p)

/-- The child's choice of primary is noted (R85). -/
def State.noteChild (s : State) (p : Nat) (w : Warp) : State :=
  s.upWeft fun x => { x with childNamed := vset x.childNamed (p - 2) (namesCell p w) }

/-- An aggregate is held for its cycle, in place of one of the same port (R85). -/
def State.holdWarp (s : State) (p : Nat) (w : Warp) : State :=
  (s.noteChild p w).upWeft fun x => { x with
    ins := ⟨s.cycleOf w.cycle, p, namesCell p w, w⟩ :: x.ins.filter fun e => (e.k != s.cycleOf w.cycle || e.port != p) && s.weft.k < e.k + 4 }

theorem vget_vset {α : Type} {n i : Nat} (v : Vector α n) (x d : α) (h : i < n) : vget (vset v i x) i d = x := by
  simp [vget, vset, Vector.getElem?_setIfInBounds_self_of_lt h]

theorem State.HearsWarp.childNamed (h : s.HearsWarp p) (w : Warp) : vget (s.noteChild p w).weft.childNamed (p - 2) false = namesCell p w :=
  vget_vset _ _ _ (by have := h.lo; have := h.hi; omega)

theorem State.holdWarp_mem (s : State) (p : Nat) (w : Warp) : ⟨s.cycleOf w.cycle, p, namesCell p w, w⟩ ∈ (s.holdWarp p w).weft.ins :=
  List.mem_cons_self

theorem State.holdWarp_childNamed (s : State) (p : Nat) (w : Warp) : (s.holdWarp p w).weft.childNamed = (s.noteChild p w).weft.childNamed := rfl

theorem State.holdWarp_lates (s : State) (p : Nat) (w : Warp) : (s.holdWarp p w).weft.lates = s.weft.lates := rfl

theorem State.holdWarp_marked (s : State) (p : Nat) (w : Warp) : Marked [.weft, .node, .link, .evc, .recd] s (s.holdWarp p w) :=
  ((s.upWeft_marked _).trans (State.upWeft_marked _ _)).mono

theorem State.HearsWarp.exec_eq (h : s.HearsWarp p) (w : Warp) : exec (.warpReceive p w) s = .next (s.warpRx p w) :=
  congrArg Host.Outcome.next (State.onLane_on s _ h.powered h.refOk)

theorem State.HearsWarp.runs {P : State → Prop} {t : State} (h : s.HearsWarp p) (hrx : s.warpRx p w = t) (ht : P t) :
    Runs (.warpReceive p w) s P := ⟨t, hrx ▸ h.exec_eq w, ht⟩

/-- A RESENT aggregate of a merged cycle only names its primary (R103). -/
theorem State.HearsWarp.rx_resent {r : WeftRec} (h : s.HearsWarp p) (hr : s.recOf (s.cycleOf w.cycle) = some r) (hw : w.resent = true) :
    s.warpRx p w = s.noteChild p w := by
  simp [State.warpRx, h.cell, h.lo, h.hi, h.lit, h.handed, hr, hw, State.isArm_of_isCell h.cell, State.noteChild, namesCell]

theorem State.HearsWarp.rx_late (h : s.HearsWarp p) (hr : s.recOf (s.cycleOf w.cycle) = none)
    (hd : s.tallyAt (s.cycleOf w.cycle) ≤ s.tb.ntNs) : s.warpRx p w = (s.noteChild p w).lateWarp p (s.cycleOf w.cycle) := by
  simp [State.warpRx, h.cell, h.lo, h.hi, h.lit, h.handed, hr, hd, State.isArm_of_isCell h.cell, State.noteChild, namesCell]

/-- An aggregate that comes before TD(L) of a cycle not merged yet is held, and may complete what the Tally waits for (R86). -/
theorem State.HearsWarp.rx_held (h : s.HearsWarp p) (hr : s.recOf (s.cycleOf w.cycle) = none) (hk : s.weft.k < s.cycleOf w.cycle + 4)
    (h0 : s.t0 (s.cycleOf w.cycle) ≤ s.tb.ntNs) (hd : s.tb.ntNs < s.tallyAt (s.cycleOf w.cycle)) :
    s.warpRx p w = (s.holdWarp p w).tryTally (s.cycleOf w.cycle) := by
  simp [State.warpRx, h.cell, h.lo, h.hi, h.lit, h.handed, hr, Nat.not_lt.mpr h0, Nat.not_le.mpr hk, Nat.not_le.mpr hd,
    State.isArm_of_isCell h.cell, State.reopens, State.holdWarp, State.noteChild, namesCell]

/-- One that names this cell before TD(L) of a cycle merged early is merged in (R86). -/
theorem State.HearsWarp.rx_reopened {r : WeftRec} (h : s.HearsWarp p) (hr : s.recOf (s.cycleOf w.cycle) = some r) (hw : w.resent = false)
    (hh : s.holdsCycle (s.cycleOf w.cycle) = true) (h0 : s.t0 (s.cycleOf w.cycle) ≤ s.tb.ntNs)
    (hd : s.tb.ntNs < s.tallyAt (s.cycleOf w.cycle)) (hn : namesCell p w = true) :
    s.warpRx p w = (s.holdWarp p w).cellMerge (s.cycleOf w.cycle) := by
  have hk : s.weft.k < s.cycleOf w.cycle + 4 := by simpa [State.holdsCycle] using (Bool.and_eq_true_iff.mp hh).2
  have hn' : (w.priB == decide (4 ≤ p)) = true := hn
  rw [← State.mergeNow_cell (s := s.holdWarp p w) h.cell]
  simp [State.warpRx, h.cell, h.lo, h.hi, h.lit, h.handed, hr, hw, hh, hn', Nat.not_lt.mpr h0, Nat.not_le.mpr hk, Nat.not_le.mpr hd,
    State.isArm_of_isCell h.cell, State.reopens, State.holdWarp, State.noteChild, namesCell]

/-- The count of a late aggregate, with its bit of STAT and the cycle of the port's latest one (R106). -/
def State.countLate (s : State) (p k : Nat) : State :=
  s.upWeft fun w => { w with lates := satAdd 32 w.lates 1, stat := setBit32 w.stat 18, lateK := vset w.lateK (p - 2) (some k) }

/-- A late aggregate counts, and is an F1 WEFT_LATE at the first cycle of a run of the port (R106). -/
theorem State.lateWarp_effect (s : State) (p k : Nat) :
    (s.lateWarp p k).weft = (s.countLate p k).weft ∧ Marked [.weft, .node, .evc, .recd] s (s.lateWarp p k) := by
  unfold State.lateWarp
  extract_lets goes s1
  have h1 : Marked [.node] s s1 := .ite (.refl s) (s.endRun_marked _ _)
  have hweft : s1.weft = s.weft := h1.frame .weft (by decide)
  have hevent := State.event_marked (s1.countLate p k) 0x43 1
  have hraise := (State.raiseRun_f1_noted (n := .weftLate) ((s1.countLate p k).event 0x43) p (fun _ _ => rfl) nofun).marked
  refine ⟨?_, ((h1.mono.next (s1.upWeft_marked _)).next hevent).next hraise⟩
  calc (((s1.countLate p k).event 0x43).raiseRun .weftLate p).weft
    _ = ((s1.countLate p k).event 0x43).weft := hraise.frame .weft (by decide)
    _ = (s1.countLate p k).weft := hevent.frame .weft (by decide)
    _ = (s.countLate p k).weft := by rw [State.countLate, State.upWeft_weft, hweft]; rfl

theorem State.HearsWarp.runs_held (h : s.HearsWarp p) (hr : s.recOf (s.cycleOf w.cycle) = none) (hk : s.weft.k < s.cycleOf w.cycle + 4)
    (h0 : s.t0 (s.cycleOf w.cycle) ≤ s.tb.ntNs) (hd : s.tb.ntNs < s.tallyAt (s.cycleOf w.cycle)) :
    Runs (.warpReceive p w) s fun t => ⟨s.cycleOf w.cycle, p, namesCell p w, w⟩ ∈ t.weft.ins
      ∧ vget t.weft.childNamed (p - 2) false = namesCell p w ∧ t.weft.lates = s.weft.lates
      ∧ SameBut [.weft, .node, .link, .evc, .recd] s t ∧ t.node = { s.node with runs := t.node.runs } := by
  have hmem := s.holdWarp_mem p w
  have hheld := s.holdWarp_marked p w
  obtain ht | ht := State.tryTally_cases (hheld.isCell.trans h.cell) (s.cycleOf w.cycle)
  · refine h.runs ((h.rx_held hr hk h0 hd).trans ht) ?_
    rw [State.holdWarp_childNamed, State.holdWarp_lates]
    exact ⟨hmem, h.childNamed w, rfl, hheld.frame, hheld.node⟩
  · have hmerged := (s.holdWarp p w).cellMerge_effect (s.cycleOf w.cycle)
    have hmarked := hheld.trans hmerged.marked
    refine h.runs ((h.rx_held hr hk h0 hd).trans ht) ?_
    rw [hmerged.ins, hmerged.childNamed, hmerged.lates, State.holdWarp_childNamed, State.holdWarp_lates]
    exact ⟨hmem, h.childNamed w, rfl, hmarked.frame, hmarked.node⟩

theorem State.HearsWarp.runs_late (h : s.HearsWarp p) (hr : s.recOf (s.cycleOf w.cycle) = none)
    (hd : s.tallyAt (s.cycleOf w.cycle) ≤ s.tb.ntNs) :
    Runs (.warpReceive p w) s fun t => t.weft.ins = s.weft.ins ∧ t.weft.lates = satAdd 32 s.weft.lates 1
      ∧ vget t.weft.childNamed (p - 2) false = namesCell p w ∧ t.weft.recs = s.weft.recs
      ∧ SameBut [.weft, .node, .evc, .recd] s t ∧ t.node = { s.node with runs := t.node.runs } := by
  refine h.runs (h.rx_late hr hd) ?_
  obtain ⟨hweft, hlate⟩ := (s.noteChild p w).lateWarp_effect p (s.cycleOf w.cycle)
  have hmarked := (s.upWeft_marked _).mono.trans hlate
  rw [hweft]
  exact ⟨rfl, rfl, h.childNamed w, rfl, hmarked.frame, hmarked.node⟩

theorem State.HearsWarp.runs_reopened {r : WeftRec} (h : s.HearsWarp p) (hr : s.recOf (s.cycleOf w.cycle) = some r) (hw : w.resent = false)
    (hh : s.holdsCycle (s.cycleOf w.cycle) = true) (h0 : s.t0 (s.cycleOf w.cycle) ≤ s.tb.ntNs)
    (hd : s.tb.ntNs < s.tallyAt (s.cycleOf w.cycle)) (hn : namesCell p w = true) :
    Runs (.warpReceive p w) s fun t => ⟨s.cycleOf w.cycle, p, true, w⟩ ∈ t.weft.ins ∧ (t.recOf (s.cycleOf w.cycle)).isSome = true
      ∧ t.weft.lates = s.weft.lates ∧ SameBut [.weft, .node, .link, .evc, .recd] s t := by
  refine h.runs (h.rx_reopened hr hw hh h0 hd hn) ?_
  have hmem := s.holdWarp_mem p w
  rw [hn] at hmem
  have hmerged := (s.holdWarp p w).cellMerge_effect (s.cycleOf w.cycle)
  rw [hmerged.ins, hmerged.recOf, hmerged.lates, State.holdWarp_lates]
  exact ⟨hmem, rfl, rfl, ((s.holdWarp_marked p w).trans hmerged.marked).frame⟩

theorem State.HearsWarp.exec_resent {r : WeftRec} (h : s.HearsWarp p) (hr : s.recOf (s.cycleOf w.cycle) = some r) (hw : w.resent = true) :
    exec (.warpReceive p w) s = .next (s.noteChild p w) := by rw [h.exec_eq w, h.rx_resent hr hw]

/-- A port that is dark or no down port, and one before the hand-over, delivers nothing; without REFCLK no lane runs. -/
theorem exec_warpReceive_unheard (h : p < 2 ∨ 5 < p ∨ s.lit p = false ∨ s.weft.tw = 0 ∨ s.tb.refOk = false) :
    exec (.warpReceive p w) s = .next s := by
  refine congrArg Host.Outcome.next (State.onLane_of_same fun hr => ?_)
  obtain h | h | h | h | h := h
  · simp [State.warpRx, Nat.not_le.mpr h]
  · simp [State.warpRx, Nat.not_le.mpr h]
  · simp [State.warpRx, h]
  · simp [State.warpRx, h]
  · simp [h] at hr

end

/-- Settles O10: CYCLE_START with what t₀ notes, the aggregates by when they come, and the Tally of a cycle that is not merged yet. -/
theorem cycleStartAndTallyOfACell : Obligations.CycleStartAndTallyOfACell := by
  refine ⟨?_, ?_, ?_, ?_, ?_, ?_, ?_, ?_, ?_, ?_⟩
  · exact fun s k hc hp hd => runs_cycleStart hc hp hd
  · exact fun s k hc hd => exec_cycleStart_not_due hc hd
  · exact fun s p w hr hc hp ht hlo hhi hl hrec hk h0 hd => State.HearsWarp.runs_held ⟨hr, hc, hp, ht, hlo, hhi, hl⟩ hrec hk h0 hd
  · exact fun s p w hr hc hp ht hlo hhi hl hrec hd => State.HearsWarp.runs_late ⟨hr, hc, hp, ht, hlo, hhi, hl⟩ hrec hd
  · exact fun s p w r hr hc hp ht hlo hhi hl hrec hw => State.HearsWarp.exec_resent ⟨hr, hc, hp, ht, hlo, hhi, hl⟩ hrec hw
  · exact fun s p w r hr hc hp ht hlo hhi hl hrec hw hh h0 hd hn =>
      State.HearsWarp.runs_reopened ⟨hr, hc, hp, ht, hlo, hhi, hl⟩ hrec hw hh h0 hd hn
  · exact fun s p w h => exec_warpReceive_unheard h
  · exact fun s k o hc hp ht hh hd hr ho => runs_tallyDeadline hc hp ht hh hd hr ho
  · exact fun s k r hc hr => exec_tallyDeadline_idle (State.tallyDue_merged hc hr)
  · exact fun s k h => exec_tallyDeadline_idle (State.tallyDue_early h)

end Sys2Proof.Machine
end

section
namespace Sys2Proof.Machine

/-! ### Splitting a Shuttle (R92, R93) -/

section
variable {s : State}

theorem State.splitTo_marked (r : WeftRec) (x : Shuttle) (acc : State × Nat) (p : Nat) :
    Marked [.link, .recd, .evc, .node] acc.1 (State.splitTo r x acc p).1 :=
  (acc.1.sendLocal_marked _ _ _).trans (State.sendLocal_marked _ _ _ _)

theorem State.splitAll_marked (r : WeftRec) (x : Shuttle) (ps : List Nat) (acc : State × Nat) :
    Marked [.link, .recd, .evc, .node] acc.1 (ps.foldl (State.splitTo r x) acc).1 := by
  induction ps generalizing acc with
  | nil => exact .refl _
  | cons p ps ih => exact (State.splitTo_marked r x acc p).trans (ih _)

/-- A split sends to the children; of the Weft it changes SHORT and its bit of STAT at most (R93). -/
theorem State.split_effect (s : State) (r : WeftRec) (k need : Nat) (x : Shuttle) :
    (∃ short stat, (s.split r k need x).weft = { s.weft with short := short, stat := stat })
      ∧ Marked [.weft, .link, .recd, .evc, .node] s (s.split r k need x) := by
  have hsent := State.splitAll_marked r x (s.splitList r k) (s, need)
  have hweft := hsent.frame .weft (by decide)
  unfold State.split
  extract_lets res
  split
  · exact ⟨⟨_, _, hweft⟩, hsent.mono⟩
  · have hevent := State.event_marked (res.1.upWeft fun w => { w with short := satAdd 16 w.short res.2, stat := setBit32 w.stat 19 }) 0x45 res.2
    refine ⟨⟨satAdd 16 s.weft.short res.2, setBit32 s.weft.stat 19, ?_⟩, (hsent.mono.next (State.upWeft_marked _ _)).next hevent⟩
    rw [hevent.frame .weft (by decide), State.upWeft_weft, show res.1.weft = s.weft from hweft]

end

/-! ### F2 faults that ask for BLOCK (R14, R29, R348) -/

section
variable {s : State} {n : FaultName}

/-- A cause of the SPB latch changes of the node no more than what the entry into BLOCK does (R29). -/
theorem State.setCause_node (s : State) (i : Nat) :
    ∃ st due k, (s.setCause i).node = { s.node with nodeState := st, orphanBypassDue := due, orphanDueK := k } := by
  by_cases h : s.node.nodeState = .ready ∨ s.node.nodeState = .service ∨ s.node.nodeState = .hold
  · exact ⟨_, _, _, (State.setCause_serving i h).1⟩
  · exact ⟨_, _, _, State.setCause_elsewhere i (by simpa only [not_or] using h)⟩

/-- Outside a pair an F2 whose table names BLOCK is recorded, and firmware asks for BLOCK. -/
theorem State.raise_blocking (arg : Nat) (hm : s.isMember = false) (hc : ∀ role active, n.clsIn role active = .f2)
    (hb : n.blocks s.isCell = true) : s.raise n arg = (s.recordEv { name := n, arg := arg }).blockRequest.healthCheck := by
  have h2 : s.evClass { name := n, arg := arg } = .f2 := by simp [State.evClass, State.faultClass, hc, FClass.code]
  obtain ⟨r, hrec⟩ := s.recordEv_node { name := n, arg := arg }
  obtain ⟨st, due, k, hset⟩ := (s.recordEv { name := n, arg := arg }).setCause_node 11
  have hcell : (s.recordEv { name := n, arg := arg }).isCell = s.isCell := State.isCell_of_role (by rw [hrec])
  have hmem : (s.recordEv { name := n, arg := arg }).blockRequest.isMember = false :=
    (State.isMember_of_role (by rw [State.blockRequest, hset, hrec])).trans hm
  simp [State.raise, State.raiseAll, State.topClass, sortEvs, insertEv, State.actOn, h2, FClass.max, FClass.code, hcell, hb, hmem]

/-- A cell in SERVICE with such a fault is in BLOCK. -/
theorem State.raise_blocking_service (arg : Nat) (hcell : s.isCell = true) (hc : ∀ role active, n.clsIn role active = .f2)
    (hb : n.blocks true = true) (hs : s.node.nodeState = .service) : (s.raise n arg).node.nodeState = .block := by
  obtain ⟨r, hrec⟩ := s.recordEv_node { name := n, arg := arg }
  have hserving : (s.recordEv { name := n, arg := arg }).node.nodeState = .service := by rw [hrec]; exact hs
  rw [State.raise_blocking arg (State.isMember_of_isCell hcell) hc (by rw [hcell]; exact hb)]
  have hcheck : (s.recordEv { name := n, arg := arg }).blockRequest.healthCheck.node = _ := State.healthCheck_sameBut _ .node (by decide)
  rw [hcheck, State.blockRequest, (State.setCause_serving 11 (.inr (.inl hserving))).1]
  rfl

end

/-! ### SHUTTLE_RECEIVE (R91 to R97) -/

section
variable {s : State} {p k : Nat} {r : WeftRec} {x : Shuttle}

/-- The Shuttle's BRIDGE flag differs from this cell's bridge (R97). -/
def State.bridgeDiffers (s : State) (x : Shuttle) : Bool := decide ((s.objEff Obj.BRIDGE == 1) ≠ x.bridge)

/-- The decision that a cell holds of a valid Shuttle (R95, R97, R148). -/
def State.decisionOf (s : State) (k : Nat) (r : WeftRec) (x : Shuttle) : Decision :=
  ⟨k, if s.bridgeDiffers x then .keep else (ownDecision x r.cls r.bin).1, s.lateForEdges k⟩

/-- The decision is held, with the bits of STAT (R107). -/
def State.noteDecided (s : State) (k : Nat) (r : WeftRec) (x : Shuttle) : State :=
  s.upWeft fun w => { w with
    decisions := (s.decisionOf k r x :: w.decisions).take 8, lastDec := x
    stat := putBit (putBit w.stat 16 (getBit w.stat 16 || x.keep)) 17 (getBit w.stat 17 || x.cmiss) }

/-- The decision and its window are held, and the Shuttle is split among the children. -/
def State.heldDecision (s : State) (k : Nat) (r : WeftRec) (x : Shuttle) : State :=
  ((if x.keep then (s.noteDecided k r x).event 0x41 else s.noteDecided k r x).takeWindow k x).split r k (ownDecision x r.cls r.bin).2 x

theorem State.takeDecision_eq (hc : s.isCell = true) (k : Nat) (r : WeftRec) (x : Shuttle) :
    s.takeDecision k r x = if s.bridgeDiffers x then ((s.heldDecision k r x).startRun .bridgeMismatch 0).raise .bridgeMismatch
      else (s.heldDecision k r x).endRun .bridgeMismatch 0 := by
  unfold State.takeDecision
  rw [hc]
  rfl

/-- What a cell keeps of a valid decision. -/
structure DecisionHeld (k : Nat) (r : WeftRec) (x : Shuttle) (s t : State) : Prop where
  decisions : t.weft.decisions = (s.decisionOf k r x :: s.weft.decisions).take 8
  lastDec : t.weft.lastDec = x
  keeps : t.weft.keeps = s.weft.keeps
  cmisses : t.weft.cmisses = s.weft.cmisses
  window : x.wvalid = true → s.weft.armCarrier = false → t.window (k + 2) = some (Shuttle_win x)

/-- A window that is taken is the one held for its cycle (R80, R91). -/
theorem State.takeWindow_effect (s : State) (k : Nat) (x : Shuttle) :
    (∃ wins, (s.takeWindow k x).weft = { s.weft with wins := wins }) ∧ Marked [.weft] s (s.takeWindow k x)
      ∧ (x.wvalid = true → s.weft.armCarrier = false → (s.takeWindow k x).window (k + 2) = some (Shuttle_win x)) := by
  unfold State.takeWindow
  split
  · exact ⟨⟨_, rfl⟩, s.upWeft_marked _, fun _ _ => by simp [State.window]⟩
  · rename_i h
    exact ⟨⟨_, rfl⟩, .refl s, fun hw hc => absurd (by simp [hw, hc]) h⟩

theorem State.heldDecision_effect (s : State) (k : Nat) (r : WeftRec) (x : Shuttle) :
    DecisionHeld k r x s (s.heldDecision k r x) ∧ Marked [.weft, .link, .recd, .evc, .node] s (s.heldDecision k r x) := by
  obtain ⟨u, hu⟩ : ∃ u, u = if x.keep then (s.noteDecided k r x).event 0x41 else s.noteDecided k r x := ⟨_, rfl⟩
  have hnoted : Marked [.evc] (s.noteDecided k r x) u := hu ▸ .ite (State.event_marked _ _ _) (.refl _)
  have huweft : u.weft = (s.noteDecided k r x).weft := hnoted.frame .weft (by decide)
  obtain ⟨⟨wins, hwins⟩, hwindow, hwin⟩ := u.takeWindow_effect k x
  obtain ⟨⟨short, stat, hsplit⟩, hsent⟩ := (u.takeWindow k x).split_effect r k (ownDecision x r.cls r.bin).2 x
  have hheld : s.heldDecision k r x = (u.takeWindow k x).split r k (ownDecision x r.cls r.bin).2 x := by rw [hu]; rfl
  rw [hheld]
  refine ⟨?_, ((((s.upWeft_marked _).mono).next hnoted).next hwindow).trans hsent⟩
  constructor
  case window =>
    intro hw hc
    rw [← hwin hw (by rw [huweft]; exact hc), State.window, State.window, hsplit]
  all_goals rw [hsplit, hwins, huweft]; rfl

theorem DecisionHeld.of_weft {t u : State} (h : DecisionHeld k r x s t) (hu : u.weft = t.weft) : DecisionHeld k r x s u := by
  obtain ⟨decisions, lastDec, keeps, cmisses, window⟩ := h
  refine ⟨?_, ?_, ?_, ?_, ?_⟩ <;> simp only [State.window, hu] <;> assumption

/-- A Shuttle whose BRIDGE flag agrees. -/
theorem State.takeDecision_agreeing (hc : s.isCell = true) (hb : s.bridgeDiffers x = false) (k : Nat) (r : WeftRec) :
    DecisionHeld k r x s (s.takeDecision k r x) ∧ Marked [.weft, .link, .recd, .evc, .node] s (s.takeDecision k r x) := by
  obtain ⟨hheld, hmarked⟩ := s.heldDecision_effect k r x
  rw [State.takeDecision_eq hc, hb, if_neg Bool.false_ne_true]
  have hend := State.endRun_marked (s.heldDecision k r x) .bridgeMismatch 0
  exact ⟨hheld.of_weft (hend.frame .weft (by decide)), hmarked.next hend⟩

/-- A Shuttle whose BRIDGE flag differs: F2 BRIDGE_MISMATCH, which asks for BLOCK (R97). -/
theorem State.takeDecision_differing (hc : s.isCell = true) (hb : s.bridgeDiffers x = true) (k : Nat) (r : WeftRec) :
    DecisionHeld k r x s (s.takeDecision k r x) ∧ SameBut (.weft :: faultParts) s (s.takeDecision k r x)
      ∧ (s.node.nodeState = .service → (s.takeDecision k r x).node.nodeState = .block) := by
  obtain ⟨hheld, hmarked⟩ := s.heldDecision_effect k r x
  have hrun := hmarked.next (State.startRun_marked _ .bridgeMismatch 0)
  have hraise := ((s.heldDecision k r x).startRun .bridgeMismatch 0).raise_sameBut .bridgeMismatch 0
  have hweft := (hraise .weft (by decide)).trans ((s.heldDecision k r x).startRun_sameBut .bridgeMismatch 0 .weft (by decide))
  rw [State.takeDecision_eq hc, hb, if_pos rfl]
  refine ⟨hheld.of_weft hweft, (hrun.frame.mono (by decide)).trans (hraise.mono (by decide)), fun hs => ?_⟩
  exact State.raise_blocking_service 0 (hrun.isCell.trans hc) (fun _ _ => rfl) rfl (hrun.nodeState.trans hs)

/-- The node notes no more than which of its parents is the active one (R87). -/
theorem State.noteActive_eq (s : State) (p : Nat) : ∃ home, s.noteActive p = s.upNode fun n => { n with home := home } := by
  unfold State.noteActive
  split
  · exact ⟨_, rfl⟩
  · exact ⟨s.node.home, rfl⟩

/-- A cell that takes part in the Weft hears its parents on the ports that are lit. -/
structure State.HearsShuttle (s : State) (p : Nat) : Prop where
  cell : s.isCell = true
  lit : s.lit p = true
  handed : s.weft.tw ≠ 0

/-- A Shuttle that cannot be the decision of its cycle: the cycle has no rec, its decision is there, or the Shuttle is not valid (R92 to R94). -/
def State.Discards (s : State) (p : Nat) (x : Shuttle) : Prop :=
  s.recOf (s.cycleOf x.cycle) = none ∨ s.weft.decisions.any (·.k == s.cycleOf x.cycle) = true
    ∨ ∃ r, s.recOf (s.cycleOf x.cycle) = some r ∧ s.shuttleValid p (s.cycleOf x.cycle) r x = false

theorem State.shuttleRx_unheard (h : s.isCell = false ∨ s.lit p = false ∨ s.weft.tw = 0) : s.shuttleRx p x = s := by
  obtain h | h | h := h <;> simp [State.shuttleRx, h]

theorem State.HearsShuttle.rx_taken (h : s.HearsShuttle p) (hr : s.recOf (s.cycleOf x.cycle) = some r)
    (hd : s.weft.decisions.any (·.k == s.cycleOf x.cycle) = false) (hv : s.shuttleValid p (s.cycleOf x.cycle) r x = true) :
    s.shuttleRx p x = (s.noteActive p).takeDecision (s.cycleOf x.cycle) r x := by
  obtain ⟨home, hhome⟩ := s.noteActive_eq p
  have hr' : (s.noteActive p).recOf (s.cycleOf x.cycle) = some r := by rw [hhome]; exact hr
  have hd' : (s.noteActive p).weft.decisions.any (·.k == s.cycleOf x.cycle) = false := by rw [hhome]; exact hd
  have hv' : (s.noteActive p).shuttleValid p (s.cycleOf x.cycle) r x = true := by rw [hhome]; exact hv
  simp [State.shuttleRx, h.cell, h.lit, h.handed, hr', hd', hv']

theorem State.HearsShuttle.rx_discarded (h : s.HearsShuttle p) (hd : s.Discards p x) : s.shuttleRx p x = s.noteActive p := by
  obtain ⟨home, hhome⟩ := s.noteActive_eq p
  have hrec : (s.noteActive p).recOf (s.cycleOf x.cycle) = s.recOf (s.cycleOf x.cycle) := by rw [hhome]; rfl
  have hdec : (s.noteActive p).weft.decisions = s.weft.decisions := by rw [hhome]; rfl
  simp only [State.shuttleRx, h.cell, h.lit, beq_eq_false_iff_ne.mpr h.handed, hrec, hdec]
  cases hr : s.recOf (s.cycleOf x.cycle) with
  | none => rfl
  | some r =>
    have hv : (s.noteActive p).shuttleValid p (s.cycleOf x.cycle) r x = s.shuttleValid p (s.cycleOf x.cycle) r x := by rw [hhome]; rfl
    obtain hn | ha | ⟨r', hr', hbad⟩ := hd
    · rw [hr] at hn
      cases hn
    · simp [ha]
    · cases hr.symm.trans hr'
      simp [hv, hbad]

/-- What SHUTTLE_RECEIVE leaves of a valid Shuttle, whether its BRIDGE flag agrees or not. -/
theorem State.takeDecision_effect (hc : s.isCell = true) (k : Nat) (r : WeftRec) (x : Shuttle) :
    DecisionHeld k r x s (s.takeDecision k r x)
      ∧ (s.bridgeDiffers x = false → (s.takeDecision k r x).node.nodeState = s.node.nodeState)
      ∧ (s.bridgeDiffers x = true → s.node.nodeState = .service → (s.takeDecision k r x).node.nodeState = .block)
      ∧ SameBut (.weft :: faultParts) s (s.takeDecision k r x) := by
  cases hb : s.bridgeDiffers x with
  | false =>
    obtain ⟨hheld, hmarked⟩ := State.takeDecision_agreeing hc hb k r
    exact ⟨hheld, fun _ => hmarked.nodeState, nofun, hmarked.frame.mono (by decide)⟩
  | true =>
    obtain ⟨hheld, hframe, hblock⟩ := State.takeDecision_differing hc hb k r
    exact ⟨hheld, nofun, fun _ => hblock, hframe⟩

theorem State.HearsShuttle.runs_taken (h : s.HearsShuttle p) (ho : s.tb.refOk = true) (hp : s.powered = true)
    (hr : s.recOf (s.cycleOf x.cycle) = some r) (hd : s.weft.decisions.any (·.k == s.cycleOf x.cycle) = false)
    (hv : s.shuttleValid p (s.cycleOf x.cycle) r x = true) :
    Runs (.shuttleReceive p x) s fun t =>
      t.weft.decisions = (s.decisionOf (s.cycleOf x.cycle) r x :: s.weft.decisions).take 8
      ∧ t.weft.lastDec = x ∧ t.weft.keeps = s.weft.keeps ∧ t.weft.cmisses = s.weft.cmisses
      ∧ (x.wvalid = true → s.weft.armCarrier = false →
        t.window (s.cycleOf x.cycle + 2) = some ⟨x.wb, x.ws, x.dirHint, x.polHint, true, x.rb⟩)
      ∧ (s.bridgeDiffers x = false → t.node.nodeState = s.node.nodeState)
      ∧ (s.bridgeDiffers x = true → s.node.nodeState = .service → t.node.nodeState = .block)
      ∧ SameBut (.weft :: faultParts) s t := by
  obtain ⟨home, hhome⟩ := s.noteActive_eq p
  obtain ⟨⟨decisions, lastDec, keeps, cmisses, window⟩, hagree, hdiffer, hframe⟩ :=
    State.takeDecision_effect (s := s.upNode fun n => { n with home := home }) h.cell (s.cycleOf x.cycle) r x
  have hexec : exec (.shuttleReceive p x) s = .next ((s.upNode fun n => { n with home := home }).takeDecision (s.cycleOf x.cycle) r x) := by
    rw [← hhome, ← h.rx_taken hr hd hv]
    exact congrArg Host.Outcome.next (State.onLane_on s _ hp ho)
  refine ⟨_, hexec, decisions, lastDec, keeps, cmisses, fun hw hc => ?_, hagree, hdiffer,
    ((s.upNode_sameBut _).mono (by decide)).trans hframe⟩
  exact hw ▸ window hw hc

theorem runs_shuttleReceive_discarded (ho : s.tb.refOk = true) (hc : s.isCell = true) (hp : s.powered = true) (hd : s.Discards p x) :
    Runs (.shuttleReceive p x) s fun t => t.node = { s.node with home := t.node.home } ∧ SameBut [.node] s t := by
  obtain ⟨home, hrx⟩ : ∃ home, s.shuttleRx p x = s.upNode fun n => { n with home := home } := by
    by_cases hl : s.lit p = false ∨ s.weft.tw = 0
    · exact ⟨s.node.home, State.shuttleRx_unheard (.inr hl)⟩
    · obtain ⟨hlit, htw⟩ := not_or.mp hl
      obtain ⟨home, hhome⟩ := s.noteActive_eq p
      exact ⟨home, (State.HearsShuttle.rx_discarded ⟨hc, by simpa using hlit, htw⟩ hd).trans hhome⟩
  refine ⟨s.upNode fun n => { n with home := home }, ?_, rfl, s.upNode_sameBut _⟩
  rw [← hrx]
  exact congrArg Host.Outcome.next (State.onLane_on s _ hp ho)

/-- A Shuttle from a dark port, before the hand-over or at a node that is no cell leaves everything; without REFCLK no lane runs. -/
theorem exec_shuttleReceive_unheard (h : s.isCell = false ∨ s.lit p = false ∨ s.weft.tw = 0 ∨ s.tb.refOk = false) :
    exec (.shuttleReceive p x) s = .next s :=
  congrArg Host.Outcome.next (State.onLane_of_same fun hr => State.shuttleRx_unheard (by simpa [hr] using h))

end

/-! ### A cell's own action (R93, R95) -/

theorem ownDecision_keeps {x : Shuttle} {cls : CellClass} (bin : Nat) (h : x.keep = true ∨ cls ≠ .eligible) :
    ownDecision x cls bin = (.keep, x.alloc) := by
  obtain h | h := h <;> simp [ownDecision, h]

/-- A cell in the boundary bin takes one unit of ALLOC. -/
theorem ownDecision_in_boundary_bin {x : Shuttle} {bin : Nat} (hk : x.keep = false) (hb : bin = x.bbin) (ha : x.alloc ≠ 0) :
    ownDecision x .eligible bin = (.insert x.polNeg, x.alloc - 1) := by simp [ownDecision, hk, hb, ha]

/-- A cell in a bin of the selected side is inserted and takes none. -/
theorem ownDecision_on_selected_side {x : Shuttle} {bin : Nat} (hk : x.keep = false) (hb : x.bbin < 64)
    (hs : (x.dirHigh = false ∧ bin < x.bbin) ∨ (x.dirHigh = true ∧ x.bbin < bin)) :
    ownDecision x .eligible bin = (.insert x.polNeg, x.alloc) := by
  have hne : bin ≠ x.bbin := by omega
  have hne64 : x.bbin ≠ 64 := by omega
  obtain ⟨hd, hlt⟩ | ⟨hd, hlt⟩ := hs <;> simp [ownDecision, hk, hne, hne64, hd, hlt]

/-- Settles O11: the first valid Shuttle of a cycle is held with the action of R95; any other one leaves no more than the active parent it names. -/
theorem shuttleIsTakenOnceAndOnlyWhenValid : Obligations.ShuttleIsTakenOnceAndOnlyWhenValid := by
  refine ⟨?_, ?_, ?_, ?_, ?_, ?_⟩
  · exact fun s p x r ho hc hp hl ht hr hd hv => State.HearsShuttle.runs_taken ⟨hc, hl, ht⟩ ho hp hr hd hv
  · exact fun s p x ho hc hp hd => runs_shuttleReceive_discarded ho hc hp hd
  · exact fun s p x h => exec_shuttleReceive_unheard h
  · exact fun x cls bin h => ownDecision_keeps bin h
  · exact fun x bin hk hb ha => ownDecision_in_boundary_bin hk hb ha
  · exact fun x bin hk hb hs => ownDecision_on_selected_side hk hb hs

end Sys2Proof.Machine
end

section
namespace Sys2Proof.Machine

/-! ### Runs of a fault (R106) -/

section
variable {s t : State} {n m : FaultName} {arg : Nat}

theorem State.inRun_of_runs (h : s.inRun n arg = true) (hr : t.node.runs = s.node.runs) : t.inRun n arg = true := by
  rw [State.inRun, hr]
  exact h

theorem State.startRun_inRun (s : State) (n : FaultName) (arg : Nat) : (s.startRun n arg).inRun n arg = true := by
  unfold State.startRun
  split
  · assumption
  · simp [State.inRun]

theorem State.inRun_startRun (b : Nat) (h : s.inRun n arg = true) : (s.startRun m b).inRun n arg = true := by
  unfold State.startRun
  split
  · exact h
  · simpa [State.inRun] using .inr (by simpa [State.inRun] using h)

theorem State.inRun_endRun (b : Nat) (hne : n ≠ m) (h : s.inRun n arg = true) : (s.endRun m b).inRun n arg = true := by
  have hmem : (n, arg) ∈ s.node.runs := by simpa [State.inRun] using h
  simp [State.inRun, State.endRun, hmem, hne]

/-- The making of a record starts and ends runs of REC_DROP only (R401). -/
theorem State.inRun_enterDen (r : Record) (hd : n ≠ .recDrop) (h : s.inRun n arg = true) : (s.enterDen r).inRun n arg = true := by
  unfold State.enterDen
  extract_lets drops s1 d
  have hnode : s1.node = s.node := State.event_sameBut _ 0x5D 1 .node (by decide)
  have h1 : s1.inRun n arg = true := State.inRun_of_runs h (by rw [hnode])
  split
  · split
    · exact h1
    · exact State.inRun_of_runs (State.inRun_startRun 0 h1) (by rw [State.upRecd_node])
  · exact State.inRun_endRun 0 hd h1

theorem State.inRun_dropFrame (p : Nat) (hd : n ≠ .recDrop) (h : s.inRun n arg = true) : (s.dropFrame p).inRun n arg = true := by
  unfold State.dropFrame
  extract_lets s1
  have h1 : s1.inRun n arg = true := h
  split
  · exact h1
  · exact State.inRun_enterDen _ hd (State.inRun_startRun p h1)

/-- A frame that is queued ends a run of LINK_CONGESTION, one that is dropped starts it (R208). -/
theorem State.inRun_enqueue (p : Nat) (f : Frame) (hd : n ≠ .recDrop) (hl : n ≠ .linkCongestion) (h : s.inRun n arg = true) :
    (s.enqueue p f).inRun n arg = true := by
  unfold State.enqueue
  split
  · exact h
  · split
    · exact State.inRun_endRun p hl (State.inRun_of_runs h rfl)
    · exact State.inRun_dropFrame p hd h

theorem State.inRun_enqueueAll (ps : List Nat) (f : Frame) (hd : n ≠ .recDrop) (hl : n ≠ .linkCongestion) (h : s.inRun n arg = true) :
    (s.enqueueAll ps f).inRun n arg = true := by
  unfold State.enqueueAll
  induction ps generalizing s with
  | nil => exact h
  | cons p ps ih => exact ih (State.inRun_enqueue p f hd hl h)

theorem State.inRun_sendYield (cause : Nat) (hd : n ≠ .recDrop) (hl : n ≠ .linkCongestion) (h : s.inRun n arg = true) :
    (s.sendYield cause).inRun n arg = true :=
  State.inRun_enqueueAll (s := (s.takeEseq .journal).2) _ _ hd hl h

theorem State.inRun_recordEv (e : Ev) (hd : n ≠ .recDrop) (h : s.inRun n arg = true) : (s.recordEv e).inRun n arg = true := by
  unfold State.recordEv
  extract_lets c rsn s1 s2
  have h1 : s1.inRun n arg = true := State.inRun_enterDen _ hd h
  have h2 : s2.inRun n arg = true := by
    simp only [s2]
    split
    · exact State.inRun_of_runs h1 (by rw [State.upNode_node])
    · exact h1
  split
  · exact State.inRun_of_runs h2 rfl
  · exact h2

theorem State.inRun_blockRequest (h : s.inRun n arg = true) : s.blockRequest.inRun n arg = true := by
  obtain ⟨st, due, k, hnode⟩ := s.setCause_node 11
  exact State.inRun_of_runs h (by rw [State.blockRequest, hnode])

end

/-! ### F3 at the active member of an arm (R14, R16, R335, R337) -/

section
variable {s : State} {n : FaultName}

/-- A member has yielded: it is YIELDED and says so on its down ports; the record, YIELD and, where nobody takes over, BLOCK have come of it. -/
structure Yields (s t : State) : Prop where
  pstate : t.jrn.pstate = .yielded
  upLost : t.jrn.upLostTx = true
  frame : SameBut [.node, .recd, .evc, .jrn, .link, .sel, .gate] s t
  runs : ∀ m arg, m ≠ .recDrop → m ≠ .linkCongestion → s.inRun m arg = true → t.inRun m arg = true

theorem State.isStation_of_isArm (h : s.isArm = true) : s.isStation = false := by
  have hr : s.node.role = .arm := by simpa [State.isArm] using h
  simp [State.isStation, hr]

theorem State.enqueueAll_marked (s : State) (ps : List Nat) (f : Frame) : Marked [.link, .recd, .evc, .node] s (s.enqueueAll ps f) :=
  .foldl (fun t p => t.enqueue_marked p f) ps s

theorem State.sendYield_marked (s : State) (cause : Nat) : Marked [.link, .recd, .evc, .node] s (s.sendYield cause) :=
  (Marked.of_sameBut (s.takeEseq_sameBut .journal)).mono.trans (State.enqueueAll_marked _ _ _)

/-- Outside a STATION nothing but the journal unit shows that a member steps down. -/
theorem State.toYielded_sameBut_jrn (cause : Nat) (h : s.isStation = false) :
    (s.toYielded cause).jrn.pstate = .yielded ∧ (s.toYielded cause).jrn.upLostTx = true ∧ SameBut [.jrn] s (s.toYielded cause) := by
  have h' : ∀ f, (s.upJrn f).isStation = false := fun _ => h
  simp [State.toYielded, State.endSessions, h']

theorem Yields.next {s t u : State} {l : List Part} (h : Yields s t) (hf : SameBut l t u)
    (hr : ∀ m arg, t.inRun m arg = true → u.inRun m arg = true)
    (hl : l ⊆ [.node, .recd, .evc, .link, .sel, .gate] := by decide) : Yields s u := by
  obtain ⟨pstate, upLost, frame, runs⟩ := h
  have hj : u.jrn = t.jrn := hf .jrn fun hm => absurd (hl hm) (by decide)
  exact ⟨hj ▸ pstate, hj ▸ upLost, frame.trans (hf.mono (List.Subset.trans hl (by decide))),
    fun m arg hd hc hs => hr m arg (runs m arg hd hc hs)⟩

theorem State.f3Action_yields (ha : s.isArm = true) (hact : s.isActive = true) : Yields s s.f3Action := by
  have hyield := s.sendYield_marked 1
  have hstation : (s.sendYield 1).isStation = false := (State.isStation_of_role hyield.role).trans (State.isStation_of_isArm ha)
  obtain ⟨pstate, upLost, hjrn⟩ := State.toYielded_sameBut_jrn 1 hstation
  have hnode : ((s.sendYield 1).toYielded 1).node = (s.sendYield 1).node := hjrn .node (by decide)
  have h1 : Yields s ((s.sendYield 1).toYielded 1) :=
    ⟨pstate, upLost, (hyield.frame.mono (by decide)).trans (hjrn.mono (by decide)),
      fun m arg hd hl h => State.inRun_of_runs (State.inRun_sendYield 1 hd hl h) (congrArg Node.runs hnode)⟩
  unfold State.f3Action
  rw [if_pos hact]
  extract_lets ok s1
  split
  · exact h1
  · have hblock : SameBut [.sel, .gate, .node, .evc] s1 (s1.upNode fun x => { x with armBlocked := true }).blockRequest := by simp
    exact h1.next hblock fun m arg h => State.inRun_blockRequest (State.inRun_of_runs h rfl)

/-- A check of the health leaves a YIELDED member as it is, but for what it notes. -/
theorem State.healthCheck_yielded (h : s.jrn.pstate = .yielded) :
    s.healthCheck.jrn.pstate = .yielded ∧ s.healthCheck.jrn.upLostTx = s.jrn.upLostTx ∧ SameBut [.jrn] s s.healthCheck := by
  unfold State.healthCheck
  dsimp only
  split <;> simp [h]

theorem State.raise_f3_yields (arg : Nat) (ha : s.isArm = true) (hact : s.isActive = true) (hc : n.clsIn .arm true = .f3) :
    Yields s (s.raise n arg) := by
  have hrole : s.node.role = .arm := by simpa [State.isArm] using ha
  have hp : s.jrn.pstate = .active := by simpa using (Bool.and_eq_true_iff.mp hact).2
  have h3 : s.evClass { name := n, arg := arg } = .f3 := by simp [State.evClass, State.faultClass, hrole, hact, hc, hp]
  obtain ⟨u, hu⟩ : ∃ u, u = s.recordEv { name := n, arg := arg } := ⟨_, rfl⟩
  obtain ⟨r, hnode⟩ := s.recordEv_node { name := n, arg := arg }
  have hframe : SameBut [.link, .recd, .evc, .node] s u := hu ▸ s.recordEv_sameBut _
  have hurole : u.node.role = s.node.role := by rw [hu, hnode]
  have hjrn : u.jrn = s.jrn := hframe .jrn (by decide)
  obtain ⟨pstate, upLost, frame, runs⟩ :=
    State.f3Action_yields ((State.isArm_of_role hurole).trans ha) ((State.isActive_of_role hurole hjrn).trans hact)
  obtain ⟨hpstate, hup, hcheck⟩ := State.healthCheck_yielded pstate
  have hraise : s.raise n arg = u.f3Action.healthCheck := by
    simp [State.raise, State.raiseAll, State.topClass, sortEvs, insertEv, State.actOn, h3, FClass.max, FClass.code, ← hu, pstate]
  rw [hraise]
  refine ⟨hpstate, hup.trans upLost, ((hframe.mono (by decide)).trans frame).trans (hcheck.mono (by decide)), fun m b hd hl h => ?_⟩
  have hrun := runs m b hd hl (hu ▸ State.inRun_recordEv _ hd h)
  exact State.inRun_of_runs hrun (congrArg Node.runs (hcheck .node (by decide)))

end

end Sys2Proof.Machine
end

section
namespace Sys2Proof.Machine

/-! ### COUNT_ADOPT and WEFT_STALL (R101, R102) -/

section
variable {s : State}

theorem State.adopt_idle (h : s.isArm = false ∨ s.isActive = false ∨ s.arm.mmRun < s.obj Obj.ADOPT_CYCLES) : s.adopt = s := by
  obtain h | h | h := h <;> simp [State.adopt, h]

theorem State.adopt_within (ha : s.isArm = true) (hact : s.isActive = true) (hrun : s.obj Obj.ADOPT_CYCLES ≤ s.arm.mmRun)
    (hl : (s.arm.adj + s.arm.mmDiff).natAbs ≤ s.obj Obj.ADJ_LIMIT) :
    s.adopt = ((s.upArm fun x => { x with adj := s.arm.adj + s.arm.mmDiff, mmRun := 0 }).upWeft fun w =>
      { w with adopts := satAdd 32 w.adopts 1 }).raise .countAdopted := by
  simp [State.adopt, ha, hact, Nat.not_lt.mpr hrun, Nat.not_lt.mpr hl]

theorem State.adopt_beyond (ha : s.isArm = true) (hact : s.isActive = true) (hrun : s.obj Obj.ADOPT_CYCLES ≤ s.arm.mmRun)
    (hl : s.obj Obj.ADJ_LIMIT < (s.arm.adj + s.arm.mmDiff).natAbs) :
    s.adopt = (s.upArm fun x => { x with mmRun := 0, adjOver := true }).raise .weftAdjLimit := by
  simp [State.adopt, ha, hact, Nat.not_lt.mpr hrun, hl]

theorem runs_countAdopt_within (ha : s.isArm = true) (hact : s.isActive = true) (hp : s.powered = true)
    (hrun : s.obj Obj.ADOPT_CYCLES ≤ s.arm.mmRun) (hl : (s.arm.adj + s.arm.mmDiff).natAbs ≤ s.obj Obj.ADJ_LIMIT) :
    Runs .countAdopt s fun t => t.arm = { s.arm with adj := s.arm.adj + s.arm.mmDiff, mmRun := 0 }
      ∧ t.weft = { s.weft with adopts := satAdd 32 s.weft.adopts 1 } ∧ t.node = { s.node with runs := t.node.runs }
      ∧ SameBut [.arm, .weft, .node, .recd, .evc] s t := by
  obtain ⟨u, hu⟩ : ∃ u, u = (s.upArm fun x => { x with adj := s.arm.adj + s.arm.mmDiff, mmRun := 0 }).upWeft fun w =>
    { w with adopts := satAdd 32 w.adopts 1 } := ⟨_, rfl⟩
  have hnoted := State.raise_f1_noted (n := .countAdopted) u 0 (fun _ _ => rfl) nofun
  have harm := hnoted.frame .arm (by decide)
  have hweft := hnoted.frame .weft (by decide)
  have hframe : SameBut [.arm, .weft, .node, .recd, .evc] s u := by simp [hu]
  refine .of_powered rfl hp ?_
  rw [State.adopt_within ha hact hrun hl, ← hu]
  refine ⟨harm.trans (by rw [hu]; rfl), hweft.trans (by rw [hu]; rfl), ?_, hframe.trans (hnoted.frame.mono (by decide))⟩
  have hnode := hnoted.node
  rwa [show u.node = s.node by rw [hu]; rfl] at hnode

theorem runs_countAdopt_beyond (ha : s.isArm = true) (hact : s.isActive = true) (hp : s.powered = true)
    (hrun : s.obj Obj.ADOPT_CYCLES ≤ s.arm.mmRun) (hl : s.obj Obj.ADJ_LIMIT < (s.arm.adj + s.arm.mmDiff).natAbs) :
    Runs .countAdopt s fun t => t.arm = { s.arm with mmRun := 0, adjOver := true } ∧ t.jrn.pstate = .yielded ∧ t.jrn.upLostTx = true
      ∧ t.weft = s.weft ∧ SameBut [.arm, .node, .recd, .evc, .jrn, .link, .sel, .gate] s t := by
  obtain ⟨pstate, upLost, frame, -⟩ :=
    State.raise_f3_yields (s := s.upArm fun x => { x with mmRun := 0, adjOver := true }) (n := .weftAdjLimit) 0 ha hact rfl
  refine .of_powered rfl hp ?_
  rw [State.adopt_beyond ha hact hrun hl]
  exact ⟨frame .arm (by decide), pstate, upLost, frame .weft (by decide), ((s.upArm_sameBut _).mono (by decide)).trans (frame.mono (by decide))⟩

theorem exec_countAdopt_idle (h : s.isArm = false ∨ s.isActive = false ∨ s.arm.mmRun < s.obj Obj.ADOPT_CYCLES) :
    exec .countAdopt s = .next s :=
  congrArg Host.Outcome.next (State.onPower_of_same (State.adopt_idle h))

theorem runs_weftStall (ha : s.isArm = true) (hact : s.isActive = true) (hp : s.powered = true) (hl : s.obj Obj.STALL_LIMIT ≤ s.arm.stallRun)
    (hrun : s.inRun .weftStall 0 = false) :
    Runs .weftStall s fun t => t.arm = s.arm ∧ t.inRun .weftStall 0 = true ∧ t.jrn.pstate = .yielded ∧ t.jrn.upLostTx = true
      ∧ SameBut [.arm, .node, .recd, .evc, .jrn, .link, .sel, .gate] s t := by
  have hstart := s.startRun_marked .weftStall 0
  obtain ⟨pstate, upLost, frame, runs⟩ := State.raise_f3_yields (n := .weftStall) 0 ((State.isArm_of_role hstart.role).trans ha)
    ((State.isActive_of_role hstart.role (hstart.frame .jrn (by decide))).trans hact) rfl
  have heffect : (if s.isArm && s.isActive && s.obj Obj.STALL_LIMIT ≤ s.arm.stallRun then s.raiseRun .weftStall else s)
      = (s.startRun .weftStall 0).raise .weftStall := by simp [ha, hact, hl, State.raiseRun, hrun]
  refine .of_powered rfl hp ?_
  rw [heffect]
  exact ⟨(frame .arm (by decide)).trans (hstart.frame .arm (by decide)), runs _ _ nofun nofun (s.startRun_inRun _ _), pstate, upLost,
    (hstart.frame.mono (by decide)).trans (frame.mono (by decide))⟩

theorem exec_weftStall_idle
    (h : s.isArm = false ∨ s.isActive = false ∨ s.arm.stallRun < s.obj Obj.STALL_LIMIT ∨ s.inRun .weftStall 0 = true) :
    exec .weftStall s = .next s := by
  refine congrArg Host.Outcome.next (State.onPower_of_same ?_)
  obtain h | h | h | h := h
  · simp [h]
  · simp [h]
  · simp [Nat.not_le.mpr h]
  · simp [State.raiseRun, h]

end

/-! ### REBASE and COUNTER_CLEAR (R101, R107) -/

section
variable {s : State}

/-- A write that is applied leaves its effect and nothing more. -/
theorem exec_of_applied {c : Instr} {t : State} {r : Applied} {key : Nat} (hc : exec c s = .next (s.onPower (settle key 0 r)))
    (hs : s.powered = true) (hr : r = t.yes) : exec c s = .next t := by
  rw [hc, State.onPower_on _ _ hs, hr]
  exact congrArg _ (settle_ok key 0 t)

theorem State.applyRebase_arm (ha : s.isArm = true) (v : Nat) :
    s.applyRebase v = s.ownWrite v (s.upArm fun x => { x with adj := 0, adjOver := false }).yes := by simp [State.applyRebase, ha]

/-- The Weft's COUNTER_CLEAR exists in every role (R108). -/
theorem objTable_weftCounterClear (role : Role) : (objTable.find? fun r => r.has Obj.WEFT_COUNTER_CLEAR && r.inRole role).isSome = true := by
  cases role <;> rfl

theorem State.objRow_weftCounterClear (s : State) : ∃ row, s.objRow s.node.role Obj.WEFT_COUNTER_CLEAR = some row := by
  obtain ⟨row, hrow⟩ := Option.isSome_iff_exists.mp (objTable_weftCounterClear s.node.role)
  have huser : isUserKey Obj.WEFT_COUNTER_CLEAR = false := by decide
  exact ⟨row, by simp [State.objRow, huser, hrow]⟩

/-- The eight counters of the Weft are cleared (R107). -/
def Weft.cleared (w : Weft) : Weft :=
  { w with keeps := 0, cmisses := 0, lates := 0, shorts := 0, misses := 0, sats := 0, adopts := 0, sensConflicts := 0 }

theorem State.applyClear_weft (s : State) (v : Nat) : s.applyClear Obj.WEFT_COUNTER_CLEAR v = s.ownWrite v (s.upWeft Weft.cleared).yes := by
  obtain ⟨row, hrow⟩ := s.objRow_weftCounterClear
  have hclear : s.clearFor Obj.WEFT_COUNTER_CLEAR = some (s.upWeft Weft.cleared) := rfl
  simp [State.applyClear, hrow, hclear]

end

/-! ### The carrier grid (R144, R149 to R151) -/

section
variable (s : State)

theorem State.insertNow_sameBut (nt : Int) (i : Insertion) : SameBut [.gate, .evc] s (s.insertNow nt i) :=
  .ite (s.gateStep_sameBut _) (.refl _ s)

theorem State.placeEdge_sameBut (e : SchedEdge) : SameBut [.gate, .evc] s (s.placeEdge e) := by
  unfold State.placeEdge State.carrierEdge
  extract_lets s1
  have h1 : SameBut [.gate, .evc] s s1 := by simp [s1]
  split
  · exact h1.trans (.ite (.refl _ _) (s1.insertNow_sameBut _ _))
  · simpa using h1

theorem State.placeDue_sameBut : SameBut [.gate, .evc] s s.placeDue := .foldl State.placeEdge_sameBut _ _

theorem State.planCounted_sameBut (b : Int) (drive : Bool) : SameBut [.gate, .evc] s (s.planCounted b drive) := by
  unfold State.planCounted State.planPeriod
  exact .ite (by simp) (by simp)

theorem State.regrid_sameBut : SameBut [.gate, .evc] s s.regrid := by
  unfold State.regrid
  extract_lets s1
  have h1 : SameBut [.gate, .evc] s s1 := s.planCounted_sameBut _ _
  refine .ite (.trans ?_ (State.placeDue_sameBut _)) (.refl _ s)
  simpa using h1

end

/-! ### HANDOVER_RECEIVE (R78) -/

section
variable {s : State} {n : FaultName}

/-- What an F2 that asks for no BLOCK may change outside a pair; the role is as it was. -/
structure RecordedF2 (s t : State) : Prop where
  frame : SameBut [.link, .recd, .evc, .node, .jrn] s t
  role : t.node.role = s.node.role

/-- Outside a pair an F2 whose table does not name BLOCK is recorded, and the health is checked. -/
theorem State.raise_f2 (arg : Nat) (hm : s.isMember = false) (hc : ∀ role active, n.clsIn role active = .f2) (hb : ∀ b, n.blocks b = false) :
    RecordedF2 s (s.raise n arg) := by
  have hf2 : ∀ e ∈ [({ name := n, arg := arg } : Ev)], s.evClass e = .f2 := by
    intro e he
    obtain rfl := List.mem_singleton.mp he
    exact s.faultClass_f2 (hc _ _)
  have hrec : SameBut [.link, .recd, .evc, .node] s ((sortEvs [{ name := n, arg := arg }]).foldl State.recordEv s) :=
    .foldl (fun t e => t.recordEv_sameBut e) _ _
  have hrole := (s.recordEvs_state (sortEvs [{ name := n, arg := arg }])).2
  have hcheck := State.healthCheck_of_not_member ((State.isMember_of_role hrole).trans hm)
  rw [State.raise, State.raiseAll_f2_of_not_member hm (State.topClass_f2 (List.cons_ne_nil _ _) hf2) (by simpa using hb _)]
  exact ⟨(hrec.mono (by decide)).trans (hcheck.mono (by decide)), (congrArg Node.role (hcheck .node (by decide))).trans hrole⟩

theorem State.raiseRun_f2 (arg : Nat) (hm : s.isMember = false) (hc : ∀ role active, n.clsIn role active = .f2)
    (hb : ∀ b, n.blocks b = false) : RecordedF2 s (s.raiseRun n arg) := by
  have hstart := s.startRun_marked n arg
  obtain ⟨hframe, hrole⟩ := State.raise_f2 (s := s.startRun n arg) arg ((State.isMember_of_role hstart.role).trans hm) hc hb
  unfold State.raiseRun
  split
  · exact ⟨.refl _ s, rfl⟩
  · exact ⟨(hstart.frame.mono (by decide)).trans hframe, hrole.trans hstart.role⟩

/-- The checks of the converters at a hand-over (R177). -/
theorem State.adcHandover_sameBut (hm : s.isMember = false) : SameBut [.adc, .link, .recd, .evc, .node, .jrn] s s.adcHandover := by
  have hcores : SameBut [.adc, .link, .recd, .evc, .node, .jrn] s ((s.adcHandCore 0).adcHandCore 1) := by
    simp [State.adcHandCore, State.upAdcCore]
  have hraise := State.raise_f2 (s := (s.adcHandCore 0).adcHandCore 1) (n := .adcConfig) 0 hm (fun _ _ => rfl) (fun _ => rfl)
  exact .ite (hcores.trans (hraise.frame.mono (by decide))) hcores

/-- The Weft of a cell that has taken its arm's values into use. -/
def Weft.handedOver (w : Weft) (tw lead fx d n : Nat) (c : Bool) : Weft :=
  { w with handed := true, tw := tw, lead := lead, fibreExtra := fx, depth := d, population := n, armCarrier := c }

/-- After its Weft the hand-over moves the carrier grid, and checks the place and the converters (R25, R151, R177). -/
theorem State.handover_sameBut (hc : s.isCell = true) (hb : s.node.nodeState ≠ .boot) (tw lead fx d n : Nat) (c : Bool) :
    SameBut [.gate, .adc, .link, .recd, .evc, .node, .jrn] (s.upWeft fun w => w.handedOver tw lead fx d n c) (s.handover tw lead fx d n c) := by
  unfold State.handover
  rw [if_neg (by simp [hc, hb])]
  extract_lets s1 s2 s3
  have h2 : SameBut [.gate, .evc] s1 s2 := .ite (.refl _ _) (State.regrid_sameBut _)
  have hm2 : s2.isMember = false := (State.isMember_of_role (congrArg Node.role (h2 .node (by decide)))).trans (State.isMember_of_isCell hc)
  have h3 : RecordedF2 s2 s3 := by
    simp only [s3]
    split
    · exact State.raiseRun_f2 0 hm2 (fun _ _ => rfl) (fun _ => rfl)
    · exact ⟨.refl _ _, rfl⟩
  have hadc := State.adcHandover_sameBut ((State.isMember_of_role h3.role).trans hm2)
  exact ((h2.mono (by decide)).trans (h3.frame.mono (by decide))).trans (hadc.mono (by decide))

theorem runs_handoverReceive (ho : s.tb.refOk = true) (hc : s.isCell = true) (hp : s.powered = true) (hb : s.node.nodeState ≠ .boot)
    (tw lead fx d n : Nat) (c : Bool) :
    Runs (.handoverReceive tw lead fx d n c) s fun t => t.weft = s.weft.handedOver tw lead fx d n c
      ∧ t.tb = s.tb ∧ t.mem = s.mem ∧ t.dict.objs = s.dict.objs ∧ t.pins = s.pins ∧ t.pending = s.pending := by
  have hframe := State.handover_sameBut hc hb tw lead fx d n c
  exact ⟨_, congrArg Host.Outcome.next (State.onLane_on s _ hp ho), hframe .weft (by decide), hframe .tb (by decide), hframe .mem (by decide),
    congrArg Dict.objs (hframe .dict (by decide)), hframe .pins (by decide), hframe .pending (by decide)⟩

theorem exec_handoverReceive_elsewhere (h : s.isCell = false ∨ s.node.nodeState = .boot ∨ s.tb.refOk = false) (tw lead fx d n : Nat) (c : Bool) :
    exec (.handoverReceive tw lead fx d n c) s = .next s := by
  refine congrArg Host.Outcome.next (State.onLane_of_same fun hr => ?_)
  obtain h | h | h := h
  · simp [State.handover, h]
  · simp [State.handover, h]
  · simp [h] at hr

end

/-- Settles O13: COUNT_ADOPT and WEFT_STALL at the active ARM member and elsewhere, the two commands of the own address, and the hand-over. -/
theorem adoptionStallAndHandover : Obligations.AdoptionStallAndHandover := by
  refine ⟨?_, ?_, ?_, ?_, ?_, ?_, ?_, ?_, ?_, ?_, ?_, ?_, ?_⟩
  · exact fun s ha hact hp hrun hl => runs_countAdopt_within ha hact hp hrun hl
  · exact fun s ha hact hp hrun hl => runs_countAdopt_beyond ha hact hp hrun hl
  · exact fun s h => exec_countAdopt_idle (.inr (.inr h))
  · exact fun s h => ⟨exec_countAdopt_idle (h.imp_right .inl), exec_weftStall_idle (h.imp_right .inl)⟩
  · exact fun s ha hact hp hl hrun => runs_weftStall ha hact hp hl hrun
  · exact fun s h => exec_weftStall_idle (.inr (.inr (.inl h)))
  · exact fun s h => exec_weftStall_idle (.inr (.inr (.inr h)))
  · exact fun s tw lead fx d n c h => exec_handoverReceive_elsewhere h tw lead fx d n c
  · exact fun s ha hp => exec_of_applied rfl hp ((State.applyRebase_arm ha _).trans (s.ownWrite_own _))
  · exact fun s v ha hp hv => .of_refused rfl hp ((State.applyRebase_arm ha v).trans (State.ownWrite_other hv _)) (by decide)
  · exact fun s hp => exec_of_applied rfl hp ((s.applyClear_weft _).trans (s.ownWrite_own _))
  · exact fun s v hp hv => .of_refused rfl hp ((s.applyClear_weft v).trans (State.ownWrite_other hv _)) (by decide)
  · exact fun s tw lead fx d n c ho hc hp hb => runs_handoverReceive ho hc hp hb tw lead fx d n c

end Sys2Proof.Machine
end
